-- ==== Sys2Proof/Word.lean ====
section
/-!
DEFINITION. The word types of the KC16 and nothing else: bytes, the 32-bit register word of R4, the 64-bit values of R6.
-/
namespace Sys2Proof

/-- One byte. -/
abbrev Byte := BitVec 8
/-- A register word, a handle, a descriptor word (R4, R27). -/
abbrev Word := BitVec 32
/-- A 64-bit value: a lo/hi register pair (R6), LINE64 (R8), a detail field (R397, R569). -/
abbrev Word64 := BitVec 64

end Sys2Proof
end

