-- ==== Sys2Proof/Syntax.lean ====
section
/-!
DEFINITION. The commands of the KC16: one constructor of Instr for each row of spec/opcode_table.json, with the operands that
the outside supplies. A descriptor row carries the descriptor (R396) without its opcode, which the row fixes.
-/
namespace Sys2Proof

/-- A descriptor as it lies in a submission ring (R396), without OPCODE and SEQUENCE: the pair that carries it, FLAGS, the
target and press handles, payload bytes 16 to 63 (byte 16 in the low bits), and the host memory bytes that an address in
its payload names, where its opcode reads host memory. -/
structure Desc where
  /-- The pair that carries the descriptor (R391). -/
  ring : Fin 256
  /-- FLAGS: bit 0 FENCE, bit 1 NOIRQ. -/
  flags : BitVec 8 := 0
  /-- TARGET. -/
  target : Word := 0
  /-- PRESS. -/
  press : Word := 0
  /-- PAYLOAD, descriptor bytes 16 to 63. -/
  payload : BitVec 384 := 0
  /-- The host memory that the payload's address names (SEC_IMAGE, DBG_OPEN). -/
  data : List Byte := []
deriving DecidableEq, Repr

/-- A descriptor as a submission ring read returns it: the 64 bytes, byte 0 in the low bits, and the host memory that an
address in its payload names. -/
structure RawDesc where
  /-- The 64 bytes of R396. -/
  raw : BitVec 512
  /-- The host memory that the payload's address names. -/
  data : List Byte := []
deriving DecidableEq, Repr

/-- A PTP message at the boundary between PCS and MAC (R57): whether it is an event message, whether a management message, its
messageType, its bytes, and for a Pdelay_Resp the ingress stamp t2 of its request in units of 2^-16 ns (R58). -/
structure PtpMsg where
  event : Bool
  management : Bool
  kind : Nat
  body : List Byte
  t2 : Int := 0
deriving DecidableEq, Repr

/-- A memory error that a part's own ECC meets: the class of R442 (1 converter, 2 pair, 3 switching channel), the instance, and
whether it is uncorrectable (R444). -/
structure EccIn where
  cls : Fin 4
  inst : BitVec 16
  uncorr : Bool
deriving DecidableEq, Repr

/-- What the local field pins show in the frame that ends at a boundary, one bit for each control-clock cycle, cycle 0 in the
low bit: ENC0 to ENC7 (64 bits each), and the MDAT and input MCLK levels of the eight local modulator inputs (R107, R140); and the
errors that arise in the hardware in it: of the parts' memories (R444), of DRAM lines, with whether each is uncorrectable (R483,
R484), and of the collector's self-check (R480). -/
structure FrameIn where
  encA : BitVec 512 := 0
  encB : BitVec 512 := 0
  encZ : BitVec 512 := 0
  mdat : BitVec 512 := 0
  mclk : BitVec 512 := 0
  ecc : List EccIn := []
  dram : List (BitVec 28 × Bool) := []
  selfCheck : Bool := false
deriving DecidableEq, Repr

/-- A row of an image's loop table (R195, R202): the entry points, W and the REINIT mark. -/
structure DrvLoop where
  init : Nat
  alert : Nat
  run : Nat
  w : Nat
  reinit : Bool
deriving DecidableEq, Repr

/-- A row of an image's operation table (R202, R365): its ENTRY, the instruction address, and H. -/
structure DrvOper where
  entry : Nat
  h : Nat
deriving DecidableEq, Repr

/-- A Draver image as its loader reads it (R202): the envelope's bytes, which the signature covers, and what the payload holds.
The manual does not give the payload's layout. -/
structure DrvImage where
  envelope : List Byte := []
  ident : Word := 0
  code : List Word := []
  coef : List Word := []
  page : List Word := []
  shared : List Word := []
  /-- The loop table by slot. -/
  loops : List (Fin 8 × DrvLoop) := []
  ops : List DrvOper := []
deriving DecidableEq, Repr

/-- A kernel record (R273). -/
structure KRec where
  kernel : BitVec 8 := 0
  flags : BitVec 8 := 0
  shift : BitVec 8 := 0
  vsel : BitVec 8 := 0
  m : BitVec 16 := 0
  n : BitVec 16 := 0
  k : BitVec 16 := 0
  a : BitVec 16 := 0
  b : BitVec 16 := 0
  c : BitVec 16 := 0
deriving DecidableEq, Repr

/-- What the boot flash and the MRAM ledger show during boot (R503, R504, R523, R524, R456): the lengths of the two image ranges, the
images read from them, whether both copies of a rollback floor are bad, and which copies of the state record have a correct CRC. -/
structure BootFacts where
  rangeA : Nat := 0
  rangeB : Nat := 0
  imageA : List Byte := []
  imageB : List Byte := []
  floorsBad : Bool := false
  copyA : Bool := false
  copyB : Bool := false
deriving DecidableEq, Repr

/-- What a tick's loops meet when they start (R198, R206): the instructions that the running graph operation has issued in the
meantime, and the memory error that the loops' instruction of number `errAt` meets, if any. -/
structure LoopsRun where
  issued : BitVec 16
  ecc : Fin 7
  errAt : BitVec 16
deriving DecidableEq, Repr

/-- How a graph node's operation ends (R206, R370): a DMA node with an engine fault or not, and the memory error that a DRAVER
node's instruction of number `errAt` meets, if any. -/
structure NodeEnd where
  engine : Bool
  ecc : Fin 7
  errAt : BitVec 16
deriving DecidableEq, Repr

/-- A read by a requester (R4, R389): the byte offset, the width of the access in bytes, and the BAR: 0 BAR0, 1 BAR2, 2 BAR4. -/
structure RegRead where
  off : BitVec 30
  width : Fin 9
  bar : Fin 3 := 0
deriving DecidableEq, Repr

/-- The commands: one constructor for each row of spec/opcode_table.json, in its order. -/
inductive Instr where
  /-- FRAME_BOUNDARY (R18). -/
  | frameBoundary (inp : FrameIn)
  /-- SERVO_TICK_BOUNDARY (R192). -/
  | servoTickBoundary
  /-- PLAN_TICK_BOUNDARY (R19). -/
  | planTickBoundary
  /-- GUARD_JUDGING_START (R320). -/
  | guardJudgingStart
  /-- PLAN_PRESS_OPEN (R358). -/
  | planPressOpen
  /-- GUARD_FINAL_VERDICT (R326). -/
  | guardFinalVerdict
  /-- SOLVER_START (R279). -/
  | solverStart
  /-- SOLVER_PROBLEM_END (R284). -/
  | solverProblemEnd (lane : Fin 192) (err : Fin 3) (errLane : Fin 4) (word : BitVec 16)
  /-- SOLVER_DEADLINE (R279). -/
  | solverDeadline
  /-- DERATE_APPLY (R304). -/
  | derateApply
  /-- RYL_UPLINK_FRAME (R96). -/
  | rylUplinkFrame (port : Fin 16) (lane : Fin 2) (arrival : BitVec 16) (chars : List Byte)
  /-- RYL_DETECT_TIMEOUT (R85). -/
  | rylDetectTimeout (port : Fin 16)
  /-- RYL_HEAD_LOST (R96). -/
  | rylHeadLost (port : Fin 16) (pos : Fin 8)
  /-- RYL_LANE_DOWN (R97). -/
  | rylLaneDown (port : Fin 16) (lane : Fin 2)
  /-- RYL_SVC_TIMEOUT (R90). -/
  | rylSvcTimeout (port : Fin 16) (j : Fin 10)
  /-- RYL_HEAD_CYCLIC_DONE (R77). -/
  | rylHeadCyclicDone (port : Fin 16) (pos : Fin 8)
  /-- SAFE_OFF_PIN_ACCEPT (R92). -/
  | safeOffPinAccept (pin : Fin 2)
  /-- SAFE_OFF_PIN_RELEASE (R92). -/
  | safeOffPinRelease (pin : Fin 2)
  /-- KILL_DISCREPANCY (R92). -/
  | killDiscrepancy
  /-- POWER_ON (R507). -/
  | powerOn (banks : BitVec 6) (pins : BitVec 64)
  /-- RESET_N_ACCEPT (R509). -/
  | resetNAccept
  /-- BROWN_OUT (R507). -/
  | brownOut
  /-- PERST_N_ASSERT (R508). -/
  | perstNAssert
  /-- FLR (R412). -/
  | flr (fn : Fin 16)
  /-- BUS_MASTER_CLEAR (R412). -/
  | busMasterClear (fn : Fin 16)
  /-- BUS_MASTER_SET (R409). -/
  | busMasterSet (fn : Fin 16)
  /-- VF_ENABLE_CLEAR (R412). -/
  | vfEnableClear
  /-- BOOT_STAGE_DONE (R504). -/
  | bootStageDone (ok : Bool) (cause : Fin 10) (elapsedUs : BitVec 32) (boot : BootFacts)
  /-- RECOVERY_IMAGE_DONE (R506). -/
  | recoveryImageDone (image : List Byte)
  /-- P0_RESTORED (R499). -/
  | p0Restored
  /-- PART_WAKE (R538). -/
  | partWake
  /-- SYSREF_LOSS (R558). -/
  | sysrefLoss
  /-- TEMPERATURE_READING (R562). -/
  | temperatureReading (tj : BitVec 16)
  /-- SUPPLY_READING (R510, R545): a rail's reading in whole mV, and whether it lies above that by a part of one. -/
  | supplyReading (rail : Fin 10) (more : Bool) (mv : BitVec 16)
  /-- BANK_POWER_CHANGE (R547). -/
  | bankPowerChange (bank : Fin 6) (on : Bool) (pins : BitVec 64)
  /-- TRG_EDGE (R125). -/
  | trgEdge (pin : Fin 8) (rising : Bool)
  /-- STEP_EDGE (R248). -/
  | stepEdge (input : Fin 8) (dir : Bool)
  /-- DIN_CHANGE (R551). -/
  | dinChange (pin : Fin 64) (level : Bool)
  /-- DIN_DEBOUNCE_EXPIRY (R551). -/
  | dinDebounceExpiry (pin : Fin 64)
  /-- PTP_MESSAGE_RX (R57). -/
  | ptpMessageRx (port : Fin 4) (msg : PtpMsg)
  /-- PTP_SYNC_OFFSET (R62). -/
  | ptpSyncOffset (port : Fin 4) (offset : Int) (gm : Word64) (domain : BitVec 8)
  /-- PTP_MASTER_LOST (R61). -/
  | ptpMasterLost
  /-- ETH_GCL_SWITCH (R60). -/
  | ethGclSwitch (port : Fin 4)
  /-- LINE_PUB_RX (R49). -/
  | linePubRx (port : Fin 4) (group : BitVec 128) (udpPort : BitVec 16) (frame : List Byte)
  /-- LINE_SOURCE_STALE (R46). -/
  | lineSourceStale (src : Fin 16)
  /-- TRACK_FRAME_RX (R315). -/
  | trackFrameRx (port : Fin 4) (udpPort : BitVec 16) (frame : List Byte)
  /-- TRACK_STREAM_LOST (R316). -/
  | trackStreamLost (stream : Fin 8)
  /-- FBK_STANDSTILL (R152). -/
  | fbkStandstill (fbch : Fin 256)
  /-- STEPPER_REDUCE_START (R251). -/
  | stepperReduceStart (profile : Fin 256)
  /-- HOME_DEBOUNCE_EXPIRY (R255). -/
  | homeDebounceExpiry (profile : Fin 256)
  /-- CNV_RESULT (R115). -/
  | cnvResult (conv : Fin 9) (nv : Int) (mods : List Bool)
  /-- CNV_CAL_DONE (R128). -/
  | cnvCalDone (conv : Fin 9) (inRange : Bool)
  /-- CNV_REF_READY (R126). -/
  | cnvRefReady
  /-- CNV_PLAUS_CHECK (R129). -/
  | cnvPlausCheck (nv1 : Int) (nv2 : Int)
  /-- DRV_LOOPS_START (R198). -/
  | drvLoopsStart (core : Fin 18) (run : LoopsRun)
  /-- DRV_LOOP_PUBLISH (R200). -/
  | drvLoopPublish (core : Fin 18) (slot : Fin 8)
  /-- PRESS_VALIDATION_DONE (R348). -/
  | pressValidationDone (slot : Fin 16)
  /-- PRESS_MEMBER_READY (R349). -/
  | pressMemberReady (slot : Fin 16)
  /-- PRESS_COMMIT (R353). -/
  | pressCommit (slot : Fin 16)
  /-- PRESS_WAIT_EXPIRY (R349). -/
  | pressWaitExpiry (slot : Fin 16)
  /-- NODE_PLACEMENT (R371). -/
  | nodePlacement
  /-- NODE_COMPLETION (R368). -/
  | nodeCompletion (node : Fin 8192) (how : NodeEnd)
  /-- SUBMIT_TEMPLATE (R368). -/
  | submitTemplate (node : Fin 8192) (data : List Byte)
  /-- GSC_WAIT_TIMEOUT (R381). -/
  | gscWaitTimeout (wait : Fin 64)
  /-- FLT_RECORD_HANDLING (R470). -/
  | fltRecordHandling
  /-- LINT_WINDOW_END (R472). -/
  | lintWindowEnd (entry : Fin 256)
  /-- SUPERVISOR_WATCHDOG_EXPIRY (R473). -/
  | supervisorWatchdogExpiry (core : Fin 4)
  /-- SUPERVISOR_SELFTEST_DONE (R570). -/
  | supervisorSelftestDone (core : Fin 4) (pass : Bool)
  /-- HOST_WATCHDOG_EXPIRY (R511). -/
  | hostWatchdogExpiry
  /-- WEAR_DECAY (R444). -/
  | wearDecay
  /-- BACKGROUND_TEST_START (R447). -/
  | backgroundTestStart
  /-- SELF_TEST_DONE (R447). -/
  | selfTestDone (cls : Fin 6) (inst : BitVec 16) (pass : Bool)
  /-- SHADOW_TEST_DONE (R448). -/
  | shadowTestDone (cls : Fin 6) (inst : BitVec 16)
  /-- DARN_START (R451). -/
  | darnStart
  /-- NO_SPARE_RETIRE (R457). -/
  | noSpareRetire (cls : Fin 6) (inst : BitVec 16)
  /-- LEDGER_STATE_WRITE (R455). -/
  | ledgerStateWrite (ok : Bool)
  /-- PATROL_SCRUB_READ (R485). -/
  | patrolScrubRead (errors : Fin 3)
  /-- PAGE_RETIRE_DONE (R486). -/
  | pageRetireDone (page : BitVec 22)
  /-- MSIX_COAL_TIMER (R407). -/
  | msixCoalTimer (ring : Fin 320)
  /-- MBX_CROSS_EXPIRY (R435). -/
  | mbxCrossExpiry (a : Fin 64) (b : Fin 64)
  /-- MBX_WAITING_DELIVERY (R432). -/
  | mbxWaitingDelivery (mbox : Fin 64)
  /-- RING_DRAIN_DONE (R411). -/
  | ringDrainDone (pair : Fin 256)
  /-- FENCE_RELEASE (R396). -/
  | fenceRelease (pair : Fin 256)
  /-- DRV_LOAD_DONE (R202). -/
  | drvLoadDone (core : Fin 18) (img : DrvImage)
  /-- PROBLEM_CREATE_DONE (R275). -/
  | problemCreateDone (block : List Byte)
  /-- DBG_SESSION_EXPIRY (R532). -/
  | dbgSessionExpiry (session : Fin 2)
  /-- JTAG_DBGACC_TOKEN (R530). -/
  | jtagDbgaccToken (level : Fin 3) (regions : BitVec 16) (token : List Byte)
  /-- TAP_RESET (R532). -/
  | tapReset
  /-- JTAG_INSTRUCTION (R535). -/
  | jtagInstruction (ins : Fin 4)
  /-- SQ_TAIL_DOORBELL (R393). -/
  | sqTailDoorbell (fn : Fin 16) (ring : Fin 256) (value : Word)
  /-- CQ_HEAD_DOORBELL (R393). -/
  | cqHeadDoorbell (fn : Fin 16) (ring : Fin 256) (value : Word)
  /-- EVENT_HEAD_DOORBELL (R393). -/
  | eventHeadDoorbell (fn : Fin 16) (ring : Fin 64) (value : Word)
  /-- SQ_FETCH_DONE (R394). -/
  | sqFetchDone (pair : Fin 256) (descs : List RawDesc)
  /-- REGISTER_WRITE (R5). -/
  | registerWrite (req : Fin 64) (bar : Fin 3) (off : BitVec 30) (width : Fin 9) (value : Word)
  /-- REGISTER_LO_READ (R6). -/
  | registerLoRead (req : Fin 64) (acc : RegRead)
  /-- ADMIN_PAIR_ENABLE (R409). -/
  | adminPairEnable (fn : Fin 16)
  /-- ADMIN_PAIR_DISABLE (R409). -/
  | adminPairDisable (fn : Fin 16)
  /-- TIM_SNAP_TAKE (R54). -/
  | timSnapTake (req : Fin 64)
  /-- TIM_SERVO_EN_WRITE (R62). -/
  | timServoEnWrite (req : Fin 64) (en : Bool)
  /-- TIM_HOLDOVER_FORCE_WRITE (R62). -/
  | timHoldoverForceWrite (req : Fin 64) (force : Bool)
  /-- ETH_GCL_APPLY (R60). -/
  | ethGclApply (req : Fin 64) (port : Fin 4)
  /-- RYL_TRAIN (R86). -/
  | rylTrain (req : Fin 64) (port : Fin 16)
  /-- RYL_EN_WRITE (R101). -/
  | rylEnWrite (req : Fin 64) (port : Fin 16) (en : Bool)
  /-- CNV_REF_ON_WRITE (R126). -/
  | cnvRefOnWrite (req : Fin 64) (on : Bool)
  /-- CNV_CAL (R128). -/
  | cnvCal (req : Fin 64) (conv : Fin 9)
  /-- CNV_CFG_WRITE (R121). -/
  | cnvCfgWrite (req : Fin 64) (conv : Fin 9) (value : Word)
  /-- CNV_SWTRIG_REGULAR (R123). -/
  | cnvSwtrigRegular (req : Fin 64) (conv : Fin 9)
  /-- CNV_SWTRIG_INJECTED (R124). -/
  | cnvSwtrigInjected (req : Fin 64) (conv : Fin 9) (group : Fin 4)
  /-- CNV_TQ_POP (R133). -/
  | cnvTqPop (req : Fin 64)
  /-- GRD_EN_WRITE (R328). -/
  | grdEnWrite (req : Fin 64) (en : Bool)
  /-- MBX_SEND (R431). -/
  | mbxSend (req : Fin 64) (mbox : Fin 64) (word : Word)
  /-- MBX_TXCANCEL (R431). -/
  | mbxTxcancel (req : Fin 64)
  /-- MBX_RX7_TAKE (R432). -/
  | mbxRx7Take (req : Fin 64) (mbox : Fin 64)
  /-- LCK_READ (R436). -/
  | lckRead (req : Fin 64) (others : BitVec 64) (lock : Fin 64)
  /-- LCK_WRITE (R436). -/
  | lckWrite (req : Fin 64) (lock : Fin 64) (value : Word)
  /-- LCK_BREAK (R438). -/
  | lckBreak (req : Fin 64) (lock : Fin 64)
  /-- MOD_RESET_WRITE (R507). -/
  | modResetWrite (req : Fin 64) (value : Word)
  /-- MOD_HOSTWD_WRITE (R511). -/
  | modHostwdWrite (req : Fin 64) (value : Word)
  /-- MOD_HOSTWD_KICK (R511). -/
  | modHostwdKick (req : Fin 64)
  /-- MOD_RCV_GO (R506). -/
  | modRcvGo (req : Fin 64)
  /-- PWR_OFF (R538). -/
  | pwrOff (req : Fin 64)
  /-- MEM_RETIRE_PAGE (R486). -/
  | memRetirePage (req : Fin 64) (page : Word)
  /-- DIN_CFG_WRITE (R551). -/
  | dinCfgWrite (req : Fin 64) (pin : Fin 64) (value : Word)
  /-- DBG_MDATA_ACCESS (R541). -/
  | dbgMdataAccess (session : Fin 2) (write : Option Word)
  /-- DBG_HALT_CORE (R533). -/
  | dbgHaltCore (session : Fin 2) (core : Fin 18)
  /-- DBG_RESUME_CORE (R541). -/
  | dbgResumeCore (session : Fin 2) (core : Fin 18)
  /-- DBG_STEP_CORE (R541). -/
  | dbgStepCore (session : Fin 2) (core : Fin 18)
  /-- DBG_HALT_LANE (R533). -/
  | dbgHaltLane (session : Fin 2) (lane : Fin 208)
  /-- DBG_RESUME_LANE (R541). -/
  | dbgResumeLane (session : Fin 2) (lane : Fin 208)
  /-- DBG_SET_BREAKPOINT (R541). -/
  | dbgSetBreakpoint (session : Fin 2) (core : Fin 18)
  /-- DBG_CLEAR_BREAKPOINTS (R541). -/
  | dbgClearBreakpoints (session : Fin 2) (core : Fin 18)
  /-- NOP (R402). -/
  | nop (d : Desc)
  /-- DESTROY (R29). -/
  | destroy (d : Desc)
  /-- ARM_CREATE (R403). -/
  | armCreate (d : Desc)
  /-- JOINT_CREATE (R403). -/
  | jointCreate (d : Desc)
  /-- JOINT_SCALE_SET (R17). -/
  | jointScaleSet (d : Desc)
  /-- REGION_RELEASE (R22). -/
  | regionRelease (d : Desc)
  /-- REGION_RESUME (R327). -/
  | regionResume (d : Desc)
  /-- REGION_HOLD (R22). -/
  | regionHold (d : Desc)
  /-- REGION_SERVICE (R571). -/
  | regionService (d : Desc)
  /-- REGION_LEAVE_SERVICE (R22). -/
  | regionLeaveService (d : Desc)
  /-- MODE_SET (R500). -/
  | modeSet (d : Desc)
  /-- LINESRC_CREATE (R38). -/
  | linesrcCreate (d : Desc)
  /-- LINE_DESIGNATE (R40). -/
  | lineDesignate (d : Desc)
  /-- TIME_STEP_AUTH (R63). -/
  | timeStepAuth (d : Desc)
  /-- RYL_HEAD_CYCLIC (R77). -/
  | rylHeadCyclic (d : Desc)
  /-- RYL_HEAD_ACCESS (R403). -/
  | rylHeadAccess (d : Desc)
  /-- CCHAN_CREATE (R103). -/
  | cchanCreate (d : Desc)
  /-- CCHAN_SET (R104). -/
  | cchanSet (d : Desc)
  /-- CNV_CALIBRATE (R128). -/
  | cnvCalibrate (d : Desc)
  /-- FBCH_CREATE (R138). -/
  | fbchCreate (d : Desc)
  /-- FBCH_SET (R138). -/
  | fbchSet (d : Desc)
  /-- FBCH_SET_POS (R147). -/
  | fbchSetPos (d : Desc)
  /-- SWE_SET (R164). -/
  | sweSet (d : Desc)
  /-- SWE_HEAD_CAL (R175). -/
  | sweHeadCal (d : Desc)
  /-- DRV_LOAD (R202). -/
  | drvLoad (d : Desc)
  /-- DRV_SWAP (R203). -/
  | drvSwap (d : Desc)
  /-- DRV_BIND (R204). -/
  | drvBind (d : Desc)
  /-- DRV_PARAM (R204). -/
  | drvParam (d : Desc)
  /-- PRF_CREATE (R231). -/
  | prfCreate (d : Desc)
  /-- PRF_SET (R231). -/
  | prfSet (d : Desc)
  /-- PRF_QUEUE (R235). -/
  | prfQueue (d : Desc)
  /-- PRF_STOP (R240). -/
  | prfStop (d : Desc)
  /-- PRF_HOME (R254). -/
  | prfHome (d : Desc)
  /-- GEAR_CREATE (R242). -/
  | gearCreate (d : Desc)
  /-- GEAR_SET (R244). -/
  | gearSet (d : Desc)
  /-- SOL_GANG (R264). -/
  | solGang (d : Desc)
  /-- PROBLEM_CREATE (R275). -/
  | problemCreate (d : Desc)
  /-- PROBLEM_BIND (R276). -/
  | problemBind (d : Desc)
  /-- PROBLEM_WRITE (R277). -/
  | problemWrite (d : Desc)
  /-- PLN_BRANCH_SET (R292). -/
  | plnBranchSet (d : Desc)
  /-- PLN_REPLAN (R305). -/
  | plnReplan (d : Desc)
  /-- GRD_KIN_SET (R308). -/
  | grdKinSet (d : Desc)
  /-- GRD_CAPSULE_SET (R309). -/
  | grdCapsuleSet (d : Desc)
  /-- GRD_STOP_SET (R312). -/
  | grdStopSet (d : Desc)
  /-- TRACK_CREATE (R313). -/
  | trackCreate (d : Desc)
  /-- ZONE_CREATE (R317). -/
  | zoneCreate (d : Desc)
  /-- GRD_ZONE_SET (R317). -/
  | grdZoneSet (d : Desc)
  /-- PRESS_OPEN (R340). -/
  | pressOpen (d : Desc)
  /-- PRESS_ARM (R347). -/
  | pressArm (d : Desc)
  /-- PRESS_ABORT (R356). -/
  | pressAbort (d : Desc)
  /-- NODE_CREATE (R364). -/
  | nodeCreate (d : Desc)
  /-- NODE_SET (R364). -/
  | nodeSet (d : Desc)
  /-- EDGE_SET (R367). -/
  | edgeSet (d : Desc)
  /-- FLOW_CREATE (R374). -/
  | flowCreate (d : Desc)
  /-- DELAY_CREATE (R375). -/
  | delayCreate (d : Desc)
  /-- DELAY_ARM (R376). -/
  | delayArm (d : Desc)
  /-- GSC_TOKEN (R369). -/
  | gscToken (d : Desc)
  /-- GSC_WAIT (R381). -/
  | gscWait (d : Desc)
  /-- RING_CREATE (R410). -/
  | ringCreate (d : Desc)
  /-- EVENT_ROUTE (R404). -/
  | eventRoute (d : Desc)
  /-- TRACE_CREATE (R487). -/
  | traceCreate (d : Desc)
  /-- TRACE_SET (R487). -/
  | traceSet (d : Desc)
  /-- TRACE_TRIGGER (R491). -/
  | traceTrigger (d : Desc)
  /-- TRACE_REARM (R493). -/
  | traceRearm (d : Desc)
  /-- MBOX_CREATE (R430). -/
  | mboxCreate (d : Desc)
  /-- HLT_DARN (R450). -/
  | hltDarn (d : Desc)
  /-- HLT_TEST (R449). -/
  | hltTest (d : Desc)
  /-- FLT_ACK (R476). -/
  | fltAck (d : Desc)
  /-- FLT_CLEAR_FAULTS (R477). -/
  | fltClearFaults (d : Desc)
  /-- FLT_CLEAR_QUARANTINE (R477). -/
  | fltClearQuarantine (d : Desc)
  /-- FLT_CLEAR_WARM_START (R477). -/
  | fltClearWarmStart (d : Desc)
  /-- SEC_IMAGE_STAGE_FW (R526). -/
  | secImageStageFw (d : Desc)
  /-- SEC_IMAGE_RAISE_FLOOR (R524). -/
  | secImageRaiseFloor (d : Desc)
  /-- SEC_IMAGE_PROVISION (R517). -/
  | secImageProvision (d : Desc)
  /-- SEC_IMAGE_FIELD (R516). -/
  | secImageField (d : Desc)
  /-- SEC_IMAGE_RETURN (R517). -/
  | secImageReturn (d : Desc)
  /-- SEC_IMAGE_READ_CERT (R526). -/
  | secImageReadCert (d : Desc)
  /-- SEC_IMAGE_OWNER_KEY (R521). -/
  | secImageOwnerKey (d : Desc)
  /-- DBG_OPEN (R530). -/
  | dbgOpen (d : Desc)
  /-- DBG_CLOSE (R532). -/
  | dbgClose (d : Desc)
  /-- DRAVER_NOP (R215). -/
  | draverNop (core : Fin 18) (graph : Bool)
  /-- ADD (R216). -/
  | add (core : Fin 18) (graph : Bool) (d a b : Fin 32)
  /-- SUB (R216). -/
  | sub (core : Fin 18) (graph : Bool) (d a b : Fin 32)
  /-- ADDC (R216). -/
  | addc (core : Fin 18) (graph : Bool) (d a b : Fin 32)
  /-- SUBC (R216). -/
  | subc (core : Fin 18) (graph : Bool) (d a b : Fin 32)
  /-- ADDS (R216). -/
  | adds (core : Fin 18) (graph : Bool) (d a b : Fin 32)
  /-- SUBS (R216). -/
  | subs (core : Fin 18) (graph : Bool) (d a b : Fin 32)
  /-- AND (R216). -/
  | and (core : Fin 18) (graph : Bool) (d a b : Fin 32)
  /-- OR (R216). -/
  | or (core : Fin 18) (graph : Bool) (d a b : Fin 32)
  /-- XOR (R216). -/
  | xor (core : Fin 18) (graph : Bool) (d a b : Fin 32)
  /-- MIN (R216). -/
  | min (core : Fin 18) (graph : Bool) (d a b : Fin 32)
  /-- MAX (R216). -/
  | max (core : Fin 18) (graph : Bool) (d a b : Fin 32)
  /-- ABS (R216). -/
  | abs (core : Fin 18) (graph : Bool) (d a : Fin 32)
  /-- SHL (R216). -/
  | shl (core : Fin 18) (graph : Bool) (d a b : Fin 32)
  /-- SHR (R216). -/
  | shr (core : Fin 18) (graph : Bool) (d a b : Fin 32)
  /-- SHRL (R216). -/
  | shrl (core : Fin 18) (graph : Bool) (d a b : Fin 32)
  /-- CMP (R216). -/
  | cmp (core : Fin 18) (graph : Bool) (a b : Fin 32)
  /-- ADDI (R216). -/
  | addi (core : Fin 18) (graph : Bool) (d a : Fin 32) (imm : BitVec 16)
  /-- ANDI (R216). -/
  | andi (core : Fin 18) (graph : Bool) (d a : Fin 32) (imm : BitVec 16)
  /-- ORI (R216). -/
  | ori (core : Fin 18) (graph : Bool) (d a : Fin 32) (imm : BitVec 16)
  /-- SHLI (R216). -/
  | shli (core : Fin 18) (graph : Bool) (d a : Fin 32) (imm : BitVec 6)
  /-- SHRI (R216). -/
  | shri (core : Fin 18) (graph : Bool) (d a : Fin 32) (imm : BitVec 6)
  /-- MOVLO (R216). -/
  | movlo (core : Fin 18) (graph : Bool) (d : Fin 32) (imm : BitVec 16)
  /-- MOVHI (R216). -/
  | movhi (core : Fin 18) (graph : Bool) (d a : Fin 32) (imm : BitVec 16)
  /-- CMPI (R216). -/
  | cmpi (core : Fin 18) (graph : Bool) (a : Fin 32) (imm : BitVec 16)
  /-- MUL (R219). -/
  | mul (core : Fin 18) (graph : Bool) (aa : Fin 4) (ga gb : Fin 32)
  /-- MAC (R219). -/
  | mac (core : Fin 18) (graph : Bool) (aa : Fin 4) (ga gb : Fin 32)
  /-- MSU (R219). -/
  | msu (core : Fin 18) (graph : Bool) (aa : Fin 4) (ga gb : Fin 32)
  /-- CLRA (R216). -/
  | clra (core : Fin 18) (graph : Bool) (aa : Fin 4)
  /-- MVGA (R218). -/
  | mvga (core : Fin 18) (graph : Bool) (aa : Fin 4) (gb : Fin 32) (shift : BitVec 7)
  /-- MVGP (R218). -/
  | mvgp (core : Fin 18) (graph : Bool) (aa : Fin 4) (ga gb : Fin 32) (shift : BitVec 7)
  /-- ADDA (R216). -/
  | adda (core : Fin 18) (graph : Bool) (aa ab : Fin 4)
  /-- SHA (R218). -/
  | sha (core : Fin 18) (graph : Bool) (aa : Fin 4) (shift : BitVec 7)
  /-- RND (R218). -/
  | rnd (core : Fin 18) (graph : Bool) (d : Fin 32) (aa : Fin 4) (shift : BitVec 6)
  /-- EXT (R218). -/
  | ext (core : Fin 18) (graph : Bool) (d : Fin 32) (aa : Fin 4) (shift : BitVec 6)
  /-- RPT (R226). -/
  | rpt (core : Fin 18) (graph : Bool) (body : Fin 64) (csrc : Bool) (ga : Fin 32) (count : Fin 4096)
  /-- LD (R220). -/
  | ld (core : Fin 18) (graph : Bool) (d : Fin 32) (p : Fin 8) (u : Bool) (m : BitVec 16) (ecc : Fin 7)
  /-- ST (R220). -/
  | st (core : Fin 18) (graph : Bool) (d : Fin 32) (p : Fin 8) (u : Bool) (m : BitVec 16)
  /-- LDC (R221). -/
  | ldc (core : Fin 18) (graph : Bool) (d : Fin 32) (p : Fin 8) (u : Bool) (m : BitVec 16) (ecc : Fin 7)
  /-- FTM (R222). -/
  | ftm (core : Fin 18) (graph : Bool) (aa : Fin 4) (pd pc : Fin 8) (neg mov : Bool) (md mc : BitVec 8) (ecc : Fin 7)
  /-- MVPA (R216). -/
  | mvpa (core : Fin 18) (graph : Bool) (p : Fin 8) (imm : BitVec 16)
  /-- MVPL (R216). -/
  | mvpl (core : Fin 18) (graph : Bool) (p : Fin 8) (imm : BitVec 14)
  /-- MVSG (R214). -/
  | mvsg (core : Fin 18) (graph : Bool) (d : Fin 32) (sr : Fin 16)
  /-- MVGS (R214). -/
  | mvgs (core : Fin 18) (graph : Bool) (sr : Fin 16) (a : Fin 32)
  /-- B (R223). -/
  | b (core : Fin 18) (graph : Bool) (cond : Fin 16) (target : BitVec 13)
  /-- BL (R224). -/
  | bl (core : Fin 18) (graph : Bool) (target : BitVec 13)
  /-- J (R224). -/
  | j (core : Fin 18) (graph : Bool) (cond : Fin 16) (ga : Fin 32)
  /-- EXIT (R225). -/
  | exit (core : Fin 18) (graph : Bool)
  /-- GEMM (R270). -/
  | gemm (lane : Fin 192) (r : KRec) (ecc : Fin 3) (errLane : Fin 4) (word : BitVec 16)
  /-- SYRK (R270). -/
  | syrk (lane : Fin 192) (r : KRec)
  /-- GEMV (R270). -/
  | gemv (lane : Fin 192) (r : KRec)
  /-- LDL (R282). -/
  | ldl (lane : Fin 192) (r : KRec)
  /-- LDLSOLVE (R270). -/
  | ldlsolve (lane : Fin 192) (r : KRec)
  /-- AXPBY (R270). -/
  | axpby (lane : Fin 192) (r : KRec)
  /-- CLAMP (R270). -/
  | clamp (lane : Fin 192) (r : KRec)
  /-- RECIP (R270). -/
  | recip (lane : Fin 192) (r : KRec)
  /-- DOT (R270). -/
  | dot (lane : Fin 192) (r : KRec)
  /-- COPY (R270). -/
  | copy (lane : Fin 192) (r : KRec)
  /-- GREDUCE (R270). -/
  | greduce (lane : Fin 192) (r : KRec)
  /-- CAPDIST (R270). -/
  | capdist (lane : Fin 192) (r : KRec)
  /-- REPEAT (R274). -/
  | repeatRecs (lane : Fin 192) (r : KRec) (body : List KRec)
  /-- MDAT_MCLK_OUTPUT (R109). -/
  | mdatMclkOutput (mdat : Fin 8)
  /-- PERST_N_RELEASE (R505). -/
  | perstNRelease
  /-- RESET_N_RELEASE (R535). -/
  | resetNRelease
  /-- SUPERVISOR_MEMORY_ERROR (R473). -/
  | supervisorMemoryError (core : Fin 4)
  /-- PTP_MESSAGE_TX (R58). -/
  | ptpMessageTx (port : Fin 4) (msg : PtpMsg)
  /-- ETH_GATE_INTERVAL (R60). -/
  | ethGateInterval (port : Fin 4)
  /-- REGISTER_READ_CLEAR (R5). -/
  | registerReadClear (req : Fin 64) (acc : RegRead)
  /-- MSIX_VECTOR_UNMASK (R407). -/
  | msixVectorUnmask (fn : Fin 16) (vector : Fin 64)
deriving DecidableEq, Repr

end Sys2Proof
end

