-- ==== Sys2Proof/Decode.lean ====
section
/-!
DEFINITION. The words of the table's rows: none of its rows gives bits, so that no word spells a command. The descriptor of R396 and
the Draver instruction word of R215 are read where they occur, in Machine/Accept.lean and Machine/DrvCore.lean.
-/
namespace Sys2Proof

/-- The command that a word of the table spells: no row of the table has bits. -/
def decodeTableWord (_nbits _w : Nat) : Option Instr := none

end Sys2Proof
end

