-- ==== Sys2Proof/Config.lean ====
section
/-!
DEFINITION. What one implementation fixes and the free values: opaque constants without a body, so that no proof can see
what they are. Each names the rule that leaves it open; the assumption log holds one entry for each group of them.
-/
namespace Sys2Proof.Config

/-- The control-clock cycle (0 to 63) of the frame at which an event that comes from outside arrives, by the number of the
arrival: the commands carry no instant of their own. -/
opaque freeCycle : Nat → Nat
/-- Whether a quotient whose rounding the manual does not state is rounded up: the site, the numerator and the divisor. -/
opaque roundsUp : Nat → Int → Int → Bool
/-- A value that the manual leaves open and does not bound, by the count of free values drawn. -/
opaque freeNat : Nat → Nat
/-- The outcome of one comparison between a spare in SHADOW and the live part (R180, R207, R286, R442). -/
opaque shadowAgrees : Nat → Bool
/-- Whether a write of the MRAM ledger that the health manager makes of its own succeeds (R456). -/
opaque ledgerTakes : Nat → Bool
/-- The device DRAM address of the firmware's copy of a core's image and of a problem's block (R481, R484): the manual does not give
the layout of the firmware's range. -/
opaque imageCopy : Nat → Nat
opaque blockCopy : Nat → Nat
/-- Whether the announce receipt timeout has expired when PTP_MASTER_LOST finds Syncs still in time (R61): the manual gives the
timeout no length. -/
opaque announceOut : Nat → Bool
/-- The 32 taps of the half-band FIR of a precise path, up to their common factor (R109). -/
opaque firTap : Nat → Int
/-- The acceleration that a gear takes its line or count master to have, by frame and gear, in units of 2^-48: the manual states
no value for it (R243). -/
opaque masterAcc : Nat → Nat → Int
/-- The measured position of a joint without a feedback channel, by frame and joint: the manual states none (R156, R193, R259, R320). -/
opaque openPos : Nat → Nat → BitVec 64
/-- Its measured speed. -/
opaque openVel : Nat → Nat → BitVec 32
/-- By how much the guard engine's distance lies below the exact one, before it is bounded to 100 µm: by frame and pair (R311). -/
opaque engineErr : Nat → Nat → Nat
/-- The difference in µm between the engine's and the cross-check's distance of a pair, by frame and pair (R329). -/
opaque crossDiff : Nat → Nat → Nat
/-- Stopping time in ns (0) and distance in 10^-18 m (1) beyond a stopping table's last row, by the speed in nm/s: the manual
states none (R312). -/
opaque stopBeyond : Nat → Int → Nat
/-- SHA-384 (R520), as a 384-bit number. -/
opaque sha384 : List Byte → Nat
/-- Whether an ECDSA P-384 signature (r, s) over a digest verifies under the key with the given digest (R520). -/
opaque ecdsaVerifies : Nat → Nat → Nat → Nat → Bool
/-- The digest of the vendor key that the boot ROM holds (R521). -/
opaque vendorKeyDigest : Nat
/-- Whether an AES-256-GCM payload decrypts with its tag (R522): the key digest and the envelope's bytes. -/
opaque gcmTagOk : Nat → List Byte → Bool
/-- The challenge drawn by port `p` for the n-th time (R529), 256 bits. -/
opaque challenge : Nat → Nat → Nat
/-- The device serial held in fuses (R541), 128 bits. -/
opaque serial : Nat
/-- The X.509 certificate chain of the device (R526). -/
opaque certificate : List Byte
/-- The firmware version of the Care Label (R418). -/
opaque firmwareVersion : Nat
/-- The manufacturer's identity in IDCODE (R535): the manual does not give it. -/
opaque jedecId : Nat
/-- The stepping of the part (R2, R418). -/
opaque stepping : Nat
/-- The kernel library version, equal to SOL_KLIB (R418, R288). -/
opaque klib : Nat
/-- The version of a block's register interface, by TYPE (R420). -/
opaque blockVersion : Nat → Nat

end Sys2Proof.Config
end

