-- ==== Sys2Proof/Machine/Events.lean ====
section
/-!
DEFINITION. The events of the KC16: one name for each row of the event tables of the chapters (R67, R102, R136, R161, R185,
R209, R260, R290, R307, R337, R362, R387, R416, R427, R441, R461, R480, R497, R515, R543, R565), its code and its class.
-/
namespace Sys2Proof.Machine

/-- The named events of the event tables, each under its own code. -/
inductive Event where
  | fltQueueFull
  | fltWarmStart
  | fltWarmDone
  | fltWarmFail
  | fltSupervisor
  | fltDma
  | fltFatal
  | fltCleared
  | fltAcked
  | modChanged
  | modBooted
  | modHostLost
  | modSupply
  | secImageRejected
  | secLifecycle
  | dbgOpened
  | dbgClosed
  | dbgTokenFail
  | pwrChanged
  | modThermal
  | hstDbErr
  | hstEvLost
  | hstRingDown
  | hstFlr
  | lineReverse
  | lineStop
  | lineMove
  | lineStep
  | lineSrcStale
  | lineSrcFault
  | timJumpRefused
  | timHoldover
  | timLocked
  | timStepped
  | lineDesignated
  | rylReady
  | rylTrainFail
  | rylRingBreak
  | rylRingRestored
  | rylHeadLost
  | rylCellMiss
  | rylLaneDown
  | rylLaneRetired
  | rylRejoin
  | rylRejoinFail
  | rylDesat
  | rylOvertemp
  | rylBusUv
  | rylStoActive
  | rylSvcTimeout
  | rylKillDiscrepancy
  | cnvRefEarly
  | cnvCalDone
  | injOverrun
  | cnvOvr
  | cnvPlausFail
  | cnvSumFail
  | cnvDmaMark
  | cnvTqOverflow
  | decFill
  | fbkQerr
  | fbkFault
  | fbkJointFault
  | fbkStepperFault
  | fbkIndexCorr
  | fbkSencErr
  | fbkSencWarn
  | fbkHallAlign
  | sweOvercurrent
  | sweModelDiverge
  | sweLimited
  | sweClampMax
  | sweStaggerOver
  | sweShadowMismatch
  | sweTakeover
  | sweRun
  | drvLoopLate
  | drvOverrun
  | drvStall
  | drvTrap
  | drvMemCorr
  | drvMemUncorr
  | drvBankSwapped
  | drvShadowMismatch
  | prfStarved
  | prfLimitExceeded
  | prfLimitSwitch
  | prfGearSlip
  | prfSeamWidened
  | prfSeamDone
  | prfStepOverrun
  | prfStepsLost
  | prfStall
  | prfHomed
  | homeFail
  | homeChatter
  | homeAborted
  | prfCatchup
  | solLate
  | solRegularised
  | solSaturated
  | solMemCorr
  | solMemUncorr
  | solShadowMismatch
  | solLaneLost
  | plnNoBranch
  | plnBranchRefused
  | plnContExpired
  | plnStopFallback
  | plnDerate
  | plnRegionUnplanned
  | plnPriceMax
  | grdSeparation
  | grdContact
  | grdArmClearance
  | grdZone
  | grdSpeedCap
  | grdSpeedRange
  | grdStopOverrun
  | grdNoStop
  | grdDiverge
  | grdXchkLost
  | grdTrackStale
  | grdStreamLost
  | grdNotReady
  | grdBranchFail
  | prsCommitted
  | prsAborted
  | prsPlanAborted
  | gscNodeFault
  | gscLate
  | gscTokenLost
  | gscNoWorker
  | gscDropped
  | mbxArrived
  | mbxEmpty
  | mbxCross
  | lckBroken
  | hltWorn
  | hltFailed
  | hltDarnStarted
  | hltDarned
  | hltDarnAborted
  | spareExhausted
  | hltNoSpare
  | hltNoSpareOff
  | hltPartLost
  | hltTestFail
  | hltLedgerErr
  | trcDone
  | trcDrop
  | memCorr
  | memUncorr
  | memPageRetired
  | memRetireExhausted
  | careUpdated
deriving DecidableEq, Repr

/-- The event code of the table (R569 bytes 4 and 5). -/
def eventCode (e : Event) : Nat :=
  match e with
  | .fltQueueFull => 0x000
  | .fltWarmStart => 0x001
  | .fltWarmDone => 0x002
  | .fltWarmFail => 0x003
  | .fltSupervisor => 0x004
  | .fltDma => 0x005
  | .fltFatal => 0x006
  | .fltCleared => 0x007
  | .fltAcked => 0x008
  | .modChanged => 0x010
  | .modBooted => 0x011
  | .modHostLost => 0x012
  | .modSupply => 0x013
  | .secImageRejected => 0x014
  | .secLifecycle => 0x015
  | .dbgOpened => 0x016
  | .dbgClosed => 0x017
  | .dbgTokenFail => 0x018
  | .pwrChanged => 0x019
  | .modThermal => 0x01A
  | .hstDbErr => 0x020
  | .hstEvLost => 0x021
  | .hstRingDown => 0x022
  | .hstFlr => 0x023
  | .lineReverse => 0x040
  | .lineStop => 0x041
  | .lineMove => 0x042
  | .lineStep => 0x043
  | .lineSrcStale => 0x044
  | .lineSrcFault => 0x045
  | .timJumpRefused => 0x046
  | .timHoldover => 0x047
  | .timLocked => 0x048
  | .timStepped => 0x049
  | .lineDesignated => 0x04A
  | .rylReady => 0x060
  | .rylTrainFail => 0x061
  | .rylRingBreak => 0x062
  | .rylRingRestored => 0x063
  | .rylHeadLost => 0x064
  | .rylCellMiss => 0x065
  | .rylLaneDown => 0x066
  | .rylLaneRetired => 0x067
  | .rylRejoin => 0x068
  | .rylRejoinFail => 0x069
  | .rylDesat => 0x06A
  | .rylOvertemp => 0x06B
  | .rylBusUv => 0x06C
  | .rylStoActive => 0x06D
  | .rylSvcTimeout => 0x06E
  | .rylKillDiscrepancy => 0x06F
  | .cnvRefEarly => 0x080
  | .cnvCalDone => 0x081
  | .injOverrun => 0x082
  | .cnvOvr => 0x083
  | .cnvPlausFail => 0x084
  | .cnvSumFail => 0x085
  | .cnvDmaMark => 0x086
  | .cnvTqOverflow => 0x087
  | .decFill => 0x088
  | .fbkQerr => 0x0A0
  | .fbkFault => 0x0A1
  | .fbkJointFault => 0x0A2
  | .fbkStepperFault => 0x0A3
  | .fbkIndexCorr => 0x0A4
  | .fbkSencErr => 0x0A5
  | .fbkSencWarn => 0x0A6
  | .fbkHallAlign => 0x0A7
  | .sweOvercurrent => 0x0C0
  | .sweModelDiverge => 0x0C1
  | .sweLimited => 0x0C2
  | .sweClampMax => 0x0C3
  | .sweStaggerOver => 0x0C4
  | .sweShadowMismatch => 0x0C5
  | .sweTakeover => 0x0C6
  | .sweRun => 0x0C7
  | .drvLoopLate => 0x0E0
  | .drvOverrun => 0x0E1
  | .drvStall => 0x0E2
  | .drvTrap => 0x0E3
  | .drvMemCorr => 0x0E4
  | .drvMemUncorr => 0x0E5
  | .drvBankSwapped => 0x0E6
  | .drvShadowMismatch => 0x0E7
  | .prfStarved => 0x100
  | .prfLimitExceeded => 0x101
  | .prfLimitSwitch => 0x102
  | .prfGearSlip => 0x103
  | .prfSeamWidened => 0x104
  | .prfSeamDone => 0x105
  | .prfStepOverrun => 0x106
  | .prfStepsLost => 0x107
  | .prfStall => 0x108
  | .prfHomed => 0x109
  | .homeFail => 0x10A
  | .homeChatter => 0x10B
  | .homeAborted => 0x10C
  | .prfCatchup => 0x10D
  | .solLate => 0x120
  | .solRegularised => 0x121
  | .solSaturated => 0x122
  | .solMemCorr => 0x123
  | .solMemUncorr => 0x124
  | .solShadowMismatch => 0x125
  | .solLaneLost => 0x126
  | .plnNoBranch => 0x140
  | .plnBranchRefused => 0x141
  | .plnContExpired => 0x142
  | .plnStopFallback => 0x143
  | .plnDerate => 0x144
  | .plnRegionUnplanned => 0x145
  | .plnPriceMax => 0x146
  | .grdSeparation => 0x160
  | .grdContact => 0x161
  | .grdArmClearance => 0x162
  | .grdZone => 0x163
  | .grdSpeedCap => 0x164
  | .grdSpeedRange => 0x165
  | .grdStopOverrun => 0x166
  | .grdNoStop => 0x167
  | .grdDiverge => 0x168
  | .grdXchkLost => 0x169
  | .grdTrackStale => 0x16A
  | .grdStreamLost => 0x16B
  | .grdNotReady => 0x16C
  | .grdBranchFail => 0x16D
  | .prsCommitted => 0x180
  | .prsAborted => 0x181
  | .prsPlanAborted => 0x182
  | .gscNodeFault => 0x1A0
  | .gscLate => 0x1A1
  | .gscTokenLost => 0x1A2
  | .gscNoWorker => 0x1A3
  | .gscDropped => 0x1A4
  | .mbxArrived => 0x1C0
  | .mbxEmpty => 0x1C1
  | .mbxCross => 0x1C2
  | .lckBroken => 0x1C3
  | .hltWorn => 0x1E0
  | .hltFailed => 0x1E1
  | .hltDarnStarted => 0x1E2
  | .hltDarned => 0x1E3
  | .hltDarnAborted => 0x1E4
  | .spareExhausted => 0x1E5
  | .hltNoSpare => 0x1E6
  | .hltNoSpareOff => 0x1E7
  | .hltPartLost => 0x1E8
  | .hltTestFail => 0x1E9
  | .hltLedgerErr => 0x1EA
  | .trcDone => 0x1F0
  | .trcDrop => 0x1F1
  | .memCorr => 0x1F2
  | .memUncorr => 0x1F3
  | .memPageRetired => 0x1F4
  | .memRetireExhausted => 0x1F5
  | .careUpdated => 0x1F8

/-- The class of the table (R462). Where a table gives two classes, the first; the raiser of the other says so. -/
def eventClass (e : Event) : Nat :=
  match e with
  | .fltQueueFull => 0
  | .fltWarmStart => 3
  | .fltWarmDone => 0
  | .fltWarmFail => 4
  | .fltSupervisor => 2
  | .fltDma => 2
  | .fltFatal => 5
  | .fltCleared => 0
  | .fltAcked => 0
  | .modChanged => 0
  | .modBooted => 0
  | .modHostLost => 3
  | .modSupply => 2
  | .secImageRejected => 2
  | .secLifecycle => 0
  | .dbgOpened => 0
  | .dbgClosed => 0
  | .dbgTokenFail => 2
  | .pwrChanged => 0
  | .modThermal => 2
  | .hstDbErr => 0
  | .hstEvLost => 0
  | .hstRingDown => 0
  | .hstFlr => 0
  | .lineReverse => 0
  | .lineStop => 0
  | .lineMove => 0
  | .lineStep => 0
  | .lineSrcStale => 2
  | .lineSrcFault => 2
  | .timJumpRefused => 2
  | .timHoldover => 0
  | .timLocked => 0
  | .timStepped => 0
  | .lineDesignated => 0
  | .rylReady => 0
  | .rylTrainFail => 2
  | .rylRingBreak => 2
  | .rylRingRestored => 0
  | .rylHeadLost => 4
  | .rylCellMiss => 1
  | .rylLaneDown => 2
  | .rylLaneRetired => 2
  | .rylRejoin => 0
  | .rylRejoinFail => 2
  | .rylDesat => 4
  | .rylOvertemp => 3
  | .rylBusUv => 3
  | .rylStoActive => 4
  | .rylSvcTimeout => 0
  | .rylKillDiscrepancy => 4
  | .cnvRefEarly => 0
  | .cnvCalDone => 0
  | .injOverrun => 0
  | .cnvOvr => 0
  | .cnvPlausFail => 2
  | .cnvSumFail => 3
  | .cnvDmaMark => 0
  | .cnvTqOverflow => 0
  | .decFill => 1
  | .fbkQerr => 0
  | .fbkFault => 2
  | .fbkJointFault => 4
  | .fbkStepperFault => 3
  | .fbkIndexCorr => 0
  | .fbkSencErr => 0
  | .fbkSencWarn => 0
  | .fbkHallAlign => 0
  | .sweOvercurrent => 4
  | .sweModelDiverge => 3
  | .sweLimited => 0
  | .sweClampMax => 0
  | .sweStaggerOver => 0
  | .sweShadowMismatch => 2
  | .sweTakeover => 0
  | .sweRun => 0
  | .drvLoopLate => 1
  | .drvOverrun => 3
  | .drvStall => 4
  | .drvTrap => 3
  | .drvMemCorr => 1
  | .drvMemUncorr => 4
  | .drvBankSwapped => 0
  | .drvShadowMismatch => 2
  | .prfStarved => 3
  | .prfLimitExceeded => 3
  | .prfLimitSwitch => 3
  | .prfGearSlip => 2
  | .prfSeamWidened => 0
  | .prfSeamDone => 0
  | .prfStepOverrun => 0
  | .prfStepsLost => 0
  | .prfStall => 3
  | .prfHomed => 0
  | .homeFail => 2
  | .homeChatter => 2
  | .homeAborted => 0
  | .prfCatchup => 0
  | .solLate => 1
  | .solRegularised => 0
  | .solSaturated => 0
  | .solMemCorr => 1
  | .solMemUncorr => 2
  | .solShadowMismatch => 2
  | .solLaneLost => 2
  | .plnNoBranch => 3
  | .plnBranchRefused => 0
  | .plnContExpired => 3
  | .plnStopFallback => 0
  | .plnDerate => 2
  | .plnRegionUnplanned => 3
  | .plnPriceMax => 0
  | .grdSeparation => 3
  | .grdContact => 4
  | .grdArmClearance => 3
  | .grdZone => 3
  | .grdSpeedCap => 3
  | .grdSpeedRange => 3
  | .grdStopOverrun => 4
  | .grdNoStop => 4
  | .grdDiverge => 3
  | .grdXchkLost => 3
  | .grdTrackStale => 0
  | .grdStreamLost => 3
  | .grdNotReady => 4
  | .grdBranchFail => 0
  | .prsCommitted => 0
  | .prsAborted => 0
  | .prsPlanAborted => 0
  | .gscNodeFault => 2
  | .gscLate => 0
  | .gscTokenLost => 0
  | .gscNoWorker => 0
  | .gscDropped => 0
  | .mbxArrived => 0
  | .mbxEmpty => 0
  | .mbxCross => 0
  | .lckBroken => 0
  | .hltWorn => 2
  | .hltFailed => 2
  | .hltDarnStarted => 0
  | .hltDarned => 0
  | .hltDarnAborted => 0
  | .spareExhausted => 2
  | .hltNoSpare => 3
  | .hltNoSpareOff => 4
  | .hltPartLost => 2
  | .hltTestFail => 2
  | .hltLedgerErr => 2
  | .trcDone => 0
  | .trcDrop => 0
  | .memCorr => 1
  | .memUncorr => 2
  | .memPageRetired => 0
  | .memRetireExhausted => 2
  | .careUpdated => 0

end Sys2Proof.Machine
end

