-- ==== Sys2Proof/Machine/Base.lean ====
section
/-!
DEFINITION. Plain helpers without state: keyed maps in canonical form, bit fields of naturals, saturation (R9),
rounding (R567), two's complement readings (R8), little-endian byte lists (R7), the cyclic redundancy checks of R74.
-/
namespace Sys2Proof.Machine

/-- Sparse data by key: pairs with strictly rising keys. -/
abbrev Map (α : Type) := List (Nat × α)

/-- The entry at a key. -/
def mget {α : Type} (m : Map α) (k : Nat) : Option α :=
  match m with
  | [] => none
  | (j, v) :: t => if k < j then none else if j = k then some v else mget t k

/-- The entry at a key, or the value an absent key stands for. -/
def mgetD {α : Type} (m : Map α) (k : Nat) (d : α) : α := (mget m k).getD d

/-- Sets the entry at a key, keeping the keys strictly rising. -/
def mput {α : Type} (m : Map α) (k : Nat) (v : α) : Map α :=
  match m with
  | [] => [(k, v)]
  | (j, w) :: t => if k < j then (k, v) :: (j, w) :: t else if j = k then (k, v) :: t else (j, w) :: mput t k v

/-- Removes the entry at a key. -/
def mdel {α : Type} (m : Map α) (k : Nat) : Map α :=
  match m with
  | [] => []
  | (j, w) :: t => if j = k then t else (j, w) :: mdel t k

/-- Changes the entry at a key, when there is one. -/
def mmod {α : Type} (m : Map α) (k : Nat) (f : α → α) : Map α :=
  m.map fun e => if e.1 = k then (e.1, f e.2) else e

/-- True when a key has an entry. -/
def mhas {α : Type} (m : Map α) (k : Nat) : Bool := (mget m k).isSome

/-- The keys whose entries satisfy a test, rising. -/
def mkeys {α : Type} (m : Map α) (p : Nat → α → Bool) : List Nat :=
  (m.filter fun e => p e.1 e.2).map Prod.fst

/-- The keys rise strictly. -/
def mwf {α : Type} (m : Map α) : Bool :=
  match m with
  | [] => true
  | [_] => true
  | (j, _) :: (k, v) :: t => decide (j < k) && mwf ((k, v) :: t)

/-- Bits lo and up, `w` of them, of a natural. -/
def bits (n lo w : Nat) : Nat := (n / 2 ^ lo) % 2 ^ w

/-- Bit `i` of a natural. -/
def bit (n i : Nat) : Bool := n.testBit i

/-- A natural with its field of `w` bits from `lo` replaced. -/
def setBits (n lo w v : Nat) : Nat := n - bits n lo w * 2 ^ lo + (v % 2 ^ w) * 2 ^ lo

/-- A natural with bit `i` set or cleared. -/
def setBit (n i : Nat) (b : Bool) : Nat := setBits n i 1 (if b then 1 else 0)

/-- A flag as a number. -/
def b2n (b : Bool) : Nat := if b then 1 else 0

/-- The two's complement reading of the low `w` bits (R8). -/
def sx (w n : Nat) : Int :=
  let m := n % 2 ^ w
  if m < 2 ^ (w - 1) then (m : Int) else (m : Int) - (2 : Int) ^ w

/-- The `w`-bit two's complement code of an integer, wrapping. -/
def un (w : Nat) (x : Int) : Nat := (x % ((2 : Int) ^ w)).toNat

/-- Clamps to a range. -/
def clampI (x lo hi : Int) : Int := if x < lo then lo else if hi < x then hi else x

/-- Saturates to `w` signed bits (R9). -/
def satS (w : Nat) (x : Int) : Int := clampI x (-(2 : Int) ^ (w - 1)) ((2 : Int) ^ (w - 1) - 1)

/-- Saturates to `w` unsigned bits (R9). -/
def satU (w n : Nat) : Nat := if n < 2 ^ w then n else 2 ^ w - 1

/-- The quotient rounded towards minus infinity, for a positive divisor. -/
def floorDiv (n d : Int) : Int := Int.fdiv n d

/-- The quotient rounded to nearest, an exact half towards plus infinity (R567), for a positive divisor. -/
def roundDiv (n d : Int) : Int := Int.fdiv (2 * n + d) (2 * d)

/-- The quotient rounded to nearest, an exact half to even (R268), for a positive divisor. -/
def roundEven (n d : Int) : Int :=
  let q := Int.fdiv n d
  let r := n - q * d
  if 2 * r < d then q else if d < 2 * r then q + 1 else if q % 2 = 0 then q else q + 1

/-- The least natural not below n / d. -/
def ceilDiv (n d : Nat) : Nat := (n + d - 1) / d

/-- The sign of an integer. -/
def sgn (x : Int) : Int := if x < 0 then -1 else if x = 0 then 0 else 1

/-- The order of LINE64 values: the sign of the difference read as a signed 64-bit number (R9). -/
def lineDiff (a b : Nat) : Int := sx 64 (un 64 ((a : Int) - (b : Int)))

/-- Increments a counter that saturates at `w` bits. -/
def bumpSat (w n : Nat) : Nat := if n + 1 < 2 ^ w then n + 1 else 2 ^ w - 1

/-- The little-endian bytes of a natural (R7). -/
def leBytes (count n : Nat) : List Byte :=
  (List.range count).map fun i => BitVec.ofNat 8 (n / 2 ^ (8 * i))

/-- The big-endian bytes of a natural: the network byte order of R7. -/
def beBytes (count n : Nat) : List Byte := (leBytes count n).reverse

/-- The little-endian number of a byte list (R7). -/
def leNat (bs : List Byte) : Nat :=
  match bs with
  | [] => 0
  | b :: t => b.toNat + 256 * leNat t

/-- The big-endian number of a byte list. -/
def beNat (bs : List Byte) : Nat := leNat bs.reverse

/-- `n` bytes of a list from an offset, zeros beyond its end. -/
def takeBytes (bs : List Byte) (off n : Nat) : List Byte :=
  let t := (bs.drop off).take n
  t ++ List.replicate (n - t.length) 0

/-- One bit of a reflected CRC-32 (polynomial 0xEDB88320, R74). -/
def crc32Bit (c : Nat) : Nat := if c % 2 = 1 then Nat.xor (c / 2) 0xEDB88320 else c / 2

/-- One byte of a reflected CRC-32. -/
def crc32Byte (c : Nat) (b : Byte) : Nat :=
  (List.range 8).foldl (fun a _ => crc32Bit a) (Nat.xor c b.toNat)

/-- The CRC-32 of R74 over a byte list: preset all ones, result inverted. -/
def crc32 (bs : List Byte) : Nat := Nat.xor (bs.foldl crc32Byte 0xFFFFFFFF) 0xFFFFFFFF

/-- Updates one element of a list. -/
def lset {α : Type} (l : List α) (i : Nat) (v : α) : List α := l.set i v

/-- The sum of a list. -/
def isum (l : List Int) : Int := l.foldl (· + ·) 0

/-- The greatest of a list of naturals, 0 for none. -/
def nmax (l : List Nat) : Nat := l.foldl Nat.max 0

/-- A list without its repeats, first occurrences kept. -/
def dedup (l : List Nat) : List Nat :=
  l.foldl (fun acc x => if acc.contains x then acc else acc ++ [x]) []

/-- The set bits of a mask below `n`, rising. -/
def maskList (m n : Nat) : List Nat := (List.range n).filter fun i => m.testBit i

/-- The mask of a list of bit numbers. -/
def listMask (l : List Nat) : Nat := (dedup l).foldl (fun a i => a + 2 ^ i) 0

/-- Inserts into a list kept in a strict order, after equals. -/
def insertBy {α : Type} (before : α → α → Bool) (x : α) (l : List α) : List α :=
  match l with
  | [] => [x]
  | y :: t => if before x y then x :: y :: t else y :: insertBy before x t

/-- A list put in order: equal elements keep their order. -/
def sortBy {α : Type} (before : α → α → Bool) (l : List α) : List α :=
  l.foldl (fun acc x => insertBy before x acc) []

/-- The integer square root of `n`, searched bit by bit. -/
def isqrtAux (fuel n r : Nat) : Nat :=
  match fuel with
  | 0 => r
  | k + 1 => let t := r + 2 ^ k; if t * t ≤ n then isqrtAux k n t else isqrtAux k n r

/-- ⌊√n⌋ for n below 2^256. -/
def isqrt (n : Nat) : Nat := isqrtAux 128 n 0

end Sys2Proof.Machine
end

