-- ==== Sys2Proof/Machine/RegTable.lean ====
section
/-!
DEFINITION. The registers that hold a value of their own (R4 to R6, R568): the RW fields and the RC counters of the register
tables (R65, R66, R101, R134, R135, R160, R183, R208, R259, R288, R306, R336, R361, R386, R414, R415, R440, R460, R479, R496,
R514, R541, R542, R564), each with its offset in BAR0, its reset value, its fields and their ranges. Every other register of
those tables is a view of the state (Registers.lean).
-/
namespace Sys2Proof.Machine

/-- A writable field: least bit, width, and the range of the values it accepts (R568). -/
structure RegField where
  lo : Nat
  w : Nat
  min : Int
  max : Int
deriving DecidableEq, Repr

/-- Registers of one kind: offsets base + stride · i for i below count. -/
structure RegRow where
  base : Nat
  stride : Nat
  count : Nat
  reset : Nat
  fields : List RegField
  /-- Access RC: a read clears it (R5). -/
  rc : Bool
  /-- Held separately for each requester ID. -/
  perReq : Bool
  /-- Who writes it: 0 any requester that reaches it, 1 PF0 only, 2 the function that owns the block, 3 PF0 and debug session 0 (R414, R514, R541). -/
  who : Nat
  /-- 1 the lo word and 2 the hi word of a writable 64-bit pair (R6). -/
  pair : Nat
deriving DecidableEq, Repr

/-- The row covers an offset. -/
def rowHas (r : RegRow) (off : Nat) : Bool :=
  decide (r.base ≤ off) && decide (off < r.base + Nat.max 1 (r.stride * r.count)) &&
    (if r.stride = 0 then decide (off = r.base) else decide ((off - r.base) % r.stride = 0))

/-- The rows of BAR0 window 0x01_0000. -/
def regRows01 : List RegRow :=
  [ -- MOD_DOUT_SAFE (R514)
    ⟨0x10020, 0x0, 1, 0x0, [⟨0, 32, 0, 4294967295⟩], false, false, 1, 0⟩
  , -- MOD_DOUT_SAFEMASK
    ⟨0x10024, 0x0, 1, 0x0, [⟨0, 32, 0, 4294967295⟩], false, false, 1, 0⟩
  , -- MOD_RCV_ADDR_LO
    ⟨0x10028, 0x0, 1, 0x0, [⟨12, 20, 0, 1048575⟩], false, false, 1, 1⟩
  , -- MOD_RCV_ADDR_HI
    ⟨0x1002C, 0x0, 1, 0x0, [⟨0, 32, 0, 4294967295⟩], false, false, 1, 2⟩
  , -- MOD_RCV_LEN
    ⟨0x10030, 0x0, 1, 0x0, [⟨0, 24, 0, 8388608⟩], false, false, 1, 0⟩
  , -- MOD_HOSTWD (MOD_HOSTWD_WRITE has its own row)
    ⟨0x10018, 0x0, 1, 0x0, [⟨0, 16, 0, 65535⟩], false, false, 1, 0⟩
  , -- PWR_CTRL (R542)
    ⟨0x10804, 0x0, 1, 0x0, [⟨0, 1, 0, 1⟩], false, false, 1, 0⟩
  , -- PWR_SPREAD
    ⟨0x10808, 0x0, 1, 0x404, [⟨0, 4, 0, 8⟩, ⟨8, 4, 0, 8⟩], false, false, 1, 0⟩
  , -- MOD_PAD_SLEW (R564)
    ⟨0x11000, 0x0, 1, 0x0, [⟨0, 14, 0, 16383⟩], false, false, 1, 0⟩
  , -- MOD_DOUT
    ⟨0x11004, 0x0, 1, 0x0, [⟨0, 32, 0, 4294967295⟩], false, false, 1, 0⟩
  , -- MOD_DOUT_OE
    ⟨0x11008, 0x0, 1, 0x0, [⟨0, 32, 0, 4294967295⟩], false, false, 1, 0⟩
  , -- MOD_DIN_CFG0-63
    ⟨0x11100, 0x4, 64, 0x4, [⟨0, 8, 0, 255⟩, ⟨8, 10, 0, 1000⟩, ⟨18, 1, 0, 1⟩], false, false, 1, 0⟩ ]

/-- The rows of BAR0 window 0x02_0000. -/
def regRows02 : List RegRow :=
  [ -- SEC_REJECTS (R541)
    ⟨0x20020, 0x0, 1, 0x0, [], true, false, 0, 0⟩
  , -- DBG_MSEL, per session
    ⟨0x20060, 0x0, 1, 0x0, [⟨0, 3, 0, 7⟩, ⟨8, 8, 0, 255⟩], false, true, 3, 0⟩
  , -- DBG_MADDR_LO
    ⟨0x20064, 0x0, 1, 0x0, [⟨0, 32, 0, 4294967295⟩], false, true, 3, 1⟩
  , -- DBG_MADDR_HI
    ⟨0x20068, 0x0, 1, 0x0, [⟨0, 32, 0, 4294967295⟩], false, true, 3, 2⟩ ]

/-- The rows of BAR0 window 0x03_0000. -/
def regRows03 : List RegRow :=
  [ -- HST_ACCEPTED (R414)
    ⟨0x30008, 0x0, 1, 0x0, [], true, false, 0, 0⟩
  , -- HST_EV_UNROUTED
    ⟨0x3000C, 0x0, 1, 0x0, [], true, false, 0, 0⟩
  , -- HST_F_ASQ_LO
    ⟨0x30100, 0x40, 16, 0x0, [⟨12, 20, 0, 1048575⟩], false, false, 2, 1⟩
  , -- HST_F_ASQ_HI
    ⟨0x30104, 0x40, 16, 0x0, [⟨0, 32, 0, 4294967295⟩], false, false, 2, 2⟩
  , -- HST_F_ACQ_LO
    ⟨0x30108, 0x40, 16, 0x0, [⟨12, 20, 0, 1048575⟩], false, false, 2, 1⟩
  , -- HST_F_ACQ_HI
    ⟨0x3010C, 0x40, 16, 0x0, [⟨0, 32, 0, 4294967295⟩], false, false, 2, 2⟩
  , -- HST_F_ACFG
    ⟨0x30110, 0x40, 16, 0x10044, [⟨0, 4, 0, 15⟩, ⟨4, 4, 0, 15⟩, ⟨8, 6, 0, 63⟩, ⟨16, 8, 0, 255⟩, ⟨24, 8, 0, 255⟩], false, false, 2, 0⟩
  , -- HST_F_ACTRL (ADMIN_PAIR_ENABLE and _DISABLE have their own rows)
    ⟨0x30114, 0x40, 16, 0x0, [], false, false, 2, 0⟩
  , -- HST_F_QUOTA of function 0
    ⟨0x30120, 0x0, 1, 0x40F0, [⟨0, 8, 0, 240⟩, ⟨8, 8, 0, 64⟩], false, false, 1, 0⟩
  , -- HST_F_QUOTA of functions 1 to 15
    ⟨0x30160, 0x40, 15, 0x0, [⟨0, 8, 0, 240⟩, ⟨8, 8, 0, 64⟩], false, false, 1, 0⟩
  , -- HST_F_REGIONS of function 0
    ⟨0x30124, 0x0, 1, 0xFFFF, [⟨0, 16, 0, 65535⟩], false, false, 1, 0⟩
  , -- HST_F_REGIONS of functions 1 to 15
    ⟨0x30164, 0x40, 15, 0x0, [⟨0, 16, 0, 65535⟩], false, false, 1, 0⟩
  , -- HST_F_GROUPS of function 0
    ⟨0x30128, 0x0, 1, 0x8007FFFF, [⟨0, 19, 0, 524287⟩, ⟨31, 1, 0, 1⟩], false, false, 1, 0⟩
  , -- HST_F_GROUPS of functions 1 to 15
    ⟨0x30168, 0x40, 15, 0x2000, [⟨0, 19, 0, 524287⟩, ⟨31, 1, 0, 1⟩], false, false, 1, 0⟩
  , -- HST_F_DB_DROP
    ⟨0x3012C, 0x40, 16, 0x0, [], true, false, 0, 0⟩
  , -- HST_R_LOST (R415)
    ⟨0x3101C, 0x20, 320, 0x0, [], true, false, 0, 0⟩ ]

/-- The rows of BAR0 window 0x04_0000. -/
def regRows04 : List RegRow :=
  [ -- TIM_CTRL (R65)
    ⟨0x40000, 0x0, 1, 0x2, [⟨0, 3, 0, 7⟩], false, false, 0, 0⟩
  , -- TIM_LINE_REVTH
    ⟨0x40034, 0x0, 1, 0x400000, [⟨0, 32, 0, 4294967295⟩], false, false, 0, 0⟩
  , -- TIM_LINE_SLEW
    ⟨0x40038, 0x0, 1, 0x40, [⟨0, 32, 0, 4294967295⟩], false, false, 0, 0⟩
  , -- TIM_LINE_STEPTH
    ⟨0x4003C, 0x0, 1, 0x1000000, [⟨0, 32, 0, 4294967295⟩], false, false, 0, 0⟩
  , -- TIM_JUMPTH
    ⟨0x40040, 0x0, 1, 0x3E8, [⟨0, 32, 100, 1000000⟩], false, false, 0, 0⟩
  , -- TIM_LOCKTH
    ⟨0x40044, 0x0, 1, 0x64, [⟨0, 32, 10, 1000000⟩], false, false, 0, 0⟩
  , -- TIM_FMAX
    ⟨0x40048, 0x0, 1, 0x30D40, [⟨0, 32, 1, 500000⟩], false, false, 0, 0⟩
  , -- TIM_SERVO_GAIN
    ⟨0x4004C, 0x0, 1, 0x4004000, [⟨0, 32, 0, 4294967295⟩], false, false, 0, 0⟩
  , -- TIM_PUB_CTRL
    ⟨0x40058, 0x0, 1, 0x0, [⟨0, 8, 0, 255⟩, ⟨16, 16, 0, 65535⟩], false, false, 0, 0⟩
  , -- TIM_PUB_UDP
    ⟨0x4005C, 0x0, 1, 0xB928, [⟨0, 16, 0, 65535⟩], false, false, 0, 0⟩
  , -- TIM_PUB_GROUP0-3
    ⟨0x40060, 0x4, 4, 0x0, [⟨0, 32, 0, 4294967295⟩], false, false, 0, 0⟩
  , -- TIM_RX_DROP
    ⟨0x40074, 0x0, 1, 0x0, [], true, false, 0, 0⟩
  , -- TIM_PTP_DS
    ⟨0x40078, 0x0, 1, 0xF88080, [⟨0, 24, 0, 16777215⟩], false, false, 0, 0⟩ ]

/-- The rows of BAR0 window 0x05_0000. -/
def regRows05 : List RegRow :=
  [ -- ETH_PTPCFG (R66)
    ⟨0x50000, 0x1000, 4, 0x0, [⟨0, 7, 0, 127⟩, ⟨8, 7, 0, 127⟩, ⟨16, 4, -7, 1⟩, ⟨20, 4, -7, 5⟩], false, false, 0, 0⟩
  , -- ETH_INGLAT_LO
    ⟨0x50008, 0x1000, 4, 0x0, [⟨0, 32, 0, 4294967295⟩], false, false, 0, 1⟩
  , -- ETH_INGLAT_HI
    ⟨0x5000C, 0x1000, 4, 0x0, [⟨0, 32, 0, 4294967295⟩], false, false, 0, 2⟩
  , -- ETH_EGRLAT_LO
    ⟨0x50010, 0x1000, 4, 0x0, [⟨0, 32, 0, 4294967295⟩], false, false, 0, 1⟩
  , -- ETH_EGRLAT_HI
    ⟨0x50014, 0x1000, 4, 0x0, [⟨0, 32, 0, 4294967295⟩], false, false, 0, 2⟩
  , -- ETH_ASYM_LO
    ⟨0x50018, 0x1000, 4, 0x0, [⟨0, 32, 0, 4294967295⟩], false, false, 0, 1⟩
  , -- ETH_ASYM_HI
    ⟨0x5001C, 0x1000, 4, 0x0, [⟨0, 32, 0, 4294967295⟩], false, false, 0, 2⟩
  , -- ETH_GCL_BASE_LO
    ⟨0x50204, 0x1000, 4, 0x0, [⟨0, 32, 0, 4294967295⟩], false, false, 0, 1⟩
  , -- ETH_GCL_BASE_HI
    ⟨0x50208, 0x1000, 4, 0x0, [⟨0, 32, 0, 4294967295⟩], false, false, 0, 2⟩
  , -- ETH_TS_DROP
    ⟨0x50028, 0x1000, 4, 0x0, [], true, false, 0, 0⟩
  , -- ETH_MGMT_DROP
    ⟨0x5002C, 0x1000, 4, 0x0, [], true, false, 0, 0⟩
  , -- ETH_GCL0-63 of port 0
    ⟨0x50100, 0x4, 64, 0x0, [⟨0, 8, 0, 255⟩, ⟨8, 24, 1, 16777215⟩], false, false, 0, 0⟩
  , -- ETH_GCL0-63 of port 1
    ⟨0x51100, 0x4, 64, 0x0, [⟨0, 8, 0, 255⟩, ⟨8, 24, 1, 16777215⟩], false, false, 0, 0⟩
  , -- ETH_GCL0-63 of port 2
    ⟨0x52100, 0x4, 64, 0x0, [⟨0, 8, 0, 255⟩, ⟨8, 24, 1, 16777215⟩], false, false, 0, 0⟩
  , -- ETH_GCL0-63 of port 3
    ⟨0x53100, 0x4, 64, 0x0, [⟨0, 8, 0, 255⟩, ⟨8, 24, 1, 16777215⟩], false, false, 0, 0⟩
  , -- ETH_GCL_CTRL
    ⟨0x50200, 0x1000, 4, 0x0, [⟨0, 7, 1, 64⟩, ⟨8, 1, 0, 1⟩], false, false, 0, 0⟩
  , -- ETH_GCL_CYCLE
    ⟨0x5020C, 0x1000, 4, 0x0, [⟨0, 32, 1000, 1000000000⟩], false, false, 0, 0⟩ ]

/-- The rows of BAR0 window 0x06_0000. -/
def regRows06 : List RegRow :=
  [ -- RYL_CTRL (R101; EN also has rows of its own)
    ⟨0x60000, 0x1000, 16, 0x0, [⟨0, 1, 0, 1⟩, ⟨2, 2, 0, 3⟩, ⟨4, 4, 1, 8⟩], false, false, 0, 0⟩
  , -- RYL_EPOCH_MIN
    ⟨0x6000C, 0x1000, 16, 0x0, [⟨0, 16, 0, 640⟩], false, false, 0, 0⟩
  , -- RYL_CRCERR_A
    ⟨0x60014, 0x1000, 16, 0x0, [], true, false, 0, 0⟩
  , -- RYL_CRCERR_B
    ⟨0x60018, 0x1000, 16, 0x0, [], true, false, 0, 0⟩
  , -- RYL_SVC_RETRY
    ⟨0x6001C, 0x1000, 16, 0x0, [], true, false, 0, 0⟩
  , -- RYL_HD_MISS of position 1
    ⟨0x60114, 0x1000, 16, 0x0, [], true, false, 0, 0⟩
  , -- RYL_HD_MISS of position 2
    ⟨0x60134, 0x1000, 16, 0x0, [], true, false, 0, 0⟩
  , -- RYL_HD_MISS of position 3
    ⟨0x60154, 0x1000, 16, 0x0, [], true, false, 0, 0⟩
  , -- RYL_HD_MISS of position 4
    ⟨0x60174, 0x1000, 16, 0x0, [], true, false, 0, 0⟩
  , -- RYL_HD_MISS of position 5
    ⟨0x60194, 0x1000, 16, 0x0, [], true, false, 0, 0⟩
  , -- RYL_HD_MISS of position 6
    ⟨0x601B4, 0x1000, 16, 0x0, [], true, false, 0, 0⟩
  , -- RYL_HD_MISS of position 7
    ⟨0x601D4, 0x1000, 16, 0x0, [], true, false, 0, 0⟩
  , -- RYL_HD_MISS of position 8
    ⟨0x601F4, 0x1000, 16, 0x0, [], true, false, 0, 0⟩ ]

/-- The rows of BAR0 window 0x08_0000. -/
def regRows08 : List RegRow :=
  [ -- CNV_REF_ON (R134)
    ⟨0x80000, 0x0, 1, 0x0, [⟨0, 1, 0, 1⟩], false, false, 0, 0⟩
  , -- CNV_CHK_EXPECT
    ⟨0x80008, 0x0, 1, 0x0, [⟨0, 32, -8388608, 8388607⟩], false, false, 0, 0⟩
  , -- CNV_CHK_TOL
    ⟨0x8000C, 0x0, 1, 0x4000, [⟨0, 32, 1, 8388607⟩], false, false, 0, 0⟩
  , -- CNV_CHK_CTRL
    ⟨0x80010, 0x0, 1, 0x0, [⟨0, 13, 0, 8191⟩], false, false, 0, 0⟩
  , -- CNV_SUM_TOL
    ⟨0x80014, 0x0, 1, 0x7A120, [⟨0, 32, 0, 4294967295⟩], false, false, 0, 0⟩
  , -- CNV_TQ_DROP
    ⟨0x80024, 0x0, 1, 0x0, [], true, false, 0, 0⟩
  , -- CNV_INJ_OVERRUN
    ⟨0x80028, 0x0, 1, 0x0, [], true, false, 0, 0⟩
  , -- CNV_REG_MISS
    ⟨0x8002C, 0x0, 1, 0x0, [], true, false, 0, 0⟩
  , -- CNV_n_CFG (CNV_CFG_WRITE has its own row)
    ⟨0x80100, 0x40, 9, 0x0, [⟨0, 4, 0, 15⟩, ⟨8, 8, 0, 255⟩], false, false, 0, 0⟩
  , -- CNV_n_REGTRIG
    ⟨0x8010C, 0x40, 9, 0x0, [⟨0, 4, 0, 15⟩, ⟨4, 2, 0, 3⟩, ⟨16, 11, 0, 2047⟩], false, false, 0, 0⟩
  , -- CNV_n_TRIG1
    ⟨0x80110, 0x40, 9, 0x0, [⟨0, 4, 0, 15⟩, ⟨4, 2, 0, 3⟩, ⟨16, 11, 0, 2047⟩], false, false, 0, 0⟩
  , -- CNV_n_TRIG2
    ⟨0x80114, 0x40, 9, 0x0, [⟨0, 4, 0, 15⟩, ⟨4, 2, 0, 3⟩, ⟨16, 11, 0, 2047⟩], false, false, 0, 0⟩
  , -- CNV_n_TRIG3
    ⟨0x80118, 0x40, 9, 0x0, [⟨0, 4, 0, 15⟩, ⟨4, 2, 0, 3⟩, ⟨16, 11, 0, 2047⟩], false, false, 0, 0⟩
  , -- CNV_n_TRIG4
    ⟨0x8011C, 0x40, 9, 0x0, [⟨0, 4, 0, 15⟩, ⟨4, 2, 0, 3⟩, ⟨16, 11, 0, 2047⟩], false, false, 0, 0⟩
  , -- CNV_DMA_BASE_LO
    ⟨0x80800, 0x20, 64, 0x0, [⟨6, 26, 0, 67108863⟩], false, false, 0, 1⟩
  , -- CNV_DMA_BASE_HI
    ⟨0x80804, 0x20, 64, 0x0, [⟨0, 32, 0, 4294967295⟩], false, false, 0, 2⟩
  , -- CNV_DMA_SIZE
    ⟨0x80808, 0x20, 64, 0x0, [⟨0, 5, 12, 24⟩, ⟨8, 1, 0, 1⟩], false, false, 0, 0⟩
  , -- CNV_DMA_WMARK
    ⟨0x80810, 0x20, 64, 0x0, [⟨0, 32, 0, 4294967295⟩], false, false, 0, 0⟩ ]

/-- The rows of BAR0 window 0x09_0000. -/
def regRows09 : List RegRow :=
  [ -- DEC_MDAT_CFG0-7 (R135)
    ⟨0x90010, 0x4, 8, 0x0, [⟨0, 4, 0, 15⟩], false, false, 0, 0⟩
  , -- DEC_PAIR_FILL
    ⟨0x91008, 0x10, 552, 0x0, [], true, false, 0, 0⟩ ]

/-- The rows of BAR0 window 0x0A_0000. -/
def regRows0A : List RegRow :=
  [ -- FBK_QERR_TOTAL (R160)
    ⟨0xA0004, 0x0, 1, 0x0, [], true, false, 0, 0⟩
  , -- FBK_CH_QERR
    ⟨0xA1024, 0x40, 136, 0x0, [], true, false, 0, 0⟩
  , -- FBK_CH_SENC_ERR
    ⟨0xA102C, 0x40, 136, 0x0, [], true, false, 0, 0⟩ ]

/-- The rows of BAR0 window 0x0C_0000. -/
def regRows0C : List RegRow :=
  [ -- SWE_CTRL (R183)
    ⟨0xC0000, 0x0, 1, 0x104, [⟨0, 4, 0, 15⟩, ⟨4, 8, 0, 255⟩], false, false, 0, 0⟩
  , -- SWE_STAG_OVER
    ⟨0xC0008, 0x0, 1, 0x0, [], true, false, 0, 0⟩
  , -- SWE_EDGES (R184)
    ⟨0xC1064, 0x100, 144, 0x0, [], true, false, 0, 0⟩
  , -- SWE_MINP_HITS (R184)
    ⟨0xC1068, 0x100, 144, 0x0, [], true, false, 0, 0⟩
  , -- SWE_LIMITED (R184)
    ⟨0xC106C, 0x100, 144, 0x0, [], true, false, 0, 0⟩
  , -- SWE_SHADOW_DIFF (R184)
    ⟨0xC1074, 0x100, 144, 0x0, [], true, false, 0, 0⟩ ]

/-- The rows of BAR0 window 0x10_0000. -/
def regRows10 : List RegRow :=
  [ -- DRV_HOLDOFF_MAX of core 0 (R208)
    ⟨0x100004, 0x0, 1, 0x4B0, [⟨0, 16, 100, 16000⟩], false, false, 0, 0⟩
  , -- DRV_LATE
    ⟨0x100018, 0x0, 1, 0x0, [], true, false, 0, 0⟩
  , -- DRV_MEM_CORR
    ⟨0x10001C, 0x0, 1, 0x0, [], true, false, 0, 0⟩
  , -- DRV_SHADOW_DIFF
    ⟨0x100020, 0x0, 1, 0x0, [], true, false, 0, 0⟩
  , -- DRV_HOLDOFF_MAX of core 1 (R208)
    ⟨0x104004, 0x0, 1, 0x4B0, [⟨0, 16, 100, 16000⟩], false, false, 0, 0⟩
  , -- DRV_LATE
    ⟨0x104018, 0x0, 1, 0x0, [], true, false, 0, 0⟩
  , -- DRV_MEM_CORR
    ⟨0x10401C, 0x0, 1, 0x0, [], true, false, 0, 0⟩
  , -- DRV_SHADOW_DIFF
    ⟨0x104020, 0x0, 1, 0x0, [], true, false, 0, 0⟩
  , -- DRV_HOLDOFF_MAX of core 2 (R208)
    ⟨0x108004, 0x0, 1, 0x4B0, [⟨0, 16, 100, 16000⟩], false, false, 0, 0⟩
  , -- DRV_LATE
    ⟨0x108018, 0x0, 1, 0x0, [], true, false, 0, 0⟩
  , -- DRV_MEM_CORR
    ⟨0x10801C, 0x0, 1, 0x0, [], true, false, 0, 0⟩
  , -- DRV_SHADOW_DIFF
    ⟨0x108020, 0x0, 1, 0x0, [], true, false, 0, 0⟩
  , -- DRV_HOLDOFF_MAX of core 3 (R208)
    ⟨0x10C004, 0x0, 1, 0x4B0, [⟨0, 16, 100, 16000⟩], false, false, 0, 0⟩
  , -- DRV_LATE
    ⟨0x10C018, 0x0, 1, 0x0, [], true, false, 0, 0⟩
  , -- DRV_MEM_CORR
    ⟨0x10C01C, 0x0, 1, 0x0, [], true, false, 0, 0⟩
  , -- DRV_SHADOW_DIFF
    ⟨0x10C020, 0x0, 1, 0x0, [], true, false, 0, 0⟩ ]

/-- The rows of BAR0 window 0x11_0000. -/
def regRows11 : List RegRow :=
  [ -- DRV_HOLDOFF_MAX of core 4 (R208)
    ⟨0x110004, 0x0, 1, 0x4B0, [⟨0, 16, 100, 16000⟩], false, false, 0, 0⟩
  , -- DRV_LATE
    ⟨0x110018, 0x0, 1, 0x0, [], true, false, 0, 0⟩
  , -- DRV_MEM_CORR
    ⟨0x11001C, 0x0, 1, 0x0, [], true, false, 0, 0⟩
  , -- DRV_SHADOW_DIFF
    ⟨0x110020, 0x0, 1, 0x0, [], true, false, 0, 0⟩
  , -- DRV_HOLDOFF_MAX of core 5 (R208)
    ⟨0x114004, 0x0, 1, 0x4B0, [⟨0, 16, 100, 16000⟩], false, false, 0, 0⟩
  , -- DRV_LATE
    ⟨0x114018, 0x0, 1, 0x0, [], true, false, 0, 0⟩
  , -- DRV_MEM_CORR
    ⟨0x11401C, 0x0, 1, 0x0, [], true, false, 0, 0⟩
  , -- DRV_SHADOW_DIFF
    ⟨0x114020, 0x0, 1, 0x0, [], true, false, 0, 0⟩
  , -- DRV_HOLDOFF_MAX of core 6 (R208)
    ⟨0x118004, 0x0, 1, 0x4B0, [⟨0, 16, 100, 16000⟩], false, false, 0, 0⟩
  , -- DRV_LATE
    ⟨0x118018, 0x0, 1, 0x0, [], true, false, 0, 0⟩
  , -- DRV_MEM_CORR
    ⟨0x11801C, 0x0, 1, 0x0, [], true, false, 0, 0⟩
  , -- DRV_SHADOW_DIFF
    ⟨0x118020, 0x0, 1, 0x0, [], true, false, 0, 0⟩
  , -- DRV_HOLDOFF_MAX of core 7 (R208)
    ⟨0x11C004, 0x0, 1, 0x4B0, [⟨0, 16, 100, 16000⟩], false, false, 0, 0⟩
  , -- DRV_LATE
    ⟨0x11C018, 0x0, 1, 0x0, [], true, false, 0, 0⟩
  , -- DRV_MEM_CORR
    ⟨0x11C01C, 0x0, 1, 0x0, [], true, false, 0, 0⟩
  , -- DRV_SHADOW_DIFF
    ⟨0x11C020, 0x0, 1, 0x0, [], true, false, 0, 0⟩ ]

/-- The rows of BAR0 window 0x12_0000. -/
def regRows12 : List RegRow :=
  [ -- DRV_HOLDOFF_MAX of core 8 (R208)
    ⟨0x120004, 0x0, 1, 0x4B0, [⟨0, 16, 100, 16000⟩], false, false, 0, 0⟩
  , -- DRV_LATE
    ⟨0x120018, 0x0, 1, 0x0, [], true, false, 0, 0⟩
  , -- DRV_MEM_CORR
    ⟨0x12001C, 0x0, 1, 0x0, [], true, false, 0, 0⟩
  , -- DRV_SHADOW_DIFF
    ⟨0x120020, 0x0, 1, 0x0, [], true, false, 0, 0⟩
  , -- DRV_HOLDOFF_MAX of core 9 (R208)
    ⟨0x124004, 0x0, 1, 0x4B0, [⟨0, 16, 100, 16000⟩], false, false, 0, 0⟩
  , -- DRV_LATE
    ⟨0x124018, 0x0, 1, 0x0, [], true, false, 0, 0⟩
  , -- DRV_MEM_CORR
    ⟨0x12401C, 0x0, 1, 0x0, [], true, false, 0, 0⟩
  , -- DRV_SHADOW_DIFF
    ⟨0x124020, 0x0, 1, 0x0, [], true, false, 0, 0⟩
  , -- DRV_HOLDOFF_MAX of core 10 (R208)
    ⟨0x128004, 0x0, 1, 0x4B0, [⟨0, 16, 100, 16000⟩], false, false, 0, 0⟩
  , -- DRV_LATE
    ⟨0x128018, 0x0, 1, 0x0, [], true, false, 0, 0⟩
  , -- DRV_MEM_CORR
    ⟨0x12801C, 0x0, 1, 0x0, [], true, false, 0, 0⟩
  , -- DRV_SHADOW_DIFF
    ⟨0x128020, 0x0, 1, 0x0, [], true, false, 0, 0⟩
  , -- DRV_HOLDOFF_MAX of core 11 (R208)
    ⟨0x12C004, 0x0, 1, 0x4B0, [⟨0, 16, 100, 16000⟩], false, false, 0, 0⟩
  , -- DRV_LATE
    ⟨0x12C018, 0x0, 1, 0x0, [], true, false, 0, 0⟩
  , -- DRV_MEM_CORR
    ⟨0x12C01C, 0x0, 1, 0x0, [], true, false, 0, 0⟩
  , -- DRV_SHADOW_DIFF
    ⟨0x12C020, 0x0, 1, 0x0, [], true, false, 0, 0⟩ ]

/-- The rows of BAR0 window 0x13_0000. -/
def regRows13 : List RegRow :=
  [ -- DRV_HOLDOFF_MAX of core 12 (R208)
    ⟨0x130004, 0x0, 1, 0x4B0, [⟨0, 16, 100, 16000⟩], false, false, 0, 0⟩
  , -- DRV_LATE
    ⟨0x130018, 0x0, 1, 0x0, [], true, false, 0, 0⟩
  , -- DRV_MEM_CORR
    ⟨0x13001C, 0x0, 1, 0x0, [], true, false, 0, 0⟩
  , -- DRV_SHADOW_DIFF
    ⟨0x130020, 0x0, 1, 0x0, [], true, false, 0, 0⟩
  , -- DRV_HOLDOFF_MAX of core 13 (R208)
    ⟨0x134004, 0x0, 1, 0x4B0, [⟨0, 16, 100, 16000⟩], false, false, 0, 0⟩
  , -- DRV_LATE
    ⟨0x134018, 0x0, 1, 0x0, [], true, false, 0, 0⟩
  , -- DRV_MEM_CORR
    ⟨0x13401C, 0x0, 1, 0x0, [], true, false, 0, 0⟩
  , -- DRV_SHADOW_DIFF
    ⟨0x134020, 0x0, 1, 0x0, [], true, false, 0, 0⟩
  , -- DRV_HOLDOFF_MAX of core 14 (R208)
    ⟨0x138004, 0x0, 1, 0x4B0, [⟨0, 16, 100, 16000⟩], false, false, 0, 0⟩
  , -- DRV_LATE
    ⟨0x138018, 0x0, 1, 0x0, [], true, false, 0, 0⟩
  , -- DRV_MEM_CORR
    ⟨0x13801C, 0x0, 1, 0x0, [], true, false, 0, 0⟩
  , -- DRV_SHADOW_DIFF
    ⟨0x138020, 0x0, 1, 0x0, [], true, false, 0, 0⟩
  , -- DRV_HOLDOFF_MAX of core 15 (R208)
    ⟨0x13C004, 0x0, 1, 0x4B0, [⟨0, 16, 100, 16000⟩], false, false, 0, 0⟩
  , -- DRV_LATE
    ⟨0x13C018, 0x0, 1, 0x0, [], true, false, 0, 0⟩
  , -- DRV_MEM_CORR
    ⟨0x13C01C, 0x0, 1, 0x0, [], true, false, 0, 0⟩
  , -- DRV_SHADOW_DIFF
    ⟨0x13C020, 0x0, 1, 0x0, [], true, false, 0, 0⟩ ]

/-- The rows of BAR0 window 0x14_0000. -/
def regRows14 : List RegRow :=
  [ -- DRV_HOLDOFF_MAX of core 16 (R208)
    ⟨0x140004, 0x0, 1, 0x4B0, [⟨0, 16, 100, 16000⟩], false, false, 0, 0⟩
  , -- DRV_LATE
    ⟨0x140018, 0x0, 1, 0x0, [], true, false, 0, 0⟩
  , -- DRV_MEM_CORR
    ⟨0x14001C, 0x0, 1, 0x0, [], true, false, 0, 0⟩
  , -- DRV_SHADOW_DIFF
    ⟨0x140020, 0x0, 1, 0x0, [], true, false, 0, 0⟩
  , -- DRV_HOLDOFF_MAX of core 17 (R208)
    ⟨0x144004, 0x0, 1, 0x4B0, [⟨0, 16, 100, 16000⟩], false, false, 0, 0⟩
  , -- DRV_LATE
    ⟨0x144018, 0x0, 1, 0x0, [], true, false, 0, 0⟩
  , -- DRV_MEM_CORR
    ⟨0x14401C, 0x0, 1, 0x0, [], true, false, 0, 0⟩
  , -- DRV_SHADOW_DIFF
    ⟨0x144020, 0x0, 1, 0x0, [], true, false, 0, 0⟩ ]

/-- The rows of BAR0 window 0x18_0000. -/
def regRows18 : List RegRow :=
  [ -- PRF_STEPIN_CFG0-7 (R259)
    ⟨0x180010, 0x4, 8, 0x0, [⟨0, 4, 0, 15⟩], false, false, 0, 0⟩
  , -- PRF_P_LOST
    ⟨0x181034, 0x40, 256, 0x0, [], true, false, 0, 0⟩ ]

/-- The rows of BAR0 window 0x1A_0000. -/
def regRows1A : List RegRow :=
  [ -- SOL_CTRL (R288)
    ⟨0x1A0000, 0x0, 1, 0x4F80004, [⟨0, 11, 0, 2047⟩, ⟨16, 11, 0, 2047⟩], false, false, 0, 0⟩
  , -- SOL_LATE
    ⟨0x1A0014, 0x0, 1, 0x0, [], true, false, 0, 0⟩
  , -- SOL_PIVOT_TOTAL
    ⟨0x1A0018, 0x0, 1, 0x0, [], true, false, 0, 0⟩
  , -- SOL_SAT_TOTAL
    ⟨0x1A001C, 0x0, 1, 0x0, [], true, false, 0, 0⟩ ]

/-- The rows of BAR0 window 0x1B_0000. -/
def regRows1B : List RegRow :=
  [ -- SOL_L_SAT (R289), lanes 0 up
    ⟨0x1B0018, 0x400, 64, 0x0, [], true, false, 0, 0⟩
  , -- SOL_L_MEM_CORR (R289), lanes 0 up
    ⟨0x1B001C, 0x400, 64, 0x0, [], true, false, 0, 0⟩
  , -- SOL_L_SHADOW_DIFF (R289), lanes 0 up
    ⟨0x1B0020, 0x400, 64, 0x0, [], true, false, 0, 0⟩ ]

/-- The rows of BAR0 window 0x1C_0000. -/
def regRows1C : List RegRow :=
  [ -- SOL_L_SAT (R289), lanes 64 up
    ⟨0x1C0018, 0x400, 64, 0x0, [], true, false, 0, 0⟩
  , -- SOL_L_MEM_CORR (R289), lanes 64 up
    ⟨0x1C001C, 0x400, 64, 0x0, [], true, false, 0, 0⟩
  , -- SOL_L_SHADOW_DIFF (R289), lanes 64 up
    ⟨0x1C0020, 0x400, 64, 0x0, [], true, false, 0, 0⟩ ]

/-- The rows of BAR0 window 0x1D_0000. -/
def regRows1D : List RegRow :=
  [ -- SOL_L_SAT (R289), lanes 128 up
    ⟨0x1D0018, 0x400, 64, 0x0, [], true, false, 0, 0⟩
  , -- SOL_L_MEM_CORR (R289), lanes 128 up
    ⟨0x1D001C, 0x400, 64, 0x0, [], true, false, 0, 0⟩
  , -- SOL_L_SHADOW_DIFF (R289), lanes 128 up
    ⟨0x1D0020, 0x400, 64, 0x0, [], true, false, 0, 0⟩ ]

/-- The rows of BAR0 window 0x1E_0000. -/
def regRows1E : List RegRow :=
  [ -- SOL_L_SAT (R289), lanes 192 up
    ⟨0x1E0018, 0x400, 16, 0x0, [], true, false, 0, 0⟩
  , -- SOL_L_MEM_CORR (R289), lanes 192 up
    ⟨0x1E001C, 0x400, 16, 0x0, [], true, false, 0, 0⟩
  , -- SOL_L_SHADOW_DIFF (R289), lanes 192 up
    ⟨0x1E0020, 0x400, 16, 0x0, [], true, false, 0, 0⟩ ]

/-- The rows of BAR0 window 0x20_0000. -/
def regRows20 : List RegRow :=
  [ -- PLN_CTRL (R306)
    ⟨0x200000, 0x0, 1, 0x14, [⟨0, 1, 0, 1⟩, ⟨1, 3, 0, 7⟩, ⟨4, 1, 0, 1⟩], false, false, 0, 0⟩
  , -- PLN_REFUSED
    ⟨0x200010, 0x0, 1, 0x0, [], true, false, 0, 0⟩
  , -- PLN_G_CAP
    ⟨0x200104, 0x20, 16, 0x0, [⟨0, 24, 0, 16777215⟩], false, false, 0, 0⟩
  , -- PLN_G_ETA
    ⟨0x200108, 0x20, 16, 0x100000, [⟨0, 32, 0, 4294967295⟩], false, false, 0, 0⟩
  , -- PLN_G_PMAX
    ⟨0x20010C, 0x20, 16, 0x10000000, [⟨0, 32, 0, 4294967295⟩], false, false, 0, 0⟩ ]

/-- The rows of BAR0 window 0x21_0000. -/
def regRows21 : List RegRow :=
  [ -- GRD_CTRL (R336; GRD_EN_WRITE has its own row)
    ⟨0x210000, 0x0, 1, 0x0, [⟨0, 1, 0, 1⟩], false, false, 0, 0⟩
  , -- GRD_GANG
    ⟨0x210008, 0x0, 1, 0x2B8, [⟨0, 8, 0, 255⟩, ⟨8, 2, 1, 2⟩], false, false, 0, 0⟩
  , -- GRD_END
    ⟨0x21000C, 0x0, 1, 0x400, [⟨0, 11, 128, 1208⟩], false, false, 0, 0⟩
  , -- GRD_VHUMAN
    ⟨0x210010, 0x0, 1, 0x640, [⟨0, 32, 1600, 5000⟩], false, false, 0, 0⟩
  , -- GRD_AGE_LIMIT
    ⟨0x210014, 0x0, 1, 0x1388, [⟨0, 32, 500, 100000⟩], false, false, 0, 0⟩
  , -- GRD_STREAM_LIMIT
    ⟨0x210018, 0x0, 1, 0x4E20, [⟨0, 32, 500, 1000000⟩], false, false, 0, 0⟩
  , -- GRD_ZR
    ⟨0x21001C, 0x0, 1, 0x2710, [⟨0, 32, 0, 100000⟩], false, false, 0, 0⟩
  , -- GRD_C_STALE
    ⟨0x210020, 0x0, 1, 0x30D40, [⟨0, 32, 0, 1000000⟩], false, false, 0, 0⟩
  , -- GRD_XTOL
    ⟨0x210024, 0x0, 1, 0x7D0, [⟨0, 32, 100, 50000⟩], false, false, 0, 0⟩
  , -- GRD_VSTILL
    ⟨0x210028, 0x0, 1, 0xA, [⟨0, 32, 1, 100⟩], false, false, 0, 0⟩
  , -- GRD_STOP_MARGIN
    ⟨0x21002C, 0x0, 1, 0x32, [⟨0, 32, 0, 1000⟩], false, false, 0, 0⟩
  , -- GRD_RX_DROP
    ⟨0x210044, 0x0, 1, 0x0, [], true, false, 0, 0⟩
  , -- GRD_TRK_UDP
    ⟨0x210048, 0x0, 1, 0xCB929, [⟨0, 20, 0, 1048575⟩], false, false, 0, 0⟩
  , -- GRD_DIVERGE_CNT
    ⟨0x21004C, 0x0, 1, 0x0, [], true, false, 0, 0⟩
  , -- GRD_S_CFG
    ⟨0x210100, 0x10, 8, 0x0, [⟨0, 1, 0, 1⟩, ⟨16, 16, 0, 65535⟩], false, false, 0, 0⟩
  , -- GRD_S_REGIONS
    ⟨0x210104, 0x10, 8, 0x0, [⟨0, 16, 0, 65535⟩], false, false, 0, 0⟩
  , -- GRD_A_VCAP
    ⟨0x210204, 0x20, 16, 0x0, [⟨0, 16, 0, 65535⟩], false, false, 0, 0⟩ ]

/-- The rows of BAR0 window 0x22_0000. -/
def regRows22 : List RegRow :=
  [ -- PRS_WAIT_MAX (R361)
    ⟨0x220004, 0x0, 1, 0x64, [⟨0, 14, 1, 10000⟩], false, false, 0, 0⟩
  , -- PRS_PLAN_POLICY
    ⟨0x220008, 0x0, 1, 0x0, [⟨0, 8, 0, 255⟩], false, false, 0, 0⟩
  , -- PRS_COMMITS
    ⟨0x220010, 0x0, 1, 0x0, [], true, false, 0, 0⟩
  , -- PRS_ABORTS
    ⟨0x220014, 0x0, 1, 0x0, [], true, false, 0, 0⟩
  , -- PRS_LATE
    ⟨0x220018, 0x0, 1, 0x0, [], true, false, 0, 0⟩ ]

/-- The rows of BAR0 window 0x23_0000. -/
def regRows23 : List RegRow :=
  [ -- GSC_CTRL (R386)
    ⟨0x230000, 0x0, 1, 0x1, [⟨0, 1, 0, 1⟩], false, false, 0, 0⟩
  , -- GSC_PLACED
    ⟨0x230010, 0x0, 1, 0x0, [], true, false, 0, 0⟩
  , -- GSC_DROPPED
    ⟨0x230020, 0x0, 1, 0x0, [], true, false, 0, 0⟩
  , -- GSC_LOST
    ⟨0x230024, 0x0, 1, 0x0, [], true, false, 0, 0⟩
  , -- GSC_SKIP
    ⟨0x230028, 0x0, 1, 0x0, [], true, false, 0, 0⟩
  , -- GSC_FAULTS
    ⟨0x23002C, 0x0, 1, 0x0, [], true, false, 0, 0⟩
  , -- GSC_SEL
    ⟨0x230040, 0x0, 1, 0x0, [⟨0, 13, 0, 8191⟩], false, true, 0, 0⟩
  , -- GSC_W_RUNS
    ⟨0x231008, 0x10, 256, 0x0, [], true, false, 0, 0⟩ ]

/-- The rows of BAR0 window 0x24_0000. -/
def regRows24 : List RegRow :=
  [ -- MBX_CROSS_CNT (R440)
    ⟨0x240004, 0x0, 1, 0x0, [], true, false, 0, 0⟩
  , -- MBX_TX0-7
    ⟨0x240010, 0x4, 8, 0x0, [⟨0, 32, 0, 4294967295⟩], false, true, 0, 0⟩
  , -- LCK_BADWRITE
    ⟨0x248204, 0x0, 1, 0x0, [], true, false, 0, 0⟩ ]

/-- The rows of BAR0 window 0x25_0000. -/
def regRows25 : List RegRow :=
  [ -- HLT_CTRL (R460)
    ⟨0x250000, 0x0, 1, 0x53, [⟨0, 2, 0, 3⟩, ⟨4, 4, 0, 15⟩], false, false, 0, 0⟩
  , -- HLT_DARNS
    ⟨0x250014, 0x0, 1, 0x0, [], true, false, 0, 0⟩
  , -- HLT_STOP_LIMIT
    ⟨0x250018, 0x0, 1, 0x7D0, [⟨0, 14, 100, 10000⟩], false, false, 0, 0⟩
  , -- HLT_LOG_SEL
    ⟨0x250024, 0x0, 1, 0x0, [⟨0, 12, 0, 4095⟩], false, true, 0, 0⟩
  , -- HLT_WSEL
    ⟨0x250028, 0x0, 1, 0x0, [⟨0, 32, 0, 4294967295⟩], false, true, 0, 0⟩
  , -- HLT_C_THRESH
    ⟨0x250104, 0x10, 6, 0x8000, [⟨0, 16, 1024, 65534⟩], false, false, 0, 0⟩
  , -- HLT_C_DARNS
    ⟨0x25010C, 0x10, 6, 0x0, [], true, false, 0, 0⟩ ]

/-- The rows of BAR0 window 0x26_0000. -/
def regRows26 : List RegRow :=
  [ -- FLT_CTRL (R479)
    ⟨0x260000, 0x0, 1, 0x1, [⟨0, 1, 0, 1⟩], false, false, 0, 0⟩
  , -- FLT_LINT_HOLDOFF
    ⟨0x260008, 0x0, 1, 0x3E8, [⟨0, 32, 100, 100000⟩], false, false, 0, 0⟩
  , -- FLT_LINT_FULL
    ⟨0x26000C, 0x0, 1, 0x0, [], true, false, 0, 0⟩
  , -- FLT_LOST0-5
    ⟨0x260028, 0x4, 6, 0x0, [], true, false, 0, 0⟩
  , -- FLT_QSEL
    ⟨0x260080, 0x0, 1, 0x0, [⟨0, 3, 0, 7⟩, ⟨8, 6, 0, 63⟩], false, true, 0, 0⟩ ]

/-- The rows of BAR0 window 0x27_0000. -/
def regRows27 : List RegRow :=
  [ -- TRC_DROP_TOTAL (R496)
    ⟨0x270008, 0x0, 1, 0x0, [], true, false, 0, 0⟩
  , -- TRC_T_DROP
    ⟨0x271018, 0x40, 64, 0x0, [], true, false, 0, 0⟩
  , -- TRC_T_RETRIG
    ⟨0x27101C, 0x40, 64, 0x0, [], true, false, 0, 0⟩
  , -- MEM_SCRUB
    ⟨0x278004, 0x0, 1, 0xC01, [⟨0, 1, 0, 1⟩, ⟨7, 8, 1, 168⟩], false, false, 0, 0⟩
  , -- MEM_RETIRE
    ⟨0x278010, 0x0, 1, 0x4, [⟨0, 8, 1, 255⟩], false, false, 0, 0⟩
  , -- MEM_CORR
    ⟨0x278018, 0x0, 1, 0x0, [], true, false, 0, 0⟩
  , -- MEM_UNCORR
    ⟨0x27801C, 0x0, 1, 0x0, [], true, false, 0, 0⟩ ]

/-- The rows that can cover an offset, by its 64 KiB window. -/
def regRows (win : Nat) : List RegRow :=
  match win with
  | 0x01 => regRows01
  | 0x02 => regRows02
  | 0x03 => regRows03
  | 0x04 => regRows04
  | 0x05 => regRows05
  | 0x06 => regRows06
  | 0x08 => regRows08
  | 0x09 => regRows09
  | 0x0A => regRows0A
  | 0x0C => regRows0C
  | 0x10 => regRows10
  | 0x11 => regRows11
  | 0x12 => regRows12
  | 0x13 => regRows13
  | 0x14 => regRows14
  | 0x18 => regRows18
  | 0x1A => regRows1A
  | 0x1B => regRows1B
  | 0x1C => regRows1C
  | 0x1D => regRows1D
  | 0x1E => regRows1E
  | 0x20 => regRows20
  | 0x21 => regRows21
  | 0x22 => regRows22
  | 0x23 => regRows23
  | 0x24 => regRows24
  | 0x25 => regRows25
  | 0x26 => regRows26
  | 0x27 => regRows27
  | _ => []

/-- The row of an offset. -/
def regRow (off : Nat) : Option RegRow := (regRows (off / 65536)).find? fun r => rowHas r off

/-- The reset value of the register at an offset, 0 where it holds no value of its own. -/
def regReset (off : Nat) : Nat :=
  match regRow off with
  | some r => r.reset
  | none => 0

end Sys2Proof.Machine
end

