-- ==== Sys2Proof/Machine/Types.lean ====
section
/-!
DEFINITION. The state of the units that the host, the keeper, the time unit, the press unit, the scheduler, the fault
collector and the health manager hold. Every structure is plain data; its defaults are the values after a cold reset.
-/
namespace Sys2Proof.Machine

/-! ### Cells, regions and handles (R12 to R34) -/

/-- The states of a region (R21). -/
inductive RegionState where
  | empty | active | hold | service | safeOff | mending
deriving DecidableEq, Repr

/-- The device modes (R498); `boot` is the phase in which MOD_MODE reads 7. -/
inductive Mode where
  | dormant | prepare | run | hold | safeOff | service | boot
deriving DecidableEq, Repr

/-- A region (R20 to R26, R466, R473, R476, R571). -/
structure Region where
  st : RegionState := .empty
  /-- SERVICE cap in mm/s (R571). -/
  cap : Nat := 250
  /-- Event codes of the SAFE_OFF faults latched in the region (R462, R477). -/
  latched : List Nat := []
  /-- FLT_WARM_HELD (R476). -/
  warmHeld : Bool := false
  /-- The supervisor core that hosts it (R473); the reset value of FLT_HOSTED is 0xE4E4E4E4. -/
  hosted : Nat := 0
  /-- The rank of the highest cause that acted on it in this frame (R23). -/
  causeRank : Option Nat := none
  /-- A transition to EMPTY that is due and has not been taken (R23). -/
  emptyDue : Bool := false
  /-- The patch press that took it to MENDING (R360). -/
  mendingBy : Option Nat := none
  /-- Elapsed time at which it entered HOLD or MENDING from another state, and the greatest capsule speed of its arms at the last
  capture before (R332), in µm/s. -/
  stillSince : Option Nat := none
  v0 : Nat := 0
deriving DecidableEq, Repr

/-- The head of an object: its generation, the host function that created it (16 for the device), and the press slot in
which its create is staged (R27 to R31, R390). -/
structure ObjHead where
  gen : Nat
  creator : Nat
  staged : Option Nat := none
deriving DecidableEq, Repr

/-- The free list of a class: the indices never used yet, from `fresh` up, and then the indices given back (R29). -/
structure FreeList where
  fresh : Nat := 0
  back : List Nat := []
deriving DecidableEq, Repr

/-- A scale record (R16). -/
structure Scale where
  kind : Nat := 0
  fullScale : Nat := 0
  offset : Int := 0
  gain : Int := 0
  ratio : Int := 0
  polePairs : Nat := 0
  reversed : Bool := false
deriving DecidableEq, Repr

/-- An arm (R12, R15, R20). -/
structure Arm where
  aux : Bool
  region : Nat
  /-- Joint indices in joint order (R15). -/
  joints : List Nat := []
deriving DecidableEq, Repr

/-- A joint (R13, R14, R403). -/
structure Joint where
  arm : Nat
  stepper : Bool
  port : Nat
  /-- Ring position 1 to 8. -/
  pos : Nat
  fbch : Option Nat
  scale : Scale
  /-- The switching channel that serves it (R162). -/
  swch : Nat
deriving DecidableEq, Repr

/-! ### Host rings (R388 to R416) -/

/-- A descriptor that the host ring engine has accepted, or that a SUBMIT node has submitted (R396, R398, R368). -/
structure Acc where
  op : Nat
  d : Desc
  /-- The pair whose CQ takes its completions. -/
  pair : Nat
  /-- The generation of that pair at acceptance: nothing is written for a pair that has gone down since (R412). -/
  gen : Nat := 1
  /-- Its position count, or the template's SEQUENCE byte when submitted. -/
  pos : Nat
  /-- The stamped requester ID (R396). -/
  req : Nat
  /-- Completions carry SUBMITTED (R368). -/
  submitted : Bool := false
  /-- The SUBMIT node that submitted it. -/
  node : Option Nat := none
  /-- The result status and PIVOT_REG count that a submitted member carries (R350, R368). -/
  result : Option (Nat × Nat) := none
  /-- WALL32 at acceptance. -/
  wall : Nat := 0
  /-- Frame of acceptance. -/
  frame : Nat := 0
deriving DecidableEq, Repr

/-- A completion in a CQ slot (R397). -/
structure Completion where
  seq : Nat
  status : Nat
  flags : Nat
  handle : Nat
  detail : Nat
deriving DecidableEq, Repr

/-- An event record (R569). -/
structure EventRec where
  wall : Nat
  code : Nat
  cls : Nat
  flags : Nat
  handle : Nat
  line : Nat
  count : Nat
  detail : Nat
deriving DecidableEq, Repr

/-- Ring states (R415). -/
inductive RingState where
  | down | up | draining
deriving DecidableEq, Repr

/-- One route of an event ring (R404). -/
structure Route where
  lo : Nat
  hi : Nat
  minClass : Nat
  cell : Bool
  regions : Nat
deriving DecidableEq, Repr

/-- A descriptor fetched and not yet accepted: OPCODE, SEQUENCE, the rest, and its position count (R394, R396, R400). -/
structure Fetched where
  op : Nat
  seq : Nat
  d : Desc
  pos : Nat
  /-- The SUBMIT node whose template it is (R368, R400). -/
  node : Option Nat := none
deriving DecidableEq, Repr

/-- A ring: pairs 0 to 255, event rings 256 to 319 (R391, R409, R410, R415). -/
structure Ring where
  st : RingState := .down
  owner : Nat := 0
  vector : Nat := 0
  weight : Nat := 4
  coalCount : Nat := 1
  coalTimeUs : Nat := 0
  baseA : Nat := 0
  baseC : Nat := 0
  log2a : Nat := 4
  log2c : Nat := 4
  /-- Next SQ slot to fetch. -/
  sqHead : Nat := 0
  /-- Last tail accepted. -/
  sqTail : Nat := 0
  /-- Position count of the next descriptor (R396). -/
  pos : Nat := 0
  /-- Next write index of the CQ or of the event ring. -/
  wr : Nat := 0
  phase : Bool := true
  /-- Last head accepted from the host. -/
  head : Nat := 0
  /-- CQ entries reserved (R399). -/
  resv : Nat := 0
  /-- The entries last written to each slot of the CQ in host memory. -/
  cq : Map Completion := []
  /-- The entries last written to each slot of the event ring in host memory. -/
  ev : Map EventRec := []
  routes : Map Route := []
  /-- Records have been dropped and the host has freed no entry since (R406). -/
  lossEpisode : Bool := false
  /-- The next record carries LOST (R406). -/
  lostFlag : Bool := false
  /-- A doorbell error was raised and no doorbell accepted since (R393). -/
  dbErr : Bool := false
  /-- Pending entries of R407. -/
  pend : Nat := 0
  /-- Elapsed time at which the oldest pending entry was written. -/
  pendSince : Nat := 0
  /-- A message of the ring waits for its masked vector (R407). -/
  msgDue : Bool := false
  /-- A tail doorbell has made entries available and a read has been issued (R394). -/
  fetching : Bool := false
  /-- Descriptors fetched that wait for acceptance, oldest first. -/
  waiting : List Fetched := []
  /-- Descriptors still to be taken in the present turn (R400). -/
  turn : Nat := 0
  /-- Descriptors accepted whose only or staging completion is not yet written (R396 FENCE). -/
  open_ : Nat := 0
  /-- The DESTROY that drains the pair (R411). -/
  drainBy : Option Acc := none
  /-- The admin pair is to come up at the next frame boundary (R409). -/
  upDue : Bool := false
  /-- HST_F_ACTRL.EN written 0: down at the next boundary (R409). -/
  downDue : Bool := false
deriving DecidableEq, Repr

/-- The host interface beside its rings. -/
structure HostSt where
  rings : Map Ring := []
  /-- Bus Master Enable of each function, and whether it took effect (R409): the frame from which fetching runs. -/
  busMaster : Map Nat := []
  /-- HST_F_STAT.DOWN_REFUSED of each function. -/
  downRefused : List Nat := []
  /-- NumVFs enabled. -/
  numVf : Nat := 0
  /-- MSI-X vectors unmasked, keyed 64 f + v (R407). -/
  unmasked : List Nat := []
  /-- MSI-X pending bits, keyed 64 f + v. -/
  pba : List Nat := []
  /-- The address and data words of the MSI-X table, keyed 4 (64 f + v) + word (R392). -/
  msixTable : Map Nat := []
  /-- The last read returned poisoned data, with the EP bit (R484). -/
  poisonedRead : Bool := false
  /-- Functions whose AER has reported a poisoned TLP (R388, R484). -/
  aer : List Nat := []
  /-- Messages sent on each vector, keyed 64 f + v, with the instant of the last: (count, instant). -/
  msix : Map (Nat × Nat) := []
  /-- Immediate descriptors accepted whose effect is due at the next frame boundary, in order of acceptance (R30, R34). -/
  imm : List Acc := []
  /-- Of those, the ones that wait for a part to wake from P1 (R538). -/
  asleep : List Acc := []
  /-- Descriptors accepted in this frame (R400). -/
  accepted : Nat := 0
  /-- The pair that the round-robin serves next (R400). -/
  rr : Nat := 0
  /-- The value that each requester's last register read has returned. -/
  readBack : Map Nat := []
  /-- Latched hi words, keyed by requester and offset (R6). -/
  hiLatch : Map Nat := []
  /-- Held lo writes, keyed by requester and offset (R6). -/
  loHeld : Map Nat := []
  /-- Bytes last written to host memory outside the rings: function, address, bytes. -/
  hostWrite : Option (Nat × Nat × List Byte) := none
  /-- Functions in which the PCI Express link answers with configuration retry (R505). -/
  crs : Bool := true
  /-- The link trains or is up (R505). -/
  linkUp : Bool := false
  /-- PERST_N is held low. -/
  perst : Bool := false
deriving DecidableEq, Repr

/-! ### Time (R35 to R67) -/

/-- The servo states (R61). -/
inductive Servo where
  | freerun | locking | locked | holdover
deriving DecidableEq, Repr

/-- A snapshot (R54). -/
structure Snap where
  ptp : Int
  elapsed : Nat
  frame : Nat
  line : Nat
deriving DecidableEq, Repr

/-- A line source (R38, R39, R46, R49 to R51). -/
structure LineSrc where
  pub : Bool
  reversed : Bool := false
  stream : Nat := 0
  fbch : Nat := 0
  cpp : Nat := 0
  ageUs : Nat := 4000
  group : Nat := 0
  udpPort : Nat := 47400
  ports : Nat := 0
  /-- The channel's count when the source was created. -/
  base : Int := 0
  lastSeq : Option Nat := none
  /-- Sample time of the last accepted frame, in PTP ns. -/
  t0 : Int := 0
  l0 : Nat := 0
  speed : Int := 0
  accel : Int := 0
  stopped : Bool := false
  srcFault : Bool := false
  stale : Bool := false
  /-- A fault has been reported and stands. -/
  faulted : Bool := false
deriving DecidableEq, Repr

/-- One Ethernet port (R55 to R60, R66). -/
structure EthPort where
  /-- ETH_PTPSTAT.portState (R66). -/
  state : Nat := 3
  /-- The measured path delay, TimeInterval (R66): a free value once messages have arrived. -/
  mpd : Int := 0
  /-- The operational gate list: gate states and interval in ns. -/
  oper : List (Nat × Nat) := []
  operBase : Nat := 0
  operCycle : Nat := 0
  /-- The scheduled administrative list: entries, base and cycle. -/
  admin : Option (List (Nat × Nat) × Nat × Nat) := none
  /-- The first cycle start of the scheduled list, PTP time in ns (R60). -/
  adminStart : Int := 0
  /-- Index of the entry in force. -/
  entry : Nat := 0
  /-- Elapsed time at which the entry in force began, and at which the cycle under way ends (R60). -/
  entryAt : Nat := 0
  cycleEnd : Nat := 0
  /-- Ingress stamp of the last event message, units of 2^-16 ns. -/
  rxStamp : Int := 0
  /-- Corrected egress stamp of the last event message sent. -/
  txStamp : Int := 0
  /-- The last PTP message sent: its bytes. -/
  txMsg : List Byte := []
  /-- The UDP checksum that the port set in the last message sent, none where the message leaves with the firmware's (R59). -/
  txSum : Option Nat := none
  /-- Elapsed time of the last Sync and of the last Pdelay_Req sent (R55, R66). -/
  syncTx : Option Nat := none
  pdelayTx : Option Nat := none
  /-- The last line-publication payload sent on the port (R47), and its destination: the UDP port of TIM_PUB_UDP and the group of
  TIM_PUB_GROUP0 to 3 (R65). -/
  txPub : List Byte := []
  txPubPort : Nat := 0
  txPubGroup : List Nat := []
deriving DecidableEq, Repr

/-- The time unit. Time is held exactly, in units of 1 / (2048 · 10^9) ns: one control cycle at fadj 0 is 25 · 256 · 10^9
units. -/
structure TimeSt where
  frame : Nat := 0
  /-- Control-clock cycles since the frame's boundary, 0 to 63. -/
  cycle : Nat := 0
  elapsed : Nat := 0
  ptp : Int := 0
  /-- Frequency adjustment, signed Q24.8 ppb. -/
  fadj : Int := 0
  /-- PI integrator, in units of 2^-32 ppb. -/
  integ : Int := 0
  servo : Servo := .freerun
  /-- HOLD_CAUSE: 0 none, 1 refused, 2 master lost, 3 forced. -/
  holdCause : Nat := 0
  /-- Armed step: MAX_STEP in ns (R63). -/
  stepArmed : Option Nat := none
  /-- A step to be taken at the next frame boundary, in units of 2^-16 ns (R62, R64). -/
  stepDue : Option Int := none
  lockCount : Nat := 0
  /-- Last offset, units of 2^-16 ns. -/
  offset : Int := 0
  activePort : Nat := 15
  /-- Elapsed time at which three sync intervals have run since the last Sync (R61). -/
  lostAt : Nat := 0
  /-- grandmasterIdentity and domainNumber of the parent dataset (R47, R49). -/
  gm : Nat := 0
  domain : Nat := 0
  /-- WALL32 of the frame: the PTP time at the boundary that starts it (R52). -/
  wallF : Nat := 0
  /-- PTP time and elapsed time at the boundary that started the frame. -/
  ptpF : Int := 0
  elapsedF : Nat := 0
  snaps : Map Snap := []
  eth : Map EthPort := []
deriving DecidableEq, Repr

/-- The line axis (R37 to R51). -/
structure LineSt where
  line : Nat := 0
  prev : Nat := 0
  hwm : Nat := 0
  reverseArmed : Bool := true
  desig : Option Nat := none
  joinOff : Nat := 0
  corr : Int := 0
  rawPrev : Nat := 0
  frozen : Bool := false
  /-- LINE_STATE: 0 STOPPED, 1 FORWARD, 2 BACKWARD. -/
  state : Nat := 0
  /-- TIM_LINE_SPEED at the last plan ticks, newest first (R48). -/
  speeds : List Int := []
  pubSeq : Nat := 0
  /-- How far the axis, and the high-water mark, stepped at this boundary (R40, R51, R246). -/
  stepBy : Int := 0
  stepHwm : Int := 0
  /-- The axis stepped or was re-designated since the last publication (R47 FLAGS.STEP). -/
  pubStep : Bool := false
  /-- The source was designated at this frame: line-keyed entries behind the axis fire (R41). -/
  joined : Bool := false
deriving DecidableEq, Repr

/-! ### Presses (R338 to R362) -/

/-- What a press member does at the commit (R346). -/
inductive Member where
  /-- A staged descriptor and the handle it reserved. -/
  | desc (a : Acc) (handle : Nat)
  /-- The spare substitution of the darn press: class index, worn and spare instance (R451). -/
  | darn (cls worn spare : Nat)
  /-- The plan member of an arm (R298, R358). -/
  | plan (arm : Nat)
  /-- The reset of a region in the recovery press (R474, R475). -/
  | reset (region : Nat)
deriving DecidableEq, Repr

/-- The phases of a press slot (R339). -/
inductive Phase where
  | free | open_ | armed | ready
deriving DecidableEq, Repr

/-- A press slot (R338 to R361). -/
structure Press where
  phase : Phase := .free
  owner : Nat := 0
  patch : Bool := false
  /-- KIND of PRS_P_CFG: 0 device, 1 PLAIN, 2 PATCH. -/
  kind : Nat := 0
  strict : Bool := false
  hold : Bool := false
  event : Bool := false
  maxPivots : Nat := 0
  regions : Nat := 0
  poisoned : Bool := false
  axis : Nat := 0
  grain : Nat := 0
  key : Nat := 0
  /-- The PRESS_ARM whose completion is due when the press closes. -/
  armAcc : Option Acc := none
  /-- The pair that carried the PRESS_OPEN (R411). -/
  pair : Nat := 256
  members : List Member := []
  armFrame : Nat := 0
  /-- The PTP time in ns at which a wall key is reached (R53, R64). -/
  full : Int := 0
  /-- KEY was at or behind its axis in that frame (R43, R53). -/
  behind : Bool := false
  armElapsed : Nat := 0
  /-- The checks of R348 are complete. -/
  checked : Bool := false
  /-- The members that waited when they were (R349). -/
  waited : List Nat := []
  /-- The commit frame once known. -/
  commit : Option Nat := none
  lastCommitted : Bool := false
  lastReason : Nat := 0
  lastFrame : Nat := 0
  /-- Plan press: the plan k it carries (R358). -/
  plan : Nat := 0
deriving DecidableEq, Repr

/-! ### Graph scheduler (R363 to R387) -/

/-- Where a node stands (R386 GSC_N_STAT). -/
inductive NodeState where
  | idle | ready | parked | prefetched | inFlight | error | blocked | held
deriving DecidableEq, Repr

/-- An edge from an output port (R367). -/
structure Edge where
  out : Nat
  dst : Nat
  port : Nat
deriving DecidableEq, Repr

/-- A node (R363 to R368, R379, R380). -/
structure Node where
  op : Nat := 6
  prio : Nat := 0
  region : Nat := 0xFF
  states : Nat := 0
  flow : Option Nat := none
  deadlineUs : Nat := 0
  dlClass : Nat := 0
  inMask : Nat := 1
  cap : Nat := 1
  /-- ARGS, descriptor bytes 32 to 63. -/
  args : Nat := 0
  owner : Nat := 32
  tokens : Map Nat := []
  /-- Places reserved in each input port (R368). -/
  reserved : Map Nat := []
  edges : List Edge := []
  st : NodeState := .idle
  /-- Places this node has reserved at its outputs. -/
  held : List Edge := []
  /-- Elapsed time since which it meets the conditions of R368, and that it has met them since (R380). -/
  readyAt : Nat := 0
  met : Bool := false
  /-- The ports that gave a token at its placement (R372). -/
  taken : List Nat := []
  runs : Nat := 0
  last : Nat := 0
  worker : Nat := 0
  /-- GSC_NO_WORKER has been raised for this wait (R372). -/
  noWorker : Bool := false
  /-- A SUBMIT node's staging or only completion has been written (R368). -/
  ended : Bool := false
  /-- The template of a SUBMIT node in flight has been submitted (R368). -/
  sent : Bool := false
  /-- A reset member of the recovery press or a graph edit holds the node (R382, R474): the slots. -/
  holders : List Nat := []
deriving DecidableEq, Repr

/-- A flow: its queue, head first (R374). -/
structure Flow where
  queue : List Nat := []
  /-- The flow places no member (R473). -/
  quarantined : Bool := false
deriving DecidableEq, Repr

/-- A pending delay entry: key, insertion order, frame of insertion, and whether its key was at or behind the axis then
(R43, R53). -/
structure DelayEntry where
  key : Nat
  /-- The PTP time in ns at which a wall key is reached (R53, R64). -/
  full : Int := 0
  order : Nat
  frame : Nat
  behind : Bool
deriving DecidableEq, Repr

/-- A DELAY (R375, R376). -/
structure Delay where
  wall : Bool
  periodic : Bool
  port : Nat
  node : Nat
  period : Nat
  entry : Option DelayEntry := none
deriving DecidableEq, Repr

/-- A GSC_WAIT (R381). -/
structure Wait where
  acc : Acc
  node : Nat
  left : Nat
  /-- Elapsed time at which it times out. -/
  until_ : Option Nat
deriving DecidableEq, Repr

/-- A worker: prefetched nodes in order, and the node running (R370). -/
structure Worker where
  prefetch : List Nat := []
  running : Option Nat := none
  /-- A DMA engine quarantined under R473. -/
  quarantined : Bool := false
deriving DecidableEq, Repr

/-- The scheduler. -/
structure GscSt where
  nodes : Map Node := []
  flows : Map Flow := []
  delays : Map Delay := []
  /-- The 32 ready lists, each head first (R373). -/
  lists : Map (List Nat) := []
  workers : Map Worker := []
  waits : List Wait := []
  /-- Order of the next delay insertion (R377). -/
  order : Nat := 0
  latMax : Nat := 0
deriving DecidableEq, Repr

/-! ### Faults (R462 to R480) -/

/-- A Lint Trap entry (R472, R479). -/
structure Lint where
  origin : Nat
  code : Nat
  cls : Nat
  /-- Reports since the entry opened. -/
  count : Nat
  /-- Reports counted in the window, the opening report excluded. -/
  window : Nat
  /-- Elapsed time at which the window ends. -/
  ends : Nat
  lifted : Bool := false
  credited : Bool := false
  last : EventRec
deriving DecidableEq, Repr

/-- A class action due at the next frame boundary (R464): the target rank (1 HOLD, 3 SAFE_OFF), the scope and the code. -/
structure Action where
  safeOff : Bool
  regions : List Nat
  code : Nat
deriving DecidableEq, Repr

/-- A quarantined origin (R473). -/
structure Quarantine where
  origin : Nat
  handle : Nat
  /-- 1 supervisor core, 2 DMA engine, 3 flow, 4 solver lane. -/
  kind : Nat
deriving DecidableEq, Repr

/-- A warm start: the handle and origin of its cause, its dependent regions, and the FLT_CLEAR that asked for it (R474). -/
structure WarmReq where
  handle : Nat
  origin : Nat
  regions : List Nat
  acc : Option Acc := none
  /-- The record whose handling decides it: the cause's code, source handle and low detail word (R470). -/
  code : Nat := 0
  src : Nat := 0
  detail : Nat := 0
deriving DecidableEq, Repr

/-- A supervisor core's self-test (R570): 0 none, 1 running, 2 passed, 3 failed. -/
structure SupCore where
  quarantined : Bool := false
  test : Nat := 0
  lastPass : Bool := false
  lastFail : Bool := false
  /-- Mailbox signals received, as interrupts (R433). -/
  signals : Nat := 0
  /-- The last signal: kind 1 arrival, 2 empty by NOTIFY, 3 empty by waiting send, 4 cross; and the mailbox. -/
  lastSignal : Nat × Nat := (0, 0)
deriving DecidableEq, Repr

/-- The fault collector. -/
structure FltSt where
  lint : Map Lint := []
  queues : Map (List EventRec) := []
  /-- Reports of class CORRECTED and above of the present control-clock cycle, with their origins, not yet taken by the Lint Trap (R472). -/
  arrived : List (EventRec × Nat) := []
  /-- The classes of the records being handled: the one in work, then those it has suspended (R470). -/
  handling : List Nat := []
  /-- Classes whose queue is in a full episode (R469). -/
  fullEpisode : List Nat := []
  actions : List Action := []
  /-- A FATAL report acts at the next boundary: its cause. -/
  fatalDue : Option Nat := none
  /-- FLT_FATAL_CAUSE, 0 none. -/
  fatal : Nat := 0
  /-- Standing causes reported: code and key (R465). -/
  standing : List (Nat × Nat) := []
  quarantines : List Quarantine := []
  /-- Causes of warm starts whose origin has just been quarantined (R473). -/
  warmReqs : List WarmReq := []
  /-- The warm starts that the open recovery press carries. -/
  warmNow : List WarmReq := []
  /-- Warm starts raised while the recovery press is READY. -/
  warmWait : List WarmReq := []
  /-- Those of a recovery press that aborted with MODE and opens again (R474). -/
  warmReopen : List WarmReq := []
  wsCount : Nat := 0
  wsCause : Nat := 0
  wsOrigin : Nat := 0
  wsRegions : Nat := 0
  sup : Map SupCore := []
deriving DecidableEq, Repr

/-! ### Health (R442 to R461) -/

/-- An instance of a spared class: state code of R421, wear score, last input row of R444. -/
structure Inst where
  code : Nat := 0
  wear : Nat := 0
  row : Nat := 0
  /-- Set when marked failed. -/
  failed : Bool := false
deriving DecidableEq, Repr

/-- A queued darn request (R450). -/
structure DarnReq where
  cls : Nat
  worn : Nat
  failed : Bool
  accs : List Acc := []
  aborts : Nat := 0
  /-- The spare to run it again with (R453). -/
  spare : Option Nat := none
deriving DecidableEq, Repr

/-- A running test (R447, R448, R449). -/
structure TestRun where
  cls : Nat
  inst : Nat
  /-- The spare that shadows it, for a shadow test. -/
  spare : Option Nat
  acc : Option Acc
  /-- Part of a shadow test's or darn's aftermath: the instance to which a mismatch is attributed on a pass. -/
  blame : Option Nat := none
  /-- The worn instance whose darn a mismatch of this spare has aborted: it runs again with another spare (R453). -/
  bar : Option Nat := none
  /-- A shadow test: units met and required (R442), the units of each kind, and whether results differed. -/
  met : Nat := 0
  need : Nat := 0
  prog : Map Nat := []
  diff : Bool := false
deriving DecidableEq, Repr

/-- A darn log entry (R460). -/
structure LogEntry where
  seq : Nat
  kind : Nat
  reason : Nat
  worn : Nat
  spare : Nat
  sec : Nat
  ns : Nat
  wear : Nat
  frame : Nat
deriving DecidableEq, Repr

/-- The state record of the MRAM ledger (R455). -/
structure Ledger where
  /-- Instances that differ from their reset state, keyed TYPE · 65536 + instance. -/
  insts : Map Inst := []
  cnvMap : Nat := 0x76543210
  /-- The places of the spares in service: logical lanes and pair slots (R456). -/
  lmap : Map (Nat × Bool) := []
  pairMap : Map Nat := []
  thresh : Map Nat := []
  /-- The darn queue: class, worn instance, failed. -/
  queue : List (Nat × Nat × Bool) := []
  /-- A darn whose press is READY and whose commit mark is not written: class, worn instance, spare (R455). -/
  pend : Option (Nat × Nat × Nat) := none
  seq : Nat := 0
  /-- Both copies are bad. -/
  bad : Bool := false
deriving DecidableEq, Repr

/-- The health manager. -/
structure HltSt where
  /-- Instances that differ from their reset state, keyed TYPE · 65536 + instance. -/
  insts : Map Inst := []
  queue : List DarnReq := []
  /-- Instances that have become worn or failed and still await the reaction of R446: key, and whether failed. -/
  crossed : List (Nat × Bool) := []
  /-- Converters that the health manager is to test again (R129). -/
  retest : List Nat := []
  /-- The open darn: the request, the spare, units met and required, phase (1 shadow, 2 ready, 3 committing; 4 while results
  have differed and the press is still to abort). -/
  darn : Option (DarnReq × Nat × Nat × Nat × Nat) := none
  /-- Units of each kind that the open darn has met (R442). -/
  prog : Map Nat := []
  tests : List TestRun := []
  /-- The class and instance at which the next background test starts, and the test period last taken. -/
  nextTest : Nat × Nat := (1, 0)
  lastTest : Option Nat := none
  /-- The hour of elapsed time whose loss of wear has been taken (R444), and of the last state record (R455). -/
  hour : Nat := 0
  wrote : Nat := 0
  /-- A state record is to be written, by the handling of the records that the change has raised (R455, R470). -/
  toWrite : Bool := false
  cnvMap : Nat := 0x76543210
  log : Map LogEntry := []
  logHead : Nat := 0
  logSeq : Nat := 0
  copyA : Bool := false
  copyB : Bool := false
  ledger : Ledger := {}
  /-- The other copy: the state record before. -/
  ledgerOld : Ledger := {}
  /-- The ledger's lifetime counters (R455): powered hours, and the hours in each 5 °C band of junction temperature. -/
  hours : Nat := 0
  bands : Map Nat := []
  /-- The write counts of the ledger's header, by copy (R455). -/
  writesA : Nat := 0
  writesB : Nat := 0
  /-- A ledger write failed and is to be repeated, and the elapsed time of the failure (R456). -/
  rewrite : Bool := false
  failAt : Nat := 0
  /-- Instances whose regions stop before retirement (R457): TYPE key and elapsed deadline. -/
  stopping : List (Nat × Nat) := []
deriving DecidableEq, Repr

/-! ### Mailboxes and locks (R429 to R441) -/

/-- A mailbox (R430 to R432). -/
structure Mbox where
  shared : Bool
  receiver : Nat
  sender : Nat
  arrive : Bool
  full : Bool := false
  words : List Nat := []
  from_ : Nat := 0
  stamp : Nat := 0
  notify : Bool := false
  /-- The instant at which the last message was taken (R439). -/
  takenAt : Option Nat := none
  /-- The message in the slot was sent, and not from a wait, at this instant, and its send word had this WAIT (R437, R439). -/
  sentAt : Option (Nat × Bool) := none
  /-- A delivery of the oldest waiting send is due in the cycle after this one (R432). -/
  deliverDue : Option Nat := none
  /-- The other mailbox of the crossing that has been signalled last, while the crossing may still stand (R435). -/
  crossed : Option Nat := none
deriving DecidableEq, Repr

/-- A waiting send (R431). -/
structure Waiting where
  req : Nat
  mbox : Nat
  words : List Nat
  notify : Bool
  since : Nat
deriving DecidableEq, Repr

/-- Mailboxes and locks. -/
structure MbxSt where
  boxes : Map Mbox := []
  /-- Waiting sends, oldest first. -/
  waits : List Waiting := []
  /-- MBX_TXSTAT per requester: state and mailbox. -/
  txstat : Map (Nat × Nat) := []
  /-- Lock owners. -/
  locks : Map Nat := []
  /-- Rotation pointers that differ from 1 (R437). -/
  rot : Map Nat := []
  /-- Free locks read in this control cycle: lock, instant, the readers so far and the rotation pointer before (R437). -/
  turns : List (Nat × Nat × List Nat × Nat) := []
  /-- Locks freed by their owner in this control cycle: lock, owner and instant (R436). -/
  freed : List (Nat × Nat × Nat) := []
deriving DecidableEq, Repr

/-! ### Trace and memory (R481 to R497) -/

/-- A trace channel (R487 to R493). -/
structure Trace where
  source : Nat
  sel : Nat
  decim : Nat
  log2 : Nat
  object : Nat
  cont : Bool
  pre : Nat
  trig : Nat
  group : Nat
  thresh : Int
  key : Nat
  base : Nat
  /-- STATE of R490: 0 IDLE to 5 RUN. -/
  st : Nat := 1
  wptr : Nat := 0
  seq : Nat := 0
  /-- Records written since FILLING or since the trigger record. -/
  count : Nat := 0
  samples : Nat := 0
  trigIdx : Nat := 0
  trigWall : Nat := 0
  /-- The next record is the trigger record. -/
  trigNext : Bool := false
  /-- A condition holds and is detected at the next boundary. -/
  cond : Bool := false
  /-- The key of TRIG 5 or 6 has not fired since the capture began (R491). -/
  keyArmed : Bool := false
  /-- The frame of the last record (R488). -/
  recFrame : Option Nat := none
  /-- A record has been lost since the last one was queued, and a line rewritten since the last one was written (R484, R489). -/
  dropFlag : Bool := false
  mergeFlag : Bool := false
  dropTick : Nat := 0
  /-- The frame at which a key trigger was set, for R43 and R53. -/
  keyFrame : Nat := 0
  /-- The PTP time in ns at which a wall key is reached (R53, R64). -/
  keyFull : Int := 0
  keyBehind : Bool := false
deriving DecidableEq, Repr

/-- A record that waits in the trace writer's queue (R489, R494). -/
structure TraceRec where
  ch : Nat
  wall : Nat
  flags : Nat
  a : Nat
  b : Nat
deriving DecidableEq, Repr

/-- Memory and trace. DRAM bytes lie in canonical form: rising addresses, no entry equal to the zero that an unlisted
address reads as (R504 stage 4). -/
structure MemSt where
  dram : List (Nat × Byte) := []
  /-- Lines with an uncorrectable error, and lines with a correctable one that no read has met yet (R483, R484). -/
  poisoned : List Nat := []
  weak : List Nat := []
  /-- Bytes that wait for the remap of their page, in the order of their writes (R486). -/
  waitW : List (Nat × Byte) := []
  traces : Map Trace := []
  /-- The trace writer's queue (R494). -/
  queue : List TraceRec := []
  /-- Retired pages and the spare that serves each (R486). -/
  remap : Map Nat := []
  /-- Pages being copied. -/
  retiring : List Nat := []
  /-- Corrections of each page in this scrub pass (R486). -/
  corr : Map Nat := []
  scrubPos : Nat := 0
  /-- Elapsed time at which the next scrub read is due (R485). -/
  scrubAt : Nat := 0
  last : Nat := 0
deriving DecidableEq, Repr

/-! ### Modes, boot, reset, security, debug, power, pins (R498 to R566) -/

/-- The keeper's mode and boot state (R498 to R515). -/
structure ModSt where
  mode : Mode := .boot
  prev : Nat := 0
  /-- MOD_MODE.CAUSE. -/
  cause : Nat := 0
  changeFrame : Nat := 0
  stage : Nat := 1
  fail : Nat := 0
  imageB : Bool := false
  recovery : Bool := false
  /-- Bits 0 to 3 of MOD_RESET_CAUSE. -/
  resetCause : Nat := 0
  perstSeen : Bool := false
  bootTime : Nat := 0
  /-- Cold reset is held (rails down, RESET_N low). -/
  held : Bool := true
  /-- The running image sets COMMIT_SVN (R524). -/
  commitSvn : Bool := false
  /-- The recovery image is being fetched (R506). -/
  rcvBusy : Bool := false
  /-- Host watchdog: elapsed time of the last restart while TIMEOUT is not 0. -/
  hostwd : Option Nat := none
  expired : Bool := false
  /-- SAFE_OFF pins accepted. -/
  pinA : Bool := false
  pinB : Bool := false
  /-- Elapsed time at which a disagreement of the pins began, and whether it has been raised (R92). -/
  discrep : Option Nat := none
  discrepRaised : Bool := false
  /-- The pin acceptance acts at the next boundary. -/
  pinDue : Bool := false
  /-- DORMANT to PREPARE: the MODE_SETs that wait for P0 (R499). -/
  waking : List Acc := []
  /-- P0 is restored: the change takes effect at the next boundary. -/
  wakeDue : Bool := false
  /-- CAP of the MODE_SET that put the device in SERVICE (R500, R571). -/
  cap : Nat := 250
  /-- The monitored rails are down: the part is in P3 or unpowered. -/
  off : Bool := true
  /-- Elapsed time from which a SAFE_OFF pin has been accepted without a break (R92). -/
  pinSince : Nat := 0
deriving DecidableEq, Repr

/-- A debug session (R527 to R533). -/
structure Session where
  level : Nat
  regions : Nat
  ends : Option Nat
deriving DecidableEq, Repr

/-- Security and debug (R516 to R543). -/
structure SecSt where
  /-- The fuses as burnt. -/
  fused : Nat := 0
  /-- The lifecycle read at the last boot, which governs (R516). -/
  lifecycle : Nat := 0
  ownerDigest : Option Nat := none
  /-- The wrapped owner image key: its digest. -/
  ownerImageKey : Option Nat := none
  ownerSupplied : Bool := false
  fwSvn : Nat := 0
  fwFloor : Nat := 0
  usrFloor : Nat := 0
  /-- Flash slots A and B: the bytes in each, and the length of each range in the boot header. -/
  flashA : List Byte := []
  flashB : List Byte := []
  rangeA : Nat := 0
  rangeB : Nat := 0
  sessions : Map Session := []
  /-- Challenges drawn by each port (R529). -/
  drawn : Map Nat := []
  /-- DENIED and TOKEN_FAIL of each session (bits 0 and 1). -/
  flags : Map Nat := []
  /-- Breakpoints of each core: address and session. -/
  breaks : List (Nat × Nat × Nat) := []
  /-- Instruction in the TAP: 0 BYPASS, 1 IDCODE, 2 DBGACC, 3 boundary scan. -/
  tap : Nat := 0
  /-- TAP resets seen since session 0 opened. -/
  tapResets : Nat := 0
  resetHeld : Bool := false
deriving DecidableEq, Repr

/-- One DIN pin (R551). -/
structure Din where
  pin : Bool := false
  raw : Bool := false
  rawTs : Nat := 0
  level : Bool := false
  /-- Elapsed time at which the debounce window ends. -/
  ends : Option Nat := none
deriving DecidableEq, Repr

/-- Pins, thermal and supplies (R544 to R566). -/
structure PinSt where
  /-- The local field pins in the frame that ended last. -/
  lastIn : FrameIn := {}
  /-- The pins ENCn_A that drive a serial clock, with their levels at the eight grid samples of the present frame (R140, R148). -/
  encDrives : List (Nat × Nat) := []
  dins : Map Din := []
  /-- I/O banks powered. -/
  banks : Nat := 0
  /-- MOD_DOUT and MOD_DOUT_OE in force (R553). -/
  dout : Nat := 0
  oe : Nat := 0
  tj : Int := 0
  hot : Bool := false
  /-- Consecutive readings above 120 °C (R510). -/
  hotCount : Nat := 0
  /-- PWR_VCORE: the last reading, and the set point, 0 until firmware has set it (R540, R542). -/
  vcore : Nat := 0
  vcoreSet : Nat := 0
  /-- Spread depths in force (R539). -/
  spread : Nat := 0x404
  sysref : Bool := true
  powerState : Nat := 0
  /-- Parts that a descriptor wakes from P1 (R538): lane, 256 + Draver core, or 1024 + origin of a spare; 0 waking, 1 awake. -/
  wake : Map Nat := []
deriving DecidableEq, Repr

/-- What the outputs of R512 show: DOUT levels and drives, the SAFE_STATE pair, the link transmitters. -/
structure Outputs where
  dout : Nat := 0
  drive : Nat := 0
  /-- 0 high-impedance, 1 driven low, 2 toggling at 1 kHz in antiphase (R513). -/
  safeState : Nat := 0
  /-- 0 electrical idle, 1 KILL in every frame, 2 motion. -/
  link : Nat := 0
  /-- The Ethernet ports have a link to offer. -/
  ethLink : Bool := false
  /-- 0 ENCn_A high-impedance, 1 the clocks high, 2 running. -/
  encClock : Nat := 0
  /-- The pins ENCn_A that drive a clock, each with its level at the eight grid samples of the frame (R140, R148). -/
  encLevels : List (Nat × Nat) := []
deriving DecidableEq, Repr

/-- What the updates of R427 follow: the state codes of the instances, the lost logical lanes, the gangs of roles PLAN and GUARD,
the ladder's level and placements, and each port's state. -/
structure CareSig where
  insts : List (Nat × Nat) := []
  lost : List Nat := []
  gangs : List (Nat × Nat × Nat) := []
  level : Nat := 0
  placed : Nat := 0
  /-- By port: READY, break segment, lanes up, lanes retired, lost heads. -/
  ports : List (Bool × Nat × List Bool × List Bool × List Nat) := []
  /-- By port: a break stands, and the positions present. -/
  rings : List (Bool × List Nat) := []
deriving DecidableEq, Repr

/-- The Care Label (R418, R427): whether it is built, GEN, what the last update followed, and its bytes as PF0 sees them, with 0 for the
CRC. -/
structure CareSt where
  built : Bool := false
  gen : Nat := 0
  sig : CareSig := {}
  image : List Byte := []
deriving DecidableEq, Repr

end Sys2Proof.Machine
end

