-- ==== Sys2Proof/Machine/UnitTypes.lean ====
section
/-!
DEFINITION. The state of the field link, the converters, the feedback unit, the switching engine, the Draver array, the
profile unit, the solver fabric, planning control and the guard. Plain data; the defaults are the values after a cold reset.
-/
namespace Sys2Proof.Machine

/-! ### The Ryris link (R68 to R101) -/

/-- What a service request is for (R77, R85, R86, R88, R403). -/
inductive SvcFor where
  /-- A RYL_HEAD_ACCESS descriptor. -/
  | access (a : Acc)
  /-- ENUMERATE: identity register k of a position. -/
  | ident (pos k : Nat)
  /-- MEASURE: the STAMP of a round. -/
  | stamp (round : Nat)
  /-- MEASURE: STAMP_A or STAMP_B of a position in a round. -/
  | meas (round pos lane : Nat)
  /-- SET: a write to a position. -/
  | setup (pos : Nat)
  /-- A reappeared head's HCTRL. -/
  | check (pos : Nat)
  /-- Rejoin: identity register k, the STAMP, a measured value, a write (R88). -/
  | rejIdent (pos k : Nat)
  | rejStamp (pos : Nat)
  | rejMeas (pos lane : Nat)
  | rejSet (pos : Nat)
deriving DecidableEq, Repr

/-- A service request (R89). -/
structure SvcReq where
  dest : Nat
  op : Nat
  reg : Nat
  data : Nat
  mask : Nat
  use : SvcFor
  tries : Nat := 0
deriving DecidableEq, Repr

/-- A request sent: its tag, the servo tick and the request frame j in which it left, and whether its reply was bad (R90). -/
structure SvcSent where
  req : SvcReq
  tag : Nat
  tick : Nat
  j : Nat
  bad : Bool := false
deriving DecidableEq, Repr

/-- A RYL_HEAD_CYCLIC under way: for each of its words the servo tick in which it was last sent, and whether two consecutive ticks have
sent it unchanged (R77). -/
structure CycJob where
  acc : Acc
  first : Nat
  count : Nat
  sent : Map (Nat × Bool) := []
deriving DecidableEq, Repr

/-- A valid cell held until its primary copy is known: frame number and the 14 bytes (R84). -/
structure HeldCell where
  frame : Nat
  lane : Nat
  cell : List Byte
deriving DecidableEq, Repr

/-- A ring position and the head at it. Delays are exact, in units of 0.125 fs. -/
structure Head where
  id : Nat := 0
  rev : Nat := 0
  caps : Nat := 0
  timing : Nat := 0
  /-- Identity registers read. -/
  idents : List Nat := []
  dA : Int := 0
  uA : Int := 0
  dB : Int := 0
  uB : Int := 0
  sA : Int := 0
  sB : Int := 0
  timed : Bool := false
  /-- Last lane A and lane B cell valid. -/
  aValid : Bool := false
  bValid : Bool := false
  /-- The joined STATUS of the last frame with a valid cell of which every copy has come, and that frame. -/
  status : Nat := 0
  statusFrame : Nat := 0
  lost : Bool := false
  /-- A failed rejoin keeps the head OFF (R88). -/
  off : Bool := false
  /-- Consecutive frames without a valid cell. -/
  missRun : Nat := 0
  /-- The next frame to be judged for a valid cell (R96). -/
  dueM : Nat := 0
  /-- The copies of the frames not yet joined or judged, a copy that came invalid without its bytes (R84, R96). -/
  cells : List HeldCell := []
  /-- Grid index of the next sample to join (R84). -/
  nextG : Nat := 0
  /-- TEL bytes of the present servo tick, keyed by TICKSLOT. -/
  tel : Map Nat := []
  telTick : Nat := 0
  /-- The latest telemetry block with a good CRC-16. -/
  block : List Byte := []
  /-- The cyclic parameter table (R77). -/
  table : Map Nat := []
  jobs : List CycJob := []
  /-- Rejoin under way: 0 none, 1 running; the new HEAD_TIMING; the worst error in slots. -/
  rejoin : Nat := 0
  rejTiming : Nat := 0
  rejWorst : Int := 0
  /-- The frame number that the rejoin's STAMP named (R85, R89). -/
  rejFn : Nat := 0
  /-- A CAL sequence is requested and not ended (R175), with the frame at which it ends. -/
  cal : Option (Acc × Nat) := none
deriving DecidableEq, Repr

/-- One lane of a port (R97, R98). -/
structure RLane where
  up : Bool := false
  /-- Consecutive valid frames. -/
  good : Nat := 0
  /-- Consecutive frames without a valid one. -/
  bad : Nat := 0
  /-- A valid frame has come since the last boundary. -/
  got : Bool := false
  /-- L_X in units of 0.125 fs. -/
  lap : Int := 0
  laps : List Nat := []
  origin : Option Nat := none
  retired : Bool := false
  /-- The transmitter is in electrical idle (R85, R98). -/
  idle : Bool := true
  /-- Positions whose cells were valid in the last valid frame. -/
  cells : List Nat := []
deriving DecidableEq, Repr

/-- A Ryris port (R85, R101). -/
structure RPort where
  /-- 0 OFF, 1 DETECT, 2 ENUMERATE, 3 MEASURE, 4 SET, 5 READY, 6 FAIL. -/
  st : Nat := 0
  a : RLane := {}
  b : RLane := {}
  failCause : Nat := 0
  refused : Bool := false
  broken : Bool := false
  breakSeg : Nat := 15
  present : List Nat := []
  /-- D_EPOCH in slots. -/
  dEpoch : Nat := 0
  /-- Elapsed time at which DETECT began. -/
  since : Nat := 0
  heads : Map Head := []
  queue : List SvcReq := []
  sent : List SvcSent := []
  tag : Nat := 0
  round : Nat := 0
  stampFn : Nat := 0
  /-- Δ in slots, keyed round · 64 + position · 2 + lane. -/
  stamps : Map Nat := []
  /-- SET: frames judged valid since the writes were answered, none before. -/
  setRun : Option Nat := none
  /-- The downlink frame last sent, bytes 1 to 121, before scrambling. -/
  tx : List Byte := []
  /-- Characters 1 to 121 as they leave: scrambled. -/
  wire : List Byte := []
deriving DecidableEq, Repr

/-! ### Converters and decimators (R103 to R133) -/

/-- The configuration of a conversion channel (R103). -/
structure CchCfg where
  source : Nat := 1
  tag : Nat := 0
  unit : Nat := 0
  input : Nat := 0
  group : Nat := 0
  samples : Nat := 0
  osr : Nat := 0
  flags : Nat := 0
  gain : Nat := 0
  dmaBuf : Nat := 0
deriving DecidableEq, Repr

/-- A decimator's state (R107 to R113): the three integrators and the last three values of the third at an output, the last 32
sinc3 outputs, newest first, and the last 15 bits for the fast path. -/
structure DecSt where
  i1 : Int := 0
  i2 : Int := 0
  i3 : Int := 0
  c1 : Int := 0
  c2 : Int := 0
  c3 : Int := 0
  sincs : List Int := []
  /-- Samples taken. -/
  n : Nat := 0
  last : Bool := false
  /-- Length of the run of equal bits that ends at the last sample. -/
  run : Nat := 0
  /-- Sample count at the last bit that ended 32 equal ones, at the last filled sample, at the last saturated sinc3 output, and
  whether the last overload was at the upper end of the range. -/
  ovrAt : Option Nat := none
  fillAt : Option Nat := none
  satAt : Option Nat := none
  ovrHigh : Bool := false
  hist : List Bool := []
  /-- Grid index of the last sample. -/
  lastG : Nat := 0
  /-- Samples since the last output of a decimator that an input MCLK clocks. -/
  since : Nat := 0
deriving DecidableEq, Repr

/-- A conversion channel (R103, R111). -/
structure Cchan where
  cfg : CchCfg := {}
  scale : Scale := {}
  /-- The decimator pair slot, 0 to 519, of sources 1 and 2. -/
  pair : Nat := 0
  dec : DecSt := {}
  /-- The latest-value slot: value, flags and stamp, and whether a result has come. -/
  value : Int := 0
  settle : Bool := false
  ovr : Bool := false
  inj : Bool := false
  stamp : Nat := 0
  have_ : Bool := false
  /-- Results still to be tagged SETTLE (R114). -/
  settleLeft : Nat := 0
  ovrRaised : Bool := false
  /-- Frame in which it was created or its filter or stream last changed. -/
  since : Nat := 0
  /-- Its place in the order in which channels were created (R122). -/
  order : Nat := 0
  /-- The frame of the last precise output (R130). -/
  outFrame : Option Nat := none
  /-- The last fast output and the grid index of its last sample, none while invalid. -/
  fast : Option (Int × Nat) := none
deriving DecidableEq, Repr

/-- A conversion in the latency of a pipeline converter: the channel with its handle and configuration at the sample, the entry
(32 · group + place), SETTLE, and the elapsed time of the sample (R115). -/
structure InFlight where
  chan : Nat
  handle : Nat
  entry : Nat
  cfg : CchCfg
  settle : Bool
  at_ : Nat
deriving DecidableEq, Repr

/-- An on-die converter (R117 to R128). -/
structure Conv where
  /-- The conversions in the pipeline, oldest first, and the elapsed time at which the next sample is taken (R115). -/
  pipe : List InFlight := []
  sampleAt : Nat := 0
  /-- Entries of the regular group and of the injected groups 1 to 4, in order: channel indices. -/
  groups : Map (List Nat) := []
  calReq : Bool := false
  calBusy : Bool := false
  /-- Elapsed time at which calibration started. -/
  calSince : Nat := 0
  calAccs : List Acc := []
  /-- Injected groups latched while a calibration is requested. -/
  latched : List Nat := []
  /-- Injected groups pending. -/
  pend : List Nat := []
  /-- The injected group running: group, entry, results delivered. -/
  injRun : Option (Nat × Nat × Nat) := none
  /-- A regular pass is in progress. -/
  regRun : Bool := false
  regEntry : Nat := 0
  regCount : Nat := 0
  cfgRefused : Bool := false
  /-- Mux input, gain and filter of the previous conversion. -/
  prevMux : Option Nat := none
  prevGain : Nat := 0
  prevFilter : Nat := 0
  muxLeft : Nat := 0
  gainLeft : Nat := 0
  modLeft : Nat := 0
  /-- Groups whose first pass after calibration has not begun. -/
  fresh : List Nat := []
  earlyRaised : Bool := false
  dec : DecSt := {}
  /-- The corrections that the last calibration stored, free values (R128). -/
  corr : Option Nat := none
deriving DecidableEq, Repr

/-- The conversion subsystem beside its channels. -/
structure CnvSt where
  convs : Map Conv := []
  /-- Elapsed time at which CNV_REF_ON.ON was set. -/
  refSince : Option Nat := none
  refReady : Bool := false
  /-- The tagged result queue: word and stamp, oldest first (R133). -/
  tq : List (Nat × Nat) := []
  tqEpisode : Bool := false
  /-- CNV_DMA_WCOUNT of each buffer. -/
  wcount : Map Nat := []
  /-- The converter checked last and the check period last taken (R129). -/
  chkPos : Nat := 12
  chkLast : Option Nat := none
  /-- Spares that serve in the place of a pair slot. -/
  pairMap : Map Nat := []
  /-- Consecutive outputs whose phase sum exceeded CNV_SUM_TOL, by joint (R130). -/
  sumRun : Map Nat := []
  /-- Channels created so far. -/
  made : Nat := 0
deriving DecidableEq, Repr

/-! ### The switching engine (R162 to R182) -/

/-- The parameters of a switching channel (R164). -/
structure SwCfg where
  topology : Nat := 1
  currents : Nat := 3
  busGrp : Nat := 0
  decay : Nat := 0
  minPulse : Nat := 64
  fastSlots : Nat := 0
  fClamp : Nat := 50
  ish : Nat := 2
  dsh : Nat := 14
  band : Nat := 0x0800
  bandMax : Nat := 0x1000
  iLimit : Nat := 0
  iTrip : Nat := 0xF000
  kslope : Nat := 0
  ramp : Nat := 0x1000
  chopOn : Nat := 0
  chopOff : Nat := 0
  residMax : Nat := 0
deriving DecidableEq, Repr

/-- A leg of a channel: its state, its edges by head slot, newest first, its effective half-band in Q0.16 and whether its last
period was shorter than P_min (R170, R171). -/
structure Leg where
  on : Bool := false
  edges : List (Nat × Bool) := []
  hEff : Nat := 0x0800
  /-- The half-band of the excursion under way, that of its start; h_eff before the first edge. -/
  thr : Option Nat := none
  short : Bool := false
  /-- The last period P in slots. -/
  period : Nat := 0
  /-- It has switched since SOFTSTART began (R175). -/
  switched : Bool := false
  /-- The edge placed for the next head frame. -/
  edge : Option (Nat × Bool) := none
deriving DecidableEq, Repr

/-- A switching channel (R162 to R180). -/
structure Swch where
  joint : Option Nat := none
  port : Nat := 0
  pos : Nat := 0
  cfg : SwCfg := {}
  /-- 0 OFF, 1 SOFTSTART, 2 RUN, 3 SHADOW, 4 TRIPPED. -/
  st : Nat := 0
  incomplete : Bool := false
  legs : List Leg := [{}, {}, {}, {}]
  /-- î of each phase for consecutive head slots from `h0`, in units of 1 / (3 · 2^39) CUR24 LSB. -/
  h0 : Nat := 0
  ih : List (List Int) := [[], [], []]
  /-- d̂ of each phase in Q16.16 CUR24 LSB per slot. -/
  dh : List Int := [0, 0, 0]
  /-- î at the start of the last decided head frame. -/
  iest : List Int := [0, 0, 0]
  /-- Set-point: (i_d, i_q) for SERVO; (θ_m, amplitude) for STEPPER. -/
  sp : Int × Int := (0, 0)
  brakeReq : Bool := false
  /-- The ramp set-point (R177). -/
  ramp : Int × Int := (0, 0)
  softFrames : Nat := 0
  /-- It has entered SOFTSTART since the last servo capture (R195). -/
  softDue : Bool := false
  limited : Bool := false
  limFrames : Nat := 0
  fastInvalid : Bool := false
  span : Nat := 0
  /-- Consecutive valid outputs at or above I_TRIP, and with a residual above RESID_MAX, of each phase. -/
  tripRun : List Nat := [0, 0, 0]
  residRun : List Nat := [0, 0, 0]
  /-- The grid index of each phase's last output taken. -/
  lastG : List (Option Nat) := [none, none, none]
  /-- The region has been SAFE_OFF since the trip. -/
  sawOff : Bool := false
  /-- Head slot up to which a winding's fast decay runs (R172). -/
  fastEnd : List Nat := [0, 0]
  /-- What the next downlink frame carries: LEG_EN, HEAD_MODE, BRAKE_REL and the leg bytes. -/
  legEn : Nat := 0
  headMode : Nat := 0
  brakeRel : Bool := false
  legBytes : List Nat := [0, 0, 0, 0]
  /-- The last pass has placed an edge: its boundary's wall time and SWE_CH_STAT, for the trace (R488). -/
  edgeRec : Option (Nat × Nat) := none
  /-- LEG_EN and BRAKE_REL last sent. -/
  sentEn : Nat := 0
  sentBrake : Bool := false
  /-- Sum of v over the plan tick, its frames, and what planning last received (R181). -/
  vSum : Int := 0
  iAvail : Nat := 0
  vMean : Int := 0
  limTick : Nat := 0
  /-- The live channel that this spare shadows. -/
  shadowOf : Option Nat := none
deriving DecidableEq, Repr

/-- A DC-bus group (R174, R181): edges of each stagger window, the power sums of this plan tick, and what planning last received. -/
structure BusGrp where
  wins : Map Nat := []
  overs : Nat := 0
  pSum : Int := 0
  pPeak : Option Int := none
  wMax : Nat := 0
  pMean : Int := 0
  pPeakOut : Int := 0
  wMaxOut : Nat := 0
deriving DecidableEq, Repr

/-- An edge: its instant on elapsed time, its direction, the count after it (R152 to R154). -/
structure FbEdge where
  at_ : Nat
  up : Bool
  count : Int
deriving DecidableEq, Repr

/-- A serial encoder read in progress (R149): samples of the data line since the latch instant, oldest first, none where a
frame brought no valid cell or slot. -/
structure SencRead where
  /-- Grid index of its first sample. -/
  g0 : Nat
  latch : Nat
  wall : Nat
  samples : List (Option Bool) := []
deriving DecidableEq, Repr

/-- The configuration of a feedback channel (R138). -/
structure FbCfg where
  isLocal : Bool := false
  type : Nat := 1
  unit : Nat := 0
  pos : Nat := 0
  index : Nat := 0
  filter : Bool := false
  standstillMs : Nat := 20
  cpi : Nat := 0
  angleOff : Nat := 0
  stBits : Nat := 0
  mtBits : Nat := 0
  statusBits : Nat := 0
  clk : Nat := 0
  delay : Nat := 0
  start : Nat := 0
  jumpMax : Nat := 0
deriving DecidableEq, Repr

/-- A feedback channel (R137 to R159). -/
structure Fbch where
  cfg : FbCfg := {}
  count : Int := 0
  /-- Every counted step since the channel was created: what a line source accumulates (R39, R147). -/
  steps : Int := 0
  /-- The direction of the last counted step (R45). -/
  lastUp : Bool := true
  uncertain : Bool := false
  fault : Bool := false
  /-- The last AB sample, none before the first. -/
  ab : Option Nat := none
  /-- The last Z level. -/
  z : Bool := false
  /-- The last possible Hall state UVW. -/
  hall : Option Nat := none
  /-- The last UVW sample. -/
  uvw : Nat := 0
  /-- Frames of the last illegal transitions, newest first (R142). -/
  illegal : List Nat := []
  /-- Edges of the trailing 160 frames, newest first, and the two last edges whatever their age. -/
  edges : List FbEdge := []
  /-- 0 STOPPED, 1 STARTING, 2 VALID, 3 REVERSED. -/
  speedSt : Nat := 0
  countMode : Bool := false
  /-- Speed in counts/s as an exact quotient (R153, R154, R155). -/
  speed : Int × Nat := (0, 1)
  indexRef : Option Int := none
  indexCount : Int := 0
  indexT : Nat := 0
  hallAligned : Bool := false
  /-- Elapsed time and direction of the last Hall step. -/
  hallStep : Option (Nat × Bool) := none
  /-- The boundary that the last Hall step crossed, in sixths of an electrical revolution (R157). -/
  hallBase : Nat := 0
  /-- Grid index of the last sample processed. -/
  lastG : Option Nat := none
  /-- Frames in which the Hall sector differed by more than one (R143). -/
  mismatch : Nat := 0
  /-- The count at which type 3 was aligned, and the boundary in sixths of an electrical revolution (R157). -/
  alignAt : Int := 0
  alignTo : Nat := 0
  /-- Index pulses seen. -/
  pulses : Nat := 0
  /-- θe, Q0.32 electrical revolutions. -/
  theta : Nat := 0
  /-- The angles held at the last boundaries, newest first, with their WALL32 (R193). -/
  thetas : List (Nat × Nat) := []
  /-- Instant of the last grid sample used, on elapsed time (R158). -/
  stamp : Nat := 0
  edgeT : Nat := 0
  read : Option SencRead := none
  /-- P of the last valid read (R151). -/
  lastP : Option Nat := none
  lastLatch : Nat := 0
  /-- The first grid index of the last read that has been judged, and the frame in which the channel was configured (R149). -/
  judgedG : Option Nat := none
  born : Nat := 0
  /-- The count after the last valid serial read. -/
  serBase : Int := 0
  validReads : Nat := 0
  errors : Nat := 0
  sencHeld : Bool := false
  sencBits : Nat := 0
  startPos : Nat := 0
  /-- Elapsed time at which a serial count last changed. -/
  changed : Nat := 0
deriving DecidableEq, Repr

/-! ### The Draver array (R186 to R229) -/

/-- A write to DST by one instruction: the whole register by MVGS, the flags it sets, the sticky bits it ors in (R213, R228). -/
structure DstOp where
  set : Option Nat := none
  mask : Nat := 0
  val : Nat := 0
  sticky : Nat := 0
deriving DecidableEq, Repr

/-- A write that an issued instruction has under way (R190, R229). -/
inductive DWrite where
  /-- A G register: number and value. -/
  | g (r v : Nat)
  /-- A field of a P register: number, least bit, width, value. -/
  | p (r lo w v : Nat)
  /-- A data memory word. -/
  | mem (a v : Nat)
deriving DecidableEq, Repr

/-- A register context of a core with its place in the exposed pipeline (R186, R189 to R191, R226). -/
structure DCtx where
  g : List Nat := List.replicate 32 0
  /-- The accumulators, and as they stood before the last instruction. -/
  a : List Int := [0, 0, 0, 0]
  aOld : List Int := [0, 0, 0, 0]
  p : List Nat := List.replicate 8 0
  lc : Nat := 0
  ls : Nat := 0
  le : Nat := 0
  /-- DST with the writes of every instruction but the last two, and those two. -/
  dst : Nat := 0
  dstQ : List DstOp := [{}, {}]
  /-- Writes under way: issues left until they are seen, oldest first. -/
  pend : List (Nat × DWrite) := []
  pc : Nat := 0
  /-- A branch or EXIT has issued: delay slots left, and the target, none for EXIT. -/
  br : Option (Nat × Option Nat) := none
  /-- The body of a repeat with count 0 issues without effect. -/
  skip : Bool := false
  /-- The last trap: cause and instruction address, none after a start. -/
  trap : Option (Nat × Nat) := none
  /-- EXIT has ended the entry or operation. -/
  ended : Bool := false
deriving DecidableEq, Repr

/-- A bank: image identifier, code, coefficients, loop table and operation table (R202). -/
structure DBank where
  ident : Nat := 0
  code : Map Nat := []
  coef : Map Nat := []
  loops : Map DrvLoop := []
  ops : List DrvOper := []
deriving DecidableEq, Repr

/-- A loop slot (R192 to R204). -/
structure DSlot where
  /-- The joint bound, and the joint whose loop runs in this tick. -/
  joint : Option Nat := none
  live : Option Nat := none
  /-- The PARAM words. -/
  param : List Nat := List.replicate 16 0
  initNext : Bool := false
  /-- The last tick's output was not published; ticks missed in a row. -/
  late : Bool := false
  missed : Nat := 0
  /-- The loop trapped in the last tick. -/
  trapped : Bool := false
  /-- UNCERTAIN and FB_FAULT, and region state code, as last captured. -/
  flags : Nat := 0
  region : Nat := 0
  /-- Alert causes of the present tick, bits 0 to 3. -/
  alert : Nat := 0
  /-- The present tick: 0 idle, 1 captured, 2 finished, 3 ended without publication, 4 judged. -/
  phase : Nat := 0
  /-- Cycles from the capture to the end of its entry. -/
  doneAt : Nat := 0
  /-- The publish frame of the present tick, as its capture found bindings and bank (R199, R200). -/
  pubAt : Nat := 0
  /-- Its output as published last: I_D_SET, I_Q_SET, CTRL, STATUS. -/
  pub : List Nat := [0, 0, 0, 0]
deriving DecidableEq, Repr

/-- A Draver core (R186 to R208). -/
structure DCore where
  active : Nat := 0
  staged : Bool := false
  bankA : DBank := {}
  bankB : DBank := {}
  /-- Data words: shared data and records by their word address, the private page of bank b at 0x10000 + 0x800 · b. -/
  data : Map Nat := []
  slots : Map DSlot := []
  loop : DCtx := {}
  graph : DCtx := { dst := 0x10000 }
  /-- The loops of the tick still to run, the one running first, and the cycles used since the capture. -/
  queue : List Nat := []
  used : Nat := 0
  /-- The entry of the first loop in the queue has begun. -/
  entered : Bool := false
  /-- The sessions that halted it (R533). -/
  halted : List Nat := []
  /-- An uncorrectable error has stopped its loops (R206). -/
  stopped : Bool := false
  /-- A swap takes effect at the next servo-tick boundary (R203). -/
  swapDue : Bool := false
  /-- DRV_LOAD under way: the descriptor, and whether FIRST. -/
  load : Option (Acc × Bool) := none
  /-- The hold-off met in the present tick (R198). -/
  waited : Nat := 0
  tickMax : Nat := 0
  holdSeen : Nat := 0
  /-- The live core that this spare shadows, whether its copy has been taken, whether a mismatch has been raised (R207). -/
  shadowOf : Option Nat := none
  copied : Bool := false
  misRaised : Bool := false
deriving DecidableEq, Repr

/-! ### Profiles, gears and homing (R230 to R260) -/

/-- A profile's configuration, fields as given (R231). -/
structure PrfCfg where
  source : Nat := 1
  stepIn : Nat := 0
  stepSize : Nat := 0
  vMax : Int := 1
  aMax : Int := 1
  jMax : Int := 1
  aStop : Int := 1
  jStop : Int := 1
  runAmp : Nat := 0
  holdAmp : Nat := 0
  standMs : Nat := 200
  reduceMs : Nat := 100
  interpUs : Nat := 2000
  steps : Nat := 0
  stallLim : Nat := 0
deriving DecidableEq, Repr

/-- What moves the reference. Numbers are internal: positions in units of 2^-64 rev, rates in units of 2^-48 (R233). -/
inductive PMot where
  /-- Nothing of its own: the velocity holds. -/
  | idle
  /-- Segments still to run, jerk and frames; frames run of the first; the state at its start; the exact end of a MOVE;
  whether an entry of kind SEG (R234, R237). -/
  | segs (l : List (Int × Nat)) (n : Nat) (p0 v0 a0 : Int) (snap : Option (Int × Int × Int)) (isSeg : Bool)
  /-- A velocity change to v1 under limits (R238). -/
  | jog (v1 aLim jLim : Int)
  /-- A profile stop. -/
  | stop
deriving DecidableEq, Repr

/-- A queue entry (R235, R236). -/
structure PEntry where
  kind : Nat
  /-- 0 due with the end of the entry before, 1 line key, 2 wall key. -/
  start : Nat := 0
  key : Nat := 0
  /-- The PTP time in ns at which a wall key is reached (R53, R64). -/
  full : Int := 0
  /-- The key has fired. -/
  due : Bool := true
  /-- The frame of insertion, and whether the key lay at or behind the axis then. -/
  frame : Nat := 0
  behind : Bool := false
  dur : Nat := 0
  /-- Jerk (2^-48), target position (2^-64) or target velocity (2^-48). -/
  target : Int := 0
  vLim : Int := 0
  aLim : Int := 0
  jLim : Int := 0
  /-- The exact state at its end, for the last segment of a plan step (R296). -/
  snap : Option (Int × Int × Int) := none
deriving DecidableEq, Repr

/-- A homing sequence (R254 to R257). -/
structure Home where
  st : Nat := 0
  method : Nat := 0
  neg : Bool := false
  din : Bool := false
  homeDin : Nat := 0
  posDin : Nat := 0
  negDin : Nat := 0
  /-- DEBOUNCE in units of 10 µs. -/
  debounce : Nat := 100
  homePos : Int := 0
  vSearch : Int := 0
  maxTravel : Nat := 0
  /-- REF_POS at the start. -/
  start : Int := 0
  reversed : Bool := false
  /-- Travel against DIR: in CLEAR and after a reversal. -/
  back : Bool := false
  /-- The edge to inactive has been accepted in CLEAR (R256). -/
  leaving : Bool := false
  confirmed : Bool := false
  raw : Bool := false
  /-- The candidate: position and WALL32. -/
  cand : Option (Int × Nat) := none
  /-- Elapsed time at which the window ends. -/
  window : Option Nat := none
  /-- Elapsed times of accepted edges, newest first. -/
  edges : List Nat := []
  /-- The captured reference point. -/
  cap : Int := 0
  capT : Nat := 0
  /-- Index pulses seen when the index was awaited. -/
  pulses : Nat := 0
deriving DecidableEq, Repr

/-- A profile (R230 to R260). -/
structure Profile where
  joint : Option Nat := none
  cfg : PrfCfg := {}
  p : Int := 0
  v : Int := 0
  a : Int := 0
  mot : PMot := .idle
  /-- The steady state of a JOG (R236). -/
  steady : Bool := false
  queue : List PEntry := []
  /-- Consecutive frames above V_MAX and above A_MAX (R239). -/
  nv : Nat := 0
  na : Nat := 0
  /-- The profile was free to run at the last boundary, and its region was SAFE_OFF. -/
  ran : Bool := false
  wasOff : Bool := false
  home : Home := {}
  homed : Bool := false
  /-- Σ, ANG64 (R250). -/
  shift : Int := 0
  /-- The last captured reference point and the WALL32 of its candidate. -/
  hcap : Int := 0
  hcapT : Nat := 0
  /-- The limit inputs are DIN pins: positive and negative (R253). -/
  limDin : Option (Nat × Nat) := none
  /-- The reference moved toward an active limit at the last boundary (R253). -/
  limHit : Bool := false
  /-- Amplitude in CUR24 LSB and θ_m. -/
  amp : Int := 0
  theta : Nat := 0
  /-- Elapsed time since which the reference has been at rest, and at which the reduction began (R251). -/
  restSince : Option Nat := none
  reduceAt : Option Nat := none
  stallRun : Nat := 0
  /-- Step following: the base position and microsteps from it, the rate in force (R249). -/
  base : Int := 0
  target : Int := 0
  rate : Int := 0
  /-- Steps counted while not followed (R241). -/
  held : Nat := 0
  /-- The reference velocity at the last servo tick. -/
  vTick : Int := 0
  /-- A commit of planning control at this boundary: the new queue, or no entry for a profile stop (R299, R300). -/
  planNew : Option (List PEntry) := none
  /-- A virtual axis since the device left RUN: it accepts PRF_QUEUE entries only (R241). -/
  barred : Bool := false
  /-- The profile began a profile stop since the last boundary: what it masters slips (R247). -/
  stopNow : Bool := false
deriving DecidableEq, Repr

/-- The seam of a gear (R244, R245). -/
inductive Seam where
  | idle
  /-- Asked for: r1, W in Q16.16, and the key it waits for, none for the effect frame. -/
  | wait (r1 : Int) (w : Nat) (key : Option Nat)
  /-- Running from r0 to r1: master travel since its start, W_e in units of 2^-32, the follower position at the start. -/
  | run (r0 r1 dm : Int) (we : Nat) (ps : Int)
deriving DecidableEq, Repr

/-- A gear (R242 to R247). -/
structure Gear where
  follower : Nat := 0
  kind : Nat := 1
  hwm : Bool := false
  master : Nat := 0
  /-- The count at creation, for a count master. -/
  count0 : Int := 0
  ratio : Int := 0
  /-- The base: follower position, and master travel from it. -/
  pb : Int := 0
  dm : Int := 0
  /-- The master value last seen. -/
  last : Nat := 0
  seam : Seam := .idle
  /-- W_e of the last seam, Q16.16, and u of the running one, Q0.16. -/
  weLast : Nat := 0
  /-- The catch-up that runs: segments, frames run of the first, state at its start, its distance; those that wait (R246). -/
  catch_ : Option (List (Int × Nat) × Nat × Int × Int × Int × Int) := none
  waits : List Int := []
  /-- Consecutive frames with the geared speed above V_MAX. -/
  fast : Nat := 0
deriving DecidableEq, Repr

/-- One step input (R248). -/
structure StepIn where
  count : Nat := 0
  /-- Instant of the last accepted edge on elapsed time. -/
  last : Option (Nat × Bool) := none
  /-- PRF_STEP_OVERRUN has been raised in this plan tick. -/
  overrun : Bool := false
deriving DecidableEq, Repr

/-! ### The solver fabric (R261 to R290) -/

/-- A problem: the device's copy of its block, taken apart, its binding, and what its last run left (R272, R275, R276, R284). -/
structure Problem where
  /-- The arm whose branch uses it (R292). -/
  arm : Option Nat := none
  gang : Nat := 1
  image : Nat := 0
  recs : List KRec := []
  inertia : List Nat := []
  /-- The words of its data section that are not 0. -/
  data : Map Nat := []
  words : Nat := 4
  capOff : Nat := 0
  capWords : Nat := 0
  resOff : Nat := 0
  resWords : Nat := 4
  eps : Nat := 1
  cycles : Nat := 0
  vinit : List Nat := []
  /-- The format table, for tooling and trace (R269). -/
  fmt : List Byte := []
  /-- The first logical lane of the gang to which it is bound, and its data section's word address in lane memory. -/
  bound : Option Nat := none
  base : Nat := 0
  /-- Its status in this plan tick, or of its last dispatch; 5 NOT_RUN (R284). -/
  status : Nat := 5
  /-- The result section as last delivered. -/
  result : List Nat := []
  /-- SOL_REGULARISED and SOL_SATURATED have been raised in this plan tick (R290). -/
  regRaised : Bool := false
  satRaised : Bool := false
deriving DecidableEq, Repr

/-- A change under R278 that waits for a plan-tick boundary or a dispatch. -/
inductive LaneOp where
  | bind (p base : Nat)
  | write (base off : Nat) (words : List Nat)
deriving DecidableEq, Repr

/-- A problem that runs on a gang (R279, R282, R283). -/
structure KRun where
  problem : Nat
  base : Nat
  /-- Kernel records have been issued one by one. -/
  issued : Bool := false
  /-- Pivots processed, index of the first replacement, replacements. -/
  pivots : Nat := 0
  first : Nat := 0xFFFF
  count : Nat := 0
  sats : Nat := 0
  /-- The record of the first saturation. -/
  satRec : Option Nat := none
  /-- The record that is issued next, counted along the program. -/
  next : Nat := 0
deriving DecidableEq, Repr

/-- A physical lane (R261, R289). -/
structure Lane where
  /-- Lane memory: the words that are not 0. -/
  mem : Map Nat := []
  v : List Nat := List.replicate 16 0
  /-- The 16 tile accumulators of 72 bits. -/
  acc : List Int := List.replicate 16 0
  /-- SOL_L_V: the V registers at the end of the last problem. -/
  vEnd : List Nat := List.replicate 16 0
  status : Nat := 5
  problem : Nat := 0
  lastCycles : Nat := 0
  finish : Nat := 0
  pivotReg : Nat := 0xFFFF
  /-- An uncorrectable error has struck it (R285). -/
  faulty : Bool := false
  /-- Debug sessions that halt it (R533). -/
  halted : List Nat := []
  /-- The physical lane that this spare shadows, whether its copy has been taken, whether a mismatch has been raised (R286). -/
  shadowOf : Option Nat := none
  copied : Bool := false
  misRaised : Bool := false
deriving DecidableEq, Repr

/-- A gang (R264, R265, R276, R279). -/
structure Gang where
  size : Nat := 1
  role : Nat := 0
  /-- Bound problems in run order. -/
  order : List Nat := []
  todo : List LaneOp := []
  /-- Problems of this tick that have not started: problem and base. -/
  left : List (Nat × Nat) := []
  run : Option KRun := none
  /-- Committed cycles of the problems that ended in this tick or dispatch. -/
  used : Nat := 0
deriving DecidableEq, Repr

/-- The solver fabric. Unlisted lanes are at their reset values, unlisted logical lanes gangs of 1 with role 0. -/
structure SolSt where
  /-- SOL_LMAP entries that differ from the identity: physical lane, LOST. -/
  lmap : Map (Nat × Bool) := []
  lanes : Map Lane := []
  gangs : Map Gang := []
  /-- PROBLEM_CREATE descriptors whose blocks are being read, oldest first. -/
  creates : List Acc := []
  /-- Problems read and checked, which become objects at the next frame boundary (R30), oldest first. -/
  made : List (Acc × Problem) := []
  finishMax : Nat := 0
deriving DecidableEq, Repr

/-! ### Planning control (R291 to R307) -/

/-- A branch (R291). -/
structure Branch where
  kind : Nat := 0
  steps : Nat := 1
  shortSteps : Nat := 0
  prob : Nat := 0
  short : Option Nat := none
  scale : Nat := 0
  via : Nat := 0
deriving DecidableEq, Repr

/-- A finished branch as its segments describe it (R295 to R297): one list for each joint of (p, v, a) at the step ends in
internal units, and of the three jerks of each step (JRK32). -/
structure Joined where
  regularised : Bool := false
  pivots : Nat := 0
  cost : Nat := 0
  steps : Nat := 1
  kind : Nat := 0
  power : List Int := []
  /-- Start state of each joint. -/
  start : List (Int × Int × Int) := []
  ends : List (List (Int × Int × Int)) := []
  jerks : List (List (Int × Int × Int)) := []
deriving DecidableEq, Repr

/-- A planned arm. -/
structure PlnArm where
  br : Map Branch := []
  /-- Start states predicted at the last two captures, newest first: of plan k and of plan k − 1 (R294). -/
  starts : List (List (Int × Int × Int)) := []
  /-- The finished branches of the plan that is judged in this tick and commits at the next boundary. -/
  joined : Map Joined := []
  /-- The branches captured at the last capture and not yet joined: the problem in use, its horizon, whether a PLAN gang held it. -/
  cap : Map (Nat × Nat × Bool) := []
  refused : Nat := 0
  reason : Nat := 0
  regularised : Nat := 0
  /-- Steps' mean powers of the committed branch and the frame at which it began (R302). -/
  power : List Int := []
  since : Nat := 0
  chosen : Nat := 0
  committed : Bool := false
  cost : Nat := 0
  nocommit : Nat := 0
  fallback : Bool := false
deriving DecidableEq, Repr

/-- Planning control. -/
structure PlnSt where
  arms : Map PlnArm := []
  level : Nat := 0
  plan : Nat := 0
  joinMax : Nat := 0
  price : Map Nat := []
  peak : Map Int := []
  /-- The plan tick of the last PLN_PRICE_MAX of a group. -/
  priceMax : Map Nat := []
  /-- The logical lanes lost whose placement waits, with the plan ticks of their losses (R304). -/
  lost : List (Nat × Nat) := []
  /-- Placements of the ladder and of PLN_REPLAN that have taken effect. -/
  placed : Nat := 0
  /-- PLN_REPLANs whose placement commits at the next plan-tick boundary: the descriptors, with their allowed levels (R305). -/
  replan : List Acc := []
  /-- The arms whose member has run at this commit boundary (R298). -/
  handled : List Nat := []
deriving DecidableEq, Repr

/-! ### The separation guard (R308 to R337) -/

/-- A vector. -/
abbrev V3 := Int × Int × Int

/-- A link of a chain (R308): fields as given. -/
structure Kin where
  kind : Nat := 0
  t : V3 := (0, 0, 0)
  q : Int × V3 := (0, (0, 0, 0))
  lead : Int := 0
deriving DecidableEq, Repr

/-- A robot capsule (R309). -/
structure Cap where
  link : Nat
  a : V3
  b : V3
  r : Int
deriving DecidableEq, Repr

/-- An arm in the guard (R308 to R312, R320 to R326, R336). -/
structure GArm where
  kin : Map Kin := []
  caps : Map Cap := []
  /-- SPEED, TIME, DIST of the used rows. -/
  stop : List (Nat × Nat × Nat) := []
  /-- Captured joint positions (ANG64) and speeds (VEL32), joint order. -/
  pos : List Int := []
  vel : List Int := []
  /-- The V_MAX of its joints' profiles at the capture (R320, R323). -/
  vMax : List Int := []
  /-- Consecutive captures at which a capsule's speed has been above its cap. -/
  above : Map Nat := []
  margin : Int := 0x7FFFFFFF
  vmax : Nat := 0
  /-- Verdicts of the running cycle: passed and failed branches, first failed test of the lowest failed branch, selection. -/
  passed : Nat := 0
  failed : Nat := 0
  firstTest : Nat := 0
  sel : Option Nat := none
  /-- Final verdicts: passed, failed, unjudged, selection, cross-check complete. -/
  fPassed : Nat := 0
  fFailed : Nat := 0
  fUnjudged : Nat := 0
  fSel : Option Nat := none
  fXchk : Bool := false
deriving DecidableEq, Repr

/-- A track record of a frame (R314). -/
structure TrackRec where
  person : Bool
  speed : Nat
  x : Int
  y : Int
  z0 : Int
  z1 : Int
  r : Int
  zd : Nat
  c : Nat
deriving DecidableEq, Repr

/-- A stream block (R313, R315, R316). -/
structure Stream where
  /-- Elapsed time at which the guard was enabled, the block was enabled, or the last frame accepted. -/
  since : Nat := 0
  seq : Option Nat := none
  /-- Last SEQUENCE accepted, as GRD_S_SEQ shows it. -/
  seqShow : Nat := 0
  /-- Measurement instant of the last accepted frame, PTP ns. -/
  meas : Option Int := none
  /-- Its age at acceptance in ns, and the elapsed time of the acceptance (R36, R316). -/
  heardAge : Int := 0
  heardAt : Nat := 0
  fault : Bool := false
  recs : Map TrackRec := []
  /-- 0 not lost, 1 silence, 2 SENSOR_FAULT. -/
  lost : Nat := 0
  /-- Age at the last capture, µs. -/
  age : Nat := 0xFFFFFFFF
deriving DecidableEq, Repr

/-- A TRACK (R313, R316): its binding, and the capture. -/
structure GTrack where
  stream : Nat
  slot : Nat
  /-- A frame has been accepted since its creation. -/
  seen : Bool := false
  st : Nat := 0
  data : Option TrackRec := none
  /-- Age in ns. -/
  age : Int := 0
  margin : Int := 0x7FFFFFFF
deriving DecidableEq, Repr

/-- A zone (R317), and whether it was enabled at the last capture. -/
structure Zone where
  kind : Nat := 1
  enable : Nat := 0
  din : Nat := 0
  hostOn : Bool := false
  a : V3 := (0, 0, 0)
  b : V3 := (0, 0, 0)
  r : Int := 0
  vcap : Nat := 0
  regions : Nat := 0
  on : Bool := false
deriving DecidableEq, Repr

/-- A cause of the live check (R321): the event code, the arm and capsule, the handle of the other party, the region, and bytes 0 to 3
and 5 to 7 of its detail. -/
structure GCause where
  code : Nat
  arm : Nat
  cap : Nat
  other : Nat
  region : Nat
  lo : Nat := 0
  hi : Nat := 0
deriving DecidableEq, Repr

/-- The separation guard. -/
structure GrdSt where
  arms : Map GArm := []
  streams : Map Stream := []
  tracks : Map GTrack := []
  zones : Map Zone := []
  /-- What the running cycle has captured: the arms with their chains, capsules and stopping tables, the tracks, the zones (R320). -/
  shotArms : Map GArm := []
  shotTracks : Map GTrack := []
  shotZones : Map Zone := []
  /-- The arms as the capture found them, with their data in planning control, and the planned ones in precedence order (R320). -/
  shotRows : Map Arm := []
  shotPlan : Map PlnArm := []
  shotOrder : List Nat := []
  running : Bool := false
  refused : Bool := false
  /-- Region states at the capture, and the greatest capsule speed of each region (µm/s). -/
  regs : Map Nat := []
  speeds : Map Nat := []
  /-- The causes found by the last live check. -/
  causes : List GCause := []
  /-- The causes of the live check that have not acted yet. -/
  toAct : List GCause := []
  finish : Nat := 0
  finishMax : Nat := 0
  /-- Frame at which the running cycle has begun. -/
  cycle : Option Nat := none
  /-- Regions in which GRD_STOP_OVERRUN has been raised since their entry. -/
  overrun : List Nat := []
  /-- The arms and the tracks as the last completed cycle has left them, which GUARD nodes copy (R365). -/
  doneArms : Map GArm := []
  doneTracks : Map GTrack := []
deriving DecidableEq, Repr

end Sys2Proof.Machine
end

