-- ==== Sys2Proof/Machine/State.lean ====
section
/-!
DEFINITION. The state of the KC16: everything the manual gives the device, as plain data; the reasons a step can stop; and the
state right after a cold reset.
-/
namespace Sys2Proof.Machine

/-- Work of the present frame boundary that has begun and is not yet done: presses whose commit frame it is, the rest of the
per-frame work, the servo capture and the plan tick. -/
structure Due where
  presses : List Nat := []
  /-- Frame 16 of a plan tick: the live causes act and judging starts (R320). -/
  judge : Bool := false
  body : Bool := false
  /-- The local field pins in the frame that ended at the boundary. -/
  inp : FrameIn := {}
  servo : Bool := false
  plan : Bool := false
deriving DecidableEq, Repr

/-- The state of the device. -/
structure State where
  /-- The commands that wait, first in, first out. -/
  pending : List Instr := []
  /-- The model's own counter of free values drawn (DESIGN CHOICE). -/
  free : Nat := 0
  due : Due := {}
  /-- Register fields that hold a value: offset plus requester · 2^24; absent keys read as their reset value. -/
  regs : Map Nat := []
  /-- Generations that differ from 1, keyed class · 65536 + index (R29). -/
  gens : Map Nat := []
  /-- Live and staged objects, keyed class · 65536 + index. -/
  objs : Map ObjHead := []
  /-- Free lists of the classes (R29). -/
  frees : Map FreeList := []
  regions : Map Region := []
  arms : Map Arm := []
  joints : Map Joint := []
  srcs : Map LineSrc := []
  ryl : Map RPort := []
  cchans : Map Cchan := []
  cnv : CnvSt := {}
  fbchs : Map Fbch := []
  swchs : Map Swch := []
  buses : Map BusGrp := []
  profiles : Map Profile := []
  gears : Map Gear := []
  stepIns : Map StepIn := []
  drv : Map DCore := []
  problems : Map Problem := []
  sol : SolSt := {}
  pln : PlnSt := {}
  grd : GrdSt := {}
  host : HostSt := {}
  time : TimeSt := {}
  line : LineSt := {}
  presses : Map Press := []
  gsc : GscSt := {}
  flt : FltSt := {}
  hlt : HltSt := {}
  mbx : MbxSt := {}
  mem : MemSt := {}
  md : ModSt := {}
  sec : SecSt := {}
  pins : PinSt := {}
  out : Outputs := {}
  care : CareSt := {}
deriving DecidableEq, Repr

/-- Why a step can stop with a fault. No command of the KC16 stops the device: every misuse that the manual names completes
with a status or is discarded, so nothing raises this. Safe. -/
inductive Fault where
  /-- The reason that no command raises. Safe. -/
  | none
deriving DecidableEq, Repr

/-- Why a step can be refused. -/
inductive Refusal where
  /-- Raised by exec for a command without a meaning yet, by its mnemonic. Safe. -/
  | notModelled (mnemonic : String)
  /-- Raised by a meaning whose operands no hardware can send (WellFormed). Safe. -/
  | illFormed
deriving DecidableEq, Repr

/-- The device right after a cold reset (R508): every field at its reset value. -/
def State.reset : State := {}

end Sys2Proof.Machine
end

