-- ==== Sys2Proof/Machine/Ops.lean ====
section
/-!
DEFINITION. The named operations over the state: registers that hold a value (R4 to R6), exact time (R18, R36), device DRAM
(R481), handles and the free lists of R27 to R31, regions of objects (R390), free values.
-/
namespace Sys2Proof.Machine

/-! ### Registers that hold a value -/

/-- The key of a register: held per requester where its table says so. -/
def regKey (off req : Nat) : Nat := off + req * 16777216

/-- The value held at a register key, its reset value when nothing has been written. -/
def regAt (s : State) (off req : Nat) : Nat := mgetD s.regs (regKey off req) (regReset off)

/-- The value held by a register that is common to all requesters. -/
def reg (s : State) (off : Nat) : Nat := regAt s off 0

/-- Stores a register's value. -/
def setRegAt (s : State) (off req v : Nat) : State := { s with regs := mput s.regs (regKey off req) (v % 4294967296) }

/-- Stores a register's value, common to all requesters. -/
def setReg (s : State) (off v : Nat) : State := setRegAt s off 0 v

/-- Increments a saturating counter register (access RC). -/
def bump (s : State) (off : Nat) : State := setReg s off (bumpSat 32 (reg s off))

/-- Adds to a saturating counter register. -/
def bumpBy (s : State) (off n : Nat) : State := setReg s off (satU 32 (reg s off + n))

/-- A 64-bit lo/hi register pair. -/
def reg64 (s : State) (lo : Nat) : Nat := reg s lo + reg s (lo + 4) * 4294967296

/-! ### Time -/

/-- Units of exact time in one nanosecond. -/
def nsU : Nat := 2048000000000
/-- Units in one microsecond. -/
def usU : Nat := 2048000000000000
/-- Units in one millisecond. -/
def msU : Nat := 2048000000000000000

/-- The advance of both readings in one control cycle: 3.125 ns scaled by the frequency adjustment (R36). DESIGN CHOICE (log 85): a
positive TIM_FADJ lengthens the increment. -/
def cycleU (s : State) : Nat := (25 * (256000000000 + s.time.fadj)).toNat

/-- Advances both readings by control cycles, without a change of frame. -/
def passCycles (s : State) (n : Nat) : State :=
  { s with time := { s.time with cycle := s.time.cycle + n
                                 elapsed := s.time.elapsed + n * cycleU s
                                 ptp := s.time.ptp + n * cycleU s } }

/-- Draws the number of the next free value. -/
def draw (s : State) : Nat × State := (s.free, { s with free := s.free + 1 })

/-- A register that shows the longest duration since cold reset of a work whose time the manual bounds and does not state: one more
such time, free up to the bound in the register's unit (log 20). -/
def noteLongest (s : State) (off bound : Nat) : State :=
  let (i, s) := draw s
  setReg s off (Nat.max (reg s off) (Config.freeNat i % (bound + 1)))

/-- The control clock runs: the PLL has locked in boot stage 1 (R18), at the end of that stage (DESIGN CHOICE, log 25). -/
def clockRuns (s : State) : Bool := !s.md.held && decide (1 < s.md.stage)

/-- An event from outside arrives in the present frame, at or after the instant reached: a free value says at which of the
frame's control cycles. Without the control clock no time passes. -/
def arrive (s : State) : State :=
  let c := Config.freeCycle s.free % 64
  let s := { s with free := s.free + 1 }
  if clockRuns s then passCycles s (c - s.time.cycle) else s

/-- PTP time in whole nanoseconds. -/
def ptpNs (s : State) : Int := floorDiv s.time.ptp nsU

/-- Elapsed time in whole nanoseconds. -/
def elapsedNs (s : State) : Nat := s.time.elapsed / nsU

/-- WALL32 of this instant (R52). -/
def wall32 (s : State) : Nat := un 32 (ptpNs s)

/-- The number of the present control-clock cycle since the cold reset. -/
def instant (s : State) : Nat := s.time.frame * 64 + s.time.cycle

/-- A quotient whose rounding the manual does not state: one of the two nearest integers, which one is free. -/
def divFree (site : Nat) (n d : Int) : Int :=
  let q := Int.fdiv n d
  if q * d = n then q else if Config.roundsUp site n d then q + 1 else q

/-! ### Device DRAM -/

/-- The byte at a device DRAM address: zero where nothing has been written, since boot stage 4 writes zeros (R504). -/
def memByte (m : List (Nat × Byte)) (a : Nat) : Byte :=
  match m with
  | [] => 0
  | (k, v) :: t => if k = a then v else if a < k then 0 else memByte t a

/-- Writes one byte, keeping rising addresses and listing no zero. -/
def memSet (m : List (Nat × Byte)) (a : Nat) (b : Byte) : List (Nat × Byte) :=
  match m with
  | [] => if b = 0#8 then [] else [(a, b)]
  | (k, v) :: t =>
    if a < k then (if b = 0#8 then (k, v) :: t else (a, b) :: (k, v) :: t)
    else if k = a then (if b = 0#8 then t else (a, b) :: t)
    else (k, v) :: memSet t a b

/-- The canonical form of memory: rising addresses, no zero listed. -/
def memWf (m : List (Nat × Byte)) : Bool :=
  match m with
  | [] => true
  | [(_, v)] => decide (v ≠ 0#8)
  | (k, v) :: (j, w) :: t => decide (v ≠ 0#8) && decide (k < j) && memWf ((j, w) :: t)

/-- Reads a byte range of device DRAM. -/
def memRead (s : State) (a n : Nat) : List Byte := (List.range n).map fun i => memByte s.mem.dram (a + i)

/-- Writes bytes into a memory from an address up. -/
def memSets (m : List (Nat × Byte)) (a : Nat) (bs : List Byte) : List (Nat × Byte) :=
  match bs with
  | [] => m
  | b :: t => memSets (memSet m a b) (a + 1) t

/-- Writes bytes of device DRAM at their addresses. A line written whole loses its marks (R483, R484). -/
def memCells (m : MemSt) (cs : List (Nat × Byte)) : MemSt :=
  let whole (l : Nat) : Bool := (List.range 64).all fun i => cs.any fun c => decide (c.1 = l * 64 + i)
  { m with dram := cs.foldl (fun d c => memSet d c.1 c.2) m.dram, poisoned := m.poisoned.filter fun l => !(whole l),
           weak := m.weak.filter fun l => !(whole l) }

/-- Writes a byte range of device DRAM. A line written whole loses its marks (R483, R484); the bytes of a page that is being copied
wait until its remap (R486). -/
def memWrite (s : State) (a : Nat) (bs : List Byte) : State :=
  { s with mem :=
      if s.mem.retiring = [] then
        let gone (l : Nat) : Bool := decide (a ≤ l * 64) && decide (l * 64 + 64 ≤ a + bs.length)
        { s.mem with dram := memSets s.mem.dram a bs, poisoned := s.mem.poisoned.filter fun l => !(gone l),
                     weak := s.mem.weak.filter fun l => !(gone l) }
      else
        let cs := bs.zipIdx.map fun x => (a + x.2, x.1)
        let waits (c : Nat × Byte) : Bool := s.mem.retiring.contains (c.1 / 4096)
        { memCells s.mem (cs.filter fun c => !(waits c)) with waitW := s.mem.waitW ++ cs.filter waits } }

/-- A read of the range meets a poisoned line (R484). -/
def memPoisoned (s : State) (a n : Nat) : Bool :=
  s.mem.poisoned.any fun l => decide (l * 64 < a + n) && decide (a < l * 64 + 64)

/-- The limits of the general range of device DRAM (R481). -/
def dramGeneral (a n : Nat) : Bool := decide (0x20000000 ≤ a) && decide (a + n ≤ 0x3A0000000)

/-! ### Handles -/

/-- A handle: class, index, generation (R27). -/
def mkHandle (cls idx gen : Nat) : Nat := cls * 67108864 + idx * 1024 + gen
/-- The class of a handle. -/
def hCls (h : Nat) : Nat := bits h 26 6
/-- The index of a handle. -/
def hIdx (h : Nat) : Nat := bits h 10 16
/-- The generation of a handle. -/
def hGen (h : Nat) : Nat := bits h 0 10

def cREGION : Nat := 1
def cARM : Nat := 2
def cJOINT : Nat := 3
def cCCHAN : Nat := 4
def cFBCH : Nat := 5
def cPROFILE : Nat := 6
def cGEAR : Nat := 7
def cNODE : Nat := 8
def cFLOW : Nat := 9
def cPROBLEM : Nat := 10
def cTRACK : Nat := 11
def cZONE : Nat := 12
def cPRESS : Nat := 13
def cRING : Nat := 14
def cMBOX : Nat := 15
def cTRACE : Nat := 16
def cDELAY : Nat := 17
def cLINESRC : Nat := 18

/-- The number of indices of a class (R27). -/
def classSize (cls : Nat) : Nat :=
  match cls with
  | 1 => 16
  | 2 => 16
  | 3 => 128
  | 4 => 1024
  | 5 => 256
  | 6 => 256
  | 7 => 128
  | 8 => 8192
  | 9 => 2048
  | 10 => 256
  | 11 => 128
  | 12 => 32
  | 13 => 16
  | 14 => 320
  | 15 => 64
  | 16 => 64
  | 17 => 8192
  | 18 => 16
  | _ => 0

/-- The key of an object. -/
def objKey (cls idx : Nat) : Nat := cls * 65536 + idx

/-- The present generation of an index: 1 after a cold reset (R29). -/
def genOf (s : State) (cls idx : Nat) : Nat := mgetD s.gens (objKey cls idx) 1

/-- The generation after one more destroy: from 1023 to 1 (R29). -/
def nextGen (g : Nat) : Nat := if g < 1023 then g + 1 else 1

/-- Advances the generation of an index. -/
def advanceGen (s : State) (cls idx : Nat) : State :=
  { s with gens := mput s.gens (objKey cls idx) (nextGen (genOf s cls idx)) }

/-- The head of an object. -/
def objHead (s : State) (cls idx : Nat) : Option ObjHead := mget s.objs (objKey cls idx)

/-- An object of the class lives at the index. REGION objects always live; a ring lives while it is not DOWN and no
DESTROY drains it (R34, R411); a press
while its slot is not FREE. -/
def isLive (s : State) (cls idx : Nat) : Bool :=
  if cls = 1 then decide (idx < 16)
  else if cls = 14 then
    match mget s.host.rings idx with
    | some r => decide (r.st ≠ .down) && !(decide (r.st = .draining) && r.drainBy.isSome)
    | none => false
  else if cls = 13 then
    match mget s.presses idx with
    | some p => decide (p.phase ≠ .free)
    | none => false
  else
    match objHead s cls idx with
    | some h => h.staged.isNone
    | none => false

/-- The handle of a live object of a class. -/
def handleOf (s : State) (cls idx : Nat) : Nat := mkHandle cls idx (genOf s cls idx)

/-- The handle of an object when there is one, the null handle otherwise. -/
def handleOf? (s : State) (cls : Nat) (idx : Option Nat) : Nat :=
  match idx with
  | some i => handleOf s cls i
  | none => 0

/-- The handle names a live object. -/
def liveHandle (s : State) (h : Nat) : Bool :=
  decide (hIdx h < classSize (hCls h)) && isLive s (hCls h) (hIdx h) && decide (genOf s (hCls h) (hIdx h) = hGen h)

/-- The handle names an object whose create is staged in the press slot (R31). -/
def stagedHandle (s : State) (slot : Option Nat) (h : Nat) : Bool :=
  match slot, objHead s (hCls h) (hIdx h) with
  | some p, some o => decide (o.staged = some p) && decide (o.gen = hGen h)
  | _, _ => false

/-- The free list of a class. -/
def freeList (s : State) (cls : Nat) : FreeList := mgetD s.frees cls {}

/-- The indices of a class that RING_CREATE and the like may take from the free list: rings keep apart, see R391. -/
def classFree (cls : Nat) (f : FreeList) : Option (Nat × FreeList) :=
  if f.fresh < classSize cls then some (f.fresh, { f with fresh := f.fresh + 1 })
  else
    match f.back with
    | [] => none
    | i :: t => some (i, { f with back := t })

/-- An index of the class is free. -/
def hasFree (s : State) (cls : Nat) : Bool := (classFree cls (freeList s cls)).isSome

/-- Takes the index that has been free longest for a new object (R29). The object is staged in a press slot, or live. -/
def allocObj (s : State) (cls creator : Nat) (staged : Option Nat) : Option (Nat × State) :=
  match classFree cls (freeList s cls) with
  | none => none
  | some (i, f) =>
    some (i, { s with frees := mput s.frees cls f
                      objs := mput s.objs (objKey cls i) { gen := genOf s cls i, creator := creator, staged := staged } })

/-- Makes a staged object live. -/
def reviveObj (s : State) (cls idx : Nat) : State :=
  { s with objs := mmod s.objs (objKey cls idx) fun h => { h with staged := none } }

/-- Removes an object: its generation advances and its index joins the tail of the free list (R29). -/
def freeObj (s : State) (cls idx : Nat) : State :=
  let f := freeList s cls
  let s := advanceGen s cls idx
  { s with objs := mdel s.objs (objKey cls idx)
           frees := mput s.frees cls { f with back := f.back ++ [idx] } }

/-- How many objects of a class live or are staged. -/
def countObjs (s : State) (cls : Nat) : Nat := (s.objs.filter fun e => e.1 / 65536 = cls).length

/-- How many objects of a class live: staged creates are not live yet (R31). -/
def liveCount (s : State) (cls : Nat) : Nat := (s.objs.filter fun e => e.1 / 65536 = cls ∧ isLive s cls (e.1 % 65536) = true).length

/-! ### Records by index -/

/-- A region's record. -/
def regionAt (s : State) (r : Nat) : Region := mgetD s.regions r { hosted := r % 4 }
/-- Changes a region's record. -/
def modRegion (s : State) (r : Nat) (f : Region → Region) : State :=
  { s with regions := mput s.regions r (f (regionAt s r)) }
/-- A region's state. -/
def regionSt (s : State) (r : Nat) : RegionState := (regionAt s r).st
/-- The lifecycle limits motion to factory service: BLANK or RETURNED (R518). -/
def factoryOnly (s : State) : Bool := decide (s.sec.lifecycle = 0) || decide (s.sec.lifecycle = 3)
/-- The region's switching is held off: SAFE_OFF, or HOLD or MENDING under factory service (R21, R518). -/
def heldOff (s : State) (r : Nat) : Bool :=
  decide (regionSt s r = .safeOff) || (factoryOnly s && (decide (regionSt s r = .hold) || decide (regionSt s r = .mending)))
/-- The regions that are not EMPTY. -/
def liveRegions (s : State) : List Nat := (List.range 16).filter fun r => decide (regionSt s r ≠ .empty)

/-- A ring's record. -/
def ringAt (s : State) (r : Nat) : Ring := mgetD s.host.rings r {}
/-- Changes the host interface. -/
def modHost (s : State) (f : HostSt → HostSt) : State := { s with host := f s.host }
/-- Changes a ring's record. -/
def modRing (s : State) (r : Nat) (f : Ring → Ring) : State :=
  { s with host := { s.host with rings := mput s.host.rings r (f (ringAt s r)) } }

/-- A press slot. -/
def pressAt (s : State) (p : Nat) : Press := mgetD s.presses p {}
/-- Changes a press slot. -/
def modPress (s : State) (p : Nat) (f : Press → Press) : State := { s with presses := mput s.presses p (f (pressAt s p)) }

/-- Changes the time unit. -/
def modTime (s : State) (f : TimeSt → TimeSt) : State := { s with time := f s.time }
/-- Changes the line axis. -/
def modLine (s : State) (f : LineSt → LineSt) : State := { s with line := f s.line }
/-- Changes the fault collector. -/
def modFlt (s : State) (f : FltSt → FltSt) : State := { s with flt := f s.flt }
/-- Changes the health manager. -/
def modHlt (s : State) (f : HltSt → HltSt) : State := { s with hlt := f s.hlt }
/-- Changes the keeper's mode state. -/
def modMd (s : State) (f : ModSt → ModSt) : State := { s with md := f s.md }
/-- Changes the scheduler. -/
def modGsc (s : State) (f : GscSt → GscSt) : State := { s with gsc := f s.gsc }
/-- Changes memory and trace. -/
def modMem (s : State) (f : MemSt → MemSt) : State := { s with mem := f s.mem }
/-- Changes security and debug. -/
def modSec (s : State) (f : SecSt → SecSt) : State := { s with sec := f s.sec }
/-- Changes the pins. -/
def modPins (s : State) (f : PinSt → PinSt) : State := { s with pins := f s.pins }
/-- Changes mailboxes and locks. -/
def modMbx (s : State) (f : MbxSt → MbxSt) : State := { s with mbx := f s.mbx }

/-- The mode code of R498. -/
def modeCode (m : Mode) : Nat :=
  match m with
  | .dormant => 0
  | .prepare => 1
  | .run => 2
  | .hold => 3
  | .safeOff => 4
  | .service => 5
  | .boot => 7

/-- The rank of a region state as a target (R23); MENDING ranks as HOLD. -/
def regionRank (r : RegionState) : Nat :=
  match r with
  | .empty => 0
  | .active => 0
  | .hold => 1
  | .mending => 1
  | .service => 2
  | .safeOff => 3

/-! ### Regions of objects (R390) -/

/-- The region of an arm. -/
def armRegion (s : State) (a : Nat) : Option Nat := (mget s.arms a).map fun x => x.region
/-- The region of a joint: its arm's. -/
def jointRegion (s : State) (j : Nat) : Option Nat := (mget s.joints j).bind fun x => armRegion s x.arm
/-- The joint that a feedback channel serves. -/
def fbchJoint (s : State) (f : Nat) : Option Nat := (mkeys s.joints fun _ j => decide (j.fbch = some f)).head?
/-- The joint that a conversion channel serves: the one at its head position (R403). -/
def cchanJoint (s : State) (c : Nat) : Option Nat :=
  (mget s.cchans c).bind fun x =>
    if x.cfg.source = 1 then
      (mkeys s.joints fun _ j => decide (j.port = x.cfg.unit) && decide (j.pos = x.cfg.input % 16)).head?
    else none
/-- The joint that a profile serves. -/
def profileJoint (s : State) (p : Nat) : Option Nat := (mget s.profiles p).bind fun x => x.joint

/-- The region of an object, none for a cell-wide one (R390). -/
def objRegion (s : State) (cls idx : Nat) : Option Nat :=
  match cls with
  | 1 => some idx
  | 2 => armRegion s idx
  | 3 => jointRegion s idx
  | 4 => (cchanJoint s idx).bind (jointRegion s)
  | 5 => (fbchJoint s idx).bind (jointRegion s)
  | 6 => (profileJoint s idx).bind (jointRegion s)
  | 7 => (mget s.gears idx).bind fun g => (profileJoint s g.follower).bind (jointRegion s)
  | 8 => (mget s.gsc.nodes idx).bind fun n => if n.region = 0xFF then none else some n.region
  | 10 => (mget s.problems idx).bind fun p => p.arm.bind (armRegion s)
  | _ => none

/-- The region of the object a handle names. -/
def handleRegion (s : State) (h : Nat) : Option Nat := objRegion s (hCls h) (hIdx h)

end Sys2Proof.Machine
end

