-- ==== Sys2Proof/Machine/Kernels.lean ====
section
/-!
DEFINITION. The arithmetic of the solver's lanes and the kernel library as pure functions (R266 to R271, R274, R280, R282, R283),
and the checks of a problem's records (R275).
-/
namespace Sys2Proof.Machine

/-- What the records of a problem work on: the memories of the gang's lanes in logical-lane order, the V registers and the tile
accumulators, which every lane of the gang holds alike, the place of the data section, and the counts of R282 and R283. -/
structure KCtx where
  mems : List (Map Nat)
  v : List Nat
  acc : List Int
  base : Nat
  inertia : List Nat
  eps : Nat
  /-- The number of the next free value. -/
  seed : Nat
  run : KRun
deriving DecidableEq, Repr

/-- A record with its operands' offsets resolved for one iteration, and its index in the program. -/
structure KOp where
  idx : Nat
  r : KRec
  a : Nat
  b : Nat
  c : Nat
deriving DecidableEq, Repr

/-- FLAGS of a record. -/
def kSub (o : KOp) : Bool := o.r.flags.getLsbD 0
def kAcc (o : KOp) : Bool := o.r.flags.getLsbD 1
def kTA (o : KOp) : Bool := o.r.flags.getLsbD 2
def kTB (o : KOp) : Bool := o.r.flags.getLsbD 3

/-- The leading dimension of a matrix of `n` rows (R266). -/
def ldim (n : Nat) : Nat := 4 * ceilDiv n 4

/-- A word of the data section in one lane's memory, signed. -/
def memWord (m : Map Nat) (a : Nat) : Int := sx 32 (mgetD m a 0)
/-- A word of the data section. -/
def kRead (c : KCtx) (off : Nat) : Int := memWord (c.mems.headD []) (c.base + off)
/-- Stores a word in one lane's memory, listing no zero. -/
def putWord (m : Map Nat) (a w : Nat) : Map Nat := if w = 0 then mdel m a else mput m a w
/-- A word of the data section takes a value in every lane of the gang (R271). -/
def kWrite (c : KCtx) (off : Nat) (x : Int) : KCtx :=
  { c with mems := c.mems.map fun m => putWord m (c.base + off) (un 32 x) }
/-- Stores a list of words. -/
def kWrites (c : KCtx) (l : List (Nat × Int)) : KCtx := l.foldl (fun c e => kWrite c e.1 e.2) c

/-- `n` saturations of a record are counted (R283). -/
def kNote (c : KCtx) (idx n : Nat) : KCtx :=
  if n = 0 then c
  else { c with run := { c.run with sats := satU 32 (c.run.sats + n), satRec := match c.run.satRec with
                                                                           | some i => some i
                                                                           | none => some idx } }
/-- sat32, with the saturation it counts. -/
def kSat (c : KCtx) (idx : Nat) (x : Int) : KCtx × Int :=
  let y := satS 32 x
  (kNote c idx (if y = x then 0 else 1), y)

/-- Products added to, or subtracted from, an accumulator that saturates at 72 bits: its value, and the saturations (R268). -/
def accumulate (sub : Bool) (acc : Int) (ps : List (Int × Int)) : Int × Nat :=
  ps.foldl (fun x p =>
    let y := if sub then x.1 - p.1 * p.2 else x.1 + p.1 * p.2
    let z := satS 72 y
    (z, if z = y then x.2 else x.2 + 1)) (acc, 0)

/-- One result of a record (R268): the old value of its place, the products, the shift, the accumulator that forms it. -/
def kForm (c : KCtx) (idx slot : Nat) (sub : Bool) (shift : Nat) (old : Int) (ps : List (Int × Int)) : KCtx × Int :=
  let (a0, n0) := (satS 72 (old * 2 ^ shift), if satS 72 (old * 2 ^ shift) = old * 2 ^ shift then 0 else 1)
  let (acc, n) := accumulate sub a0 ps
  let c := kNote { c with acc := c.acc.set (slot % 16) acc } idx (n0 + n)
  kSat c idx (roundEven acc (2 ^ shift))

/-- All results of a record, formed from the memory as it stands and stored when all are formed: place, accumulator, products. -/
def kFormAll (c : KCtx) (o : KOp) (sites : List (Nat × Nat × List (Int × Int))) : KCtx :=
  let (c, out) := sites.foldl (fun (x : KCtx × List (Nat × Int)) e =>
    let (c, y) := kForm x.1 o.idx e.2.1 (kSub o) o.r.shift.toNat (if kAcc o then kRead c e.1 else 0) e.2.2
    (c, x.2 ++ [(e.1, y)])) (c, [])
  kWrites c out

/-- GEMM: C := [C] ± op(A) op(B) (R270). -/
def kGemm (c : KCtx) (o : KOp) : KCtx :=
  let m := o.r.m.toNat
  let n := o.r.n.toNat
  let k := o.r.k.toNat
  let av (i l : Nat) : Int := kRead c (if kTA o then o.a + l + i * ldim k else o.a + i + l * ldim m)
  let bv (l j : Nat) : Int := kRead c (if kTB o then o.b + j + l * ldim n else o.b + l + j * ldim k)
  kFormAll c o ((List.range n).flatMap fun j => (List.range m).map fun i =>
    (o.c + i + j * ldim m, i % 4 + 4 * (j % 4), (List.range k).map fun l => (av i l, bv l j)))

/-- SYRK: C := [C] ± A Aᵀ, lower triangle (R270). -/
def kSyrk (c : KCtx) (o : KOp) : KCtx :=
  let m := o.r.m.toNat
  let k := o.r.k.toNat
  let av (i l : Nat) : Int := kRead c (o.a + i + l * ldim m)
  kFormAll c o ((List.range m).flatMap fun j => ((List.range m).filter fun i => decide (j ≤ i)).map fun i =>
    (o.c + i + j * ldim m, i % 4 + 4 * (j % 4), (List.range k).map fun l => (av i l, av j l)))

/-- GEMV: y := [y] ± op(A) x, A stored m × k (R270). -/
def kGemv (c : KCtx) (o : KOp) : KCtx :=
  let m := o.r.m.toNat
  let k := o.r.k.toNat
  let av (i l : Nat) : Int := kRead c (o.a + i + l * ldim m)
  let xv (l : Nat) : Int := kRead c (o.b + l)
  kFormAll c o (if kTA o then (List.range k).map fun j => (o.c + j, j, (List.range m).map fun l => (av l j, xv l))
    else (List.range m).map fun i => (o.c + i, i, (List.range k).map fun l => (av i l, xv l)))

/-- EPS in the record's format: rounded up, at least 1 LSB (R269). -/
def epsOf (eps f : Nat) : Nat := Nat.max 1 (ceilDiv (eps * 2 ^ f) 16777216)

/-- A pivot under R282: the value with which the factorisation goes on. -/
def kPivot (c : KCtx) (idx f code : Nat) (d : Int) : KCtx × Int :=
  let e : Int := epsOf c.eps f
  let bad := match code with
    | 1 => decide (d < e)
    | 2 => decide (-e < d)
    | _ => decide ((d.natAbs : Int) < e)
  let r : Int := match code with
    | 1 => e
    | 2 => -e
    | _ => if d < 0 then -e else e
  let i := c.run.pivots
  let c := { c with run := { c.run with pivots := i + 1 } }
  if bad then
    let c := { c with run := { c.run with first := if c.run.count = 0 then Nat.min i 65535 else c.run.first,
                                          count := Nat.min 65535 (c.run.count + 1) } }
    kSat c idx r
  else (c, d)

/-- One column of an LDL factorisation. `u` keeps the undivided entries l · d, keyed 64 · row + column. -/
def kLdlCol (o : KOp) (n j : Nat) (x : KCtx × Map Int) : KCtx × Map Int :=
  let f := o.r.shift.toNat
  let at_ (i k : Nat) : Nat := o.a + i + k * ldim n
  let (c, u) := x
  let (c, u) := ((List.range n).filter fun i => decide (j ≤ i)).foldl (fun (x : KCtx × Map Int) i =>
    let (c, y) := kForm x.1 o.idx (i % 4 + 4 * (j % 4)) true f (kRead c (at_ i j))
      ((List.range j).map fun k => (kRead c (at_ i k), mgetD u (64 * j + k) 0))
    (c, mput x.2 (64 * i + j) y)) (c, u)
  let (c, d) := kPivot c o.idx f (c.inertia.getD (o.r.k.toNat + j) 0) (mgetD u (64 * j + j) 0)
  let c := kWrite c (at_ j j) d
  let c := ((List.range n).filter fun i => decide (j < i)).foldl (fun c i =>
    let (c, l) := kSat c o.idx (divFree 100 (mgetD u (64 * i + j) 0 * 2 ^ f) d)
    kWrite c (at_ i j) l) c
  (c, u)

/-- LDL: in place, A = L D Lᵀ (R270, R282). -/
def kLdl (c : KCtx) (o : KOp) : KCtx :=
  let n := o.r.m.toNat
  ((List.range n).foldl (fun x j => kLdlCol o n j x) (c, [])).1

/-- A quotient in the record's format. By 0 the manual states no result: a free value. -/
def kQuot (c : KCtx) (idx f : Nat) (x d : Int) : KCtx × Int :=
  if d = 0 then ({ c with seed := c.seed + 1 }, sx 32 (Config.freeNat c.seed)) else kSat c idx (divFree 101 (x * 2 ^ f) d)

/-- One column of LDLSOLVE: forward, diagonal and backward. -/
def kSolveCol (c : KCtx) (o : KOp) (n col : Nat) : KCtx :=
  let f := o.r.shift.toNat
  let av (i k : Nat) : Int := kRead c (o.a + i + k * ldim n)
  let (c, y) := (List.range n).foldl (fun (x : KCtx × List Int) i =>
    let (c, z) := kForm x.1 o.idx i true f (kRead c (o.b + i + col * ldim n)) ((List.range i).map fun k => (av i k, x.2.getD k 0))
    (c, x.2 ++ [z])) (c, [])
  let (c, w) := (List.range n).foldl (fun (x : KCtx × List Int) i =>
    let (c, z) := kQuot x.1 o.idx f (y.getD i 0) (av i i)
    (c, x.2 ++ [z])) (c, [])
  let (c, r) := (List.range n).foldl (fun (x : KCtx × Map Int) t =>
    let i := n - 1 - t
    let (c, z) := kForm x.1 o.idx i true f (w.getD i 0)
      (((List.range n).filter fun k => decide (i < k)).map fun k => (av k i, mgetD x.2 k 0))
    (c, mput x.2 i z)) (c, [])
  kWrites c (r.map fun e => (o.c + e.1 + col * ldim n, e.2))

/-- LDLSOLVE: C := A⁻¹ B for an LDL-factored A (R270). -/
def kSolve (c : KCtx) (o : KOp) : KCtx :=
  (List.range o.r.n.toNat).foldl (fun c col => kSolveCol c o o.r.m.toNat col) c

/-- A V register, signed. -/
def kV (c : KCtx) (i : Nat) : Int := sx 32 (c.v.getD i 0)

/-- AXPBY: z := V[VSEL] x + V[VSEL + 1] y (R270). -/
def kAxpby (c : KCtx) (o : KOp) : KCtx :=
  let s := o.r.vsel.toNat
  kFormAll c o ((List.range o.r.m.toNat).map fun i =>
    (o.c + i, i, [(kV c s, kRead c (o.a + i)), (kV c (s + 1), kRead c (o.b + i))]))

/-- CLAMP: z := min(max(x, lo), hi) (R270). -/
def kClamp (c : KCtx) (o : KOp) : KCtx :=
  let s := o.r.vsel.toNat
  kWrites c ((List.range o.r.m.toNat).map fun i =>
    let lo := if kTA o then kV c s else kRead c (o.b + i)
    let hi := if kTA o then kV c (s + 1) else kRead c (o.c + i)
    let x := kRead c (o.a + i)
    let y := if x < lo then lo else x
    (o.c + i, if hi < y then hi else y))

/-- ⌊√n⌋ or the integer above where the rounding is free, 0 for a negative n. -/
def sqrtFree (site : Nat) (n : Int) : Int :=
  let r := isqrt n.toNat
  if (r * r : Int) = n ∨ n ≤ 0 then (r : Int) else if Config.roundsUp site n 1 then (r : Int) + 1 else (r : Int)

/-- One element of RECIP: 1 / x or 1 / √x with F fraction bits. Of 0, and of a negative value under the root, it saturates, at
which end the manual does not say (R270). -/
def kRecipOne (c : KCtx) (idx f : Nat) (root : Bool) (x : Int) : KCtx × Int :=
  if x = 0 ∨ (root = true ∧ x < 0) then
    let c := { kNote c idx 1 with seed := c.seed + 1 }
    (c, if Config.freeNat (c.seed - 1) % 2 = 0 then 2147483647 else -2147483648)
  else if root then kSat c idx (sqrtFree 102 (divFree 103 (2 ^ (3 * f)) x))
  else kSat c idx (divFree 104 (2 ^ (2 * f)) x)

/-- RECIP: z := 1 / x, or 1 / √x (R270). -/
def kRecip (c : KCtx) (o : KOp) : KCtx :=
  let (c, out) := (List.range o.r.m.toNat).foldl (fun (x : KCtx × List (Nat × Int)) i =>
    let (c, y) := kRecipOne x.1 o.idx o.r.shift.toNat (kTA o) (kRead c (o.a + i))
    (c, x.2 ++ [(o.c + i, y)])) (c, [])
  kWrites c out

/-- DOT: V[VSEL] := xᵀ y, also written to C (R267, R270). -/
def kDot (c : KCtx) (o : KOp) : KCtx :=
  let (c, y) := kForm c o.idx 0 (kSub o) o.r.shift.toNat (if kAcc o then kRead c o.c else 0)
    ((List.range o.r.m.toNat).map fun i => (kRead c (o.a + i), kRead c (o.b + i)))
  kWrite { c with v := c.v.set o.r.vsel.toNat (un 32 y) } o.c y

/-- COPY: z := x (R270). -/
def kCopy (c : KCtx) (o : KOp) : KCtx :=
  kWrites c ((List.range o.r.m.toNat).map fun i => (o.c + i, kRead c (o.a + i)))

/-- GREDUCE: z := sum over the gang's lanes of each lane's x (R270). -/
def kGreduce (c : KCtx) (o : KOp) : KCtx :=
  let (c, out) := (List.range o.r.m.toNat).foldl (fun (x : KCtx × List (Nat × Int)) i =>
    let (c', y) := kSat x.1 o.idx (isum (c.mems.map fun m => memWord m (c.base + o.a + i)))
    (c', x.2 ++ [(o.c + i, y)])) (c, [])
  kWrites c out

/-- CAPDIST: P distances at C. The manual gives its operands no layout, so that the distances are free values (R270, R328). -/
def kCapdist (c : KCtx) (o : KOp) : KCtx :=
  let p := o.r.m.toNat
  { kWrites c ((List.range p).map fun i => (o.c + i, sx 32 (Config.freeNat (c.seed + i)))) with seed := c.seed + p }

/-- One record other than REPEAT. -/
def kernel (c : KCtx) (o : KOp) : KCtx :=
  match o.r.kernel.toNat with
  | 0x01 => kGemm c o
  | 0x02 => kSyrk c o
  | 0x03 => kGemv c o
  | 0x04 => kLdl c o
  | 0x05 => kSolve c o
  | 0x06 => kAxpby c o
  | 0x07 => kClamp c o
  | 0x08 => kRecip c o
  | 0x09 => kDot c o
  | 0x0A => kCopy c o
  | 0x0B => kGreduce c o
  | 0x0C => kCapdist c o
  | _ => c

/-- The iteration index and the strides of the innermost enclosing REPEAT. -/
abbrev KEnv := Option (Int × Int × Int × Int)

/-- An operand's offset in an iteration (R274). -/
def stepped (off : Nat) (step : Bool) (env : KEnv) (stride : Int × Int × Int → Int) : Int :=
  match env with
  | some (i, st) => if step then (off : Int) + i * stride st else off
  | none => off

/-- A record with its operands resolved. -/
def kResolve (idx : Nat) (r : KRec) (env : KEnv) : KOp :=
  { idx := idx, r := r, a := (stepped r.a.toNat (r.flags.getLsbD 4) env fun s => s.1).toNat,
    b := (stepped r.b.toNat (r.flags.getLsbD 5) env fun s => s.2.1).toNat,
    c := (stepped r.c.toNat (r.flags.getLsbD 6) env fun s => s.2.2).toNat }

/-- The strides of a REPEAT. -/
def kStrides (r : KRec) : Int × Int × Int := (r.a.toInt, r.b.toInt, r.c.toInt)

/-- Records run in order, REPEATs with their bodies (R274). A REPEAT without records, which no program holds, does nothing. -/
def runRecs (fuel : Nat) (recs : List (Nat × KRec)) (env : KEnv) (c : KCtx) : KCtx :=
  match fuel with
  | 0 => c
  | f + 1 =>
    match recs with
    | [] => c
    | (i, r) :: t =>
      if r.kernel.toNat = 0x0D then
        let body := t.take r.n.toNat
        let c := (List.range r.m.toNat).foldl (fun c it => runRecs f body (some ((it : Int), kStrides r)) c) c
        runRecs f (t.drop r.n.toNat) env c
      else runRecs f t env (kernel c (kResolve i r env))

/-! ### Cycle counts (R270, R280) -/

/-- log2 of a gang size. -/
def log2g (g : Nat) : Nat := Nat.log2 g

/-- The cycles of one record other than REPEAT. -/
def kCycles (r : KRec) (g : Nat) : Nat :=
  let m := r.m.toNat
  let n := r.n.toNat
  let k := r.k.toNat
  let c4 (x : Nat) : Nat := ceilDiv x 4
  let s16 (x : Nat) : Nat := ceilDiv x 16
  match r.kernel.toNat with
  | 0x01 => c4 m * ceilDiv n (4 * g) * (k + 4) + 12 + 8 * (g - 1)
  | 0x02 => ceilDiv (c4 m * (c4 m + 1)) (2 * g) * (k + 4) + 12 + 8 * (g - 1)
  | 0x03 => ceilDiv (c4 m) g * (c4 k + 3) + 12 + 8 * (g - 1)
  | 0x04 => ceilDiv (m * m * m) (48 * g) + (8 + 4 * (g - 1)) * m + 20
  | 0x05 => 2 * c4 m * (m + 4) * ceilDiv (c4 n) g + m + 16 + 8 * (g - 1)
  | 0x06 => ceilDiv (s16 m) g + 8
  | 0x07 => ceilDiv (s16 m) g + 8
  | 0x08 => 8 * ceilDiv (s16 m) g + 10
  | 0x09 => s16 m + 10 + 8 * (g - 1)
  | 0x0A => ceilDiv (s16 m) g + 6
  | 0x0B => 8 + 4 * log2g g * s16 m
  | 0x0C => 12 * ceilDiv (c4 m) g + 30
  | _ => 0

/-- The cycles of a list of records (R280). -/
def recCycles (fuel : Nat) (recs : List KRec) (g : Nat) : Nat :=
  match fuel with
  | 0 => 0
  | f + 1 =>
    match recs with
    | [] => 0
    | r :: t =>
      if r.kernel.toNat = 0x0D then
        4 + 2 * r.m.toNat + r.m.toNat * recCycles f (t.take r.n.toNat) g + recCycles f (t.drop r.n.toNat) g
      else kCycles r g + recCycles f t g

/-! ### The checks of a program (R267, R270, R273 to R275) -/

/-- The dimensions lie in the table, the fields that do not apply are 0, and VSEL and SHIFT are valid. -/
def kDims (r : KRec) : Bool :=
  let m := r.m.toNat
  let n := r.n.toNat
  let k := r.k.toNat
  let vec := decide (1 ≤ m ∧ m ≤ 4096) && decide (n = 0) && decide (k = 0)
  decide (r.shift.toNat ≤ 63) && !(r.flags.getLsbD 7) &&
    match r.kernel.toNat with
    | 0x01 => decide (m ≤ 256 ∧ n ≤ 256 ∧ 1 ≤ k ∧ k ≤ 256)
    | 0x02 => decide (m ≤ 256 ∧ n = 0 ∧ 1 ≤ k ∧ k ≤ 256)
    | 0x03 => decide (m ≤ 256 ∧ n = 0 ∧ k ≤ 256)
    | 0x04 => decide (1 ≤ m ∧ m ≤ 64 ∧ n = m)
    | 0x05 => decide (1 ≤ m ∧ m ≤ 64 ∧ 1 ≤ n ∧ n ≤ 256 ∧ k = 0)
    | 0x06 => vec && decide (r.vsel.toNat ≤ 14)
    | 0x07 => vec && (!(r.flags.getLsbD 2) || decide (r.vsel.toNat ≤ 14))
    | 0x08 => vec
    | 0x09 => vec && decide (r.vsel.toNat ≤ 15)
    | 0x0A => vec
    | 0x0B => vec
    | 0x0C => vec
    | 0x0D => decide (1 ≤ m ∧ m ≤ 4096 ∧ 1 ≤ n ∧ n ≤ 511 ∧ k = 0)
    | _ => false

/-- Words of a matrix. -/
def matWords (rows cols : Nat) : Nat := ldim rows * cols

/-- The words that a record's operands A, B and C take; none for an operand it does not use. -/
def kExtents (r : KRec) : Option Nat × Option Nat × Option Nat :=
  let m := r.m.toNat
  let n := r.n.toNat
  let k := r.k.toNat
  let ta := r.flags.getLsbD 2
  let tb := r.flags.getLsbD 3
  match r.kernel.toNat with
  | 0x01 => (some (if ta then matWords k m else matWords m k), some (if tb then matWords n k else matWords k n), some (matWords m n))
  | 0x02 => (some (matWords m k), none, some (matWords m m))
  | 0x03 => (some (matWords m k), some (if ta then m else k), some (if ta then k else m))
  | 0x04 => (some (matWords m m), none, none)
  | 0x05 => (some (matWords m m), some (matWords m n), some (matWords m n))
  | 0x06 => (some m, some m, some m)
  | 0x07 => (some m, if ta then none else some m, some m)
  | 0x08 => (some m, none, some m)
  | 0x09 => (some m, some m, some 1)
  | 0x0A => (some m, none, some m)
  | 0x0B => (some m, none, some m)
  | 0x0C => (none, none, some m)
  | _ => (none, none, none)

/-- The innermost REPEAT that encloses record `i`. -/
def innermost (recs : List KRec) (i : Nat) : Option KRec :=
  ((recs.zipIdx.filter fun e => decide (e.2 < i) && decide (e.1.kernel.toNat = 0x0D) && decide (i ≤ e.2 + e.1.n.toNat)).getLast?).map
    Prod.fst

/-- An operand lies in the data section, aligned, in every iteration. -/
def kReach (words off : Nat) (ext : Option Nat) (step : Bool) (rep : Option KRec) (stride : Int × Int × Int → Int) : Bool :=
  match ext with
  | none => true
  | some e =>
    match step, rep with
    | true, some r =>
      let d := stride (kStrides r)
      let last := (off : Int) + ((r.m.toNat : Int) - 1) * d
      decide (off % 4 = 0) && (decide (r.m.toNat ≤ 1) || decide (d % 4 = 0)) && decide (off + e ≤ words) &&
        decide (0 ≤ last) && decide (last + e ≤ words)
    | _, _ => decide (off % 4 = 0) && decide (off + e ≤ words)

/-- A record is valid for every iteration. -/
def kValid (recs : List KRec) (words i : Nat) (r : KRec) : Bool :=
  let rep := innermost recs i
  let (ea, eb, ec) := kExtents r
  kDims r && kReach words r.a.toNat ea (r.flags.getLsbD 4) rep (fun s => s.1) &&
    kReach words r.b.toNat eb (r.flags.getLsbD 5) rep (fun s => s.2.1) &&
    kReach words r.c.toNat ec (r.flags.getLsbD 6) rep (fun s => s.2.2)

/-- The structure rules of R274 for the REPEAT at record `i`. -/
def repeatOk (recs : List KRec) (i : Nat) (r : KRec) : Bool :=
  let outer := recs.zipIdx.filter fun e => decide (e.1.kernel.toNat = 0x0D) && decide (e.2 < i) && decide (i ≤ e.2 + e.1.n.toNat)
  decide (i + r.n.toNat < recs.length) && decide (outer.length < 4) &&
    outer.all fun e => decide (i + r.n.toNat ≤ e.2 + e.1.n.toNat)

end Sys2Proof.Machine
end

