-- ==== Sys2Proof/Machine/Trig.lean ====
section
/-!
DEFINITION. Sine and cosine of a fraction of a turn (R157, R167, R250, R308).
-/
namespace Sys2Proof.Machine

/-- 2π in units of 2^-96, to the nearest. -/
def twoPi96 : Int := 497805226624462170461043889244

/-- One in the scale of the series below. -/
def trigOne : Int := 79228162514264337593543950336

/-- 1 − x²/d₀ · (1 − x²/d₁ · (1 − …)) for x² in units of 2^-96. -/
def trigSeries (sq : Int) (ds : List Int) : Int := ds.foldr (fun d acc => trigOne - Int.fdiv (sq * acc) (trigOne * d)) trigOne

/-- Sine and cosine of r / 2^32 turns for r below 2^30, in units of 2^-96. -/
def sinCosQuarter (r : Nat) : Int × Int :=
  let x : Int := Int.fdiv ((r : Int) * twoPi96) 4294967296
  let sq := Int.fdiv (x * x) trigOne
  let ks : List Int := (List.range 20).map fun (k : Nat) => (k : Int)
  (Int.fdiv (x * trigSeries sq (ks.map fun k => (2 * k + 2) * (2 * k + 3))) trigOne, trigSeries sq (ks.map fun k => (2 * k + 1) * (2 * k + 2)))

/-- sin(2πx / 2^32) in Q2.62 units. The manual fixes no accuracy of its sines and cosines: here they are exact but for the rounding of
the last place, which is free (DESIGN CHOICE, log 16). -/
def sinTurn (x : Nat) : Int :=
  let r := x % 1073741824
  let (s, c) := if r = 0 then (0, trigOne) else sinCosQuarter r
  let v := match x / 1073741824 % 4 with
    | 0 => s
    | 1 => c
    | 2 => -s
    | _ => -c
  divFree 145 v 17179869184

/-- cos(2πx / 2^32) in Q2.62 units. -/
def cosTurn (x : Nat) : Int := sinTurn (x + 1073741824)

end Sys2Proof.Machine
end

