-- ==== Sys2Proof/Machine/Geometry.lean ====
section
/-!
DEFINITION. The guard's geometry (R308, R310, R311): poses of a chain, capsules in the cell frame, distances of capsules, reach bounds.
Lengths are in units of 2^-40 m, rotation entries in units of 2^-40.
-/
namespace Sys2Proof.Machine

/-- A LEN32 value (Q4.28 m) in units of 2^-40 m. -/
def lenU (x : Int) : Int := x * 4096
def v3u (x : V3) : V3 := (lenU x.1, lenU x.2.1, lenU x.2.2)
def v3add (a b : V3) : V3 := (a.1 + b.1, a.2.1 + b.2.1, a.2.2 + b.2.2)
def v3sub (a b : V3) : V3 := (a.1 - b.1, a.2.1 - b.2.1, a.2.2 - b.2.2)
def v3dot (a b : V3) : Int := a.1 * b.1 + a.2.1 * b.2.1 + a.2.2 * b.2.2
def v3scale (k : Int) (a : V3) : V3 := (k * a.1, k * a.2.1, k * a.2.2)

/-- One in the scale of rotation entries. -/
def rotOne : Int := 1099511627776

/-- A pose: the three rows of the rotation, and the translation. -/
structure Pose where
  r0 : V3 := (rotOne, 0, 0)
  r1 : V3 := (0, rotOne, 0)
  r2 : V3 := (0, 0, rotOne)
  t : V3 := (0, 0, 0)
deriving DecidableEq, Repr

/-- A product in the scale of rotation entries; its rounding is free within the bound of R311. -/
def rq (x : Int) : Int := divFree 120 x rotOne

/-- A vector turned by a pose. -/
def turn (p : Pose) (v : V3) : V3 := (rq (v3dot p.r0 v), rq (v3dot p.r1 v), rq (v3dot p.r2 v))
/-- A point of a frame in the frame above. -/
def place (p : Pose) (v : V3) : V3 := v3add (turn p v) p.t
/-- A column of a rotation. -/
def poseCol (p : Pose) (k : Nat) : V3 :=
  match k with
  | 0 => (p.r0.1, p.r1.1, p.r2.1)
  | 1 => (p.r0.2.1, p.r1.2.1, p.r2.2.1)
  | _ => (p.r0.2.2, p.r1.2.2, p.r2.2.2)
/-- Two transforms in a row. -/
def compose (p q : Pose) : Pose :=
  let row (r : V3) : V3 := (rq (v3dot r (poseCol q 0)), rq (v3dot r (poseCol q 1)), rq (v3dot r (poseCol q 2)))
  { r0 := row p.r0, r1 := row p.r1, r2 := row p.r2, t := place p q.t }

/-- Trans(T) · Rot(Q) of a link (R308). -/
def linkPose (k : Kin) : Pose :=
  let (w, x, y, z) := k.q
  let e (n : Int) : Int := divFree 121 (2 * n) 1048576
  { r0 := (rotOne - e (y * y + z * z), e (x * y - w * z), e (x * z + w * y)),
    r1 := (e (x * y + w * z), rotOne - e (x * x + z * z), e (y * z - w * x)),
    r2 := (e (x * z - w * y), e (y * z + w * x), rotOne - e (x * x + y * y)),
    t := v3u k.t }

/-- M_j(q) of a joint at a position in ANG64 (R308). -/
def jointMove (k : Kin) (q : Int) : Pose :=
  if k.kind = 2 then { t := (0, 0, divFree 122 (k.lead * q) 1048576) }
  else
    let c := divFree 123 (cosTurn (un 32 q)) 4194304
    let s := divFree 123 (sinTurn (un 32 q)) 4194304
    { r0 := (c, -s, 0), r1 := (s, c, 0) }

/-- The frames of a chain at joint positions: the base first, then the joints in order. -/
def chainPoses (kin : Map Kin) (qs : List Int) : List Pose :=
  let base := linkPose (mgetD kin 255 {})
  (qs.zipIdx.foldl (fun (x : List Pose × Pose) e =>
    let k := mgetD kin e.2 {}
    let p := compose (compose x.2 (linkPose k)) (jointMove k e.1)
    (x.1 ++ [p], p)) ([base], base)).1

/-- A capsule in the cell frame: its ends and its radius. -/
structure Body where
  a : V3
  b : V3
  r : Int
deriving DecidableEq, Repr

/-- The frame of a link among a chain's poses. -/
def capFrame (ps : List Pose) (link : Nat) : Pose := if link = 255 then ps.headD {} else ps.getD (link + 1) {}

/-- A robot capsule in the cell frame, its radius grown. -/
def bodyOf (ps : List Pose) (c : Cap) (grow : Int) : Body :=
  let p := capFrame ps c.link
  { a := place p (v3u c.a), b := place p (v3u c.b), r := lenU c.r + grow }

/-! ### Distances (R311) -/

/-- The lesser of two fractions with positive denominators. -/
def minFrac (x y : Int × Int) : Int × Int := if y.1 * x.2 < x.1 * y.2 then y else x

/-- The squared distance of a point to a segment, as a fraction. -/
def pointSeg (p a b : V3) : Int × Int :=
  let d := v3sub b a
  let w := v3sub p a
  let e := v3dot d d
  let t := v3dot w d
  if t ≤ 0 ∨ e = 0 then (v3dot w w, 1)
  else if e ≤ t then (let u := v3sub p b; (v3dot u u, 1))
  else (v3dot w w * e - t * t, e)

/-- The squared distance of two segments, as a fraction: the least of the four ends and of the inner point where there is one. -/
def segSeg (a1 b1 a2 b2 : V3) : Int × Int :=
  let ends := minFrac (minFrac (pointSeg a1 a2 b2) (pointSeg b1 a2 b2)) (minFrac (pointSeg a2 a1 b1) (pointSeg b2 a1 b1))
  let d1 := v3sub b1 a1
  let d2 := v3sub b2 a2
  let r := v3sub a1 a2
  let a := v3dot d1 d1
  let e := v3dot d2 d2
  let b := v3dot d1 d2
  let c := v3dot d1 r
  let f := v3dot d2 r
  let den := a * e - b * b
  let s := b * f - c * e
  let t := a * f - b * c
  if 0 < den ∧ 0 ≤ s ∧ s ≤ den ∧ 0 ≤ t ∧ t ≤ den then
    let w := v3add (v3scale den r) (v3sub (v3scale s d1) (v3scale t d2))
    minFrac ends (v3dot w w, den * den)
  else ends

/-- The engine's d of two capsules in units of 2^-40 m (R311): at most the exact distance, and at most 100 µm below it, saturated
at the top of LEN32. `frame` and `pair` name the free part. -/
def engineD (frame pair : Nat) (x y : Body) : Int :=
  let (n, m) := segSeg x.a x.b y.a y.b
  let exact : Int := (isqrt (n / m).toNat : Int) - x.r - y.r
  let top : Int := 2147483647 * 4096
  let d := exact - ((Config.engineErr frame pair % 109951000 : Nat) : Int)
  if top < d then top else d

/-! ### Reach bounds and speeds (R310) -/

/-- 2π in units of 2^-60. -/
def twoPi60 : Int := 7244019458077122842

/-- The length of a vector; its rounding is free. -/
def v3len (v : V3) : Int := sqrtFree 124 (v3dot v v)

/-- L_j,c for joint j and a capsule, in units of 2^-40 m per revolution (R310). -/
def reachBound (kin : Map Kin) (c : Cap) (j : Nat) : Int :=
  if c.link = 255 ∨ c.link < j then 0
  else
    let k := mgetD kin j {}
    if k.kind = 2 then (lenU k.lead).natAbs
    else
      let links := (List.range (c.link + 1)).filter fun i => decide (j < i)
      let sum := isum (links.map fun i => v3len (v3u (mgetD kin i {}).t))
      let la := v3len (v3u c.a)
      let lb := v3len (v3u c.b)
      divFree 125 (twoPi60 * (sum + (if la < lb then lb else la) + lenU c.r)) 1152921504606846976

/-- Σ L_j,c × e_j for movements in units of 2^-64 rev, in units of 2^-40 m. -/
def reachMove (kin : Map Kin) (c : Cap) (es : List Int) : Int :=
  divFree 126 (isum (es.zipIdx.map fun e => e.1 * reachBound kin c e.2)) 18446744073709551616

/-- The capsule speed in nm/s for joint speeds in units of 2^-48 rev/s (R310). -/
def capSpeed (kin : Map Kin) (c : Cap) (vs : List Int) : Int :=
  divFree 127 (isum (vs.zipIdx.map fun e => (e.1.natAbs : Int) * reachBound kin c e.2) * 1000000000) (281474976710656 * rotOne)

/-! ### Stopping tables (R312) -/

/-- T_s(v) in ns (`which` 0) or S_s(v) in 10^-18 m (1) at a speed in nm/s. -/
def stopValue (rows : List (Nat × Nat × Nat)) (which : Nat) (v : Int) : Int :=
  let f (r : Nat × Nat × Nat) : Int := if which = 0 then (r.2.1 : Int) * 10000 else (r.2.2 : Int) * 100000000000000
  let sp (r : Nat × Nat × Nat) : Int := (r.1 : Int) * 1000000
  match (rows.zip rows.tail).find? fun e => decide (v ≤ sp e.2) with
  | some (x, y) => f x + divFree 128 ((f y - f x) * (v - sp x)) (sp y - sp x)
  | none => Config.stopBeyond which v

/-- The SPEED of a table's last used row, nm/s. -/
def stopTop (rows : List (Nat × Nat × Nat)) : Int := (((rows.getLast?).map fun r => r.1).getD 0 : Nat) * 1000000

/-- T_s(v0) of R332: above the last row its TIME scaled by v0 / SPEED. -/
def stopTimeWide (rows : List (Nat × Nat × Nat)) (v : Int) : Int :=
  let top := stopTop rows
  if v ≤ top then stopValue rows 0 v
  else
    let last := ((rows.getLast?).map fun r => r.2.1).getD 0
    if top = 0 then 0 else divFree 129 ((last : Int) * 10000 * v) top

end Sys2Proof.Machine
end

