-- ==== Sys2Proof/Machine/Flags.lean ====
section
/-!
DEFINITION. The flags of a Draver core: Z, N, C, V and the sticky SAT and AOV of DST (R213, R217 to R219), the conditions of a
branch (R223), and the saturations that set them.
-/
namespace Sys2Proof.Machine

/-- The unsigned reading of a 32-bit value. -/
def w32 (x : Int) : Nat := un 32 x
/-- The signed reading of a 32-bit value. -/
def s32 (n : Nat) : Int := sx 32 n

/-- Z and N of a 32-bit result: the flags that the row lists (R217). -/
def flZN (r : Nat) : DstOp := { mask := 3, val := b2n (decide (r = 0)) + 2 * b2n (bit r 31) }
/-- Z, N, C and V of a 32-bit addition or subtraction. -/
def flZNCV (r : Nat) (c v : Bool) : DstOp := { mask := 15, val := (flZN r).val + 4 * b2n c + 8 * b2n v }
/-- Z, N, V and the sticky SAT of a saturating addition or subtraction: V is set when it saturates. -/
def flZNVS (r : Nat) (sat : Bool) : DstOp :=
  { mask := 11, val := (flZN r).val + 8 * b2n sat, sticky := 16 * b2n sat }
/-- Z and N of a result, and the sticky SAT. -/
def flZNS (r : Nat) (sat : Bool) : DstOp := { flZN r with sticky := 16 * b2n sat }
/-- The sticky AOV and SAT of an accumulator that has saturated (R219). -/
def flAOV (sat : Bool) : DstOp := { sticky := 48 * b2n sat }

/-- DST after an instruction's writes: bit 16 and the reserved bits are no program's to write (R213, R228). -/
def dstApply (dst : Nat) (o : DstOp) : Nat :=
  let base := match o.set with
    | some v => Nat.land v 0x1FF + Nat.land dst 0x10000
    | none => dst
  Nat.lor (Nat.lor (base - Nat.land base o.mask) (Nat.land o.val o.mask)) o.sticky

/-- The flags part alone of an instruction's writes: what ADDC and SUBC see at once (R229). -/
def dstFlags (dst : Nat) (o : DstOp) : Nat := dstApply dst { o with set := none }

/-- The 32-bit addition a + b + c: result and flags. -/
def addFl (a b c : Nat) : Nat × DstOp :=
  let sum := a + b + c
  let r := sum % 4294967296
  (r, flZNCV r (decide (4294967296 ≤ sum)) (decide (s32 r ≠ s32 a + s32 b + c)))

/-- The 32-bit subtraction a − b − (1 − c): result and flags; C is 1 when there is no borrow. -/
def subFl (a b c : Nat) : Nat × DstOp :=
  let d : Int := (a : Int) - b - (1 - (c : Int))
  let r := w32 d
  (r, flZNCV r (decide (0 ≤ d)) (decide (s32 r ≠ s32 a - s32 b - (1 - (c : Int)))))

/-- sat32 (R218): the value and whether it clamps. -/
def sat32 (x : Int) : Nat × Bool :=
  let y := satS 32 x
  (w32 y, decide (y ≠ x))

/-- An accumulator result at 72 bits (R219): the value and whether it saturates. -/
def sat72 (x : Int) : Int × Bool :=
  let y := satS 72 x
  (y, decide (y ≠ x))

/-- x / 2^s in a rounding mode of DST.RM (R218). -/
def rndBy (rm : Nat) (x : Int) (s : Nat) : Int :=
  let d : Int := (2 : Int) ^ s
  match rm with
  | 0 => roundDiv x d
  | 1 => roundEven x d
  | 2 => floorDiv x d
  | _ => if 0 ≤ x then floorDiv x d else -(floorDiv (-x) d)

/-- The test of a branch condition on DST, none for the undefined codes 12 to 15 (R223). -/
def condHolds (cond dst : Nat) : Option Bool :=
  let z := bit dst 0
  let n := bit dst 1
  let c := bit dst 2
  let v := bit dst 3
  match cond with
  | 0 => some true
  | 1 => some z
  | 2 => some (!z)
  | 3 => some (n != v)
  | 4 => some (n == v)
  | 5 => some (!z && (n == v))
  | 6 => some (z || (n != v))
  | 7 => some c
  | 8 => some (!c)
  | 9 => some v
  | 10 => some (!v)
  | 11 => some (bit dst 4)
  | _ => none

end Sys2Proof.Machine
end

