-- ==== Sys2Proof/Machine/DrvCore.lean ====
section
/-!
DEFINITION. The Draver instruction set (R187 to R191, R210 to R229): the decoded instruction, the exposed pipeline, each
operation's effect, and what one issue does to a context and to the core's data memory.
-/
namespace Sys2Proof.Machine

/-- A decoded instruction. `alu` and `alui` carry the opcode of R216. -/
inductive DIns where
  | nop
  | alu (op d a b : Nat)
  | alui (op d a imm : Nat)
  | mul (op aa ga gb : Nat)
  | clra (aa : Nat)
  | mvga (aa gb : Nat) (s : Int)
  | mvgp (aa ga gb : Nat) (s : Int)
  | adda (aa ab : Nat)
  | sha (aa : Nat) (s : Int)
  | rnd (d aa s : Nat)
  | ext (d aa s : Nat)
  | rpt (body : Nat) (csrc : Bool) (ga count : Nat)
  | ld (d p : Nat) (u : Bool) (m : Int)
  | st (d p : Nat) (u : Bool) (m : Int)
  | ldc (d p : Nat) (u : Bool) (m : Int)
  | ftm (aa pd pc : Nat) (neg mov : Bool) (md mc : Int)
  | mvpa (p imm : Nat)
  | mvpl (p imm : Nat)
  | mvsg (d sr : Nat)
  | mvgs (sr a : Nat)
  | b (cond target : Nat)
  | bl (target : Nat)
  | j (cond ga : Nat)
  | exit
  | undef
deriving DecidableEq, Repr

/-! ### Addressing (R187, R220, R221) -/

/-- The low k bits of a number in reverse order. -/
def revBits (k n : Nat) : Nat := ((List.range k).filter fun i => bit n i).foldl (fun a i => a + 2 ^ (k - 1 - i)) 0

/-- The least k with 2^k ≥ n. -/
def log2Up (n : Nat) : Nat := ((List.range 17).find? fun k => decide (n ≤ 2 ^ k)).getD 17

/-- The address of a P register after the modifier m (R220). -/
def modifyP (p : Nat) (m : Int) : Nat :=
  let a : Int := bits p 0 16
  let len := bits p 16 12
  match bits p 28 2 with
  | 0 => un 16 (a + m)
  | 1 =>
    let k := log2Up len
    let base := a - a % (2 ^ k : Nat)
    un 16 (base + (a - base + m) % (len : Int))
  | _ =>
    let k := log2Up len
    let base := (a - a % (2 ^ k : Nat)).toNat
    let r : Int := revBits k (a.toNat - base)
    un 16 ((base : Int) + revBits k ((r + m) % (len : Int)).toNat)

/-- MODE and LEN are ones that R220 allows. -/
def pLegal (p : Nat) : Bool :=
  let len := bits p 16 12
  match bits p 28 2 with
  | 0 => true
  | 1 => decide (1 ≤ len)
  | 2 => decide (2 ≤ len ∧ len ≤ 2048) && decide (2 ^ log2Up len = len)
  | _ => false

/-- A word address of the data space (R187). -/
def dataAddr (a : Nat) : Bool := decide (a ≤ 0x41FF) || decide (0x4200 ≤ a ∧ a ≤ 0x427F)
/-- An input record's word. -/
def inputAddr (a : Nat) : Bool := decide (0x4000 ≤ a ∧ a ≤ 0x41FF)

/-- The trap of an access (R221): 0 none, 1 address, 2 write to an input record. `coef`: the coefficient space. -/
def accessTrap (p a : Nat) (coef write : Bool) : Nat :=
  if !(pLegal p) then 1
  else if coef then (if a < 2048 then 0 else 1)
  else if !(dataAddr a) then 1
  else if write && inputAddr a then 2 else 0

/-- The key of a data word in a core's store: the private page belongs to the active bank. -/
def dataKey (active a : Nat) : Nat := if a < 0x0800 then 0x10000 + 0x800 * active + a else a

/-- The words beyond the record in each input record's 64 words hold no stated value: they are free. -/
def freeWord (a : Nat) : Bool := inputAddr a && decide (32 ≤ a % 64)

/-- A data word. -/
def dataAt (c : DCore) (a : Nat) : Nat :=
  if freeWord a then Config.freeNat (2 ^ 64 + a) % 4294967296 else mgetD c.data (dataKey c.active a) 0

/-- The bank of a number. -/
def bankOf (c : DCore) (b : Nat) : DBank := if b = 0 then c.bankA else c.bankB
/-- Changes a bank. -/
def modBank (c : DCore) (b : Nat) (f : DBank → DBank) : DCore :=
  if b = 0 then { c with bankA := f c.bankA } else { c with bankB := f c.bankB }
/-- A coefficient word of the active bank. -/
def coefAt (c : DCore) (a : Nat) : Nat := mgetD (bankOf c c.active).coef a 0

/-! ### The pipeline (R189, R190, R228, R229) -/

/-- One write becomes visible. -/
def seeWrite (c : DCore) (x : DCtx) (w : DWrite) : DCore × DCtx :=
  match w with
  | .g r v => (c, { x with g := x.g.set r v })
  | .p r lo n v => (c, { x with p := x.p.set r (setBits (x.p.getD r 0) lo n v) })
  | .mem a v => ({ c with data := mput c.data (dataKey c.active a) v }, x)

/-- The start of an issue: the writes that this instruction is the first to see. -/
def issueStart (c : DCore) (x : DCtx) : DCore × DCtx :=
  let due := x.pend.filter fun e => decide (e.1 ≤ 1)
  let x := { x with pend := (x.pend.filter fun e => decide (1 < e.1)).map fun e => (e.1 - 1, e.2) }
  due.foldl (fun a e => seeWrite a.1 a.2 e.2) (c, x)

/-- Every write under way completes: the pipeline drains (R198, R221, R225). -/
def drain (c : DCore) (x : DCtx) : DCore × DCtx :=
  let w := sortBy (fun (a b : Nat × DWrite) => decide (a.1 < b.1)) x.pend
  let (c, x) := w.foldl (fun a e => seeWrite a.1 a.2 e.2) (c, { x with pend := [] })
  (c, { x with dst := x.dstQ.foldl dstApply x.dst, dstQ := [{}, {}], aOld := x.a })

/-- A G register, G0 reading 0 (R210). -/
def gAt (x : DCtx) (r : Nat) : Nat := if r = 0 then 0 else x.g.getD r 0

/-- The write of a G register that an instruction k places later is the first to see. A write under way that would be seen no
earlier is an earlier instruction's and is lost to this one (R228). -/
def putG (x : DCtx) (k r v : Nat) : DCtx :=
  if r = 0 then x
  else
    let keep := x.pend.filter fun e => match e.2 with
      | .g q _ => decide (q ≠ r) || decide (e.1 < k)
      | _ => true
    if k = 1 then { x with pend := keep, g := x.g.set r v } else { x with pend := keep ++ [(k, .g r v)] }

/-- A write of DST. -/
def putDst (x : DCtx) (o : DstOp) : DCtx :=
  { x with dstQ := x.dstQ ++ [o] }

/-- The state of the pipeline moves on by one instruction: DST's delayed view takes in the write of two instructions before. -/
def issueNext (x : DCtx) : DCtx :=
  match x.dstQ with
  | [a, b] => { x with dst := dstApply x.dst a, dstQ := [b, {}] }
  | a :: b :: o :: _ => { x with dst := dstApply x.dst a, dstQ := [b, o] }
  | _ => { x with dstQ := [{}, {}] }

/-- C as ADDC and SUBC see it: every flag written before, a move into DST only from the third instruction on (R229). -/
def carryView (x : DCtx) : Nat := b2n (bit (x.dstQ.foldl dstFlags x.dst) 2)

/-- A store's write. -/
def putMem (x : DCtx) (a v : Nat) : DCtx := { x with pend := x.pend ++ [(3, .mem a v)] }
/-- A P register's post-modify, seen at once (R190). -/
def postModify (x : DCtx) (r a : Nat) : DCtx := { x with p := x.p.set r (setBits (x.p.getD r 0) 0 16 a) }
/-- The accumulator's new value with its sticky bits. -/
def putA (x : DCtx) (aa : Nat) (v : Int) : DCtx :=
  let (y, sat) := sat72 v
  putDst { x with a := x.a.set aa y } (flAOV sat)

/-! ### The operations (R216 to R222) -/

/-- The result and flags of an R-format operation; `cy` is C (R216). -/
def aluR (op a b cy : Nat) : Nat × DstOp :=
  match op with
  | 0x01 => addFl a b 0
  | 0x02 => subFl a b 1
  | 0x03 => addFl a b cy
  | 0x04 => subFl a b cy
  | 0x05 => let (r, t) := sat32 (s32 a + s32 b); (r, flZNVS r t)
  | 0x06 => let (r, t) := sat32 (s32 a - s32 b); (r, flZNVS r t)
  | 0x07 => let r := Nat.land a b; (r, flZN r)
  | 0x08 => let r := Nat.lor a b; (r, flZN r)
  | 0x09 => let r := Nat.xor a b; (r, flZN r)
  | 0x0A => let r := if s32 a ≤ s32 b then a else b; (r, flZN r)
  | 0x0B => let r := if s32 a ≤ s32 b then b else a; (r, flZN r)
  | 0x0C => let (r, t) := sat32 (s32 a).natAbs; (r, flZNS r t)
  | 0x0D => let (r, t) := sat32 (s32 a * (2 : Int) ^ (b % 64)); (r, flZNS r t)
  | 0x0E => let r := w32 (floorDiv (s32 a) ((2 : Int) ^ (b % 64))); (r, flZN r)
  | 0x0F => let r := a / 2 ^ (b % 64); (r, flZN r)
  | _ => subFl a b 1

/-- The result and flags of an I-format operation on the 16-bit IMM (R216). -/
def aluI (op a imm : Nat) : Nat × DstOp :=
  let sxt := w32 (sx 16 imm)
  match op with
  | 0x11 => addFl a sxt 0
  | 0x12 => let r := Nat.land a imm; (r, flZN r)
  | 0x13 => let r := Nat.lor a imm; (r, flZN r)
  | 0x14 => aluR 0x0D a (imm % 64) 0
  | 0x15 => aluR 0x0E a (imm % 64) 0
  | 0x16 => (sxt, {})
  | 0x17 => (imm * 65536 + a % 65536, {})
  | _ => subFl a sxt 1

/-- x · 2^s; the rounding of a negative shift that the manual does not state is free. -/
def shiftFree (x : Int) (s : Int) : Int :=
  if 0 ≤ s then x * (2 : Int) ^ s.toNat else divFree 60 x ((2 : Int) ^ (-s).toNat)

/-- A product, doubled with FRAC (R219). -/
def prodOf (x : DCtx) (a b : Nat) : Int := s32 a * s32 b * (if bit x.dst 8 then 2 else 1)

/-- The special register of MVSG (R214, R229). -/
def specialAt (x : DCtx) (sr : Nat) : Option Nat :=
  if sr < 8 then some (x.p.getD sr 0)
  else match sr with
    | 8 => some x.lc
    | 9 => some x.ls
    | 10 => some x.le
    | 11 => some x.dst
    | _ => none

/-! ### One issue -/

/-- The instruction at pc lies in a repeat body that is being repeated (R227). -/
def inBody (x : DCtx) : Bool := (decide (0 < x.lc) || x.skip) && decide (x.ls ≤ x.pc) && decide (x.pc ≤ x.le)

/-- The trap of an instruction before it has any effect: 0 none, 1 address, 2 write to an input record, 3 undefined (R221, R227). -/
def insTrap (x : DCtx) (i : DIns) : Nat :=
  let flow := x.br.isSome || inBody x
  let addr (r : Nat) (u : Bool) (m : Int) : Nat := let p := x.p.getD r 0; if u then bits p 0 16 else modifyP p m
  match i with
  | .undef => 3
  | .ld _ r u m => accessTrap (x.p.getD r 0) (addr r u m) false false
  | .st _ r u m => accessTrap (x.p.getD r 0) (addr r u m) false true
  | .ldc _ r u m => accessTrap (x.p.getD r 0) (addr r u m) true false
  | .ftm _ pd pc _ mov md _ =>
    if pd = pc then 3
    else
      let p := x.p.getD pd 0
      let q := x.p.getD pc 0
      let t := accessTrap p (bits p 0 16) false false
      let u := accessTrap q (bits q 0 16) true false
      if t ≠ 0 then t else if u ≠ 0 then u
      else if mov then accessTrap p (modifyP p (-md)) false true else 0
  | .mvsg _ sr => if (specialAt x sr).isNone then 3 else 0
  | .mvgs sr _ => if sr < 8 ∨ sr = 11 then 0 else 3
  | .b cond _ => if flow ∨ 12 ≤ cond then 3 else 0
  | .bl _ => if flow then 3 else 0
  | .j cond _ => if flow ∨ 12 ≤ cond then 3 else 0
  | .exit => if flow then 3 else 0
  | .rpt body csrc ga _ =>
    if flow ∨ 8191 < x.pc + body then 3
    else if csrc ∧ (s32 (gAt x ga) < 0 ∨ 4096 < gAt x ga) then 3 else 0
  | _ => 0

/-- The effect of an instruction that does not trap (R216 to R226). -/
def insEffect (c : DCore) (x : DCtx) (i : DIns) : DCtx :=
  let pAddr (r : Nat) (u : Bool) (m : Int) : Nat := let p := x.p.getD r 0; if u then bits p 0 16 else modifyP p m
  let post (y : DCtx) (r : Nat) (u : Bool) (m : Int) : DCtx := if u then postModify y r (modifyP (x.p.getD r 0) m) else y
  match i with
  | .nop => x
  | .undef => x
  | .alu op d a b =>
    let (r, o) := aluR op (gAt x a) (gAt x b) (carryView x)
    putDst (if op = 0x10 then x else putG x 1 d r) o
  | .alui op d a imm =>
    let (r, o) := aluI op (gAt x a) imm
    putDst (if op = 0x18 then x else putG x 1 d r) o
  | .mul op aa ga gb =>
    let p := prodOf x (gAt x ga) (gAt x gb)
    let a := x.a.getD aa 0
    putA x aa (if op = 0x20 then p else if op = 0x21 then a + p else a - p)
  | .clra aa => { x with a := x.a.set aa 0 }
  | .mvga aa gb s => putA x aa (shiftFree (s32 (gAt x gb)) s)
  | .mvgp aa ga gb s => putA x aa (shiftFree (s32 (gAt x ga) * 4294967296 + gAt x gb) s)
  | .adda aa ab => putA x aa (x.a.getD aa 0 + x.a.getD ab 0)
  | .sha aa s =>
    let a := x.a.getD aa 0
    putA x aa (if 0 ≤ s then a * (2 : Int) ^ s.toNat else floorDiv a ((2 : Int) ^ (-s).toNat))
  | .rnd d aa s =>
    let (r, t) := sat32 (rndBy (bits x.dst 6 2) (x.aOld.getD aa 0) s)
    putDst (putG x 3 d r) (flZNS r t)
  | .ext d aa s =>
    let r := w32 (floorDiv (x.aOld.getD aa 0) ((2 : Int) ^ s))
    putDst (putG x 3 d r) (flZN r)
  | .rpt body csrc ga count =>
    let n := if csrc then gAt x ga else count
    { x with ls := x.pc + 1, le := x.pc + body, lc := n, skip := decide (n = 0) }
  | .ld d r u m => post (putG x 3 d (dataAt c (pAddr r u m))) r u m
  | .st d r u m => post (putMem x (pAddr r u m) (gAt x d)) r u m
  | .ldc d r u m => post (putG x 3 d (coefAt c (pAddr r u m))) r u m
  | .ftm aa pd pc neg mov md mc =>
    let p := x.p.getD pd 0
    let q := x.p.getD pc 0
    let t := dataAt c (bits p 0 16)
    let pr := prodOf x t (coefAt c (bits q 0 16))
    let a := x.a.getD aa 0
    let y := putA x aa (if neg then a - pr else a + pr)
    let y := if mov then putMem y (modifyP p (-md)) t else y
    postModify (postModify y pd (modifyP p md)) pc (modifyP q mc)
  | .mvpa r imm => { x with pend := x.pend ++ [(3, .p r 0 16 imm)] }
  | .mvpl r imm => { x with pend := x.pend ++ [(3, .p r 16 14 imm)] }
  | .mvsg d sr => putG x 1 d ((specialAt x sr).getD 0)
  | .mvgs sr a =>
    if sr < 8 then { x with pend := x.pend ++ [(3, .p sr 0 30 (gAt x a))] }
    else putDst x { set := some (gAt x a) }
  | .b cond target =>
    { x with br := some (3, some (if condHolds cond x.dst = some true then target else (x.pc + 3) % 8192)) }
  | .bl target => { putG x 3 31 (x.pc + 3) with br := some (3, some target) }
  | .j cond ga =>
    { x with br := some (3, some (if condHolds cond x.dst = some true then gAt x ga % 8192 else (x.pc + 3) % 8192)) }
  | .exit => { x with br := some (3, none) }

/-- Where the next instruction comes from: the repeat, the delay slots, the target (R190, R225, R226). -/
def insFlow (x : DCtx) : DCtx :=
  let next := (x.pc + 1) % 8192
  match x.br with
  | some (1, some t) => { x with br := none, pc := t }
  | some (1, none) => { x with br := none, pc := next, ended := true }
  | some (n, t) => { x with br := some (n - 1, t), pc := next }
  | none =>
    if x.pc = x.le ∧ x.skip = true then { x with skip := false, pc := next }
    else if x.pc = x.le ∧ 1 < x.lc then { x with lc := x.lc - 1, pc := x.ls }
    else if x.pc = x.le ∧ x.lc = 1 then { x with lc := 0, pc := next }
    else { x with pc := next }

/-- A core issues one instruction in a context: a trap leaves it and everything after it without effect, while every earlier
instruction completes (R221). -/
def insIssue (c : DCore) (x : DCtx) (i : DIns) : DCore × DCtx :=
  let (c, x) := issueStart c x
  if x.skip ∧ inBody x then (c, insFlow { issueNext x with aOld := x.a })
  else
    let t := insTrap x i
    if t ≠ 0 then
      let (c, x) := drain c x
      (c, { x with trap := some (t, x.pc), ended := true })
    else (c, insFlow { issueNext (insEffect c x i) with aOld := x.a })

/-! ### Decoding (R215, R216) -/

/-- An instruction word's meaning; a non-zero 0 field or an unlisted opcode is undefined. -/
def drvDecode (w : Nat) : DIns :=
  let f (lo n : Nat) : Nat := bits w lo n
  let op := f 26 6
  let z (lo n : Nat) (i : DIns) : DIns := if bits w lo n = 0 then i else .undef
  let s7 := sx 7 (f 0 7)
  let m16 := sx 16 (f 0 16)
  if w = 0 then .nop
  else if 0x01 ≤ op ∧ op ≤ 0x0F ∧ op ≠ 0x0C then z 0 11 (.alu op (f 21 5) (f 16 5) (f 11 5))
  else if op = 0x0C then z 0 16 (.alu op (f 21 5) (f 16 5) 0)
  else if op = 0x10 then z 0 11 (z 21 5 (.alu op 0 (f 16 5) (f 11 5)))
  else if 0x11 ≤ op ∧ op ≤ 0x13 ∨ op = 0x17 then .alui op (f 21 5) (f 16 5) (f 0 16)
  else if op = 0x14 ∨ op = 0x15 then z 6 10 (.alui op (f 21 5) (f 16 5) (f 0 16))
  else if op = 0x16 then z 16 5 (.alui op (f 21 5) 0 (f 0 16))
  else if op = 0x18 then z 21 5 (.alui op 0 (f 16 5) (f 0 16))
  else if 0x20 ≤ op ∧ op ≤ 0x22 then z 0 11 (z 21 3 (.mul op (f 24 2) (f 16 5) (f 11 5)))
  else if op = 0x23 then z 0 24 (.clra (f 24 2))
  else if op = 0x24 then z 7 4 (z 16 8 (.mvga (f 24 2) (f 11 5) s7))
  else if op = 0x25 then z 7 4 (z 21 3 (.mvgp (f 24 2) (f 16 5) (f 11 5) s7))
  else if op = 0x26 then z 0 22 (.adda (f 24 2) (f 22 2))
  else if op = 0x27 then z 7 17 (.sha (f 24 2) s7)
  else if op = 0x28 then z 6 13 (.rnd (f 21 5) (f 19 2) (f 0 6))
  else if op = 0x29 then z 6 13 (.ext (f 21 5) (f 19 2) (f 0 6))
  else if op = 0x2F then
    z 17 2 (if f 19 1 = 1 then z 0 12 (.rpt (f 20 6 + 1) true (f 12 5) 0)
            else z 12 5 (.rpt (f 20 6 + 1) false 0 (f 0 12 + 1)))
  else if op = 0x30 then z 16 1 (.ld (f 21 5) (f 18 3) (bit w 17) m16)
  else if op = 0x31 then z 16 1 (.st (f 21 5) (f 18 3) (bit w 17) m16)
  else if op = 0x32 then z 16 1 (.ldc (f 21 5) (f 18 3) (bit w 17) m16)
  else if op = 0x34 then .ftm (f 24 2) (f 21 3) (f 18 3) (bit w 17) (bit w 16) (sx 8 (f 8 8)) (sx 8 (f 0 8))
  else if op = 0x38 then z 16 5 (z 24 2 (.mvpa (f 21 3) (f 0 16)))
  else if op = 0x39 then z 14 7 (z 24 2 (.mvpl (f 21 3) (f 0 14)))
  else if op = 0x3A then z 4 17 (.mvsg (f 21 5) (f 0 4))
  else if op = 0x3B then z 4 12 (z 21 5 (.mvgs (f 0 4) (f 16 5)))
  else if op = 0x3C then z 13 9 (.b (f 22 4) (f 0 13))
  else if op = 0x3D then z 13 13 (.bl (f 0 13))
  else if op = 0x3E then z 0 17 (.j (f 22 4) (f 17 5))
  else if op = 0x3F then z 0 26 .exit
  else .undef

/-- The word at an address of the active bank. -/
def codeAt (c : DCore) (a : Nat) : Nat := mgetD (bankOf c c.active).code a 0

/-- The LOOP context issues the instruction its pc names. -/
def stepLoop (c : DCore) : DCore :=
  let (d, x) := insIssue c c.loop (drvDecode (codeAt c c.loop.pc))
  { d with loop := x }

/-- The GRAPH context issues the instruction its pc names. -/
def stepGraph (c : DCore) : DCore :=
  let (d, x) := insIssue c c.graph (drvDecode (codeAt c c.graph.pc))
  { d with graph := x }

/-- A context starts at an entry point: what stood in its registers stays, LC, LS and LE too (R198, R214). -/
def startAt (x : DCtx) (pc : Nat) : DCtx := { x with pc := pc, br := none, trap := none, ended := false }

end Sys2Proof.Machine
end

