-- ==== Sys2Proof/Machine/Rings.lean ====
section
/-!
DEFINITION. What the device writes to the host: completions (R395, R397, R399), event records (R395, R405, R406), MSI-X
messages (R407, R408), and the checks of an event ring's routes.
-/
namespace Sys2Proof.Machine

/-- Status codes (R401). -/
def stOK : Nat := 0
def stSTALE : Nat := 1
def stBADCLASS : Nat := 2
def stNORES : Nat := 3
def stDENIED : Nat := 4
def stMODE : Nat := 5
def stRANGE : Nat := 6
def stABORTED : Nat := 7
def stTIMEOUT : Nat := 8
def stBUSY : Nat := 9
def stREGREJ : Nat := 10

/-- The function of a requester ID 32 + f (R388). -/
def fnOf (req : Nat) : Nat := req - 32

/-- The number of entries of a pair's SQ or of an event ring. -/
def sizeA (r : Ring) : Nat := 2 ^ r.log2a
/-- The number of entries of a pair's CQ. -/
def sizeC (r : Ring) : Nat := 2 ^ r.log2c
/-- Entries of the CQ written and not yet freed (R393). -/
def cqHeld (r : Ring) : Nat := (r.wr + sizeC r - r.head) % sizeC r
/-- Records of an event ring written and not yet freed (R393). -/
def evHeld (r : Ring) : Nat := (r.wr + sizeA r - r.head) % sizeA r
/-- Entries of the SQ that are available (R393). -/
def sqAvail (r : Ring) : Nat := (r.sqTail + sizeA r - r.sqHead) % sizeA r
/-- The CQ has at least two entries neither written nor reserved (R399). -/
def cqRoom (r : Ring) : Bool := decide (cqHeld r + r.resv + 2 ≤ sizeC r - 1)

/-- Bus Master Enable of the function is set and has taken effect (R409). -/
def busMasterOn (s : State) (f : Nat) : Bool :=
  match mget s.host.busMaster f with
  | some start => decide (start ≤ s.time.frame)
  | none => false

/-- Sends an MSI-X message on a vector of a function, or sets its pending bit when it is masked (R407). Rings that share the
vector and fall due in the same control cycle are served by one message. -/
def sendMsix (s : State) (f v : Nat) : State :=
  let k := 64 * f + v
  if s.host.unmasked.contains k then
    match mget s.host.msix k with
    | some (n, i) =>
      if i = instant s then s
      else { s with host := { s.host with msix := mput s.host.msix k (n + 1, instant s) } }
    | none => { s with host := { s.host with msix := mput s.host.msix k (1, instant s) } }
  else { s with host := { s.host with pba := if s.host.pba.contains k then s.host.pba else s.host.pba ++ [k] } }

/-- The vector of a ring is masked. -/
def vectorMasked (s : State) (x : Ring) : Bool := !(s.host.unmasked.contains (64 * x.owner + x.vector))

/-- The ring sends a message, and its pending count returns to 0; on a masked vector the message, and the count, wait (R407). -/
def ringMessage (s : State) (r : Nat) : State :=
  let x := ringAt s r
  let waits := vectorMasked s x
  sendMsix (modRing s r fun x => { x with pend := if waits then x.pend else 0, msgDue := waits }) x.owner x.vector

/-- Counts an entry towards the ring's interrupt and sends the message when one is due (R407). -/
def notifyRing (s : State) (r : Nat) (urgent : Bool) : State :=
  let x := ringAt s r
  let s := modRing s r fun x => { x with pend := x.pend + 1, pendSince := if x.pend = 0 then s.time.elapsed else x.pendSince }
  if decide (Nat.max 1 x.coalCount ≤ x.pend + 1) || urgent then ringMessage s r else s

/-- Writes one CQ entry (R395): the slot at the write index, with the PHASE of this pass. -/
def putCompletion (s : State) (pair : Nat) (c : Completion) : State :=
  modRing s pair fun x =>
    let c := { c with flags := c.flags + (if x.phase then 128 else 0) }
    let w := (x.wr + 1) % sizeC x
    { x with cq := mput x.cq x.wr c, wr := w, phase := if w = 0 then !x.phase else x.phase }

/-- Writes a completion of an accepted descriptor: nothing is written once its ring has gone DOWN (R412). `release` is the number
of reserved entries it ends (R399). -/
def writeCompletion (s : State) (a : Acc) (status handle detail flags release : Nat) : State :=
  let x := ringAt s a.pair
  if x.st = .down ∨ genOf s cRING a.pair ≠ a.gen then s
  else
    let fl := flags + (if a.submitted then 4 else 0)
    let s := putCompletion s a.pair
      { seq := if a.submitted then a.pos % 256 else a.pos % 65536, status := status, flags := fl, handle := handle,
        detail := detail }
    let s := modRing s a.pair fun x => { x with resv := x.resv - release }
    if a.d.flags.getLsbD 1 then s else notifyRing s a.pair false

/-- The descriptor no longer keeps a FENCE waiting, and a SUBMIT node that submitted it has ended (R368, R396). -/
def closeAcceptance (s : State) (a : Acc) : State :=
  let s := match a.node with
    | some n => { s with gsc := { s.gsc with nodes := mmod s.gsc.nodes n fun x => { x with ended := true } } }
    | none => s
  if genOf s cRING a.pair = a.gen then modRing s a.pair fun x => { x with open_ := x.open_ - 1 } else s

/-- The only completion of a descriptor that is not staged. -/
def complete (s : State) (a : Acc) (status handle detail : Nat) : State :=
  closeAcceptance (writeCompletion s a status handle detail 0 2) a

/-- The only completion of a descriptor that a ring check refuses: RING_CHECK set (R398 step 1). -/
def completeRingCheck (s : State) (a : Acc) (detail : Nat) : State :=
  closeAcceptance (writeCompletion s a stRANGE 0 detail 2 2) a

/-- The staging completion of a member (R342). -/
def completeStaged (s : State) (a : Acc) (handle detail : Nat) : State :=
  closeAcceptance (writeCompletion s a stOK handle detail 1 1) a

/-- The staging completion of a descriptor that is refused (R342). -/
def refuseStaged (s : State) (a : Acc) (status handle detail : Nat) : State :=
  closeAcceptance (writeCompletion s a status handle detail 1 2) a

/-- The final completion of a member (R342). -/
def completeFinal (s : State) (a : Acc) (status handle detail : Nat) : State :=
  writeCompletion s a status handle detail 0 1

/-- HST_F_REGIONS of a function. -/
def fnRegions (s : State) (f : Nat) : Nat := reg s (0x30124 + 0x40 * f)
/-- HST_F_GROUPS of a function. -/
def fnGroups (s : State) (f : Nat) : Nat := reg s (0x30128 + 0x40 * f)

/-- The owner of an event ring may see a record of this region, none for a cell-wide one (R405). -/
def ownerSees (s : State) (f : Nat) (region : Option Nat) : Bool :=
  decide (f = 0) ||
    match region with
    | some r => bit (fnRegions s f) r
    | none => bit (fnGroups s f) 31

/-- A route of the ring matches the record (R405). -/
def routeMatches (rt : Route) (code cls : Nat) (region : Option Nat) : Bool :=
  decide (rt.lo ≤ code) && decide (code ≤ rt.hi) && decide (rt.minClass ≤ cls) &&
    match region with
    | some r => bit rt.regions r
    | none => rt.cell

/-- Writes a record into the next slot of an event ring. -/
def putEvent (s : State) (e : Nat) (er : EventRec) : State :=
  modRing s e fun x =>
    let er := { er with flags := er.flags % 64 + (if x.lostFlag then 64 else 0) + (if x.phase then 128 else 0) }
    let w := (x.wr + 1) % sizeA x
    { x with ev := mput x.ev x.wr er, wr := w, phase := if w = 0 then !x.phase else x.phase, lostFlag := false }

/-- The event rings that are UP, rising. -/
def upEventRings (s : State) : List Nat := mkeys s.host.rings fun k r => decide (256 ≤ k) && decide (r.st = .up)

/-- Writes a record to an UP event ring, or drops it when the ring is full: HST_R_LOST counts it, and HST_EV_LOST goes once per
episode to each other UP event ring of the function (R406). The fuel bounds the rings that fill in turn. -/
def deliverEvent (fuel : Nat) (s : State) (e : Nat) (er : EventRec) : State :=
  let x := ringAt s e
  if evHeld x < sizeA x - 1 then
    notifyRing (putEvent s e er) e (decide (3 ≤ er.cls))
  else
    let s := bump s (0x3101C + 0x20 * e)
    let s := modRing s e fun x => { x with lostFlag := true, lossEpisode := true }
    if x.lossEpisode then s
    else
      match fuel with
      | 0 => s
      | k + 1 =>
        let lost : EventRec :=
          { wall := wall32 s, code := eventCode .hstEvLost, cls := 0, flags := 0, handle := handleOf s cRING e,
            line := s.line.line, count := 1, detail := reg s (0x3101C + 0x20 * e) * 4294967296 }
        ((upEventRings s).filter fun o => decide (o ≠ e) && decide ((ringAt s o).owner = x.owner)).foldl
          (fun s o => deliverEvent k s o lost) s

/-- Writes a record to every event ring that R405 names; one that reaches no ring, for want of a route or of a free entry at its turn, is
counted in HST_EV_UNROUTED. -/
def routeEvent (s : State) (er : EventRec) : State :=
  let region := if er.handle = 0 then none else handleRegion s er.handle
  let dst := (upEventRings s).filter fun e =>
    let x := ringAt s e
    (x.routes.any fun r => routeMatches r.2 er.code er.cls region) && ownerSees s x.owner region
  let out := dst.foldl (fun (x : State × Bool) e =>
    (deliverEvent 64 x.1 e er, x.2 || decide (evHeld (ringAt x.1 e) < sizeA (ringAt x.1 e) - 1))) (s, false)
  if out.2 then out.1 else bump out.1 0x3000C

end Sys2Proof.Machine
end

