-- ==== Sys2Proof/Machine/Faults.lean ====
section
/-!
DEFINITION. The fault collector's report path: scope (R463), class actions (R464), the trace of events (R488 source 11, R491),
the Lint Trap (R471, R472), records and queues (R468, R469), the origin tree (R423).
-/
namespace Sys2Proof.Machine

/-- An origin identifier (R423). -/
def origin (ty inst : Nat) : Nat := ty * 65536 + inst
/-- The origin of a block as a whole. -/
def blockOrigin (ty : Nat) : Nat := origin ty 0xFFFF

/-- PARENT and DIVISOR of a block class (R422); those of LIMITS (R425). -/
def originRule (ty : Nat) : Nat × Nat :=
  match ty with
  | 0x07 => (0x06, 0)
  | 0x09 => (0x08, 2)
  | 0x0A => (0x08, 8)
  | 0x14 => (0x13, 0)
  | 0x1C => (0x16, 0)
  | 0x100 => (0xFFFF, 0)
  | _ => (0x01, 0)

/-- The parent of an origin; the root is its own (R423). -/
def parentOrigin (o : Nat) : Nat :=
  let ty := o / 65536
  let inst := o % 65536
  let (p, d) := originRule ty
  if ty = 1 then blockOrigin 1
  else if inst = 0xFFFF then blockOrigin p
  else if d = 0 then blockOrigin ty
  else origin p (inst / d)

/-- `a` is the origin or one of its ancestors: every chain reaches the root within 4 steps (R423). -/
def coversOrigin (a o : Nat) : Bool :=
  let o1 := parentOrigin o
  let o2 := parentOrigin o1
  let o3 := parentOrigin o2
  let o4 := parentOrigin o3
  decide (a = o) || decide (a = o1) || decide (a = o2) || decide (a = o3) || decide (a = o4)

/-- One raising of an event (R462). -/
structure Report where
  ev : Event
  cls : Nat
  handle : Nat
  detail : Nat
  org : Nat
  /-- The regions that the raising chapter names, none for the rule of R463. -/
  scope : Option (List Nat)

/-- A report with the class of its table and the scope of R463. -/
def rep (e : Event) (handle detail org : Nat) : Report :=
  { ev := e, cls := eventClass e, handle := handle, detail := detail, org := org, scope := none }

/-- The scope of a report (R463). -/
def reportScope (s : State) (r : Report) : List Nat :=
  match r.scope with
  | some l => l
  | none =>
    if r.handle = 0 then liveRegions s
    else
      match handleRegion s r.handle with
      | some x => [x]
      | none => liveRegions s

/-- NO_ACTION of R468: every region of the scope that is not EMPTY already stands at or above the action's target. -/
def noAction (s : State) (cls : Nat) (scope : List Nat) : Bool :=
  if cls = 5 then decide (s.md.mode = .safeOff)
  else
    let target := if cls = 4 then 3 else 1
    scope.all fun r => decide (regionSt s r = .empty) || decide (target ≤ regionRank (regionSt s r))

/-- Puts a record into the trace writer's queue (R494). A record that finds 4096 records queued is lost, and DROP
marks the next one that is queued (R489). -/
def traceQueue (s : State) (r : TraceRec) : State :=
  if s.mem.queue.length < 4096 then
    let drop := ((mget s.mem.traces r.ch).map fun t => t.dropFlag).getD false
    modMem s fun m => { m with queue := m.queue ++ [{ r with flags := r.flags % 8 + 8 * b2n drop }],
                               traces := mmod m.traces r.ch fun t => { t with dropFlag := false, recFrame := some s.time.frame } }
  else
    let s := bump (bump s 0x270008) (0x271018 + 0x40 * r.ch)
    modMem s fun m => { m with traces := mmod m.traces r.ch fun t => { t with dropFlag := true, dropTick := t.dropTick + 1 } }

/-- A trace channel takes a source sample: one record for every 2^DECIM samples, none while IDLE, DONE or in DORMANT, and at most one
in a frame but for source 11 (R487, R488, R490, R494). -/
def traceSample (s : State) (ch : Nat) (t : Trace) (wall flags a b : Nat) : State :=
  if t.st = 0 ∨ t.st = 4 ∨ s.md.mode = .dormant then s
  else
    let s' := modMem s fun m => { m with traces := mmod m.traces ch fun t => { t with samples := t.samples + 1 } }
    if t.samples % 2 ^ t.decim = 0 ∧ (t.source = 11 ∨ t.recFrame ≠ some s.time.frame) then traceQueue s' { ch := ch, wall := wall, flags := flags, a := a, b := b } else s'

/-- The trace of a record raised: source 11 records it, TRIG 4 takes it as its condition (R488, R491). -/
def traceEvent (s : State) (er : EventRec) : State :=
  s.mem.traces.foldl (fun s e =>
    let s := if e.2.source = 11 then
        traceSample s e.1 e.2 er.wall 0 (er.code + er.cls * 65536 + er.flags * 16777216) er.handle else s
    if e.2.trig = 4 ∧ bits e.2.key 0 16 ≤ er.code ∧ er.code ≤ bits e.2.key 16 16 ∧ bits e.2.key 32 8 ≤ er.cls then
      modMem s fun m => { m with traces := mmod m.traces e.1 fun t => { t with cond := true } }
    else s) s

/-- Puts a record into the queue of its class (R469). A record that finds the queue full is counted, and FLT_QUEUE_FULL goes
to the rings once for each episode. -/
def queueRecord (s : State) (er : EventRec) : State :=
  let q := mgetD s.flt.queues er.cls []
  if q.length < 64 then modFlt s fun f => { f with queues := mput f.queues er.cls (q ++ [er]) }
  else
    let s := bump s (0x260028 + 4 * er.cls)
    if s.flt.fullEpisode.contains er.cls then s
    else
      let s := modFlt s fun f => { f with fullEpisode := f.fullEpisode ++ [er.cls] }
      let full : EventRec :=
        { wall := wall32 s, code := eventCode .fltQueueFull, cls := 0, flags := 0, handle := 0, line := s.line.line, count := 1,
          detail := er.cls + reg s (0x260028 + 4 * er.cls) * 4294967296 }
      routeEvent (traceEvent s full) full

/-- Writes a record to the event rings and to its queue (R468). -/
def writeRecord (s : State) (er : EventRec) : State := queueRecord (routeEvent s er) er

/-- Changes a Lint Trap entry. -/
def modLint (s : State) (e : Nat) (f : Lint → Lint) : State := modFlt s fun x => { x with lint := mmod x.lint e f }

/-- The lowest free Lint Trap entry. -/
def freeLint (s : State) : Option Nat := (List.range 256).find? fun e => !mhas s.flt.lint e

/-- A report of class CORRECTED or above passes through the Lint Trap (R472). -/
def lintReport (s : State) (er : EventRec) (org : Nat) : State :=
  match (s.flt.lint.find? fun e => decide (e.2.code = er.code) && coversOrigin e.2.origin org) with
  | some (e, x) =>
    modLint s e fun l =>
      { l with count := bumpSat 32 l.count, window := l.window + 1, last := er,
               credited := l.credited || decide (x.origin ≠ org) }
  | none =>
    let par := parentOrigin org
    let sibling := s.flt.lint.find? fun e =>
      decide (e.2.code = er.code) && decide (parentOrigin e.2.origin = par) && decide (par / 65536 ≠ 1)
    match sibling with
    | some (e, _) =>
      modLint s e fun l =>
        { l with origin := par, lifted := true, credited := true, count := bumpSat 32 l.count, window := l.window + 1,
                 last := er }
    | none =>
      match freeLint s with
      | some e =>
        let s := modFlt s fun f =>
          { f with lint := mput f.lint e { origin := org, code := er.code, cls := er.cls, count := 1, window := 0,
                                           ends := s.time.elapsed + reg s 0x260008 * usU, last := er } }
        writeRecord s er
      | none => bump (writeRecord s er) 0x26000C

/-- Raises a report: its class action for the next frame boundary (R464), its trace, and its record: a NOTICE at once, the others through
the Lint Trap at the end of the cycle (R468, R472). -/
def report (s : State) (r : Report) : State :=
  let scope := reportScope s r
  let er : EventRec :=
    { wall := wall32 s, code := eventCode r.ev, cls := r.cls,
      flags := if 3 ≤ r.cls ∧ noAction s r.cls scope = true then 4 else 0,
      handle := r.handle, line := s.line.line, count := 1, detail := r.detail % 18446744073709551616 }
  let s :=
    if r.cls = 5 then
      modFlt s fun f => { f with fatalDue := match f.fatalDue with
                                             | some c => some c
                                             | none => some (r.detail % 256) }
    else if 3 ≤ r.cls then
      modFlt s fun f => { f with actions := f.actions ++ [{ safeOff := decide (r.cls = 4), regions := scope, code := er.code }] }
    else s
  let s := traceEvent s er
  if r.cls = 0 then writeRecord s er else modFlt s fun f => { f with arrived := f.arrived ++ [(er, r.org)] }

/-- The Lint Trap takes the reports of a control-clock cycle in ascending code, then in ascending origin (R472). -/
def takeReports (s : State) : State :=
  let l := sortBy (fun (x y : EventRec × Nat) => decide (x.1.code < y.1.code) || (decide (x.1.code = y.1.code) && decide (x.2 < y.2)))
    s.flt.arrived
  l.foldl (fun s e => lintReport s e.1 e.2) (modFlt s fun f => { f with arrived := [] })

/-- Raises an event with the class of its table, its origin and the scope of R463. -/
def raise (s : State) (e : Event) (handle detail org : Nat) : State := report s (rep e handle detail org)

/-- Raises an event whose chapter names the regions in scope. -/
def raiseIn (s : State) (e : Event) (handle detail org : Nat) (scope : List Nat) : State :=
  report s { rep e handle detail org with scope := some scope }

end Sys2Proof.Machine
end

