-- ==== Sys2Proof/Machine/Operands.lean ====
section
/-!
DEFINITION. The operand forms of the commands: descriptor fields (R396, R402, R403), the handles, regions and classes that each
opcode names (R28, R390), completion details, the scale record (R16), the register write with its access codes (R4 to R6, R568).
-/
namespace Sys2Proof.Machine

/-- A descriptor's payload field: descriptor bytes `off` to `off + n - 1`, little-endian (R7). -/
def pf (d : Desc) (off n : Nat) : Nat := bits d.payload.toNat (8 * (off - 16)) (8 * n)
/-- A signed payload field. -/
def pfs (d : Desc) (off n : Nat) : Int := sx (8 * n) (pf d off n)
/-- The target handle. -/
def tgt (d : Desc) : Nat := d.target.toNat
/-- The index of the target handle. -/
def tIdx (d : Desc) : Nat := hIdx (tgt d)
/-- The press handle. -/
def prs (d : Desc) : Nat := d.press.toNat
/-- The press slot that a descriptor names, none for an immediate one. -/
def slotOf (d : Desc) : Option Nat := if prs d = 0 then none else some (hIdx (prs d))

/-- Every payload byte outside the named fields (first byte, count) is zero (R402). -/
def onlyBytes (d : Desc) (named : List (Nat × Nat)) : Bool :=
  decide (named.foldl (fun v f => setBits v (8 * (f.1 - 16)) (8 * f.2) 0) d.payload.toNat = 0)

/-- A refusal: status and detail. -/
abbrev Refuse := Nat × Nat

/-- The first refusal of a list of guarded ones. -/
def firstRefuse (l : List (Bool × Refuse)) : Option Refuse :=
  match l with
  | [] => none
  | (b, r) :: t => if b then some r else firstRefuse t

/-- RANGE without detail. -/
def rRANGE : Refuse := (stRANGE, 0)
/-- NO_RESOURCE without detail. -/
def rNORES : Refuse := (stNORES, 0)
/-- MODE without detail. -/
def rMODE : Refuse := (stMODE, 0)
/-- DENIED without detail. -/
def rDENIED : Refuse := (stDENIED, 0)
/-- BUSY with a handle in detail bytes 8 to 11. -/
def rBUSY (h : Nat) : Refuse := (stBUSY, h)

/-- A detail with byte 8. -/
def det8 (b : Nat) : Nat := b % 256
/-- A detail with a handle in bytes 8 to 11 and byte 12. -/
def det12 (h b : Nat) : Nat := h % 4294967296 + (b % 256) * 4294967296
/-- A detail with bytes 8 to 11, 12 and 13. -/
def det13 (h b c : Nat) : Nat := det12 h b + (c % 256) * 1099511627776

/-- A scale record (R16) of 32 bytes given as a number. -/
def scaleOf (n : Nat) : Scale :=
  { kind := bits n 0 16, fullScale := bits n 32 32, offset := sx 32 (bits n 64 32), gain := sx 32 (bits n 96 32),
    ratio := sx 32 (bits n 128 32), polePairs := bits n 160 8, reversed := bit n 168 }

/-- A scale record obeys R16. `zeroOk`: a full scale of 0 is allowed (R151). -/
def scaleOk (n : Nat) (kinds : List Nat) (zeroOk : Bool) : Bool :=
  let k := bits n 0 16
  kinds.contains k && decide (bits n 16 16 = 0) && (decide (bits n 32 32 ≠ 0) || zeroOk) &&
    decide (0 < sx 32 (bits n 96 32)) && decide (bits n 176 80 = 0) &&
    (if k = 3 then decide (0 < sx 32 (bits n 128 32)) && decide (bits n 160 8 ≤ 64) && decide (bits n 168 8 ≤ 1)
     else decide (bits n 128 48 = 0))

/-- A 24-bit value in a 32-bit field is sign-extended (R10). -/
def ext24 (n : Nat) : Bool := decide (bits n 24 8 = if bit n 23 then 255 else 0)

/-- The handles in a node configuration (R364 to R366). -/
def nodeHandles (d : Desc) : List (Nat × Nat × Bool) :=
  (pf d 20 4, cFLOW, true) ::
    match pf d 16 1 with
    | 2 => [(pf d 32 4, cPROBLEM, false)]
    | 3 => (if pf d 32 1 = 4 then [(pf d 40 4, cPROBLEM, false)] else []) ++
           (if pf d 33 1 = 5 then [(pf d 48 4, cPROBLEM, false)] else [])
    | 5 => [(pf d 48 4, cPROBLEM, true), (pf d 52 4, cRING, false)]
    | _ => []

/-- The class of a trace source's OBJECT, 0 for none (R488). -/
def traceClass (source : Nat) : Nat :=
  match source with
  | 1 => cJOINT
  | 2 => cCCHAN
  | 3 => cJOINT
  | 4 => cJOINT
  | 5 => cPROFILE
  | 6 => cFBCH
  | 7 => cJOINT
  | 8 => cARM
  | 9 => cARM
  | _ => 0

/-- The handles in a trace configuration (R487). -/
def traceHandles (d : Desc) : List (Nat × Nat × Bool) :=
  let c := traceClass (pf d 16 1)
  if c = 0 then [] else [(pf d 20 4, c, false)]

/-- The handles that a descriptor names: the handle, the class its opcode requires there (0 for any), and whether null stands
for none (R28, R402). The target comes first. -/
def opHandles (op : Nat) (d : Desc) : List (Nat × Nat × Bool) :=
  let t (c : Nat) : Nat × Nat × Bool := (tgt d, c, false)
  let h (off c : Nat) : Nat × Nat × Bool := (pf d off 4, c, false)
  let o (off c : Nat) : Nat × Nat × Bool := (pf d off 4, c, true)
  match op with
  | 0x0002 => [t 0]
  | 0x0004 => [h 16 cARM, o 24 cFBCH]
  | 0x0005 => [t cJOINT]
  | 0x0100 => [t cREGION]
  | 0x0101 => [t cREGION]
  | 0x0102 => [t cREGION]
  | 0x0103 => [t cREGION]
  | 0x0104 => [t cREGION]
  | 0x0200 => if pf d 16 1 = 1 then [h 20 cFBCH] else []
  | 0x0201 => [t cLINESRC]
  | 0x0401 => [t cCCHAN]
  | 0x0501 => [t cFBCH]
  | 0x0502 => [t cFBCH]
  | 0x0600 => [t cJOINT]
  | 0x0601 => [t cJOINT]
  | 0x0702 => [o 20 cJOINT]
  | 0x0800 => [o 16 cJOINT]
  | 0x0801 => [t cPROFILE, o 16 cJOINT]
  | 0x0802 => [t cPROFILE]
  | 0x0803 => [t cPROFILE]
  | 0x0804 => [t cPROFILE]
  | 0x0805 => h 16 cPROFILE :: (match pf d 20 1 with
    | 2 => [h 24 cPROFILE]
    | 3 => [h 24 cFBCH]
    | _ => [])
  | 0x0806 => [t cGEAR]
  | 0x0902 => [t cPROBLEM]
  | 0x0903 => [t cPROBLEM]
  | 0x0904 => [t cARM, o 20 cPROBLEM, o 24 cPROBLEM]
  | 0x0A00 => [t cARM]
  | 0x0A01 => [t cARM]
  | 0x0A02 => [t cARM]
  | 0x0A05 => [t cZONE]
  | 0x0B01 => [t cPRESS]
  | 0x0B02 => [t cPRESS]
  | 0x0C00 => nodeHandles d
  | 0x0C01 => t cNODE :: nodeHandles d
  | 0x0C02 => [t cNODE, o 20 cNODE]
  | 0x0C04 => [h 20 cNODE]
  | 0x0C05 => [t cDELAY]
  | 0x0C06 => [t cNODE]
  | 0x0C07 => [t cNODE]
  | 0x0D01 => [t cRING]
  | 0x0E00 => traceHandles d
  | 0x0E01 => t cTRACE :: traceHandles d
  | 0x0E02 => [t cTRACE]
  | 0x1100 => [t cREGION]
  | _ => []

end Sys2Proof.Machine
end

