-- ==== Sys2Proof/Machine/Time.lean ====
section
/-!
DEFINITION. The time unit: the line axis (R37 to R46, R50, R51), line publication (R47 to R49), the keys of both axes (R42, R43,
R53), the PTP servo (R61 to R64), time stamps and the one-step insertion (R57 to R59), the gate lists (R60).
-/
namespace Sys2Proof.Machine

/-- Units of exact time in one second. -/
def secU : Nat := 2048000000000000000000

/-- TIM origin (R471). -/
def oTIM : Nat := blockOrigin 6

/-- A line source's record. -/
def srcAt (s : State) (i : Nat) : LineSrc := mgetD s.srcs i { pub := false }
/-- Changes a line source. -/
def modSrc (s : State) (i : Nat) (f : LineSrc → LineSrc) : State := { s with srcs := mmod s.srcs i f }

/-- The feedback channel of a local source. -/
def srcFbch (s : State) (x : LineSrc) : Fbch := mgetD s.fbchs x.fbch {}

/-! ### Positions and speeds of line sources -/

/-- Raw position of a local source: floor(N · 2^40 / COUNTS_PER_PITCH) modulo 2^64 (R39). -/
def localRaw (s : State) (x : LineSrc) : Nat :=
  let n := (srcFbch s x).steps - x.base
  let n := if x.reversed then -n else n
  un 64 (floorDiv (n * 1099511627776) x.cpp)

/-- The time since the sample of a publication source's last frame, in units, at PTP time `ptp`. -/
def pubDt (x : LineSrc) (ptp : Int) : Int := ptp - x.t0 * nsU

/-- Extrapolated speed v + a·dt in units of 2^-24 pitch/s over secU (a numerator). -/
def pubSpeedNum (x : LineSrc) (dt : Int) : Int := x.speed * 256 * secU + x.accel * dt

/-- The extrapolation holds: v + a·dt would reverse the sign of v (R50). -/
def pubHolds (x : LineSrc) (dt : Int) : Bool :=
  (decide (0 < x.speed) && decide (pubSpeedNum x dt < 0)) || (decide (x.speed < 0) && decide (0 < pubSpeedNum x dt))

/-- Extrapolated position of a publication source at PTP time `ptp` (R50). -/
def pubRaw (x : LineSrc) (ptp : Int) : Nat :=
  let dt := pubDt x ptp
  if pubHolds x dt then un 64 ((x.l0 : Int) - divFree 1 (x.speed * x.speed * 8388608) x.accel)
  else un 64 ((x.l0 : Int) + divFree 2 (x.speed * 131072 * dt * secU + x.accel * 256 * dt * dt) (2 * secU * secU))

/-- The raw or extrapolated position of a source at the boundary of the present frame. -/
def srcRaw (s : State) (x : LineSrc) : Nat := if x.pub then pubRaw x s.time.ptpF else localRaw s x

/-- The condition of a local source's channel, or the publisher's flag, that makes it faulted (R46): 0 none, else the cause of
LINE_SRC_FAULT. -/
def srcFaultCause (s : State) (x : LineSrc) : Nat :=
  if x.pub then (if x.srcFault then 3 else 0)
  else
    let f := srcFbch s x
    if f.fault then 1 else if f.uncertain then 2 else 0

/-- Extrapolated speed of a publication source, signed Q16.16 pitch/s (R45, R50). -/
def pubSpeed (x : LineSrc) (ptp : Int) : Int :=
  let dt := pubDt x ptp
  if pubHolds x dt then 0 else divFree 3 (pubSpeedNum x dt) (256 * secU)

/-- TIM_LINE_SPEED (R45). -/
def lineSpeed (s : State) : Int :=
  match s.line.desig with
  | none => 0
  | some i =>
    let x := srcAt s i
    if s.line.frozen then 0
    else if x.pub then satS 32 (pubSpeed x s.time.ptpF)
    else
      let f := srcFbch s x
      let n := if x.reversed then -f.speed.1 else f.speed.1
      satS 32 (divFree 4 (n * 16777216) (f.speed.2 * x.cpp))

/-- LINE_STATE (R45): 0 STOPPED, 1 FORWARD, 2 BACKWARD. -/
def lineStateOf (s : State) : Nat :=
  match s.line.desig with
  | none => 0
  | some i =>
    let x := srcAt s i
    if s.line.frozen then 0
    else if x.pub then
      if x.stopped then 0
      else
        let dt := pubDt x s.time.ptpF
        if pubHolds x dt then 0
        else if 0 < pubSpeedNum x dt then 1 else if pubSpeedNum x dt < 0 then 2 else 0
    else
      let f := srcFbch s x
      if f.speedSt = 0 ∨ f.speedSt = 1 then 0
      else
        if f.lastUp = x.reversed then 2 else 1

/-- The correction's share of this frame (R51): all of it beyond TIM_LINE_STEPTH, else at most TIM_LINE_SLEW towards zero and
never a backward motion while the source advances. -/
def corrShare (s : State) (c adv : Int) : Int :=
  let slew : Int := reg s 0x40038
  if (reg s 0x4003C : Int) < c.natAbs then c
  else
    let x := clampI c (-slew) slew
    if x < 0 ∧ 0 < adv ∧ x < -adv then -adv else x

/-- A source's fault is judged at the boundary, and freezes the axis while the source is designated (R37, R46). -/
def judgeSource (s : State) (i : Nat) : State := modSrc s i fun x => { x with faulted := decide (srcFaultCause s x ≠ 0) }

/-- A fault that has begun is reported, with the line position of this boundary (R46, R569); `old` is the state before the sources
were judged. -/
def reportSource (old s : State) (i : Nat) : State :=
  let c := srcFaultCause old (srcAt old i)
  if c ≠ 0 ∧ (srcAt old i).faulted = false then raise s .lineSrcFault (handleOf s cLINESRC i) c oTIM else s

/-- The line axis at a frame boundary (R41, R44, R45). -/
def evalLine (s : State) : State :=
  let old := s
  let report (s : State) : State := (s.srcs.map Prod.fst).foldl (reportSource old) s
  let s := (s.srcs.map Prod.fst).foldl judgeSource s
  let l := s.line
  match l.desig with
  | none => report (modLine s fun l => { l with prev := l.line, joined := false, state := 0, stepBy := 0, stepHwm := 0 })
  | some i =>
    let x := srcAt s i
    let raw := srcRaw s x
    let frozen := x.faulted || x.stale
    -- a source that recovers: the difference becomes the correction, which later frames absorb (R46, R51)
    let back := l.frozen && !frozen
    let c := if back then lineDiff (un 64 ((raw : Int) + l.joinOff)) l.line else l.corr
    let rawPrev := if back then raw else l.rawPrev
    let adv := if frozen then 0 else lineDiff raw rawPrev
    let share := if frozen || back then 0 else corrShare s c adv
    let stepped := !frozen && !back && decide ((reg s 0x4003C : Int) < c.natAbs)
    let new := un 64 ((l.line : Int) + adv + share)
    let up := decide (0 ≤ lineDiff new l.hwm)
    let hwm := if up then new else l.hwm
    let armed := l.reverseArmed || up
    let tooFar := decide ((reg s 0x40034 : Int) < lineDiff hwm new)
    let s := modLine s fun l =>
      { l with line := new, prev := l.line, hwm := hwm, corr := if frozen then c else c - share, rawPrev := if frozen then l.rawPrev else raw,
               frozen := frozen, joined := false, reverseArmed := armed && !tooFar, pubStep := l.pubStep || stepped,
               stepBy := if stepped then share else 0,
               stepHwm := if stepped then lineDiff hwm (let w := un 64 ((l.line : Int) + adv); if 0 ≤ lineDiff w l.hwm then w else l.hwm) else 0 }
    let h := handleOf s cLINESRC i
    let s := report s
    let s := if stepped then raise s .lineStep h (un 64 share) oTIM else s
    let s := if armed && tooFar then raise s .lineReverse h hwm oTIM else s
    let st := lineStateOf s
    let s' := modLine s fun l => { l with state := st }
    if st = 0 ∧ l.state ≠ 0 then raise s' .lineStop h 0 oTIM
    else if st ≠ 0 ∧ l.state = 0 then raise s' .lineMove h (un 32 (lineSpeed s')) oTIM
    else s'

/-! ### Keys -/

/-- A line key is at or behind a position (R9, R43). -/
def lineReached (key pos : Nat) : Bool := decide (0 ≤ lineDiff pos key)

/-- A line key fires in the present frame (R41, R42, R43). -/
def lineFires (s : State) (key frame : Nat) (behind : Bool) : Bool :=
  let l := s.line
  l.desig.isSome &&
    ((l.joined && !behind && lineReached key l.line) ||
      (decide (frame < s.time.frame) &&
        (behind || (decide (lineDiff l.prev key < 0) && lineReached key l.line && decide (0 < lineDiff l.line l.prev)))))

/-- A line key is at or behind the axis at its insertion, while a source is designated (R43). -/
def lineBehind (s : State) (key : Nat) : Bool := s.line.desig.isSome && lineReached key s.line.line

/-- A wall key is at or behind WALL32 of the frame (R53). -/
def wallReached (s : State) (key : Nat) : Bool := decide (0 ≤ sx 32 (un 32 ((s.time.wallF : Int) - key)))

/-- The PTP time in whole ns at the boundary of the present frame. -/
def wallNow (s : State) : Int := floorDiv s.time.ptpF nsU

/-- The PTP time in ns for which an entry inserted in the present frame with a WALL32 key waits: the key is less than 2^31 ns from the
wall time at insertion (R53), and a step of any size passes or does not pass it (R64). -/
def keyTime (s : State) (key : Nat) : Int := wallNow s - sx 32 (un 32 ((s.time.wallF : Int) - key))

/-- A wall key inserted in frame `frame`, which waits for PTP time `full`, fires in the present frame (R53, R64). -/
def wallFires (s : State) (full : Int) (frame : Nat) (behind : Bool) : Bool :=
  decide (frame < s.time.frame) && (behind || decide (full ≤ wallNow s))

/-! ### Line sources -/

/-- A GROUP of R38 is a multicast group, its address bytes in order from byte 32: an IPv6 multicast address (first byte FF), or an
IPv4 one (224.0.0.0 to 239.255.255.255) mapped into ::ffff:a.b.c.d. -/
def multicastGroup (d : Desc) : Bool :=
  decide (pf d 32 1 = 0xFF) ||
    (decide (pf d 32 8 = 0) && decide (pf d 40 4 = 0xFFFF0000) && decide (224 ≤ pf d 44 1) && decide (pf d 44 1 ≤ 239))

/-- LINESRC_CREATE's own rules (R38). -/
def lineSrcCheck (s : State) (a : Acc) : Option Refuse :=
  let d := a.d
  let k := pf d 16 1
  let f := (mgetD s.fbchs (hIdx (pf d 20 4)) {}).cfg
  let age := pf d 28 4
  firstRefuse [
    (!(onlyBytes d [(16, 35)]), rRANGE),
    (decide (k ≠ 1 ∧ k ≠ 2) || decide (1 < pf d 17 1), rRANGE),
    (decide (k = 1) && (decide (pf d 18 2 ≠ 0) || decide (pf d 24 4 = 0) || !(onlyBytes d [(16, 12)]) ||
      !f.isLocal || [2, 3].contains f.type), rRANGE),
    (decide (k = 2) && (decide (pf d 20 8 ≠ 0) || decide (age ≠ 0 ∧ (age < 500 ∨ 100000 < age)) ||
      !(multicastGroup d) || decide (pf d 50 1 = 0) || decide (15 < pf d 50 1)), rRANGE),
    (!(hasFree s cLINESRC), rNORES)]

/-- The record of a new line source. DESIGN CHOICE (log 85): until a publication source accepts its first frame, its age (R46) counts
from its creation. -/
def lineSrcNew (s : State) (d : Desc) : LineSrc :=
  if pf d 16 1 = 1 then
    { pub := false, reversed := decide (pf d 17 1 = 1), fbch := hIdx (pf d 20 4), cpp := pf d 24 4,
      base := (mgetD s.fbchs (hIdx (pf d 20 4)) {}).steps }
  else
    { pub := true, stream := pf d 18 2, ageUs := if pf d 28 4 = 0 then 4000 else pf d 28 4,
      group := pf d 32 16, udpPort := if pf d 48 2 = 0 then 47400 else pf d 48 2, ports := pf d 50 1,
      t0 := ptpNs s }

/-- LINE_DESIGNATE's own rules (R40). -/
def designateCheck (s : State) (a : Acc) : Option Refuse :=
  let d := a.d
  let m := pf d 16 1
  let x := srcAt s (tIdx d)
  firstRefuse [
    (decide (1 < m) || !(onlyBytes d [(16, 1), (24, 8)]), rRANGE),
    (decide (pf d 24 8 ≠ 0) && (decide (m = 0) || x.pub), rRANGE)]

/-- LINE_DESIGNATE takes effect at the boundary of the present frame (R40, R41, R51). -/
def designate (s : State) (d : Desc) : State :=
  let i := tIdx d
  let x := srcAt s i
  let adopt := decide (pf d 16 1 = 1)
  let raw := srcRaw s x
  let old := s.line.line
  let new := if adopt then (if x.pub then raw else pf d 24 8) else old
  let prev := handleOf? s cLINESRC s.line.desig
  let s := modLine s fun l =>
    { l with desig := some i, line := new, hwm := if adopt then new else l.hwm, reverseArmed := l.reverseArmed || adopt,
             joinOff := if adopt && x.pub then 0 else un 64 ((new : Int) - raw), corr := 0, rawPrev := raw,
             frozen := x.faulted || x.stale, joined := true, pubStep := true,
             stepBy := l.stepBy + lineDiff new old, stepHwm := l.stepHwm + (if adopt then lineDiff new l.hwm else 0) }
  let h := handleOf s cLINESRC i
  let s := if adopt then raise s .lineStep h (un 64 (lineDiff new old)) oTIM else s
  raise s .lineDesignated h (prev + (pf d 16 1) * 4294967296) oTIM

/-- LINE_SRC_STALE: a publication source has exceeded AGE_LIMIT (R46, R50). -/
def sourceStale (s : State) (i : Nat) : State :=
  let x := srcAt s i
  let dt := pubDt x s.time.ptp
  if isLive s cLINESRC i ∧ x.pub = true ∧ x.stale = false ∧ (x.ageUs * usU : Int) < dt then
    let s := modSrc s i fun x => { x with stale := true }
    let s := if s.line.desig = some i then modLine s fun l => { l with frozen := true } else s
    raise s .lineSrcStale (handleOf s cLINESRC i) ((dt / usU).toNat) oTIM
  else s

/-! ### Line publication -/

/-- The 48-byte payload that the device sends at a plan-tick boundary (R47, R48). DESIGN CHOICE (log 85): FLAGS.SOURCE_FAULT shows that
the designated source is faulted or stale, that is, that it freezes the axis. -/
def pubPayload (s : State) : List Byte :=
  let ctl := reg s 0x40058
  let ns := floorDiv s.time.ptpF nsU
  let sp := lineSpeed s
  let old := (s.line.speeds.getD 3 0)
  let acc := satS 32 (divFree 5 ((sp - old) * 256 * 1000000) 1024)
  let flags := b2n (decide (s.line.state = 0)) + 2 * b2n (decide (s.line.state = 2)) + 4 * b2n (decide (s.time.servo ≠ .locked)) +
    8 * b2n (s.line.frozen) + 16 * b2n s.line.pubStep
  beBytes 4 0x4C505542 ++ [1, BitVec.ofNat 8 flags] ++ beBytes 2 (bits ctl 16 16) ++ beBytes 4 (s.line.pubSeq + 1) ++
    beBytes 6 (un 48 (floorDiv ns 1000000000)) ++ beBytes 4 (un 32 (ns % 1000000000)) ++ beBytes 8 s.line.line ++
    beBytes 4 (un 32 sp) ++ beBytes 4 (un 32 acc) ++ beBytes 8 s.time.gm ++ beBytes 1 s.time.domain ++ beBytes 1 (bits ctl 1 3)

/-- An Ethernet port's record. -/
def ethAt (s : State) (p : Nat) : EthPort := mgetD s.time.eth p {}
/-- Changes an Ethernet port. -/
def modEth (s : State) (p : Nat) (f : EthPort → EthPort) : State :=
  modTime s fun t => { t with eth := mput t.eth p (f (ethAt s p)) }

/-- LINE_PUBLICATION_SEND at a plan-tick boundary (R48), and the record of the speed at each plan tick. -/
def publishLine (s : State) : State :=
  let ctl := reg s 0x40058
  let k := s.time.frame / 1280
  let send := bit ctl 0 && decide (k % 2 ^ bits ctl 1 3 = 0)
  let msg := pubPayload s
  let s' := if send then
      let s := (maskList (bits ctl 4 4) 4).foldl (fun s p => modEth s p fun e =>
        { e with txPub := msg, txPubPort := bits (reg s 0x4005C) 0 16,
                 txPubGroup := (List.range 4).map fun i => reg s (0x40060 + 4 * i) }) s
      modLine s fun l => { l with pubSeq := (l.pubSeq + 1) % 4294967296, pubStep := false }
    else s
  modLine s' fun l => { l with speeds := (lineSpeed s :: l.speeds).take 4 }

/-- A publication source that takes the frame: live, its stream, port and group (R49), and its UDP port (R38). DESIGN CHOICE (log 85):
of two that name the same, the one of the lowest index takes every frame; a frame to another UDP port finds no source, and is
dropped and counted. -/
def pubTarget (s : State) (port group udp stream : Nat) : Option Nat :=
  (mkeys s.srcs fun i x => isLive s cLINESRC i && x.pub && decide (x.stream = stream) && bit x.ports port &&
    decide (x.group = group) && decide (x.udpPort = udp)).head?

/-- LINE_PUB_RX (R47, R49, R51): the frame is dropped and counted, or accepted. DESIGN CHOICE (log 85): a payload of another length than 48
bytes is dropped. -/
def receivePub (s : State) (port group udp : Nat) (bs : List Byte) : State :=
  let f (o n : Nat) : Nat := beNat (takeBytes bs o n)
  let drop := bump s 0x40074
  if bs.length ≠ 48 ∨ f 0 4 ≠ 0x4C505542 ∨ f 4 1 ≠ 1 ∨ f 38 8 ≠ s.time.gm ∨ f 46 1 ≠ s.time.domain ∨
      s.time.servo = .freerun then drop
  else
    match pubTarget s port group udp (f 6 2) with
    | none => drop
    | some i =>
      let x := srcAt s i
      let seq := f 8 4
      let later := match x.lastSeq with
        | none => true
        | some q => let d := (seq + 4294967296 - q) % 4294967296
                    decide (1 ≤ d ∧ d < 2147483648)
      if !later then drop
      else
        let fl := f 5 1
        let l0 := f 22 8
        let x' := { x with lastSeq := some seq, t0 := (f 12 6 : Int) * 1000000000 + f 18 4, l0 := l0,
                           speed := sx 32 (f 30 4), accel := sx 32 (f 34 4),
                           stopped := bit fl 0, srcFault := bit fl 3, stale := false }
        let s := modSrc s i fun _ => x'
        if s.line.desig = some i ∧ s.line.frozen = false then
          let raw := pubRaw x' s.time.ptpF
          modLine s fun l => { l with corr := lineDiff (un 64 ((raw : Int) + l.joinOff)) l.line, rawPrev := raw }
        else s

/-! ### The servo -/

/-- Thresholds in units of 2^-16 ns. -/
def jumpTh (s : State) : Int := (reg s 0x40040 : Int) * 65536
def lockTh (s : State) : Int := (reg s 0x40044 : Int) * 65536

/-- An offset in whole nanoseconds, as TIM_OFFSET and the events show it. -/
def offsetNs (o : Int) : Int := divFree 6 o 65536

/-- A step to take at the next frame boundary (R62, R64). -/
def stepPtp (s : State) (o : Int) : State :=
  raise (modTime s fun t => { t with stepDue := some (t.stepDue.getD 0 + o) }) .timStepped 0 (un 64 (-(offsetNs o))) oTIM

/-- The armed step admits the offset (R63). -/
def stepAdmits (s : State) (o : Int) : Bool :=
  match s.time.stepArmed with
  | none => false
  | some 0 => true
  | some m => decide (o.natAbs ≤ m * 65536)

/-- Enters a servo state, with its event. -/
def enterServo (s : State) (st : Servo) (cause : Nat) : State :=
  let old := s.time.servo
  let s := modTime s fun t =>
    { t with servo := st, holdCause := if st = .holdover then cause else 0, lockCount := if st = .locking then 0 else t.lockCount }
  if st = .holdover ∧ (old ≠ .holdover) then raise s .timHoldover 0 cause oTIM
  else if st = .locked ∧ old ≠ .locked then raise s .timLocked 0 (un 32 s.time.fadj) oTIM
  else s

/-- The PI update and the lock count (R62). -/
def piUpdate (s : State) (o : Int) : State :=
  let g := reg s 0x4004C
  let integ := s.time.integ + (bits g 16 16 : Int) * o
  let lim : Int := (reg s 0x40048 : Int) * 4294967296
  let f := clampI ((bits g 0 16 : Int) * o + integ) (-lim) lim
  let s := modTime s fun t => { t with integ := integ, fadj := divFree 7 f 16777216 }
  let s := if s.time.servo = .holdover then enterServo s .locking 0 else s
  let n := if (o.natAbs : Int) ≤ lockTh s then s.time.lockCount + 1 else 0
  let s := modTime s fun t => { t with lockCount := n }
  if s.time.servo = .locking ∧ 16 ≤ n then enterServo s .locked 0 else s

/-- The offset of one Sync (R62). -/
def onOffset (s : State) (o : Int) : State :=
  let s := modTime s fun t => { t with offset := o }
  let ctl := reg s 0x40000
  let far := decide (jumpTh s < o.natAbs)
  let forced := bit ctl 2
  if !(bit ctl 0) then s
  else if s.time.servo = .freerun then
    let leave (s : State) : State := if forced then enterServo s .holdover 3 else enterServo s .locking 0
    if bit ctl 1 ∧ s.md.mode ≠ .run then leave (stepPtp s o)
    else if far then
      let s' := if stepAdmits s o then leave (stepPtp s o)
        else raise s .timJumpRefused 0 (un 64 (offsetNs o)) oTIM
      modTime s' fun t => { t with stepArmed := none }
    else
      let s := leave (modTime s fun t => { t with integ := 0 })
      if forced then s else piUpdate s o
  else if far then
    let s' := if stepAdmits s o then enterServo (stepPtp s o) .locking 0
      else raise (enterServo (modTime s fun t => { t with holdCause := 1 }) .holdover 1) .timJumpRefused 0 (un 64 (offsetNs o)) oTIM
    modTime s' fun t => { t with stepArmed := none }
  else if s.time.servo = .holdover ∧ s.time.holdCause = 3 then s
  else piUpdate s o

/-- ETH_PTPCFG of a port. -/
def ptpCfg (s : State) (p : Nat) : Nat := reg s (0x50000 + 0x1000 * p)

/-- The port is disabled: ROLE 0, or the reserved transport outside gPTP (R66). -/
def portOff (s : State) (p : Nat) : Bool :=
  let c := ptpCfg s p
  decide (bits c 0 2 = 0) || (decide (bits c 3 2 = 3) && !(bit c 6))

/-- The port's PTP domain: 0 for the gPTP profile, else DOMAIN (R55, R56). -/
def portDomain (s : State) (p : Nat) : Nat := if bit (ptpCfg s p) 6 then 0 else bits (ptpCfg s p) 8 7

/-- The port measures its delay peer to peer: the gPTP profile, or MECH 1 (R55, R56). -/
def peerDelay (s : State) (p : Nat) : Bool := bit (ptpCfg s p) 6 || bit (ptpCfg s p) 2

/-- A power of two of seconds in units of time, for the signed 4-bit logarithms of R66, none below −7. -/
def logSeconds (n : Nat) : Nat := secU * 2 ^ (sx 4 n + 7).toNat / 128

/-- The portStates that the port's role leaves to the best master clock algorithm (R55, R66, the codes of IEEE 1588-2019): 4 LISTENING,
5 PRE_MASTER, 6 MASTER, 7 PASSIVE, 8 UNCALIBRATED. -/
def portChoices (s : State) (p : Nat) : List Nat :=
  if portOff s p then [3]
  else match bits (ptpCfg s p) 0 2 with
    | 1 => [4, 5, 6, 7, 8]
    | 2 => [4, 5, 6, 7]
    | _ => [4, 8]

/-- The best master clock algorithm decides a port's state (R55): which of those that its role allows is free (log 10), but a disabled
port is DISABLED. A port in SLAVE state may stay so where `keep` says so; a port that leaves it feeds the servo no more. -/
def decidePort (keep : Bool) (s : State) (p : Nat) : State :=
  let e := ethAt s p
  let l := (if keep && decide (e.state = 9) then [9] else []) ++ portChoices s p
  let st := if l.length ≤ 1 then l.headD 3 else l.getD (Config.freeNat s.free % l.length) 3
  let s := { modEth s p fun e => { e with state := st } with free := s.free + 1 }
  if st ≠ 9 ∧ s.time.activePort = p then modTime s fun t => { t with activePort := 15 } else s

/-- The ports in SLAVE state, but for one. -/
def slavesBut (s : State) (p : Nat) : List Nat := (List.range 4).filter fun q => decide (q ≠ p) && decide ((ethAt s q).state = 9)

/-- ETH_PTPCFG has changed: a port whose state its new configuration does not allow takes another (R66). -/
def ptpCfgChanged (s : State) (p : Nat) : State :=
  let slave := decide ((ethAt s p).state = 9) && !(portOff s p) && decide (bits (ptpCfg s p) 0 2 ≠ 2)
  if slave || (portChoices s p).contains (ethAt s p).state then s else decidePort false s p

/-- A Sync of the port's master: the port is the one in SLAVE state and feeds the servo, and the grandmaster and domain are those of its
parent dataset (R47, R61, R65). The master is lost three sync intervals later (R61). -/
def syncFrom (s : State) (p gm domain : Nat) : State :=
  let s := (slavesBut s p).foldl (decidePort false) s
  modTime (modEth s p fun e => { e with state := 9 }) fun t =>
    { t with activePort := p, gm := gm, domain := domain, lostAt := t.elapsed + 3 * logSeconds (bits (ptpCfg s p) 16 4) }

/-- A TimeInterval register pair: signed nanoseconds times 2^16 (R57). -/
def interval (s : State) (lo : Nat) : Int := sx 64 (reg64 s lo)

/-- PTP_SYNC_OFFSET: the offset of a Sync received on a port that may be a slave, in the port's domain, after the correction for the
path delay; ETH_ASYM is taken off it as the delay asymmetry of the path from the master (R57, R61, R62). -/
def syncOffset (s : State) (p : Nat) (o : Int) (gm domain : Nat) : State :=
  if portOff s p ∨ bits (ptpCfg s p) 0 2 = 2 ∨ domain ≠ portDomain s p then s
  else onOffset (syncFrom s p gm domain) (o - interval s (0x50018 + 0x1000 * p))

/-- SERVO_EN or HOLDOVER_FORCE has changed: the forced holdover cause begins or ends (R62). -/
def forcedHoldover (s : State) : State :=
  let ctl := reg s 0x40000
  let cause := !(bit ctl 0) || bit ctl 2
  if cause then
    if s.time.servo = .locking ∨ s.time.servo = .locked then enterServo s .holdover 3
    else if s.time.servo = .holdover then modTime s fun t => { t with holdCause := 3 }
    else s
  else if s.time.servo = .holdover ∧ s.time.holdCause = 3 then modTime s fun t => { t with holdCause := 0 }
  else s

/-- The master is lost (R61): the announce receipt timeout has expired (a free value), or no Sync has come within three sync intervals. No port is in
SLAVE state then. -/
def masterLost (s : State) : State :=
  let out := Config.announceOut s.free
  let s := { s with free := s.free + 1 }
  if !out && decide (s.time.elapsed < s.time.lostAt) then s
  else
    let s := modTime ((slavesBut s 4).foldl (decidePort false) s) fun t => { t with activePort := 15 }
    if s.time.servo = .locked then enterServo s .holdover 2 else s

/-- The step that is due is taken at the frame boundary: PTP time alone changes, and the line axis is not moved by what the step makes
of a publication source's extrapolation (R50, R64). -/
def takeStep (s : State) : State :=
  match s.time.stepDue with
  | none => s
  | some o =>
    let t := modTime s fun t => { t with ptp := t.ptp - o * 31250000, stepDue := none }
    match s.line.desig.bind (mget s.srcs) with
    | some x =>
      if x.pub then
        modLine t fun l => { l with rawPrev := un 64 ((l.rawPrev : Int) + lineDiff (pubRaw x t.time.ptp) (pubRaw x s.time.ptp)) }
      else t
    | none => t

/-- TIME_STEP_AUTH (R63). -/
def stepAuth (s : State) (a : Acc) : State :=
  let d := a.d
  if !(onlyBytes d [(16, 9)]) || decide (1 < pf d 24 1) then complete s a stRANGE 0 0
  else if pf d 24 1 = 1 then complete (modTime s fun t => { t with stepArmed := none }) a stOK 0 0
  else if s.time.stepArmed.isSome then complete s a stBUSY 0 0
  else complete (modTime s fun t => { t with stepArmed := some (pf d 16 8) }) a stOK 0 0

/-- A snapshot for a requester (R54). -/
def takeSnap (s : State) (req : Nat) : State :=
  modTime s fun t =>
    { t with snaps := mput t.snaps req { ptp := t.ptp, elapsed := t.elapsed, frame := t.frame, line := s.line.line } }

/-! ### Stamps, one-step insertion and gates -/

/-- PTP time in units of 2^-16 ns (R57). -/
def ptpStamp (s : State) : Int := divFree 8 s.time.ptp 31250000

/-- The message ends a measurement of the path delay by the port's mechanism: a Delay_Resp end to end, a Pdelay_Resp or its follow-up
peer to peer (R55). -/
def measuresDelay (s : State) (p : Nat) (m : PtpMsg) : Bool :=
  if peerDelay s p then decide (m.kind = 3) || decide (m.kind = 10) else decide (m.kind = 9)

/-- PTP_MESSAGE_RX (R55 to R57): a management message is discarded and counted, and every event message is stamped. A message of the
port's own domain then takes its part in the protocol: one that ends a measurement leaves ETH_MPD free, and an Announce lets the best
master clock algorithm decide the ports' states (log 10). DESIGN CHOICE (log 10): on a disabled port an event message counts in
ETH_TS_DROP and no other message counts. -/
def ptpReceive (s : State) (p : Nat) (m : PtpMsg) : State :=
  if portOff s p then (if m.event then bump s (0x50028 + 0x1000 * p) else s)
  else if m.management then bump s (0x5002C + 0x1000 * p)
  else
    let s := if m.event then modEth s p fun e => { e with rxStamp := ptpStamp s - interval s (0x50008 + 0x1000 * p) } else s
    if beNat (takeBytes m.body 4 1) ≠ portDomain s p then s
    else if measuresDelay s p m then
      { modEth s p fun e => { e with mpd := sx 64 (Config.freeNat s.free) } with free := s.free + 1 }
    else if m.kind = 11 then ((List.range 4).filter fun q => !(portOff s q)).foldl (decidePort true) s
    else s

/-- The one's complement sum of a byte list taken as big-endian 16-bit words. -/
def onesSum (bs : List Byte) : Nat :=
  let n := (List.range ((bs.length + 1) / 2)).foldl (fun a i => a + beNat (takeBytes bs (2 * i) 2)) 0
  let f (x : Nat) : Nat := x % 65536 + x / 65536
  f (f (f n))

/-- The bytes of a one-step message as it leaves (R58, R59): PTP header layout of IEEE 1588-2019 (PRESUMED). -/
def oneStep (s : State) (p : Nat) (m : PtpMsg) : List Byte :=
  let c := reg s (0x50000 + 0x1000 * p)
  let stamp := ptpStamp s + interval s (0x50010 + 0x1000 * p)
  let ns := floorDiv stamp 65536
  let corr := sx 64 (beNat (takeBytes m.body 8 8))
  let put (bs : List Byte) (o : Nat) (v : List Byte) : List Byte := bs.take o ++ v ++ bs.drop (o + v.length)
  let b :=
    if m.kind = 0 then
      let b := put m.body 8 (beBytes 8 (un 64 (corr + stamp % 65536)))
      put b 34 (beBytes 6 (un 48 (floorDiv ns 1000000000)) ++ beBytes 4 (un 32 (ns % 1000000000)))
    else put m.body 8 (beBytes 8 (un 64 (corr + (stamp - m.t2))))
  if bits c 3 2 = 2 ∧ !(bit c 6) then
    let n := b.length - 2
    let tail := beNat (takeBytes b n 2)
    let new := (tail + onesSum (m.body.take n) + (65535 - onesSum (b.take n))) % 65535
    put b n (beBytes 2 new)
  else b

/-- The port sends the message (R55, R66): a Sync (kind 0) not on a slave-only port and at its sync interval, a Delay_Req (1) end to end
and not on a master-only port, Pdelay_Req (2) and Pdelay_Resp (3) peer to peer, the request at its own interval (log 10). -/
def ptpSends (s : State) (p : Nat) (m : PtpMsg) : Bool :=
  let c := ptpCfg s p
  let e := ethAt s p
  let due (last : Option Nat) (n : Nat) : Bool := match last with
    | none => true
    | some t => decide (t + logSeconds n ≤ s.time.elapsed)
  !(portOff s p) &&
    match m.kind with
    | 0 => decide (bits c 0 2 ≠ 3) && due e.syncTx (bits c 16 4)
    | 1 => !(peerDelay s p) && decide (bits c 0 2 ≠ 2)
    | 2 => peerDelay s p && due e.pdelayTx (bits c 20 4)
    | 3 => peerDelay s p
    | _ => true

/-- The message leaves one-step: a Sync or a Pdelay_Resp of a port with ONESTEP (R55, R58). -/
def isOneStep (s : State) (p : Nat) (m : PtpMsg) : Bool := bit (ptpCfg s p) 5 && (decide (m.kind = 0) || decide (m.kind = 3))

/-- PTP_MESSAGE_TX (R57 to R59): an event message leaves with its egress stamp; a one-step one has the stamp in it, and over UDP/IPv4 its
UDP checksum is 0x0000. DESIGN CHOICE (log 10): the queue that it takes is open, and no closed gate holds it back (R60). -/
def ptpSend (s : State) (p : Nat) (m : PtpMsg) : State :=
  if !(ptpSends s p m) then s
  else
    let one := isOneStep s p m
    let c := ptpCfg s p
    modEth s p fun e =>
      { e with txStamp := ptpStamp s + interval s (0x50010 + 0x1000 * p), txMsg := if one then oneStep s p m else m.body,
               txSum := if one && decide (bits c 3 2 = 1) && !(bit c 6) then some 0 else none,
               syncTx := if m.kind = 0 then some s.time.elapsed else e.syncTx,
               pdelayTx := if m.kind = 2 then some s.time.elapsed else e.pdelayTx }

/-- The first start of a cycle at or after PTP time `t`, for a base and a cycle time, in ns: cycles are aligned to the base (R60). -/
def cycleStart (base : Nat) (cycle : Nat) (t : Int) : Int :=
  if t ≤ base ∨ cycle = 0 then max t base else base - floorDiv (base - t) cycle * cycle

/-- The administrative list is scheduled: it becomes operational at the first cycle start at or after its base from now on (R60). -/
def gclApply (s : State) (p : Nat) : State :=
  let b := 0x50000 + 0x1000 * p
  let n := bits (reg s (b + 0x200)) 0 7
  let l := (List.range n).map fun i => let v := reg s (b + 0x100 + 4 * i); (bits v 0 8, bits v 8 24)
  let base := reg64 s (b + 0x204)
  let cyc := reg s (b + 0x20C)
  modEth s p fun e => { e with admin := some (l, base, cyc), adminStart := cycleStart base cyc (ptpNs s) }

/-- The elapsed time at which a gate cycle that begins now ends: at the next start that the base and the cycle time give by PTP time
(R60). -/
def cycleEndAt (s : State) (base cycle : Nat) : Nat :=
  (s.time.elapsed + (cycleStart base cycle (ptpNs s + 1) * nsU - s.time.ptp)).toNat

/-- The scheduled list becomes operational at its first cycle start (R60). -/
def gclSwitch (s : State) (p : Nat) : State :=
  match (ethAt s p).admin with
  | some (l, b, c) =>
    if (ethAt s p).adminStart ≤ ptpNs s then
      modEth s p fun e => { e with oper := l, operBase := b, operCycle := c, admin := none, entry := 0, entryAt := s.time.elapsed,
                                   cycleEnd := cycleEndAt s b c }
    else s
  | none => s

/-- The interval of the entry in force has run out, or the cycle has ended: the next entry's gates apply, the first entry's from a cycle
start, and the last entry stays until then (R60). Inside a cycle, time is elapsed time: a PTP step moves the cycle from the next
cycle start on. -/
def gateInterval (s : State) (p : Nat) : State :=
  let e := ethAt s p
  if !(bit (reg s (0x50200 + 0x1000 * p)) 8) || e.oper.isEmpty then s
  else if e.cycleEnd ≤ s.time.elapsed then
    modEth s p fun e => { e with entry := 0, entryAt := e.cycleEnd, cycleEnd := cycleEndAt s e.operBase e.operCycle }
  else
    let stop := e.entryAt + ((e.oper.getD e.entry (0, 0)).2) * nsU
    if e.entry + 1 < e.oper.length ∧ stop ≤ s.time.elapsed then
      modEth s p fun e => { e with entry := e.entry + 1, entryAt := stop }
    else s

end Sys2Proof.Machine
end

