-- ==== Sys2Proof/Machine/Wear.lean ====
section
/-!
DEFINITION. Instances of the spared classes (R421, R442), their wear scores (R444, R445) and the darn log (R460).
-/
namespace Sys2Proof.Machine

/-- HLT origin (R461). -/
def oHLT : Nat := blockOrigin 0x18

/-- The TYPEs of the classes of R442, by class index. -/
def tyOf (c : Nat) : Nat :=
  match c with
  | 0 => 0x09
  | 1 => 0x0B
  | 2 => 0x0C
  | 3 => 0x0E
  | 4 => 0x0F
  | _ => 0x11

/-- The class index of a TYPE (R442). -/
def classOfTy (ty : Nat) : Option Nat := (List.range 6).find? fun c => tyOf c = ty

/-- Instances of a class, spares included (R422). -/
def instances (c : Nat) : Nat :=
  match c with
  | 0 => 32
  | 1 => 9
  | 2 => 552
  | 3 => 144
  | 4 => 18
  | _ => 208

/-- The first spare at cold reset; a class without spares gives its count (R442). -/
def firstSpare (c : Nat) : Nat :=
  match c with
  | 0 => 32
  | 1 => 8
  | 2 => 520
  | 3 => 128
  | 4 => 16
  | _ => 192

/-- An instance's record: at cold reset an original in service or a spare standing ready (R421). -/
def instAt (s : State) (c i : Nat) : Inst :=
  mgetD s.hlt.insts (origin (tyOf c) i) { code := if firstSpare c ≤ i then 1 else 0 }
/-- Changes an instance's record. -/
def modInst (s : State) (c i : Nat) (f : Inst → Inst) : State :=
  modHlt s fun h => { h with insts := mput h.insts (origin (tyOf c) i) (f (instAt s c i)) }

/-- The instance serves: states 0b00 and 0b10 (R420). -/
def serves (s : State) (c i : Nat) : Bool := decide ((instAt s c i).code = 0) || decide ((instAt s c i).code = 2)
/-- The instance is retired or lost. -/
def retired (s : State) (c i : Nat) : Bool := decide ((instAt s c i).code = 3)

/-- A spare under a shadow or a darn, or under test (R447, R448, R451). -/
def spareBusy (s : State) (c i : Nat) : Bool :=
  (s.hlt.tests.any fun t => decide (t.cls = c) && (decide (t.inst = i) || decide (t.spare = some i))) ||
    match s.hlt.darn with
    | some (r, sp, _) => decide (r.cls = c) && decide (sp = i)
    | none => false

/-- The spares of a class that remain: neither taken by a commit nor failed, ready or under a test or shadow. -/
def sparesLeft (s : State) (c : Nat) : Nat :=
  ((List.range (instances c)).filter fun i => decide ((instAt s c i).code = 1) && !(instAt s c i).failed).length

/-- The spares of a class that stand ready, rising. -/
def sparesReady (s : State) (c : Nat) : List Nat :=
  (List.range (instances c)).filter fun i =>
    decide ((instAt s c i).code = 1) && !(instAt s c i).failed && !spareBusy s c i

/-- Adds an entry to the darn log (R455, R460). -/
def logAdd (s : State) (kind reason worn spare wear : Nat) : State :=
  let idx := s.hlt.logSeq % 4096
  let ns := ptpNs s
  modHlt s fun h =>
    { h with log := mput h.log idx { seq := h.logSeq, kind := kind, reason := reason, worn := worn, spare := spare,
                                     sec := un 48 (floorDiv ns 1000000000), ns := (ns % 1000000000).toNat, wear := wear,
                                     frame := un 32 s.time.frame },
             logHead := idx, logSeq := h.logSeq + 1 }

/-- An instance takes a new score: a crossing of the threshold is reported and recorded, and so is a failure (R445). -/
def setScore (s : State) (c i score row : Nat) : State :=
  let old := (instAt s c i).wear
  let o := origin (tyOf c) i
  let s := modInst s c i fun x => { x with wear := score, row := row }
  let th := reg s (0x250104 + 0x10 * c)
  let s := if old < th ∧ th ≤ score then
      let s := logAdd (raise s .hltWorn 0 (o + score * 4294967296) o) 6 0 o 0 score
      modHlt s fun h => { h with crossed := h.crossed ++ [(o, false)] }
    else s
  if old < 65535 ∧ score = 65535 then
    let s := modInst (raise s .hltFailed 0 (o + row * 4294967296) o) c i fun x => { x with failed := true }
    modHlt s fun h => { h with crossed := h.crossed ++ [(o, true)] }
  else s

/-- One input of R444: the row adds its weight, or sets 65 535. -/
def wearInput (s : State) (c i row : Nat) : State :=
  let w := match row with
    | 1 => 64
    | 2 => 16
    | 3 => 1024
    | 4 => 4096
    | 5 => 8192
    | _ => 65535
  setScore s c i (Nat.min 65535 ((instAt s c i).wear + w)) row

/-- A score's hourly loss (R444). -/
def decayed (n : Nat) : Nat := if n = 0 then 0 else n - Nat.max 1 (n / 256)

/-- WEAR_DECAY: every score that is not 0 loses its share (R444). -/
def wearDecay (s : State) : State :=
  modHlt s fun h => { h with insts := h.insts.map fun e => (e.1, { e.2 with wear := decayed e.2.wear }) }

/-- The spare of a darn shadows the worn part: in phase 1, and in phase 2 until the commit, where a shadow was required (R451). -/
def shadowing (need ph : Nat) : Bool := decide (ph = 1) || (decide (ph = 2) && decide (need ≠ 0))

/-- The spares that shadow a live instance, in a darn or in a test (R442, R448). -/
def shadowsOn (s : State) (c live : Nat) : List Nat :=
  (s.hlt.tests.filterMap fun t => if t.cls = c ∧ t.inst = live then t.spare else none) ++
    match s.hlt.darn with
    | some (r, sp, _, need, ph) => if r.cls = c ∧ r.worn = live ∧ shadowing need ph = true then [sp] else []
    | none => []

/-- One more unit of a kind, of which at most `cap` count (0 for no limit). -/
def unitMet (kind cap met need : Nat) (prog : Map Nat) : Nat × Map Nat :=
  let n := mgetD prog kind 0
  if cap ≠ 0 ∧ cap ≤ n then (met, prog) else (Nat.min need (met + 1), mput prog kind (n + 1))

/-- One unit of a shadow has been compared (R442): the darn or test of this spare counts it, or notes the difference (R448, R453).
`same` says that the two parts' work as the model computes it agrees; whether the hardware of either strays from it is free
(log 19). The answer says whether the results agreed. -/
def shadowUnitOf (s : State) (c spare kind cap : Nat) (same : Bool) : Bool × State :=
  let (i, s) := draw s
  let ok := same && Config.shadowAgrees i
  let darn := match s.hlt.darn with
    | some (r, sp, met, need, ph) =>
      if r.cls = c ∧ sp = spare ∧ shadowing need ph = true then
        if ok then
          let u := unitMet kind cap met need s.hlt.prog
          (some (r, sp, u.1, need, ph), u.2)
        else (some (r, sp, met, need, 4), s.hlt.prog)
      else (s.hlt.darn, s.hlt.prog)
    | none => (none, s.hlt.prog)
  let tests := s.hlt.tests.map fun (t : TestRun) =>
    if t.cls = c ∧ t.spare = some spare then
      if ok then
        let u := unitMet kind cap t.met t.need t.prog
        { t with met := u.1, prog := u.2 }
      else { t with diff := true }
    else t
  (ok, modHlt s fun h => { h with darn := darn.1, prog := darn.2, tests := tests })

/-- A unit of a class whose units are all of one kind. -/
def shadowUnit (s : State) (c spare : Nat) : Bool × State := shadowUnitOf s c spare 0 0 true
/-- Such a unit, with what the model computes of the two parts' work. -/
def shadowJudged (s : State) (c spare : Nat) (same : Bool) : Bool × State := shadowUnitOf s c spare 0 0 same

/-- Units of a kind that the shadow of a spare has counted. -/
def shadowProg (s : State) (c spare kind : Nat) : Nat :=
  match s.hlt.tests.find? fun t => decide (t.cls = c) && decide (t.spare = some spare) with
  | some t => mgetD t.prog kind 0
  | none => mgetD s.hlt.prog kind 0

/-- Counts a unit of a kind without a comparison: the outputs of a pair before its comparison begins (R442). -/
def shadowCount (s : State) (c spare kind : Nat) : State :=
  let tests := s.hlt.tests.map fun (t : TestRun) =>
    if t.cls = c ∧ t.spare = some spare then { t with prog := mput t.prog kind (mgetD t.prog kind 0 + 1) } else t
  let s := modHlt s fun h => { h with tests := tests }
  match s.hlt.darn with
  | some (r, sp, _) =>
    if r.cls = c ∧ sp = spare then modHlt s fun h => { h with prog := mput h.prog kind (mgetD h.prog kind 0 + 1) } else s
  | none => s

/-- An output of a live pair meets its shadows: 18 precise outputs pass, then 8 precise and 64 fast ones are compared (R442). -/
def pairUnits (s : State) (live : Nat) (precise : Bool) : State :=
  (shadowsOn s 2 live).foldl (fun s sp =>
    if decide (shadowProg s 2 sp 9 < 18) then (if precise then shadowCount s 2 sp 9 else s)
    else if precise then (shadowUnitOf s 2 sp 1 8 true).2
    else (shadowUnitOf s 2 sp 2 64 true).2) s

end Sys2Proof.Machine
end

