-- ==== Sys2Proof/Machine/Views.lean ====
section
/-!
DEFINITION. What one unit shows to another: cores, gangs, lanes and profiles as the scheduler, the press unit and the health
manager see them.
-/
namespace Sys2Proof.Machine

/-- A core's record. -/
def drvAt (s : State) (n : Nat) : DCore := mgetD s.drv n {}
/-- DRV_HOLDOFF_MAX of a core. -/
def holdoffMax (s : State) (n : Nat) : Nat := bits (reg s (0x100004 + 0x4000 * n)) 0 16
/-- The core lists ENTRY in the operation table of its active bank, with a hold-off that DRV_HOLDOFF_MAX allows (R199, R365). -/
def drvHasEntry (s : State) (core entry : Nat) : Bool :=
  let c := drvAt s core
  (if c.active = 0 then c.bankA else c.bankB).ops.any fun o => decide (o.entry = entry) && decide (o.h ≤ holdoffMax s core)
/-- The core takes placements: neither SPARE, SHADOW, RETIRED nor HALTED, stopped by no error, and no FIRST load under way (R202,
R206, R370). -/
def coreServes (s : State) (core : Nat) : Bool :=
  let c := drvAt s core
  serves s 4 core && c.halted.isEmpty && c.shadowOf.isNone && !c.stopped &&
    match c.load with
    | some (_, first) => !first
    | none => true
/-- SOL_LMAP: the physical lane of a logical lane, and LOST (R262). -/
def lmapAt (s : State) (n : Nat) : Nat × Bool := mgetD s.sol.lmap n (n, false)
/-- A physical lane's record. -/
def laneAt (s : State) (p : Nat) : Lane := mgetD s.sol.lanes p {}
/-- A gang's record by its first logical lane. -/
def gangAt (s : State) (l : Nat) : Gang := mgetD s.sol.gangs l {}
/-- The first logical lane of the gang that holds a logical lane: gangs are aligned to their size (R264). -/
def gangOf (s : State) (n : Nat) : Nat :=
  if (gangAt s (n - n % 4)).size = 4 then n - n % 4
  else if (gangAt s (n - n % 2)).size = 2 then n - n % 2
  else n
/-- The logical lanes of a gang. -/
def gangLanes (s : State) (l : Nat) : List Nat := (List.range (gangAt s l).size).map fun i => l + i
/-- The physical lanes of a gang, in logical-lane order. -/
def gangPhys (s : State) (l : Nat) : List Nat := (gangLanes s l).map fun n => (lmapAt s n).1
/-- The HOUSE gang to which a problem is bound: its first logical lane (R276). -/
def houseGang (s : State) (problem : Nat) : Option Nat :=
  ((mget s.problems problem).bind fun p => p.bound).bind fun l => if (gangAt s l).role = 3 then some l else none
/-- Every lane of the gang is there, sound and not halted (R262, R281, R285, R287). -/
def gangServes (s : State) (l : Nat) : Bool :=
  (gangLanes s l).all fun n =>
    let x := laneAt s (lmapAt s n).1
    !(lmapAt s n).2 && !x.faulty && x.halted.isEmpty
/-- Every profile of the region's joints is at rest (R360). -/
def regionAtRest (s : State) (r : Nat) : Bool :=
  s.profiles.all fun e =>
    match e.2.joint.bind (jointRegion s) with
    | some q => decide (q ≠ r) || (decide (e.2.v = 0) && decide (e.2.a = 0))
    | none => true

end Sys2Proof.Machine
end

