-- ==== Sys2Proof/Machine/Graph.lean ====
section
/-!
DEFINITION. The graph scheduler: nodes, tokens, flows, edges (R363 to R374), delay lists (R375 to R377), placement (R370 to R373),
completion and faults (R368, R379, R380), waits (R381), the edits' rules (R382 to R384).
-/
namespace Sys2Proof.Machine

/-- GSC origin (R471). -/
def oGSC : Nat := blockOrigin 0x16

def nodeAt (s : State) (n : Nat) : Node := mgetD s.gsc.nodes n {}
def modNode (s : State) (n : Nat) (f : Node → Node) : State :=
  modGsc s fun g => { g with nodes := mmod g.nodes n f }
def workerAt (s : State) (w : Nat) : Worker := mgetD s.gsc.workers w {}
def modWorker (s : State) (w : Nat) (f : Worker → Worker) : State :=
  modGsc s fun g => { g with workers := mput g.workers w (f (workerAt s w)) }
def listAt (s : State) (l : Nat) : List Nat := mgetD s.gsc.lists l []
def setList (s : State) (l : Nat) (x : List Nat) : State := modGsc s fun g => { g with lists := mput g.lists l x }

/-- The tokens in an input port. -/
def tokensAt (n : Node) (p : Nat) : Nat := mgetD n.tokens p 0
/-- The places reserved in an input port. -/
def reservedAt (n : Node) (p : Nat) : Nat := mgetD n.reserved p 0
/-- The input port has room for one more token, counting the places reserved (R368). -/
def portRoom (n : Node) (p : Nat) : Bool := decide (tokensAt n p + reservedAt n p < n.cap)
/-- The ports in IN_MASK. -/
def inPorts (n : Node) : List Nat := maskList n.inMask 4
/-- Every port in IN_MASK holds a token (R368). -/
def hasTokens (n : Node) : Bool := (inPorts n).all fun p => decide (0 < tokensAt n p)

/-- Every destination port of every connected output has room for one token per edge that feeds it (R368). -/
def outRoom (s : State) (n : Node) : Bool :=
  n.edges.all fun e =>
    let d := nodeAt s e.dst
    let need := (n.edges.filter fun x => decide (x.dst = e.dst ∧ x.port = e.port)).length
    decide (tokensAt d e.port + reservedAt d e.port + need ≤ d.cap)

/-- The bit of STATES that a region state selects (R364). -/
def statesBit (r : RegionState) : Nat :=
  match r with
  | .active => 0
  | .hold => 1
  | .service => 2
  | .safeOff => 3
  | .mending => 4
  | .empty => 5

/-- The node's region is in a state of STATES (R372). -/
def regionAllows (s : State) (n : Node) : Bool :=
  if n.region = 0xFF then true else decide (n.states = 0) || bit n.states (statesBit (regionSt s n.region))

/-- The workers that can ever take a node: those of R370 that serve (R371, R372). -/
def eligible (s : State) (n : Node) : List Nat :=
  match n.op with
  | 1 => (maskList (bits n.args 0 18) 18).filter fun c => coreServes s c && drvHasEntry s c (bits n.args 32 16)
  | 2 => match houseGang s (hIdx (bits n.args 0 32)) with
         | some l => if gangServes s l then [64 + l] else []
         | none => []
  | 3 => (List.range 8).filterMap fun e => if (workerAt s (18 + e)).quarantined then none else some (18 + e)
  | 4 => [26]
  | 5 => [27]
  | _ => [28]

/-- Prefetch slots of a worker (R370). -/
def slotsOf (w : Nat) : Nat := if w < 26 then 2 else if w = 26 then 1 else if w = 27 then 4 else if w = 28 then 1 else 1

/-- Free prefetch slots of a worker. The submitter's slots also hold the nodes in flight (R378). -/
def freeSlots (s : State) (w : Nat) : Nat :=
  let x := workerAt s w
  slotsOf w - x.prefetch.length - (if w = 27 then (s.gsc.nodes.filter fun e => decide (e.2.st = .inFlight ∧ e.2.op = 5)).length else 0)

/-- The node is out of every ready list. -/
def unlist (s : State) (n : Nat) : State :=
  let l := (nodeAt s n).prio
  setList s l ((listAt s l).filter (· ≠ n))

/-- The flow's record. -/
def flowAt (s : State) (f : Nat) : Flow := mgetD s.gsc.flows f {}
def modFlow (s : State) (f : Nat) (g : Flow → Flow) : State := modGsc s fun x => { x with flows := mmod x.flows f g }

/-- The node's place in its flow's queue: it joins with its tokens, and leaves without them (R374). -/
def flowJoin (s : State) (i : Nat) (n : Node) : State :=
  match n.flow with
  | some f => if (flowAt s f).queue.contains i then s else modFlow s f fun q => { q with queue := q.queue ++ [i] }
  | none => s
def flowLeave (s : State) (i : Nat) (n : Node) : State :=
  match n.flow with
  | some f => modFlow s f fun q => { q with queue := q.queue.filter (· ≠ i) }
  | none => s

/-- The node is the head of its flow's queue, which is not quarantined. -/
def flowHead (s : State) (i : Nat) (n : Node) : Bool :=
  match n.flow with
  | some f => decide ((flowAt s f).queue.head? = some i) && !(flowAt s f).quarantined
  | none => true

/-- A node that could run becomes READY, or PARKED where its region's state or the want of a worker keeps it (R372, R373). -/
def judgeReady (s : State) (i : Nat) (n : Node) : State :=
  if !(flowHead s i n) then modNode (unlist s i) i fun n => { n with st := .idle, met := false }
  else
    -- from when it meets the conditions of R368, parked or not (R380)
    let at_ := if n.met then n.readyAt else s.time.elapsed
    if !(regionAllows s n) then modNode (unlist s i) i fun n => { n with st := .parked, readyAt := at_, met := true }
    else if n.noWorker && (eligible s n).isEmpty then modNode (unlist s i) i fun n => { n with st := .parked, readyAt := at_, met := true }
    else
      let s := if (listAt s n.prio).contains i then s else setList s n.prio (listAt s n.prio ++ [i])
      modNode s i fun x => { x with st := .ready, noWorker := false, readyAt := at_, met := true }

/-- One node's standing is judged anew: it joins its flow's queue and its ready list when its conditions are met, and leaves them
when they are not (R368, R372 to R374, R378). -/
def judgeNode (s : State) (i : Nat) : State :=
  match mget s.gsc.nodes i with
  | none => s
  | some n =>
    if n.st = .prefetched ∨ n.st = .inFlight then s
    else if n.st = .error then unlist s i
    else
      let held := !n.holders.isEmpty
      let room := outRoom s n
      if hasTokens n && room && !held then judgeReady (flowJoin s i n) i n
      else
        modNode (unlist (flowLeave s i n) i) i fun n =>
          { n with st := if held then .held else if hasTokens n && !room then .blocked else .idle, met := false }

/-- A prefetched node is withdrawn: its tokens return to the ports that gave them, and its places (R371, R372, R382). -/
def withdraw (s : State) (i : Nat) : State :=
  match mget s.gsc.nodes i with
  | none => s
  | some n =>
    if n.st ≠ .prefetched then s
    else
      let s := n.held.foldl (fun s e => modNode s e.dst fun d =>
        { d with reserved := mput d.reserved e.port (reservedAt d e.port - 1) }) s
      let s := modWorker s n.worker fun w => { w with prefetch := w.prefetch.filter (· ≠ i) }
      modNode s i fun n =>
        { n with st := .idle, held := [], taken := [],
                 tokens := n.taken.foldl (fun t p => mput t p (mgetD t p 0 + 1)) n.tokens }

/-- All nodes are judged anew in ascending index, after prefetched nodes whose region has left STATES, or that an edit holds, are
withdrawn (R372, R373, R382). -/
def judgeNodes (s : State) : State :=
  let ids := s.gsc.nodes.map Prod.fst
  let s := ids.foldl (fun s i =>
    let n := nodeAt s i
    if n.st = .prefetched ∧ (regionAllows s n = false ∨ n.holders ≠ []) then withdraw s i else s) s
  -- a second pass lets a flow's new head join its list in the same cycle
  ids.foldl judgeNode (ids.foldl judgeNode s)

/-- Adds a token to an input port; false when it has no room. -/
def addToken (s : State) (i p : Nat) : Option State :=
  match mget s.gsc.nodes i with
  | none => none
  | some n =>
    if portRoom n p && bit n.inMask p then
      some (modNode s i fun n => { n with tokens := mput n.tokens p (tokensAt n p + 1) })
    else none

/-- The ready-to-start time of a priority-0 node that starts (R386). -/
def noteStart (s : State) (i : Nat) : State :=
  let n := nodeAt s i
  if n.prio = 0 then
    modGsc s fun g => { g with latMax := Nat.max g.latMax (Nat.min 65535 ((s.time.elapsed - n.readyAt) / nsU)) }
  else s

/-- A worker with no node running starts its next prefetched node (R370). A Draver core starts it outside its loops. -/
def startNext (s : State) (w : Nat) (coreBusy : Bool) : State :=
  let x := workerAt s w
  if coreBusy then s
  else
    match x.running, x.prefetch with
    | none, i :: t =>
      let s := modWorker s w fun x => { x with prefetch := t, running := some i }
      noteStart (modNode s i fun n => { n with st := .inFlight, ended := false, sent := false }) i
    | _, _ => s

/-- The node's outputs that fire deliver their tokens into the places reserved, the rest are released (R368). -/
def deliver (s : State) (i : Nat) (fires : Nat → Bool) : State :=
  let n := nodeAt s i
  let s := n.held.foldl (fun s e => modNode s e.dst fun d =>
    { d with reserved := mput d.reserved e.port (reservedAt d e.port - 1),
             tokens := if fires e.out then mput d.tokens e.port (tokensAt d e.port + 1) else d.tokens }) s
  -- a port that an edit has removed from IN_MASK discards its tokens (R384)
  let s := n.held.foldl (fun s e =>
    let d := nodeAt s e.dst
    if fires e.out && !(bit d.inMask e.port) && decide (0 < tokensAt d e.port) then
      let k := tokensAt d e.port
      raise (bumpBy (modNode s e.dst fun d => { d with tokens := mdel d.tokens e.port }) 0x230020 k) .gscDropped
        (handleOf s cNODE e.dst) k oGSC
    else s) s
  modNode s i fun n => { n with held := [] }

/-- The node leaves its worker and the queue of its flow, or of the flow that it was placed in (R374). -/
def releaseWorker (s : State) (i : Nat) : State :=
  let n := nodeAt s i
  let s := modWorker s n.worker fun w => { w with running := if w.running = some i then none else w.running }
  modGsc s fun g => { g with flows := g.flows.map fun e => (e.1, { e.2 with queue := e.2.queue.filter (· ≠ i) }) }

/-- The waits on a node that completes, enters ERROR or is destroyed (R381). -/
def endWaits (s : State) (i : Nat) (ends : Wait → Option (Nat × Nat)) (step : Wait → Wait) : State :=
  let ws := s.gsc.waits
  let s := modGsc s fun g => { g with waits := (ws.filterMap fun w =>
    if w.node = i then (if (ends w).isSome then none else some (step w)) else some w) }
  ws.foldl (fun s w =>
    if w.node = i then
      match ends w with
      | some (st, det) => complete s w.acc st 0 det
      | none => s
    else s) s

/-- A node completes (R368, R380, R381). -/
def nodeDone (s : State) (i : Nat) (fires : Nat → Bool) : State :=
  let n := nodeAt s i
  let s := releaseWorker (deliver s i fires) i
  let s := bump s (0x231008 + 0x10 * n.worker)
  let late := decide (n.deadlineUs ≠ 0) && decide (n.deadlineUs * usU < s.time.elapsed - n.readyAt)
  let s := modNode s i fun n => { n with st := .idle, met := false, taken := [], runs := (n.runs + 1) % 4294967296, last := wall32 s }
  let s := if late then
      report s { ev := .gscLate, cls := n.dlClass, handle := handleOf s cNODE i,
                 detail := satU 32 ((s.time.elapsed - n.readyAt) / usU), org := oGSC,
                 scope := some (if n.region = 0xFF then [] else [n.region]) }
    else s
  let w := wall32 s
  endWaits s i (fun x => if x.left ≤ 1 then some (stOK, w) else none) fun x => { x with left := x.left - 1 }

/-- A flow whose node faults warm-starts when it holds nodes of two or more regions, or a cell-wide node (R473). -/
def flowRegions (s : State) (f : Nat) : List Nat :=
  dedup ((s.gsc.nodes.filter fun e => decide (e.2.flow = some f)).map fun e => e.2.region)

/-- A node faults (R379): it consumes its inputs, fires nothing, releases its reservations and enters ERROR. -/
def nodeFault (s : State) (i cause : Nat) : State :=
  let n := nodeAt s i
  let s := releaseWorker (deliver s i fun _ => false) i
  let s := modNode s i fun n => { n with st := .error, met := false, taken := [] }
  let s := bump s 0x23002C
  let h := handleOf s cNODE i
  let s := raise s .gscNodeFault h (cause + n.worker * 4294967296) oGSC
  let s := endWaits s i (fun _ => some (stBUSY, det12 0 1)) id
  match n.flow with
  | none => s
  | some f =>
    let rs := flowRegions s f
    if bit (reg s 0x260000) 0 ∧ (1 < rs.length ∨ rs.contains 0xFF) then
      let s := modFlow s f fun q => { q with quarantined := true }
      let fh := handleOf s cFLOW f
      modFlt s fun x => { x with
        quarantines := x.quarantines ++ [{ origin := oGSC, handle := fh, kind := 3 }],
        warmReqs := x.warmReqs ++ [{ handle := fh, origin := oGSC, regions := rs.filter (· ≠ 0xFF),
                                     code := eventCode .gscNodeFault, src := h, detail := cause }] }
    else s

/-! ### Placement -/

/-- The worker with a free prefetch slot that R371 names: most free slots, ties to the lowest index. -/
def bestWorker (s : State) (ws : List Nat) : Option Nat :=
  (ws.filter fun w => decide (0 < freeSlots s w)).foldl (fun b w =>
    match b with
    | none => some w
    | some x => if freeSlots s x < freeSlots s w then some w else some x) none

/-- The first node of the lists, highest priority first, that has an eligible worker with a free slot (R371). -/
def placeable (s : State) : Option (Nat × Nat) :=
  ((List.range 32).flatMap (listAt s)).findSome? fun i => (bestWorker s (eligible s (nodeAt s i))).map fun w => (i, w)

/-- GSC_NO_WORKER for each ready node that finds no eligible worker; it leaves its list until one returns (R372). -/
def reportNoWorker (s : State) : State :=
  ((List.range 32).flatMap (listAt s)).foldl (fun s i =>
    let n := nodeAt s i
    if (eligible s n).isEmpty && !n.noWorker then
      let s := modNode (unlist s i) i fun n => { n with noWorker := true, st := .parked }
      raise s .gscNoWorker (handleOf s cNODE i) n.op oGSC
    else s) s

/-- The node takes its tokens and reserves a place for each edge (R368). -/
def takeInputs (s : State) (i w : Nat) : State :=
  let n := nodeAt s i
  let s := n.edges.foldl (fun s e => modNode s e.dst fun d =>
    { d with reserved := mput d.reserved e.port (reservedAt d e.port + 1) }) s
  modNode (unlist s i) i fun n =>
    { n with st := .prefetched, worker := w, held := n.edges, taken := inPorts n,
             tokens := (inPorts n).foldl (fun t p => mput t p (mgetD t p 0 - 1)) n.tokens }

/-- Placements run: GSC_CTRL.EN is 1 and the device is not in DORMANT (R372). -/
def placing (s : State) : Bool := bit (reg s 0x230000) 0 && decide (s.md.mode ≠ .dormant) && decide (s.md.mode ≠ .boot)

/-! ### The graph edits -/

/-- Bytes of a node configuration's arguments that its operation names (R365). -/
def argBytes (op : Nat) : List (Nat × Nat) :=
  match op with
  | 1 => [(32, 6), (40, 4)]
  | 2 => [(32, 4)]
  | 3 => [(32, 2), (36, 4), (40, 16)]
  | 4 => [(32, 1), (40, 8)]
  | 5 => [(40, 16)]
  | _ => []

/-- A DMA source or destination obeys R366 and R482: a section of a problem holds all of the copy, and a write leaves its capture
section alone (R277). -/
def dmaSideOk (s : State) (kind addr len : Nat) (src : Bool) : Bool :=
  let p := mgetD s.problems (hIdx (bits addr 0 32)) {}
  let off := bits addr 32 16
  let n := len / 4
  match kind with
  | 1 => decide (addr % 4 = 0) && dramGeneral addr len
  | 2 => decide (addr < 16777216) && decide (bits addr 16 8 < 18) && decide (0x800 ≤ bits addr 0 16) &&
         decide (bits addr 0 16 + len / 4 ≤ 0x4000)
  | 3 => src && decide (addr = 0)
  | 4 => src && decide (addr / 281474976710656 = 0) && decide (off + n ≤ p.resWords)
  | 5 => !src && decide (addr / 281474976710656 = 0) && decide (off + n ≤ p.words) &&
         (decide (p.capWords = 0) || decide (p.capOff + p.capWords ≤ off) || decide (off + n ≤ p.capOff))
  | _ => false

/-- NODE_CREATE's and NODE_SET's own rules (R364 to R366). -/
def nodeCheck (s : State) (a : Acc) (create : Bool) : Option Refuse :=
  let d := a.d
  let op := pf d 16 1
  let dl := pf d 24 4
  let ring := hIdx (pf d 52 4)
  -- NODE_SET keeps the owner (R364)
  let owner := if create then a.req else (nodeAt s (tIdx d)).owner
  firstRefuse [
    (decide (op = 0 ∨ 6 < op) || decide (31 < pf d 17 1) || decide (15 < pf d 18 1 ∧ pf d 18 1 ≠ 0xFF), rRANGE),
    (decide (31 < pf d 19 1) || (decide (pf d 18 1 = 0xFF) && decide (pf d 19 1 ≠ 0)), rRANGE),
    (decide (1000000 < dl) || !([0, 2, 3].contains (pf d 28 1)) || (decide (pf d 28 1 = 3) && decide (pf d 18 1 = 0xFF)), rRANGE),
    (decide (pf d 29 1 = 0 ∨ 15 < pf d 29 1), rRANGE),
    (!(onlyBytes d ((16, 15) :: argBytes op)), rRANGE),
    (decide (op = 1) && (decide (262143 < pf d 32 4) ||
      !((maskList (pf d 32 4) 18).any fun c => drvHasEntry s c (pf d 36 2))), rRANGE),
    (decide (op = 2) && (houseGang s (hIdx (pf d 32 4))).isNone, rRANGE),
    (decide (op = 3) && (decide (pf d 36 4 < 4) || decide (65536 < pf d 36 4) || decide (pf d 36 4 % 4 ≠ 0) ||
      !(dmaSideOk s (pf d 32 1) (pf d 40 8) (pf d 36 4) true) || !(dmaSideOk s (pf d 33 1) (pf d 48 8) (pf d 36 4) false)), rRANGE),
    (decide (op = 4) && (decide (pf d 32 1 = 0) || decide (3 < pf d 32 1) || decide (pf d 40 8 % 64 ≠ 0) ||
      !(dramGeneral (pf d 40 8) (if pf d 32 1 = 2 then 1024 else 64))), rRANGE),
    (decide (op = 5) && (!(dramGeneral (pf d 40 8) 64) || decide (255 < ring) || decide ((ringAt s ring).owner ≠ fnOf owner)), rRANGE),
    (create && !(hasFree s cNODE), rNORES)]

/-- The configuration of a node (R364). -/
def nodeOf (d : Desc) (owner : Nat) : Node :=
  { op := pf d 16 1, prio := pf d 17 1, region := pf d 18 1, states := pf d 19 1,
    flow := if pf d 20 4 = 0 then none else some (hIdx (pf d 20 4)), deadlineUs := pf d 24 4, dlClass := pf d 28 1,
    inMask := pf d 29 1, cap := if pf d 30 1 = 0 then 1 else pf d 30 1, args := pf d 32 32, owner := owner }

/-- NODE_SET replaces the configuration, keeps the tokens of the ports that stay, and clears ERROR (R364, R379). A node that is placed
keeps what belongs to its placement, and its place in its flow, until it ends (R374; DEDUCED, log 61). -/
def nodeSet (s : State) (i : Nat) (d : Desc) : State :=
  let old := nodeAt s i
  let new := nodeOf d old.owner
  let gone := (List.range 4).foldl (fun a p => if bit new.inMask p then a else a + tokensAt old p) 0
  let placed := decide (old.st = .prefetched) || decide (old.st = .inFlight)
  let s := unlist s i
  let s := match old.flow with
    | some f => if placed then s else modFlow s f fun q => { q with queue := q.queue.filter (· ≠ i) }
    | none => s
  let s := modNode s i fun n =>
    { new with tokens := n.tokens.filter (fun e => bit new.inMask e.1), reserved := n.reserved, edges := n.edges,
               holders := n.holders, runs := n.runs, last := n.last, worker := n.worker, st := if placed then n.st else .idle,
               held := n.held, taken := n.taken, readyAt := n.readyAt, met := placed && n.met, ended := n.ended, sent := n.sent }
  if gone = 0 then s
  else raise (bumpBy s 0x230020 gone) .gscDropped (handleOf s cNODE i) gone oGSC

/-- The edge of a payload. -/
def edgeOf (d : Desc) : Edge := { out := pf d 16 1, dst := hIdx (pf d 20 4), port := pf d 17 1 }

/-- EDGE_SET's own rules (R367). -/
def edgeCheck (s : State) (a : Acc) : Option Refuse :=
  let d := a.d
  let n := nodeAt s (tIdx d)
  let dst := nodeAt s (hIdx (pf d 20 4))
  let null := decide (pf d 20 4 = 0)
  firstRefuse [
    (decide (3 < pf d 16 1) || decide (3 < pf d 17 1) || !(onlyBytes d [(16, 2), (20, 4)]), rRANGE),
    (!null && !(bit dst.inMask (pf d 17 1)), rRANGE),
    (!null && !(n.edges.contains (edgeOf d)) && decide (4 ≤ (n.edges.filter fun e => decide (e.out = pf d 16 1)).length), rNORES)]

/-- EDGE_SET takes effect (R367). -/
def edgeSet (s : State) (d : Desc) : State :=
  modNode s (tIdx d) fun n =>
    if pf d 20 4 = 0 then { n with edges := n.edges.filter fun e => decide (e.out ≠ pf d 16 1) }
    else if n.edges.contains (edgeOf d) then n else { n with edges := n.edges ++ [edgeOf d] }

/-- How many DELAY objects exist on an axis. -/
def delaysOn (s : State) (wall : Bool) : Nat := (s.gsc.delays.filter fun e => decide (e.2.wall = wall)).length

/-- DELAY_CREATE's own rules (R375). -/
def delayCheck (s : State) (a : Acc) : Option Refuse :=
  let d := a.d
  let ax := pf d 16 1
  let per := pf d 24 8
  let n := nodeAt s (hIdx (pf d 20 4))
  firstRefuse [
    (decide (ax ≠ 1 ∧ ax ≠ 2) || decide (1 < pf d 17 1) || decide (3 < pf d 18 1) || !(onlyBytes d [(16, 3), (20, 12)]), rRANGE),
    (!(bit n.inMask (pf d 18 1)), rRANGE),
    (decide (pf d 17 1 = 0) && decide (per ≠ 0), rRANGE),
    (decide (pf d 17 1 = 1) && decide (ax = 1) && (decide (per = 0) || decide (9223372036854775808 < per)), rRANGE),
    (decide (pf d 17 1 = 1) && decide (ax = 2) && (decide (per < 1000) || decide (2000000000 < per)), rRANGE),
    (decide (4096 ≤ delaysOn s (decide (ax = 2))) || !(hasFree s cDELAY), rNORES)]

/-- The record of a new DELAY. -/
def delayOf (d : Desc) : Delay :=
  { wall := decide (pf d 16 1 = 2), periodic := decide (pf d 17 1 = 1), port := pf d 18 1, node := hIdx (pf d 20 4),
    period := pf d 24 8 }

/-- DELAY_ARM's own rules (R376). -/
def delayArmCheck (s : State) (a : Acc) : Option Refuse :=
  let d := a.d
  let x := mget s.gsc.delays (tIdx d)
  let wall := (x.map fun y => y.wall).getD false
  firstRefuse [
    (decide (1 < pf d 16 1) || !(onlyBytes d [(16, 1), (24, 8)]), rRANGE),
    (wall && decide (pf d 28 4 ≠ 0), rRANGE)]

/-- Inserts an entry at the present frame (R43, R53, R376). -/
def delayInsert (s : State) (i key : Nat) : State :=
  match mget s.gsc.delays i with
  | none => s
  | some x =>
    let behind := if x.wall then wallReached s key else lineBehind s key
    modGsc s fun g =>
      { g with order := g.order + 1,
               delays := mmod g.delays i fun y =>
                 { y with entry := some { key := key, full := keyTime s key, order := g.order, frame := s.time.frame, behind := behind } } }

/-- DELAY_ARM takes effect (R376). -/
def delayArm (s : State) (d : Desc) : State :=
  if pf d 16 1 = 1 then modGsc s fun g => { g with delays := mmod g.delays (tIdx d) fun y => { y with entry := none } }
  else delayInsert s (tIdx d) (pf d 24 8)

/-- The next key of a PERIODIC entry ahead of the axis, and the periods skipped (R376). -/
def nextKey (s : State) (x : Delay) (key : Nat) (full : Int) : Nat × Nat :=
  if x.wall then
    let behind := wallNow s - full
    let n := if behind < 0 then 1 else (behind.toNat / x.period) + 1
    ((key + n * x.period) % 4294967296, n - 1)
  else
    let behind := lineDiff s.line.line key
    let n := if behind < 0 then 1 else (behind.toNat / x.period) + 1
    ((key + n * x.period) % 18446744073709551616, n - 1)

/-- An entry fires: one token, and a PERIODIC entry is inserted again (R369, R376). -/
def fireDelay (s : State) (i : Nat) : State :=
  match mget s.gsc.delays i with
  | none => s
  | some x =>
    let key := (x.entry.map fun e => e.key).getD 0
    let s := modGsc s fun g => { g with delays := mmod g.delays i fun y => { y with entry := none } }
    let s := match addToken s x.node x.port with
      | some s' => s'
      | none => raise (bump s 0x230024) .gscTokenLost (handleOf s cDELAY i)
                  (handleOf s cNODE x.node + x.port * 4294967296) oGSC
    if x.periodic then
      let (k, skip) := nextKey s x key ((x.entry.map fun e => e.full).getD 0)
      delayInsert (bumpBy s 0x230028 skip) i k
    else s

/-- The entries due in this frame, in the order of R377. -/
def dueDelays (s : State) : List Nat :=
  let due (wall : Bool) : List (Nat × DelayEntry) := s.gsc.delays.filterMap fun e =>
    match e.2.entry with
    | some x => if e.2.wall = wall ∧ (if wall then wallFires s x.full x.frame x.behind else lineFires s x.key x.frame x.behind) then
        some (e.1, x) else none
    | none => none
  let before (wall : Bool) (a b : Nat × DelayEntry) : Bool :=
    let df := if wall then a.2.full - b.2.full else lineDiff a.2.key b.2.key
    decide (df < 0) || (decide (df = 0) && decide (a.2.order < b.2.order))
  ((sortBy (before false) (due false)) ++ (sortBy (before true) (due true))).map Prod.fst

/-- DELAY_RELEASE at a frame boundary: the nodes that a delay's token makes ready join their lists first, in ascending index (R373,
R377). -/
def releaseDelays (s : State) : State :=
  let ds := dueDelays s
  let dsts := ds.filterMap fun i => (mget s.gsc.delays i).map fun x => x.node
  let s := ds.foldl fireDelay s
  judgeNodes (((List.range 8192).filter dsts.contains).foldl judgeNode s)

/-- GSC_TOKEN's own rules (R369). -/
def tokenCheck (s : State) (a : Acc) : Option Refuse :=
  let n := nodeAt s (tIdx a.d)
  let p := pf a.d 16 1
  firstRefuse [
    (!(onlyBytes a.d [(16, 1)]) || decide (3 < p) || !(bit n.inMask p), rRANGE),
    (!(portRoom n p), (stBUSY, 0))]

/-- A GSC_WAIT's TIMEOUT is allowed (R381). -/
def waitTimeoutOk (s : State) : Bool :=
  decide (s.md.mode = .prepare) || decide (s.md.mode = .service) || decide ((pressAt s 2).phase ≠ .free)

/-- GSC_WAIT at acceptance (R381). -/
def waitAccept (s : State) (a : Acc) : State :=
  let d := a.d
  let i := tIdx d
  if decide (pf d 16 2 = 0) || !(onlyBytes d [(16, 2), (20, 4)]) then complete s a stRANGE 0 0
  else if pf d 20 4 ≠ 0 ∧ waitTimeoutOk s = false then complete s a stMODE 0 0
  else if 64 ≤ s.gsc.waits.length then complete s a stNORES 0 0
  else if (nodeAt s i).st = .error then complete s a stBUSY 0 (det12 0 1)
  else modGsc s fun g =>
    { g with waits := g.waits ++ [{ acc := a, node := i, left := pf d 16 2,
                                    until_ := if pf d 20 4 = 0 then none else some (s.time.elapsed + pf d 20 4 * usU) }] }

/-- When the condition of R381 ends, the timeouts are cancelled and the waits go on. -/
def cancelTimeouts (s : State) : State :=
  if waitTimeoutOk s then s
  else modGsc s fun g => { g with waits := g.waits.map fun w => { w with until_ := none } }

/-- GSC_WAIT_TIMEOUT of the k-th pending wait (R381). -/
def waitTimeout (s : State) (k : Nat) : State :=
  let s := cancelTimeouts s
  match s.gsc.waits[k]? with
  | some w =>
    match w.until_ with
    | some t =>
      if t ≤ s.time.elapsed then
        complete (modGsc s fun g => { g with waits := g.waits.eraseIdx k }) w.acc stTIMEOUT 0 0
      else s
    | none => s
  | none => s

/-- A node is destroyed: its waits end with STALE_HANDLE, and the places that it has reserved are released (R29, R381). -/
def nodeGone (s : State) (i : Nat) : State :=
  let s := deliver (withdraw s i) i fun _ => false
  let s := releaseWorker (unlist s i) i
  let h := handleOf s cNODE i
  let s := endWaits s i (fun _ => some (stSTALE, h)) id
  modGsc s fun g =>
    { g with nodes := mdel g.nodes i,
             workers := g.workers.map fun w =>
               (w.1, { w.2 with running := if w.2.running = some i then none else w.2.running }) }

end Sys2Proof.Machine
end

