-- ==== Sys2Proof/Machine/Trace.lean ====
section
/-!
DEFINITION. Hamper trace (R487 to R494), device memory: ECC outcomes, patrol scrub and page retirement (R483 to R486).
-/
namespace Sys2Proof.Machine

/-- TRC and MEM origin (R497). -/
def oTRC : Nat := blockOrigin 0x1A

/-! ### Memory -/

/-- The spare pages used up: they are taken in order, and a page whose spare is retired in its turn takes another (R486). -/
def sparesUsed (s : State) : Nat := s.mem.remap.foldl (fun n e => Nat.max n (e.2 + 1)) 0

/-- A page starts its retirement: a spare is free and its copy is not under way (R486). -/
def retirePage (s : State) (page : Nat) : State :=
  if s.mem.retiring.contains page then s
  else if 4096 ≤ sparesUsed s + s.mem.retiring.length then s
  else modMem s fun m => { m with retiring := m.retiring ++ [page] }

/-- PAGE_RETIRE_DONE: the copy ends, the address is remapped; uncorrectable lines are zeros and stay poisoned; the last spare page's
use is reported (R486). -/
def pageRetired (s : State) (page : Nat) : State :=
  if s.mem.retiring.contains page then
    let bad := s.mem.poisoned.filter fun l => decide (l / 64 = page)
    let s := bad.foldl (fun s l => modMem s fun m => { m with dram := memSets m.dram (l * 64) (List.replicate 64 0) }) s
    let s := modMem s fun m =>
      { m with retiring := m.retiring.filter (· ≠ page), remap := mput m.remap page (sparesUsed s), corr := mdel m.corr page }
    -- the writes that have waited take effect
    let s := modMem s fun m =>
      { memCells m (m.waitW.filter fun c => decide (c.1 / 4096 = page)) with waitW := m.waitW.filter fun c => decide (c.1 / 4096 ≠ page) }
    let s := raise s .memPageRetired 0 (page * 4294967296 + oTRC) oTRC
    if sparesUsed s = 4096 then raise s .memRetireExhausted 0 oTRC oTRC else s
  else s

/-- An uncorrectable error in a line (R484, R486). -/
def uncorrectable (s : State) (line : Nat) : State :=
  let s := bump (modMem s fun m =>
    { m with poisoned := if m.poisoned.contains line then m.poisoned else m.poisoned ++ [line],
             weak := m.weak.filter (· ≠ line), last := line * 64 }) 0x27801C
  let s := raise s .memUncorr 0 ((line / 64) * 4294967296 + oTRC) oTRC
  retirePage s (line / 64)

/-- A correctable error in a line: the line is rewritten and counted against its page (R483, R486). -/
def correctable (s : State) (line : Nat) : State :=
  let page := line / 64
  let n := mgetD s.mem.corr page 0 + 1
  let s := bump (modMem s fun m => { m with corr := mput m.corr page n, weak := m.weak.filter (· ≠ line) }) 0x278018
  let s := raise s .memCorr 0 (page * 4294967296 + oTRC) oTRC
  if bits (reg s 0x278010) 0 8 ≤ n then retirePage s page else s

/-- The lines that a byte range meets. -/
def linesOf (a n : Nat) : List Nat := (List.range ((a + n + 63) / 64 - a / 64)).map fun i => a / 64 + i

/-- The ECC meets a read of some lines: correctable errors are corrected and counted, uncorrectable ones reported (R483, R484). -/
def eccRead (s : State) (ls : List Nat) : State :=
  ls.foldl (fun s l => if s.mem.poisoned.contains l then uncorrectable s l else if s.mem.weak.contains l then correctable s l else s) s

/-- A reader's read of device DRAM: the bytes, none where a line is poisoned (R483, R484). -/
def memFetch (s : State) (a n : Nat) : Option (List Byte) × State :=
  (if memPoisoned s a n then none else some (memRead s a n), eccRead s (linesOf a n))

/-- A write of device DRAM: lines written in part are read, merged and rewritten (R483). -/
def memStore (s : State) (a : Nat) (bs : List Byte) : State :=
  let part (l : Nat) : Bool := decide (l * 64 < a) || decide (a + bs.length < l * 64 + 64)
  memWrite (eccRead s ((linesOf a bs.length).filter part)) a bs

/-- The errors that DRAM lines pick up (R483, R484): a read will meet them. -/
def dramErrors (s : State) (l : List (BitVec 28 × Bool)) : State :=
  l.foldl (fun s e =>
    let line := e.1.toNat
    if 0xF800000 ≤ line then s
    else if e.2 then modMem s fun m => { m with poisoned := if m.poisoned.contains line then m.poisoned else m.poisoned ++ [line] }
    else modMem s fun m => { m with weak := if m.weak.contains line then m.weak else m.weak ++ [line] }) s

/-! ### Trace channels -/

/-- The first device DRAM address of the Hamper (R481). -/
def hamperBase : Nat := 0x3A0000000

def traceAt (s : State) (t : Nat) : Trace :=
  mgetD s.mem.traces t { source := 0, sel := 0, decim := 0, log2 := 12, object := 0, cont := false, pre := 0, trig := 0,
                         group := 0, thresh := 0, key := 0, base := 0 }
def modTrace (s : State) (t : Nat) (f : Trace → Trace) : State :=
  modMem s fun m => { m with traces := mmod m.traces t f }

/-- Records in a buffer: N = 2^LOG2_SIZE / 16 (R489). -/
def traceN (t : Trace) : Nat := 2 ^ t.log2 / 16
/-- ⌊N × PRE / 256⌋ (R490). -/
def tracePre (t : Trace) : Nat := traceN t * t.pre / 256

/-- All channels of a source whose OBJECT is the handle take a sample (R488). -/
def traceFrom (s : State) (source handle : Nat) (wall flags : Nat) (sel : Nat → Bool) (ab : Nat → Nat × Nat) : State :=
  s.mem.traces.foldl (fun s e =>
    if e.2.source = source ∧ e.2.object = handle ∧ sel e.2.sel = true then
      let t := traceAt s e.1
      traceSample s e.1 t wall flags (ab e.2.sel).1 (ab e.2.sel).2
    else s) s

/-- The state after a record has been counted, and whether the channel is DONE (R490). -/
def traceAdvance (t : Trace) (trigRec : Bool) : Trace :=
  let w := (t.wptr + 1) % traceN t
  let t := { t with wptr := w, seq := (t.seq + 1) % 256 }
  if trigRec then { t with st := if traceN t - tracePre t ≤ 1 then 4 else 3, count := 1, trigNext := false }
  else if t.st = 1 then { t with count := t.count + 1, st := if tracePre t ≤ t.count + 1 then 2 else 1 }
  else if t.st = 3 then { t with count := t.count + 1, st := if traceN t - tracePre t ≤ t.count + 1 then 4 else 3 }
  else t

/-- The trace writer writes one queued record to its channel's buffer (R489, R491). It reads and merges the line; a poisoned one is
rewritten whole with the record and zeros elsewhere, and DROP marks the channel's next record (R484). -/
def writeTrace (s : State) (r : TraceRec) : State :=
  match mget s.mem.traces r.ch with
  | none => s
  | some t =>
    if t.st = 0 ∨ t.st = 4 then s
    else
      let trigRec := t.trigNext && decide (t.st = 3)
      let fl := r.flags % 8 + 8 * b2n (bit r.flags 3 || t.mergeFlag) + 16 * b2n trigRec
      let bs := leBytes 4 r.wall ++ leBytes 2 t.source ++ leBytes 1 fl ++ leBytes 1 t.seq ++ leBytes 4 r.a ++ leBytes 4 r.b
      let a := hamperBase + t.base + t.wptr * 16
      let bad := memPoisoned s a 16
      let o := a % 64
      let line := List.replicate o 0 ++ bs ++ List.replicate (48 - o) 0
      let s := if bad then memWrite (eccRead s [a / 64]) (a - o) line else memStore s a bs
      let t' := traceAdvance { t with mergeFlag := bad,
                                      trigIdx := if trigRec then t.wptr else t.trigIdx,
                                      trigWall := if trigRec then r.wall else t.trigWall } trigRec
      -- TRIG 2 and 3 look at value A of the records (R491)
      let v := sx 32 r.a
      let hit := (decide (t.trig = 2) && decide (t.thresh < v)) || (decide (t.trig = 3) && decide (v < t.thresh))
      let s := modTrace s r.ch fun x =>
        { t' with cond := t'.cond || hit, dropFlag := x.dropFlag, dropTick := x.dropTick, samples := x.samples, recFrame := x.recFrame }
      if t'.st = 4 then raise s .trcDone (handleOf s cTRACE r.ch) (t'.trigIdx * 4294967296 + oTRC) oTRC else s

/-- The trace writer's work at a frame boundary: the records queued so far reach their buffers (R494). -/
def drainTrace (s : State) : State :=
  let q := s.mem.queue
  q.foldl writeTrace (modMem s fun m => { m with queue := [] })

/-- A trigger reaches a channel: in ARMED it takes it to POST, and the next record is the trigger record; in FILLING, POST and DONE
it is counted (R490, R491). -/
def triggerChannel (s : State) (ch : Nat) : State :=
  let t := traceAt s ch
  if t.st = 2 then modTrace s ch fun t => { t with st := 3, trigNext := true }
  else if t.st = 1 ∨ t.st = 3 ∨ t.st = 4 then bump s (0x27101C + 0x40 * ch)
  else s

/-- Channel `o` shares the trigger group of `t`. -/
def sameGroup (t o : Trace) : Bool := decide (t.group % 8 = o.group % 8)

/-- The triggers of one frame: those of one group count as one, and LINK carries them to every ARMED channel of the group (R492). -/
def triggerAll (s : State) (chs : List Nat) : State :=
  let linked := s.mem.traces.filter fun e =>
    !(chs.contains e.1) && decide (e.2.st = 2) &&
      chs.any fun c => let t := traceAt s c; bit t.group 3 && sameGroup t e.2 && decide (t.st = 2)
  (chs ++ linked.map Prod.fst).foldl triggerChannel s

/-- The key of a TRIG 5 or 6 channel fires (R42, R53). -/
def keyTrigger (s : State) (t : Trace) : Bool :=
  t.keyArmed && match t.trig with
    | 5 => wallFires s t.keyFull t.keyFrame t.keyBehind
    | 6 => lineFires s t.key t.keyFrame t.keyBehind
    | _ => false

/-- TRACE_TRIGGER_DETECT at a frame boundary (R491). -/
def detectTriggers (s : State) : State :=
  let hits := (s.mem.traces.filter fun e => e.2.cond || keyTrigger s e.2).map Prod.fst
  let s := hits.foldl (fun s c => modTrace s c fun t => { t with cond := false, keyArmed := t.keyArmed && !(keyTrigger s t) }) s
  triggerAll s hits

/-- TRC_DROP once per channel per plan tick (R494). -/
def reportDrops (s : State) : State :=
  s.mem.traces.foldl (fun s e =>
    if 0 < e.2.dropTick then
      let s := modTrace s e.1 fun t => { t with dropTick := 0 }
      raise s .trcDrop (handleOf s cTRACE e.1) (e.2.dropTick * 4294967296 + oTRC) oTRC
    else s) s

/-- The buffers allocated, but for one channel: base and size. -/
def hamperUsed (s : State) (but : Option Nat) : List (Nat × Nat) :=
  s.mem.traces.filterMap fun e => if some e.1 = but then none else some (e.2.base, 2 ^ e.2.log2)

/-- The lowest base, aligned to the size, at which a run of the buffer's size is free (R487). -/
def hamperFree (used : List (Nat × Nat)) (size : Nat) : Option Nat :=
  let cands := 0 :: used.map fun u => (u.1 + u.2 + size - 1) / size * size
  let ok (b : Nat) : Bool := decide (b + size ≤ 1073741824) && used.all fun u => decide (b + size ≤ u.1) || decide (u.1 + u.2 ≤ b)
  (cands.filter ok).foldl (fun m b => match m with
    | none => some b
    | some x => some (Nat.min x b)) none

/-- The base of a configuration's buffer: a TRACE_SET that keeps LOG2_SIZE keeps its buffer (R487). -/
def traceBase (s : State) (d : Desc) (old : Option Nat) : Option Nat :=
  match old with
  | some i => if (traceAt s i).log2 = pf d 19 1 then some (traceAt s i).base else hamperFree (hamperUsed s (some i)) (2 ^ pf d 19 1)
  | none => hamperFree (hamperUsed s none) (2 ^ pf d 19 1)

/-- TRACE_CREATE's and TRACE_SET's own rules (R487, R488). -/
def traceCheck (s : State) (a : Acc) (old : Option Nat) : Option Refuse :=
  let d := a.d
  let src := pf d 16 1
  let trig := pf d 26 1
  let cont := pf d 24 1
  firstRefuse [
    (decide (src = 0 ∨ 11 < src), rRANGE),
    (decide (if src = 1 then 3 < pf d 17 1 else if src = 7 then 11 < pf d 17 1 else pf d 17 1 ≠ 0), rRANGE),
    (decide (7 < pf d 18 1) || (decide (src = 11) && decide (pf d 18 1 ≠ 0)), rRANGE),
    (decide (pf d 19 1 < 12) || decide (26 < pf d 19 1), rRANGE),
    ((src == 10 || src == 11) && decide (pf d 20 4 ≠ 0), rRANGE),
    (decide (1 < cont) || decide (6 < trig) || decide ((cont = 1) ≠ (trig = 0)) || decide (15 < pf d 27 1), rRANGE),
    (!(trig == 2 || trig == 3) && decide (pf d 28 4 ≠ 0), rRANGE),
    (decide (trig ≤ 3) && decide (pf d 32 8 ≠ 0), rRANGE),
    (decide (trig = 5) && decide (pf d 36 4 ≠ 0), rRANGE),
    (decide (trig = 4) && (decide (511 < pf d 34 2) || decide (pf d 34 2 < pf d 32 2) || decide (5 < pf d 36 1) ||
      decide (pf d 37 3 ≠ 0)), rRANGE),
    (!(onlyBytes d [(16, 24)]), rRANGE),
    (old.isNone && !(hasFree s cTRACE), rNORES),
    ((traceBase s d old).isNone, rNORES)]

/-- The channel that a configuration makes: capture starts in FILLING, or ARMED when PRE asks for nothing, or RUN (R490). -/
def traceOf (s : State) (d : Desc) (base : Nat) : Trace :=
  let trig := pf d 26 1
  let t : Trace :=
    { source := pf d 16 1, sel := pf d 17 1, decim := pf d 18 1, log2 := pf d 19 1, object := pf d 20 4,
      cont := decide (pf d 24 1 = 1), pre := pf d 25 1, trig := trig, group := pf d 27 1, thresh := pfs d 28 4,
      key := pf d 32 8, keyFull := keyTime s (pf d 32 4), base := base, keyFrame := s.time.frame,
      keyBehind := if trig = 5 then wallReached s (pf d 32 4) else if trig = 6 then lineBehind s (pf d 32 8) else false,
      keyArmed := trig == 5 || trig == 6 }
  { t with st := if t.cont then 5 else if tracePre t = 0 then 2 else 1 }

/-- TRACE_TRIGGER or TRACE_REARM at its effect (R491, R493). -/
def traceRearm (s : State) (i : Nat) : State :=
  modTrace s i fun t => { t with st := if tracePre t = 0 then 2 else 1, count := 0, trigNext := false, cond := false, keyArmed := t.trig == 5 || t.trig == 6,
                                 keyFrame := s.time.frame, keyFull := keyTime s (t.key % 4294967296),
                                 keyBehind := if t.trig = 5 then wallReached s (t.key % 4294967296)
                                              else if t.trig = 6 then lineBehind s t.key else false }

/-! ### Patrol scrub -/

/-- The line of device DRAM at a physical address: 31 of each 32 lines hold data and one the check bits (R483); an error in the
check line counts for the block's last data line (DESIGN CHOICE, log 72). -/
def scrubLine (pos : Nat) : Nat := pos / 2048 * 31 + Nat.min (pos % 2048 / 64) 30

/-- The patrol scrub runs: EN is 1, and the power state is neither P2 nor P3 (R485). -/
def scrubOn (s : State) : Bool := bit (reg s 0x278004) 0 && decide (s.pins.powerState < 2) && decide (s.md.mode ≠ .boot)

/-- The time between two scrub reads: PERIOD hours for the 2^28 lines of the 16 GiB (R485). -/
def scrubStep (s : State) : Nat := bits (reg s 0x278004) 7 8 * 3600 * secU / 268435456

/-- While the scrub does not run, its next read moves on with the time (R485). -/
def scrubPace (s : State) : State := if scrubOn s then s else modMem s fun m => { m with scrubAt := s.time.elapsed }

/-- The patrol scrub reads the line at its position, when the read is due: it meets no error, a correctable one, or an uncorrectable one
(R485). The corrections of a page count within one pass. -/
def scrubRead (s : State) (errors : Nat) : State :=
  if scrubOn s = true ∧ s.mem.scrubAt ≤ s.time.elapsed then
    let line := scrubLine s.mem.scrubPos
    let next := s.mem.scrubPos + 64
    let wrap := decide (0x400000000 ≤ next)
    let s := modMem s fun m => { m with scrubPos := if wrap then 0 else next, scrubAt := m.scrubAt + scrubStep s }
    let s := if errors = 2 ∨ s.mem.poisoned.contains line = true then uncorrectable s line
      else if errors = 1 ∨ s.mem.weak.contains line = true then correctable s line else s
    if wrap then modMem s fun m => { m with corr := [] } else s
  else s

end Sys2Proof.Machine
end

