-- ==== Sys2Proof/Machine/Feedback.lean ====
section
/-!
DEFINITION. The feedback unit (R137 to R159): channels and decoders, counting and checking, serial absolute encoders, speed, joint
position and speed, electrical angle.
-/
namespace Sys2Proof.Machine

/-- The decoder of a configuration (R137). -/
def decoderOf (c : FbCfg) : Nat := if c.isLocal then 128 + c.unit else 8 * c.unit + c.pos - 1
def fbAt (s : State) (f : Nat) : Fbch := mgetD s.fbchs f {}
def modFb (s : State) (f : Nat) (g : Fbch → Fbch) : State := { s with fbchs := mmod s.fbchs f g }
/-- The origin of a channel's events (R471). -/
def oFBK (s : State) (f : Nat) : Nat := origin 0x0D (decoderOf (fbAt s f).cfg)
def fbHandle (s : State) (f : Nat) : Nat := handleOf s cFBCH f
/-- Types 4 to 6. -/
def serialType (t : Nat) : Bool := decide (4 ≤ t)

/-- The live channel that holds a decoder (R137). -/
def fbOfDecoder (s : State) (d : Nat) : Option Nat := (mkeys s.fbchs fun _ x => decide (decoderOf x.cfg = d)).head?

/-! ### Configuration (R138, R139, R149) -/

/-- The configuration in a payload. -/
def fbCfgOf (d : Desc) : FbCfg :=
  { isLocal := decide (pf d 16 1 = 2), type := pf d 17 1, unit := pf d 18 1, pos := pf d 19 1, index := pf d 20 1,
    filter := decide (pf d 21 1 = 1), standstillMs := if pf d 22 2 = 0 then 20 else pf d 22 2, cpi := pf d 24 4,
    angleOff := pf d 28 2, stBits := pf d 30 1, mtBits := pf d 31 1, statusBits := pf d 32 1, clk := pf d 33 1,
    delay := pf d 34 1, start := pf d 35 1, jumpMax := pf d 36 4 }

/-- The serial clock period in grid samples (R149). -/
def sencPeriod (c : FbCfg) : Nat := 4 * 2 ^ c.clk
/-- The offset of a read's last sample from its latch instant; for BiSS-C the latest it can be (R149, R150). -/
def sencLast (c : FbCfg) : Nat :=
  let p := sencPeriod c
  if c.type = 6 then 16 * p + (c.mtBits + c.stBits + 9) * p + p / 2
  else (c.mtBits + c.stBits + c.statusBits) * p + c.delay

/-- The encoder lines of cyclic word 3 that a head channel needs (R139): bits 4 to 9 are A, B, Z, U, V, W. -/
def neededLines (c : FbCfg) : List Nat :=
  let z := if c.index = 0 then [] else [6]
  match c.type with
  | 1 => [4, 5] ++ z
  | 2 => [7, 8, 9]
  | 3 => [4, 5, 7, 8, 9] ++ z
  | _ => []

/-- Word 3 of the cyclic parameter table of a head position (R77). -/
def cyclicWord (s : State) (port pos w : Nat) : Nat :=
  mgetD (mgetD (mgetD s.ryl port {}).heads pos {}).table w 0

/-- The fields lie in their ranges, and those that do not apply are 0 (R138). -/
def fbFieldsOk (s : State) (d : Desc) : Bool :=
  let c := fbCfgOf d
  let src := pf d 16 1
  let ser := serialType c.type
  let idx := decide (c.type = 1) || decide (c.type = 3)
  onlyBytes d [(16, 24)] && decide (src = 1 ∨ src = 2) && decide (1 ≤ c.type ∧ c.type ≤ 6) &&
  (if src = 1 then decide (c.unit ≤ 15) && decide (1 ≤ c.pos ∧ c.pos ≤ 8) && decide (pf d 21 1 = 0) &&
      (neededLines c).all fun l => bit (cyclicWord s c.unit c.pos 3) l
   else decide (c.unit ≤ 7) && decide (c.pos = 0) && decide (pf d 21 1 ≤ 1) && decide (c.type ≠ 3)) &&
  decide (c.index ≤ (if idx then 2 else 0)) && decide (pf d 22 2 ≤ 1000) &&
  (if c.index = 0 then decide (c.cpi = 0) else decide (0 < c.cpi)) &&
  (if ser then decide (1 ≤ c.stBits ∧ c.stBits ≤ 32) && decide (c.mtBits ≤ 24) &&
      decide (c.stBits + c.mtBits ≤ (if c.type = 6 then 40 else 32)) && decide (c.clk ≤ 3) && decide (c.start ≤ 159) &&
      (if c.type = 6 then decide (c.statusBits = 0) && decide (c.delay = 0)
       else decide (c.statusBits ≤ 4) && decide (c.delay ≤ 31)) && decide (sencLast c < 1280)
   else decide (pf d 30 10 = 0))

/-- FBCH_CREATE and FBCH_SET: the rules of R137 to R139, R149, R156. `old` is the channel that FBCH_SET changes. -/
def fbchCheck (s : State) (a : Acc) (old : Option Nat) : Option Refuse :=
  let c := fbCfgOf a.d
  let holder := fbOfDecoder s (decoderOf c)
  let noPoles := match old.bind (fbchJoint s) with
    | some j => match mget s.joints j with
      | some x => decide (x.scale.polePairs = 0)
      | none => false
    | none => false
  firstRefuse [
    (!(fbFieldsOk s a.d), rRANGE),
    (decide (c.type = 2) && noPoles, rRANGE),
    (holder.isSome && decide (holder ≠ old), rBUSY (handleOf? s cFBCH holder)),
    (old.isNone && !(hasFree s cFBCH), rNORES)]

/-- FBCH_SET: the channel starts as at creation, but for its decoder's counters and what its line sources hold (R138). -/
def fbchSet (s : State) (f : Nat) (d : Desc) : State :=
  modFb s f fun x => { cfg := fbCfgOf d, steps := x.steps, lastUp := x.lastUp, born := s.time.frame }

/-- FBCH_SET_POS: its own rules (R147). -/
def setPosCheck (s : State) (a : Acc) : Option Refuse :=
  let r := (fbchJoint s (tIdx a.d)).bind (jointRegion s)
  let moving := match r with
    | some r => decide (regionSt s r = .active ∨ regionSt s r = .hold ∨ regionSt s r = .mending)
    | none => false
  firstRefuse [(!(onlyBytes a.d [(16, 8)]), rRANGE), (moving, rMODE)]

/-- FBCH_SET_POS takes effect (R147). -/
def setPos (s : State) (d : Desc) : State :=
  modFb s (tIdx d) fun x =>
    { x with count := pfs d 16 8, serBase := pfs d 16 8, uncertain := false, fault := false, indexRef := none }

/-! ### Faults (R142, R146) -/

/-- A feedback fault (R146): 1 illegal rate, 2 serial errors, 3 Hall mismatch. -/
def fbFault (s : State) (f cause : Nat) : State :=
  if (fbAt s f).fault then s
  else
    let o := oFBK s f
    let s := raise (modFb s f fun x => { x with fault := true }) .fbkFault (fbHandle s f) cause o
    match fbchJoint s f with
    | none => s
    | some j =>
      let stepper := match mget s.joints j with
        | some x => x.stepper
        | none => false
      raise s (if stepper then .fbkStepperFault else .fbkJointFault) (handleOf s cJOINT j) (fbHandle s f) o

/-- An illegal transition at a sample of frame `fr` (R142). -/
def fbIllegal (s : State) (f before after wall fr : Nat) : State :=
  let x := fbAt s f
  let d := decoderOf x.cfg
  let s := bump (bump s (0xA1024 + 0x40 * d)) 0xA0004
  let fifth : Bool := match (x.illegal.drop 3).head? with
    | some g => decide (fr < g + 1024)
    | none => false
  let s := modFb s f fun x => { x with uncertain := true, illegal := (fr :: x.illegal).take 4 }
  let s := raise s .fbkQerr (fbHandle s f) (before + 256 * after + wall * 4294967296) (oFBK s f)
  if fifth = true then fbFault s f 1 else s

/-! ### Counting (R141, R143, R145, R152) -/

/-- One sample of the encoder lines: bit 0 A, 1 B, 2 Z, 3 U, 4 V, 5 W. -/
abbrev Lines := Nat

/-- The place of an AB pair in the order of R141, A in bit 0: 00, 10, 11, 01. -/
def abPlace (ab : Nat) : Nat :=
  match ab with
  | 0 => 0
  | 1 => 1
  | 3 => 2
  | _ => 3

/-- The sector of a Hall state U·4 + V·2 + W, none for 000 and 111 (R143, R157). -/
def hallSector (uvw : Nat) : Option Nat :=
  match uvw with
  | 1 => some 0
  | 3 => some 1
  | 2 => some 2
  | 6 => some 3
  | 4 => some 4
  | 5 => some 5
  | _ => none

/-- The lines as the events name them: bit 0 A, 1 B, 2 U, 3 V, 4 W (R161). -/
def eventLines (ab uvw : Nat) : Nat := ab + 4 * b2n (bit uvw 2) + 8 * b2n (bit uvw 1) + 16 * b2n (bit uvw 0)

/-- A counted step: the count, N of the line sources, and the speed state (R141, R152). -/
def fbStep (s : State) (f : Nat) (up : Bool) (t wall : Nat) : State :=
  modFb s f fun x =>
    let dlt : Int := if up then 1 else -1
    let e : FbEdge := { at_ := t, up := up, count := x.steps + dlt }
    let st := if x.speedSt = 0 then 1
      else match x.edges with
        | p :: _ => if p.up = up then 2 else 3
        | [] => 1
    { x with count := satS 64 (x.count + dlt), steps := x.steps + dlt, lastUp := up, edges := e :: x.edges, speedSt := st, edgeT := wall }

/-- The joint that a channel serves, with its number of pole pairs, when it has an electrical angle. -/
def fbPoles (s : State) (f : Nat) : Option (Nat × Joint) :=
  (fbchJoint s f).bind fun j => (mget s.joints j).bind fun x => if x.scale.polePairs = 0 then none else some (j, x)

/-- The full scale that enters a computation (R151, R156). -/
def fullScale (c : FbCfg) (sc : Scale) : Nat :=
  if c.type = 2 then 6 * sc.polePairs else if sc.fullScale = 0 then 4294967296 else sc.fullScale

/-- Electrical revolutions per count as a fraction: (numerator, denominator). -/
def perCount (c : FbCfg) (sc : Scale) : Int × Int :=
  ((if sc.reversed then -1 else 1) * (sc.polePairs : Int), fullScale c sc)

/-- A Hall step of type 3 aligns the quadrature angle to the boundary crossed, once (R157). -/
def hallAlign (s : State) (f k : Nat) (up : Bool) : State :=
  let x := fbAt s f
  match fbPoles s f with
  | none => s
  | some (_, j) =>
    if x.hallAligned then s
    else
      let base := if up then k else (k + 1) % 6
      let (n, d) := perCount x.cfg j.scale
      -- the shift from the quadrature-derived angle to the boundary, in sixths of d
      let e := (base * d - 6 * n * (x.count - j.scale.offset)) % (6 * d)
      let e := if 3 * d < e then e - 6 * d else e
      let shift := divFree 20 (e * (if n < 0 then -1 else 1)) (6 * n.natAbs)
      raise (modFb s f fun x => { x with hallAligned := true, alignAt := x.count, alignTo := base }) .fbkHallAlign
        (fbHandle s f) (un 32 shift) (oFBK s f)

/-- The Hall lines of a sample (R143), with the AB pairs before it and at it. -/
def hallSample (s : State) (f uvw t wall fr ab0 ab : Nat) (first : Bool) : State :=
  let x := fbAt s f
  let s' := modFb s f fun x => { x with uvw := uvw }
  if !first && decide (uvw = x.uvw) then s'
  else
    let bad (s : State) : State := fbIllegal s f (eventLines ab0 x.uvw) (eventLines ab uvw) wall fr
    match hallSector uvw with
    | none => bad s'
    | some k =>
      let s' := modFb s' f fun x => { x with hall := some uvw }
      match x.hall.bind hallSector with
      | none => s'
      | some h =>
        if k = h then s'
        else if k = (h + 1) % 6 ∨ h = (k + 1) % 6 then
          let up := decide (k = (h + 1) % 6)
          let s' := modFb s' f fun x => { x with hallStep := some (t, up), hallBase := if up then k else k + 1 }
          if x.cfg.type = 2 then fbStep s' f up t wall else hallAlign s' f k up
        else bad s'

/-- The quadrature lines of a sample (R141), with the Hall lines at it. -/
def abSample (s : State) (f ab uvw t wall fr : Nat) : State :=
  let x := fbAt s f
  let s' := modFb s f fun x => { x with ab := some ab }
  match x.ab with
  | none => s'
  | some p =>
    match (abPlace ab + 4 - abPlace p) % 4 with
    | 0 => s'
    | 1 => fbStep s' f true t wall
    | 3 => fbStep s' f false t wall
    | _ => fbIllegal s' f (eventLines p x.uvw) (eventLines ab (if x.cfg.type = 3 then uvw else x.uvw)) wall fr

/-- An index pulse (R145). -/
def indexPulse (s : State) (f wall : Nat) : State :=
  let x := fbAt s f
  let seen := x.count
  let e : Int := match x.indexRef with
    | none => 0
    | some r =>
      let c : Int := x.cfg.cpi
      let m := (seen - r) % c
      if c < 2 * m then m - c else m
  let clears := x.uncertain && !x.fault
  let s := modFb s f fun x =>
    { x with indexCount := seen, indexT := wall, pulses := x.pulses + 1, indexRef := some (x.indexRef.getD seen),
             count := if x.uncertain then satS 64 (x.count - e) else x.count, uncertain := x.uncertain && x.fault }
  if e ≠ 0 ∨ clears = true then
    raise s .fbkIndexCorr (fbHandle s f) (un 32 e + 4294967296 * b2n clears) (oFBK s f)
  else s

/-- One grid sample of an incremental channel (R141, R143, R145): the elapsed time of the sample, its WALL32, its frame. -/
def incSample (s : State) (f : Nat) (l : Lines) (t wall fr : Nat) : State :=
  let x := fbAt s f
  let ab := l % 4
  let uvw := 4 * b2n (bit l 3) + 2 * b2n (bit l 4) + b2n (bit l 5)
  let first := x.lastG.isNone
  let s := if x.cfg.type = 2 then hallSample s f uvw t wall fr 0 0 first
    else
      let s := abSample s f ab uvw t wall fr
      if x.cfg.type = 3 then hallSample s f uvw t wall fr (x.ab.getD ab) ab first else s
  let z := bit l 2
  let pulse := !first && z && !x.z && decide (x.cfg.index = 1 ∨ (x.cfg.index = 2 ∧ ab = 3))
  let s := modFb s f fun x => { x with z := z }
  if pulse then indexPulse s f wall else s

/-! ### Serial encoders (R148 to R151, R155) -/

/-- A level that a frame brought, none where it brought nothing. -/
def sampleAt (r : SencRead) (i : Nat) : Option Bool := (r.samples[i]?).getD none

/-- The bits of a list of levels, most significant first. -/
def bitsNat (l : List Bool) : Nat := l.foldl (fun a b => 2 * a + b2n b) 0

/-- Gray code to binary over the levels, most significant first. -/
def grayBits (l : List Bool) : List Bool :=
  (l.foldl (fun (acc : List Bool × Bool) b => let x := Bool.xor acc.2 b; (acc.1 ++ [x], x)) ([], false)).1

/-- The six CRC bits x^6 + x + 1 over a bit list, initial value 0 (R149). -/
def crc6 (l : List Bool) : Nat :=
  l.foldl (fun c b => let top := Bool.xor (bit c 5) b; let c := (c * 2) % 64; if top then Nat.xor c 3 else c) 0

/-- The offsets at which a read samples its bits, and the position of Start; an error when no Start is seen (R149, R150). -/
def sencOffsets (c : FbCfg) (r : SencRead) : Option (List Nat × Nat) :=
  let p := sencPeriod c
  if c.type = 6 then
    let n := Nat.min r.samples.length (16 * p + 1)
    let ack := (List.range n).find? fun i => sampleAt r i = some false
    match ack with
    | none => none
    | some a =>
      match (List.range n).find? fun i => decide (a < i) && decide (sampleAt r i = some true) with
      | none => none
      | some st => some ((List.range (c.mtBits + c.stBits + 9)).map fun k => st + (k + 1) * p + p / 2, st)
  else some ((List.range (c.mtBits + c.stBits + c.statusBits)).map fun j => (j + 1) * p + c.delay, 0)

/-- The read has taken its last sample. -/
def sencComplete (c : FbCfg) (r : SencRead) : Bool :=
  match sencOffsets c r with
  | none => decide (16 * sencPeriod c < r.samples.length)
  | some (l, _) => decide (nmax l < r.samples.length)

/-- A sample of the read up to the last one that it takes is missing: a frame of the read brought no valid cell (R150). -/
def sencGap (r : SencRead) (upto : Nat) : Bool := (r.samples.take (upto + 1)).any Option.isNone

/-- The outcome of a completed read: an error code of R161, or the data bits' value, the status bits, the start position and
nW. -/
def sencDecode (c : FbCfg) (r : SencRead) : Nat × Nat × Nat × Nat × Bool :=
  if sampleAt r 0 = some false then (1, 0, 0, 0, true)
  else
    match sencOffsets c r with
    | none => (if sencGap r (16 * sencPeriod c) then 5 else 2, 0, 0, 0, true)
    | some (l, st) =>
      let vs := l.map (sampleAt r)
      if sencGap r (nmax l) = true ∨ vs.any Option.isNone = true then (5, 0, 0, st, true)
      else
        let vs := vs.map fun v => v.getD false
        let n := c.mtBits + c.stBits
        if c.type = 6 then
          let body := vs.drop 1
          let data := body.take n
          let nE := (body.drop n).headD true
          let nW := (body.drop (n + 1)).headD true
          let crc := bitsNat (body.drop (n + 2))
          let status := 2 * b2n nE + b2n nW
          if crc ≠ 63 - crc6 (body.take (n + 2)) then (3, 0, status, st, true)
          else if nE = false then (4, 0, status, st, true)
          else (0, bitsNat data, status, st, nW)
        else
          let data := vs.take n
          (0, bitsNat (if c.type = 5 then grayBits data else data), bitsNat (vs.drop n), 0, true)

/-- An erroneous read (R150). -/
def sencError (s : State) (f code : Nat) (latch : Nat) : State :=
  let x := fbAt s f
  let ahead := divFree 21 (x.speed.1 * ((latch : Int) - x.lastLatch)) (x.speed.2 * secU)
  let s := modFb s f fun x => { x with sencHeld := true, errors := x.errors + 1,
                                       count := if x.lastP.isSome then satS 64 (x.serBase + ahead) else x.count }
  let s := bump s (0xA102C + 0x40 * decoderOf x.cfg)
  let s := raise s .fbkSencErr (fbHandle s f) code (oFBK s f)
  if 3 ≤ x.errors + 1 then fbFault s f 2 else s

/-- A read is judged and used (R150, R151, R155). -/
def sencFinish (s : State) (f : Nat) (r : SencRead) : State :=
  let x := fbAt s f
  let (code, p, status, st, nW) := sencDecode x.cfg r
  let n := x.cfg.mtBits + x.cfg.stBits
  let m : Int := 2 ^ n
  let diff := match x.lastP with
    | none => 0
    | some q => let e := ((p : Int) - q) % m
                if m < 2 * e then e - m else e
  let dt : Int := (r.latch : Int) - x.lastLatch
  -- the deviation from the prediction, over speed.2 * secU
  let dev := diff * (x.speed.2 * secU) - x.speed.1 * dt
  let jump := decide (x.cfg.jumpMax ≠ 0) && x.lastP.isSome && decide ((x.cfg.jumpMax * x.speed.2 * secU : Int) < dev.natAbs)
  let s := modFb s f fun x => { x with read := none, judgedG := some r.g0, sencBits := status, startPos := st }
  if code ≠ 0 then sencError s f code r.latch
  else if jump then sencError s f 6 r.latch
  else
    let s := modFb s f fun x =>
      let first := x.lastP.isNone
      let moved := decide (diff ≠ 0)
      let count := if first then (p : Int) else satS 64 (x.serBase + diff)
      { x with lastP := some p, lastLatch := r.latch, count := count, serBase := count,
               steps := if first then x.steps else x.steps + diff,
               lastUp := if !first && moved then decide (0 < diff) else x.lastUp, sencHeld := false, errors := 0,
               validReads := x.validReads + 1, edgeT := r.wall,
               changed := if first || moved then r.latch else x.changed,
               speedSt := if first then 1 else if x.speedSt = 0 ∧ moved = false then 0 else 2,
               speed := if first || (decide (x.speedSt = 0) && !moved) then (0, 1) else (diff * secU, dt.toNat) }
    if nW then s else raise s .fbkSencWarn (fbHandle s f) 0 (oFBK s f)

/-- The place of a grid index in the servo tick that begins at the channel's SENC_START (R149). -/
def sencPlace (c : FbCfg) (g : Nat) : Nat := (g + 1280 - 8 * c.start) % 1280

/-- One sample of a serial channel's data line, at a grid index, none where its frame brought no valid cell (R148 to R150). A read begins
at each SENC_START after the configuration. -/
def serSample (s : State) (f : Nat) (level : Option Bool) (g t wall : Nat) : State :=
  let x := fbAt s f
  let off := sencPlace x.cfg g
  let begins := decide (8 * x.born + off ≤ g) && match x.lastG with
    | some l => decide (l + off < g)
    | none => true
  let s := if begins then
      let s := match x.read with
        | some r => sencFinish s f r
        | none => s
      modFb s f fun x => { x with read := some { g0 := g - off, latch := t - off * 8 * cycleU s, wall := wall } }
    else s
  match (fbAt s f).read with
  | none => s
  | some r =>
    let k := g - r.g0
    let r := { r with samples := r.samples ++ List.replicate (k - r.samples.length) none ++ [level] }
    if sencComplete x.cfg r then sencFinish s f r else modFb s f fun x => { x with read := some r }

/-- The clock level that a serial channel drives at a grid index (R148, R149): from SENC_START on, for SSI as many periods as the read has
bits, for BiSS-C until the read has been judged. -/
def sencClock (x : Fbch) (g : Nat) : Bool :=
  let c := x.cfg
  let p := sencPeriod c
  let k := sencPlace c g
  let runs := decide (8 * x.born + k ≤ g) &&
    if c.type = 6 then decide (x.judgedG ≠ some (g - k)) else decide (k < (c.mtBits + c.stBits + c.statusBits) * p + p / 2)
  !runs || !(decide (k % p < p / 2))

/-! ### One sample to a channel -/

/-- A grid sample reaches a channel (R140, R144). -/
def fbFeed (s : State) (f : Nat) (l : Lines) (data : Bool) (g t wall : Nat) : State :=
  let s := if serialType (fbAt s f).cfg.type then serSample s f (some data) g t wall else incSample s f l t wall (g / 8)
  modFb s f fun x => { x with lastG := some g, stamp := t }

/-- A grid sample of a channel whose frame brought no valid cell: an incremental channel waits for the next (R144), a serial one lacks it
(R150). -/
def fbMiss (s : State) (f g t wall : Nat) : State :=
  if serialType (fbAt s f).cfg.type then modFb (serSample s f none g t wall) f fun x => { x with lastG := some g } else s

/-! ### Speed (R152 to R155) -/

/-- The edges that matter at a boundary: those of the trailing 160 frames, and the two last whatever their age. -/
def pruneEdges (es : List FbEdge) (since : Nat) : List FbEdge :=
  es.take 2 ++ (es.drop 2).filter fun e => decide (since ≤ e.at_)

/-- Mode and speed at a frame boundary (R153, R154). -/
def fbSpeed (x : Fbch) (now frameU : Nat) : Fbch :=
  if serialType x.cfg.type then x
  else
    let since := now - 160 * frameU
    let es := pruneEdges x.edges since
    let win := es.filter fun e => decide (since ≤ e.at_)
    let n := win.length
    let same := win.all (fun e => e.up) || win.all fun e => !e.up
    let mode := if 4 < n ∧ same = true then true else if n ≤ 3 ∨ same = false then false else x.countMode
    let speed : Int × Nat :=
      if x.speedSt ≠ 2 then (0, 1)
      else if mode then
        match win.getLast?, win.head? with
        | some a, some b => ((b.count - a.count) * secU, b.at_ - a.at_)
        | _, _ => (0, 1)
      else
        match es with
        | e :: p :: _ => ((if e.up then 1 else -1) * secU, Nat.max (e.at_ - p.at_) (now - e.at_))
        | _ => (0, 1)
    { x with edges := es, countMode := mode, speed := if speed.2 = 0 then (0, 1) else speed }

/-- FBK_STANDSTILL: no edge, or for a serial channel no change of the count, for STANDSTILL (R152, R155). -/
def standstill (s : State) (f : Nat) : State :=
  let x := fbAt s f
  let last := if serialType x.cfg.type then x.changed else
    match x.edges with
    | e :: _ => e.at_
    | [] => 0
  if isLive s cFBCH f ∧ x.speedSt ≠ 0 ∧ x.cfg.standstillMs * msU < s.time.elapsed - last then
    modFb s f fun x => { x with speedSt := 0, speed := (0, 1) }
  else s

/-! ### Joint position, joint speed and angle (R156, R157) -/

/-- The sign of a scale record's DIRECTION. -/
def dirSign (sc : Scale) : Int := if sc.reversed then -1 else 1

/-- Joint position in ANG64 and joint speed in VEL32 of a joint with a channel (R156). -/
def jointPosOf (x : Fbch) (sc : Scale) : Int :=
  satS 64 (roundDiv (dirSign sc * (x.count - sc.offset) * 4294967296 * 65536) (fullScale x.cfg sc * sc.ratio))
def jointVelOf (x : Fbch) (sc : Scale) : Int :=
  satS 32 (roundDiv (dirSign sc * x.speed.1 * 16777216 * 65536) (x.speed.2 * fullScale x.cfg sc * sc.ratio))

/-- A joint's measured position and speed; free without a channel. -/
def jointPos (s : State) (j : Nat) : Int :=
  match mget s.joints j with
  | some x => match x.fbch with
    | some f => jointPosOf (fbAt s f) x.scale
    | none => (Config.openPos s.time.frame j).toInt
  | none => 0
def jointVel (s : State) (j : Nat) : Int :=
  match mget s.joints j with
  | some x => match x.fbch with
    | some f => jointVelOf (fbAt s f) x.scale
    | none => (Config.openVel s.time.frame j).toInt
  | none => 0

/-- Speed in signed Q28.4 counts/s, as the register shows it. -/
def speedQ4 (x : Fbch) : Int := satS 32 (divFree 22 (x.speed.1 * 16) x.speed.2)

/-- Electrical speed in revolutions per second as a fraction. -/
def elecSpeed (x : Fbch) (sc : Scale) : Int × Nat :=
  if x.cfg.type = 2 then (x.speed.1, x.speed.2 * 6)
  else (dirSign sc * sc.polePairs * x.speed.1, x.speed.2 * fullScale x.cfg sc)

/-- The angle of the Hall rule in Q0.32, before reduction (R157). -/
def hallAngle (x : Fbch) (sc : Scale) : Int :=
  let k : Int := ((x.hall.bind hallSector).getD 0 : Nat)
  let ao : Int := x.cfg.angleOff * 65536
  match x.hallStep with
  | none => roundDiv ((2 * k + 1) * 4294967296) 12 + ao
  | some (t, _) =>
    let base : Int := x.hallBase
    let (n, d) := elecSpeed x sc
    let dt : Int := (x.stamp : Int) - t
    let th := roundDiv (4294967296 * (base * d * secU + 6 * n * dt)) (6 * d * secU)
    let hi := -(floorDiv (-((k + 1) * 4294967296)) 6) - 1
    let lo := floorDiv (k * 4294967296) 6 + 1
    (if 0 < n then (if hi < th then hi else th) else if n < 0 then (if th < lo then lo else th) else th) + ao

/-- θe in Q0.32 electrical revolutions (R157); that of a serial channel is extrapolated from the last latch instant used (R158). -/
def angleOf (x : Fbch) (sc : Scale) : Nat :=
  let ao : Int := x.cfg.angleOff * 65536
  let (n, d) := perCount x.cfg sc
  if x.cfg.type = 2 ∨ (x.cfg.type = 3 ∧ x.hallAligned = false) then un 32 (hallAngle x sc)
  else if x.cfg.type = 3 then
    un 32 (roundDiv (4294967296 * (6 * n * (x.count - x.alignAt) + x.alignTo * d)) (6 * d) + ao)
  else if serialType x.cfg.type then
    let dt : Int := (x.stamp : Int) - x.lastLatch
    un 32 (roundDiv (4294967296 * n * ((x.serBase - sc.offset) * x.speed.2 * secU + x.speed.1 * dt)) (d * x.speed.2 * secU) + ao)
  else un 32 (roundDiv (4294967296 * n * (x.count - sc.offset)) d + ao)

/-- The type 3 check of the Hall sector against the quadrature count (R143). -/
def hallCheck (s : State) (f : Nat) : State :=
  let x := fbAt s f
  match fbPoles s f with
  | none => s
  | some (_, j) =>
    if x.cfg.type = 3 ∧ x.hallAligned = true then
      let q := un 32 (angleOf x j.scale - (x.cfg.angleOff * 65536 : Int)) * 6 / 4294967296
      let h := (x.hall.bind hallSector).getD 0
      let dist := (q + 6 - h) % 6
      let n := if 1 < dist ∧ dist < 5 then x.mismatch + 1 else 0
      let s := modFb s f fun x => { x with mismatch := n }
      if 16 ≤ n then fbFault s f 3 else s
    else s

/-- A channel's values at a frame boundary (R158). -/
def fbUpdate (s : State) (f : Nat) : State :=
  let frameU := 64 * cycleU s
  let s := modFb s f fun x => fbSpeed x s.time.elapsedF frameU
  let s := hallCheck s f
  match fbPoles s f with
  | none => modFb s f fun x => { x with theta := 0, thetas := [] }
  | some (_, j) => modFb s f fun x =>
    let th := angleOf x j.scale
    { x with theta := th, thetas := (s.time.wallF, th) :: x.thetas.take 159 }

/-! ### Local channels (R140, R148) -/

/-- Bit of a local field pin at a control-clock cycle of a frame. -/
def pinBit (v : BitVec 512) (n c : Nat) : Bool := v.getLsbD (64 * n + c)

/-- A local line at grid sample i of the frame that ended: the level at its instant, or the majority of the three control-clock
samples ending there (R140). -/
def localLine (cur prev : BitVec 512) (n i : Nat) (filter : Bool) : Bool :=
  let back (k : Nat) : Bool := if k ≤ 8 * i then pinBit cur n (8 * i - k) else pinBit prev n (64 + 8 * i - k)
  if filter then decide (2 ≤ b2n (back 0) + b2n (back 1) + b2n (back 2)) else back 0

/-- The lines of ENCn at grid sample i, as the channel's type reads them (R139). -/
def localLines (cur prev : FrameIn) (c : FbCfg) (i : Nat) : Lines :=
  let a := b2n (localLine cur.encA prev.encA c.unit i c.filter)
  let b := b2n (localLine cur.encB prev.encB c.unit i c.filter)
  let z := b2n (localLine cur.encZ prev.encZ c.unit i c.filter)
  if c.type = 2 then 8 * a + 16 * b + 32 * z else a + 2 * b + 4 * z

/-- The local channels take the samples of the frame that ended at this boundary. -/
def localFrame (s : State) (inp : FrameIn) : State :=
  let prev := s.pins.lastIn
  let fr := s.time.frame - 1
  let s := (mkeys s.fbchs fun f x => x.cfg.isLocal && isLive s cFBCH f).foldl (fun s f =>
    (List.range 8).foldl (fun s i =>
      let c := (fbAt s f).cfg
      let l := localLines inp prev c i
      let t := s.time.elapsedF - (64 - 8 * i) * cycleU s
      let wall := un 32 (floorDiv (s.time.ptpF - ((64 - 8 * i) * cycleU s : Nat)) nsU)
      fbFeed s f l (bit l 1) (8 * fr + i) t wall) s) s
  modPins s fun p => { p with lastIn := inp }

/-- FBK_ENC_PINS: filtered levels at the last grid sample (R160). -/
def encPins (s : State) : Nat :=
  (List.range 8).foldl (fun a n =>
    let filt := match fbOfDecoder s (128 + n) with
      | some f => (fbAt s f).cfg.filter
      | none => false
    let i := s.pins.lastIn
    a + (b2n (localLine i.encA i.encA n 7 filt) + 2 * b2n (localLine i.encB i.encB n 7 filt) +
      4 * b2n (localLine i.encZ i.encZ n 7 filt)) * 2 ^ (3 * n)) 0

/-- Pins ENCn_A that drive a clock: those with a live channel of types 4 to 6 (R140), each with the level of every grid sample of the
frame that begins, bit i for sample i (R148). -/
def encDrives (s : State) : List (Nat × Nat) :=
  (List.range 8).filterMap fun n =>
    match fbOfDecoder s (128 + n) with
    | some f => let x := fbAt s f
                if serialType x.cfg.type then
                  some (n, (List.range 8).foldl (fun a i => a + b2n (sencClock x (8 * s.time.frame + i)) * 2 ^ i) 0)
                else none
    | none => none

/-- The serial clocks of the local pins in the frame that begins (R140, R148). -/
def encClocks (s : State) : State := modPins s fun p => { p with encDrives := encDrives s }

end Sys2Proof.Machine
end

