-- ==== Sys2Proof/Machine/Conv.lean ====
section
/-!
DEFINITION. Converters and decimators (R103 to R133): conversion channels, decimator pairs, settling, the on-die converters with
their groups, triggers and calibration, the plausibility checks, the delivery of results.
-/
namespace Sys2Proof.Machine

def chAt (s : State) (c : Nat) : Cchan := mgetD s.cchans c {}
def modCh (s : State) (c : Nat) (f : Cchan → Cchan) : State := { s with cchans := mmod s.cchans c f }
def modCnv (s : State) (f : CnvSt → CnvSt) : State := { s with cnv := f s.cnv }
def convAt (s : State) (n : Nat) : Conv := mgetD s.cnv.convs n {}
def modConv (s : State) (n : Nat) (f : Conv → Conv) : State :=
  modCnv s fun c => { c with convs := mput c.convs n (f (convAt s n)) }

/-- The physical converter of a logical one (R118). -/
def physConv (s : State) (n : Nat) : Nat := bits s.hlt.cnvMap (4 * n) 4
/-- The logical converter that a physical one serves. -/
def logConv (s : State) (m : Nat) : Option Nat := (List.range 8).find? fun n => decide (physConv s n = m)
/-- The physical pair that serves a pair slot (R106). -/
def physPair (s : State) (slot : Nat) : Nat := mgetD s.cnv.pairMap slot slot
/-- CNV_n_CFG of a physical converter. -/
def convCfg (s : State) (n : Nat) : Nat := reg s (0x80100 + 0x40 * n)
/-- The converter is in modulator personality (R119). -/
def isMod (s : State) (n : Nat) : Bool := bit (convCfg s n) 1

def chFIR (c : CchCfg) : Bool := bit c.flags 0
def chFAST (c : CchCfg) : Bool := bit c.flags 1
def chDROP (c : CchCfg) : Bool := bit c.flags 2
/-- The stream of a channel of source 1. -/
def chStream (c : CchCfg) : Nat := bits c.input 4 2
/-- The ring position of a channel of source 1. -/
def chPos (c : CchCfg) : Nat := bits c.input 0 4

/-- The origin of a channel's events (R471). -/
def oCh (s : State) (c : Nat) : Nat :=
  let x := chAt s c
  if x.cfg.source = 3 then origin 0x0B (physConv s x.cfg.unit) else origin 0x0C (physPair s x.pair)

/-- The live channels of source 1 on a head position, in stream order (R403). -/
def headChans (s : State) (port pos : Nat) : List Nat :=
  sortBy (fun a b => decide (chStream (chAt s a).cfg < chStream (chAt s b).cfg))
    (mkeys s.cchans fun c x => decide (x.cfg.source = 1) && decide (x.cfg.unit = port) && decide (chPos x.cfg = pos) &&
      isLive s cCCHAN c)

/-! ### CCHAN_CREATE and CCHAN_SET (R103, R104) -/

/-- The configuration in a payload. -/
def chCfgOf (d : Desc) : CchCfg :=
  { source := pf d 16 1, tag := pf d 17 1, unit := pf d 18 1, input := pf d 19 1, group := pf d 20 1, samples := pf d 21 1,
    osr := pf d 22 2, flags := pf d 24 1, gain := pf d 25 1, dmaBuf := pf d 26 1 }

/-- An OSR of a precise path. -/
def osrOk (n : Nat) : Bool := decide (n % 8 = 0) && decide (64 ≤ n ∧ n ≤ 512)

/-- The fields lie in their ranges (R103, R108, R117). -/
def chFieldsOk (s : State) (d : Desc) : Bool :=
  let c := chCfgOf d
  let mcfg := reg s (0x90010 + 4 * c.unit)
  onlyBytes d [(16, 11), (32, 32)] && decide (c.tag ≤ 31) && decide (c.flags < 32) &&
  (if bit c.flags 4 then decide (c.dmaBuf ≤ 63) else decide (c.dmaBuf = 0)) &&
  scaleOk (pf d 32 32) [1, 2] false &&
  (match c.source with
   | 1 => decide (c.unit ≤ 15) && decide (1 ≤ chPos c ∧ chPos c ≤ 8) && decide (c.input < 64) && decide (c.group = 0) &&
       decide (c.samples = 0) && osrOk c.osr && decide (c.gain = 0)
   | 2 => decide (c.unit ≤ 7) && decide (c.input = 0) && decide (c.group = 0) && decide (c.samples = 0) && osrOk c.osr &&
       decide (c.gain = 0) && (!chFAST c || decide (mcfg % 8 = 1))
   | 3 => decide (c.unit ≤ 7) && decide (c.input ≤ 19) && decide (c.group ≤ 4) && decide (1 ≤ c.samples ∧ c.samples ≤ 64) &&
       decide (c.gain ≤ 3) && !chFAST c &&
       (if isMod s (physConv s c.unit) then osrOk c.osr else decide (c.osr = 0) && !chFIR c)
   | _ => false)

/-- Another channel, live or staged, that takes the same head stream or MDAT input (R104). -/
def streamTaker (s : State) (c : CchCfg) (old : Option Nat) : Option Nat :=
  (mkeys s.cchans fun i x => decide (some i ≠ old) && decide (c.source ≠ 3) && decide (x.cfg.source = c.source) &&
    decide (x.cfg.unit = c.unit) && decide (x.cfg.input = c.input)).head?

/-- A pair slot is free: its pair serves and no channel holds it. -/
def pairFree (s : State) (slot : Nat) : Bool :=
  serves s 2 (physPair s slot) && !(s.cchans.any fun e => decide (e.2.cfg.source ≠ 3) && decide (e.2.pair = slot))

/-- The pair slot that a source takes (R106). -/
def findPair (s : State) (c : CchCfg) : Option Nat :=
  if c.source = 1 then (List.range 512).find? (pairFree s)
  else if pairFree s (512 + c.unit) then some (512 + c.unit) else none

/-- The channels on the entries of a converter's group. -/
def groupOf (s : State) (n g : Nat) : List Nat := mgetD (convAt s n).groups g []
/-- The capacity of a group (R122). -/
def groupCap (g : Nat) : Nat := if g = 0 then 16 else 4

/-- The channel keeps what it holds when it moves to this configuration (R104). -/
def keepsPlace (x c : CchCfg) : Bool :=
  match c.source with
  | 1 => decide (x.source = 1)
  | 2 => decide (x.source = 2) && decide (x.unit = c.unit)
  | _ => decide (x.source = 3) && decide (x.unit = c.unit) && decide (x.group = c.group)

/-- CCHAN_CREATE and CCHAN_SET: their own rules. `old` is the channel that CCHAN_SET changes. -/
def cchanCheck (s : State) (a : Acc) (old : Option Nat) : Option Refuse :=
  let c := chCfgOf a.d
  let keeps : Bool := match old with
    | some o => keepsPlace (chAt s o).cfg c
    | none => false
  let taker := streamTaker s c old
  let joint := old.bind (cchanJoint s)
  let off : Bool := match old with
    | some o => let x := (chAt s o).cfg
                decide (c.source ≠ 1) || decide (c.unit ≠ x.unit) || decide (chPos c ≠ chPos x)
    | none => false
  firstRefuse [
    (!(chFieldsOk s a.d), rRANGE),
    (joint.isSome && off, rBUSY (handleOf? s cJOINT joint)),
    (taker.isSome, rBUSY (handleOf? s cCCHAN taker)),
    (!keeps && decide (c.source ≠ 3) && (findPair s c).isNone, rNORES),
    (!keeps && decide (c.source = 3) &&
      decide (groupCap c.group ≤ (groupOf s (physConv s c.unit) c.group).length), rNORES),
    (old.isNone && !(hasFree s cCCHAN), rNORES)]

/-- A requested calibration starts once no injected group runs or is pending, the last result has left the pipeline and the reference is
ready (R128). -/
def calPump (s : State) (n : Nat) : State :=
  let v := convAt s n
  if v.calReq ∧ v.calBusy = false ∧ v.injRun = none ∧ v.pend = [] ∧ v.pipe = [] ∧ s.cnv.refReady = true then
    modConv s n fun v => { v with calReq := false, calBusy := true, calSince := s.time.elapsed }
  else s

/-- The converter answers: powered, in service or standing spare, not retired. -/
def convRuns (s : State) (n : Nat) : Bool := bit (convCfg s n) 0 && !retired s 1 n

/-- The trigger register of a group. -/
def trigReg (s : State) (n g : Nat) : Nat := reg s (0x8010C + 0x40 * n + 4 * g)

/-- The conversion that a converter takes next: the group and the entry; a requested calibration pauses the regular group (R128). -/
def nextConv (s : State) (n : Nat) : Option (Nat × Nat × State) :=
  let v := convAt s n
  if !(convRuns s n) || v.calBusy then none
  else
    match v.injRun with
    | some (g, e, _) => some (g, e, s)
    | none =>
      match v.pend with
      | g :: t => some (g, 0, modConv s n fun v => { v with pend := t, injRun := some (g, 0, 0) })
      | [] =>
        let cont := decide (bits (trigReg s n 0) 0 4 = 1)
        if v.calReq then none
        else if (v.regRun || cont) && decide (groupOf s n 0 ≠ []) then some (0, v.regEntry, s) else none

/-- The settling flags of a conversion (R114), and the converter after it. -/
def convSettle (s : State) (n g : Nat) (c : CchCfg) : Bool × State :=
  let v := convAt s n
  let fresh := v.fresh.contains g
  let mux := decide (v.prevMux ≠ some c.input) || fresh
  let gain := decide (v.prevGain ≠ c.gain)
  let filt := decide (v.prevFilter ≠ c.osr * 2 + b2n (chFIR c))
  let muxLeft := if mux then 2 else v.muxLeft
  let gainLeft := if gain then 6 else v.gainLeft
  let modLeft := if mux || gain || filt then 18 else v.modLeft
  let m := isMod s n
  let st := !s.cnv.refReady || (if m then decide (0 < modLeft) else decide (0 < muxLeft) || decide (0 < gainLeft))
  (st, modConv s n fun v =>
    { v with prevMux := some c.input, prevGain := c.gain, prevFilter := c.osr * 2 + b2n (chFIR c), muxLeft := muxLeft - 1,
             gainLeft := gainLeft - 1, modLeft := modLeft - 1, fresh := v.fresh.filter (· ≠ g),
             dec := if mux || gain || filt then {} else v.dec })

/-- The converter's place after one more result of an entry (R122 to R124). -/
def convAdvance (s : State) (n g e samples : Nat) : State :=
  let len := (groupOf s n g).length
  let v := convAt s n
  if g = 0 then
    if v.regCount + 1 < samples then modConv s n fun v => { v with regCount := v.regCount + 1 }
    else if e + 1 < len then modConv s n fun v => { v with regEntry := e + 1, regCount := 0 }
    else modConv s n fun v => { v with regEntry := 0, regCount := 0, regRun := false }
  else
    let k := match v.injRun with
      | some (_, _, k) => k
      | none => 0
    let s := if k + 1 < samples then modConv s n fun v => { v with injRun := some (g, e, k + 1) }
      else if e + 1 < len then modConv s n fun v => { v with injRun := some (g, e + 1, 0) }
      else modConv s n fun v => { v with injRun := none }
    calPump s n

/-- A converter takes a sample while the reference is not ready: CNV_REF_EARLY, once for each time ON is set (R127). -/
def refEarly (s : State) (n : Nat) : State :=
  if s.cnv.refReady = false ∧ (convAt s n).earlyRaised = false ∧ s.cnv.refSince.isSome = true then
    raise (modConv s n fun v => { v with earlyRaised := true }) .cnvRefEarly 0 n (origin 0x0B n)
  else s

/-- One clock of a converter (R115). -/
def convClk (s : State) (n : Nat) : Nat := (bits (convCfg s n) 8 8 + 1) * cycleU s * 64 / 25

/-- The converter takes the sample of its next conversion, which enters the pipeline with the settings of its entry (R114, R115, R122). -/
def convSample (s : State) (n : Nat) : State :=
  match nextConv s n with
  | none => s
  | some (g, e, s) =>
    match (groupOf s n g)[e]? with
    | none =>
      calPump (modConv s n fun v => if g = 0 then { v with regEntry := 0, regCount := 0, regRun := false } else { v with injRun := none }) n
    | some c =>
      let x := chAt s c
      let (st, s) := convSettle s n g x.cfg
      let s := refEarly s n
      let ck := convClk s n
      let s := modConv s n fun v =>
        let t := Nat.max v.sampleAt (s.time.elapsed - 11 * ck)
        { v with sampleAt := t + ck,
                 pipe := v.pipe ++ [{ chan := c, handle := handleOf s cCCHAN c, entry := 32 * g + e, cfg := x.cfg, settle := st, at_ := t }] }
      convAdvance s n g e x.cfg.samples

/-- The samples that a pipeline converter has taken by now, at most the 11 that its latency holds; an idle one takes its next sample
from now on (R115). -/
def convFill (fuel : Nat) (s : State) (n : Nat) : State :=
  match fuel with
  | 0 => s
  | k + 1 =>
    let v := convAt s n
    if isMod s n ∨ 11 ≤ v.pipe.length ∨ s.time.elapsed < v.sampleAt then s
    else if (nextConv s n).isNone then modConv s n fun v => { v with sampleAt := s.time.elapsed }
    else convFill k (convSample s n) n

/-- The converter's places after entry `p` of group `g` is gone, `len` entries being left: the entry in progress keeps its place in
the pass, and a pass or a run that has no entry left ends (R122, R124). -/
def entryGone (v : Conv) (g p len : Nat) : Conv :=
  let v := if len = 0 then { v with pend := v.pend.filter (· ≠ g) } else v
  if g = 0 then
    let e := if p < v.regEntry then v.regEntry - 1 else v.regEntry
    if e < len then { v with regEntry := e, regCount := if p = v.regEntry then 0 else v.regCount }
    else { v with regEntry := 0, regCount := 0, regRun := false }
  else
    match v.injRun with
    | some (r, e, k) =>
      if r ≠ g then v
      else
        let e' := if p < e then e - 1 else e
        { v with injRun := if e' < len then some (r, e', if p = e then 0 else k) else none }
    | none => v

/-- Removes a channel from its converter's entries: later entries move up (R122). -/
def dropEntry (s : State) (i : Nat) : State :=
  let x := (chAt s i).cfg
  if x.source = 3 then
    let n := physConv s x.unit
    let s := convFill 11 s n
    let l := (groupOf s n x.group).filter (· ≠ i)
    match (groupOf s n x.group).findIdx? (· = i) with
    | some p => calPump (modConv s n fun v => entryGone { v with groups := mput v.groups x.group l } x.group p l.length) n
    | none => s
  else s

/-- A regular pass of the converter is in progress: one that a trigger started, or the endless one of SOURCE 1 (R123, R134). -/
def regPass (s : State) (n : Nat) : Bool :=
  let v := convAt s n
  v.regRun || (bit (convCfg s n) 0 && !retired s 1 n && decide (bits (reg s (0x8010C + 0x40 * n)) 0 4 = 1) && decide (mgetD v.groups 0 [] ≠ []))

/-- A channel takes its entry in a group of its converter: entries stand in the order in which their channels were created, and the
entry in progress moves on when the new one comes before it (R122). -/
def addEntry (s : State) (i : Nat) : State :=
  let x := chAt s i
  let n := physConv s x.cfg.unit
  let s := convFill 11 s n
  let g := x.cfg.group
  let l := insertBy (fun a b => decide ((chAt s a).order < (chAt s b).order)) i (groupOf s n g)
  let p := (l.findIdx? (· = i)).getD 0
  let run := regPass s n
  modConv s n fun v =>
    { v with groups := mput v.groups g l,
             regEntry := if g = 0 ∧ run = true ∧ p ≤ v.regEntry then v.regEntry + 1 else v.regEntry,
             injRun := v.injRun.map fun t => if t.1 = g ∧ p ≤ t.2.1 then (g, t.2.1 + 1, t.2.2) else t }

/-- A channel takes a configuration: its resources, its scale record, its settling count (R104, R105, R114). A change that leaves
filter and stream as they are interrupts no output (R109). -/
def cchanPlace (s : State) (i : Nat) (d : Desc) : State :=
  let c := chCfgOf d
  let sc := scaleOf (pf d 32 32)
  let old := mget s.cchans i
  match old with
  | some x =>
    let keeps := keepsPlace x.cfg c
    let s := if keeps && decide (c.source = 3) then convFill 11 s (physConv s c.unit) else s
    let same := decide (x.cfg.osr = c.osr) && decide (chFIR x.cfg = chFIR c) && decide (x.cfg.input = c.input) &&
      decide (x.cfg.unit = c.unit) && decide (x.cfg.source = c.source)
    let s := if keeps then s else dropEntry s i
    let pair := if keeps then x.pair else (findPair s c).getD x.pair
    let s := modCh s i fun x =>
      { x with cfg := c, scale := sc, pair := pair, since := if same then x.since else s.time.frame,
               settleLeft := if c.source = 3 then x.settleLeft else if same then x.settleLeft else 18,
               dec := if same then x.dec else if keeps && decide (x.cfg.input = c.input) then { x.dec with sincs := [], since := 0 } else {} }
    if !keeps && decide (c.source = 3) then addEntry s i else s
  | none =>
    let pair := (findPair s c).getD 0
    let s := modCnv { s with cchans := mput s.cchans i { cfg := c, scale := sc, pair := pair, since := s.time.frame, order := s.cnv.made,
                                                         settleLeft := if c.source = 3 then 0 else 18 } } fun v => { v with made := v.made + 1 }
    if c.source = 3 then addEntry s i else s

/-- The channel is gone. -/
def cchanGone (s : State) (i : Nat) : State :=
  let s := dropEntry s i
  { s with cchans := mdel s.cchans i }

/-! ### Delivery (R111, R116, R131 to R133) -/

/-- The DMA result word (R131). -/
def resultWord (v : Int) (settle ovr inj : Bool) (tag : Nat) : Nat :=
  un 24 v * 256 + 128 * b2n settle + 64 * b2n ovr + 32 * b2n inj + tag

/-- A word goes to a DMA buffer (R132). A buffer whose CNV_DMA_SIZE still holds 0 has no size and takes nothing; an access that its
registers would direct outside the general range is refused (R482). -/
def dmaPut (s : State) (b w : Nat) : State :=
  let size := reg s (0x80808 + 0x20 * b)
  let lg := bits size 0 5
  if lg = 0 ∨ dramGeneral (reg64 s (0x80800 + 0x20 * b)) (2 ^ lg) = false then s
  else
    let base := reg64 s (0x80800 + 0x20 * b)
    let n := mgetD s.cnv.wcount b 0
    let s := memStore s (base + n % (2 ^ lg / 4) * 4) (leBytes 4 w)
    let n' := (n + 1) % 4294967296
    let s := modCnv s fun c => { c with wcount := mput c.wcount b n' }
    let mark := reg s (0x80810 + 0x20 * b)
    if mark ≠ 0 ∧ n' % mark = 0 ∧ bit size 8 = true then
      raise s .cnvDmaMark 0 (b + n' * 4294967296) (blockOrigin 0x0B)
    else s

/-- An entry goes to the tagged result queue (R133). -/
def tqPut (s : State) (w stamp : Nat) : State :=
  if s.cnv.tq.length < 1024 then modCnv s fun c => { c with tq := c.tq ++ [(w, stamp)] }
  else
    let s := bump s 0x80024
    if s.cnv.tqEpisode then s
    else raise (modCnv s fun c => { c with tqEpisode := true }) .cnvTqOverflow 0 0 (blockOrigin 0x0B)

/-- The oldest entry leaves the tagged result queue (R133). -/
def tqTake (s : State) : Option (Nat × Nat) × State :=
  match s.cnv.tq with
  | [] => (none, s)
  | e :: t => (some e, modCnv s fun c => { c with tq := t, tqEpisode := c.tqEpisode && decide (512 ≤ t.length) })

/-- A channel's value of a result before scaling: OFFSET, GAIN_TRIM, saturation (R107). -/
def scaleValue (sc : Scale) (v : Int) : Int :=
  satS 24 (divFree 23 ((v - sc.offset) * sc.gain) 1073741824)

/-- A result is delivered with the configuration of its sample: the latest-value slot, the consumers that FLAGS selects, CNV_OVR, the
trace (R111, R115, R116, R131). -/
def deliverResult (s : State) (c : Nat) (cfg : CchCfg) (v : Int) (settle ovr inj : Bool) (stamp : Nat) : State :=
  let x := chAt s c
  let w := resultWord v settle ovr inj cfg.tag
  let s := modCh s c fun x =>
    { x with value := v, settle := settle, ovr := ovr, inj := inj, stamp := stamp, have_ := true,
             ovrRaised := x.ovrRaised && ovr, settleLeft := x.settleLeft - 1 }
  let h := handleOf s cCCHAN c
  let s := if ovr && !x.ovrRaised then
      raise (modCh s c fun x => { x with ovrRaised := true }) .cnvOvr h (cfg.tag + w * 4294967296) (oCh s c) else s
  let s := traceFrom s 2 h stamp (b2n settle + 2 * b2n ovr) (fun _ => true) fun _ => (w, 0)
  if chDROP cfg && settle then s
  else
    let s := if bit cfg.flags 3 then tqPut s w stamp else s
    if bit cfg.flags 4 then dmaPut s cfg.dmaBuf w else s

/-! ### Decimators (R107 to R113) -/

/-- One bit into both paths. -/
def decBit (d : DecSt) (b filled : Bool) : DecSt :=
  let v : Int := if b then 1 else -1
  let i1 := d.i1 + v
  let i2 := d.i2 + i1
  let i3 := d.i3 + i2
  let n := d.n + 1
  let run := if d.run = 0 ∨ d.last ≠ b then 1 else d.run + 1
  { d with i1 := i1, i2 := i2, i3 := i3, n := n, last := b, run := run,
           ovrAt := if 32 ≤ run then some n else d.ovrAt, ovrHigh := if 32 ≤ run then b else d.ovrHigh, fillAt := if filled then some n else d.fillAt,
           hist := (b :: d.hist).take 15 }

/-- A sinc3 output at its OSR, saturated into Q1.23 (R107, R109). -/
def decSinc (d : DecSt) (osr : Nat) : DecSt :=
  let y := d.i3 - 3 * d.c1 + 3 * d.c2 - d.c3
  let q := divFree 24 (y * 8388608) ((osr * osr * osr : Nat) : Int)
  let v := satS 24 q
  { d with c1 := d.i3, c2 := d.c1, c3 := d.c2, sincs := (v :: d.sincs).take 32,
           satAt := if v ≠ q then some d.n else d.satAt, ovrHigh := if v ≠ q then decide (0 < q) else d.ovrHigh }

/-- The half-band FIR over the last 32 sinc3 outputs (R109). -/
def decFir (l : List Int) : Int :=
  let n := (List.range 32).foldl (fun a i => a + Config.firTap i * (l.getD i 0)) 0
  let t := (List.range 32).foldl (fun a i => a + Config.firTap i) 0
  if 0 < t then satS 24 (divFree 25 n t) else satS 24 (divFree 25 (-n) (-t))

/-- The window of a precise output in samples (R110, R113). -/
def decWindow (c : CchCfg) : Nat := 3 * c.osr - 2 + (if chFIR c then 31 * c.osr else 0)

/-- The precise output of a decimator: the value, whether a filled sample lies in its window, OVR (R107, R112, R113). An overload
saturates the output at the end of the range that the last saturated sinc3 output or run of equal bits points to (DESIGN CHOICE,
log 30: R113 does not say at which end). -/
def decOut (d : DecSt) (c : CchCfg) : Int × Bool × Bool :=
  let w := decWindow c
  let v := if chFIR c then decFir d.sincs else d.sincs.headD 0
  let inWin (o : Option Nat) (len : Nat) : Bool := match o with
    | some a => decide (d.n + len ≤ a + w)
    | none => false
  let ovr := inWin d.satAt 1 || inWin d.ovrAt 32
  (if ovr then (if d.ovrHigh then 8388607 else -8388608) else v, inWin d.fillAt 1, ovr)

/-- The fast output: sinc2 at OSR 8 over 15 samples, in Q1.23 (R108). -/
def fastOut (hist : List Bool) : Int :=
  let ws : List Int := [1, 2, 3, 4, 5, 6, 7, 8, 7, 6, 5, 4, 3, 2, 1]
  let sum := (ws.zip (hist ++ List.replicate (15 - hist.length) false)).foldl
    (fun (a : Int) e => a + e.1 * (if e.2 then 1 else -1)) 0
  satS 24 (sum * 131072)

/-- Bits of a stream reach a channel; the last has this grid index. -/
def decFeed (s : State) (c : Nat) (bs : List Bool) (g : Nat) : State :=
  modCh s c fun x => { x with dec := { bs.foldl (fun d b => decBit d b false) x.dec with lastG := g } }

/-- A filled sample: sample `k` of its frame, of the zero-mean pattern 0b0101_0101, bit 0 first (R72, R112). -/
def decFillBit (s : State) (c : Nat) (k : Nat) (g : Nat) : State :=
  modCh s c fun x => { x with dec := { decBit x.dec (decide (k % 2 = 0)) true with lastG := g } }

/-- A frame with filled samples is counted, DEC_FILL (R112). -/
def decFilled (s : State) (c : Nat) : State :=
  let x := chAt s c
  let p := physPair s x.pair
  let s := bump s (0x91008 + 0x10 * p)
  raise s .decFill (handleOf s cCCHAN c) (p % 256 + p / 256 * 256 + s.time.frame % 4294967296 * 4294967296) (origin 0x0C p)

/-- The output period of a channel of source 1 or 2 in grid samples, 0 when an input MCLK clocks it (R109). -/
def outPeriod (s : State) (c : CchCfg) : Nat :=
  let f := if chFIR c then 2 else 1
  if c.source = 1 then c.osr * f
  else
    let m := reg s (0x90010 + 4 * c.unit)
    if bit m 0 then c.osr * f * 2 ^ bits m 1 2 else 0

/-- The wall time of the last sample that a head stream or an MDAT stream has taken (R110). DESIGN CHOICE (log 33): that of an MDAT stream
is the boundary's. -/
def chStamp (s : State) (x : Cchan) : Nat :=
  if x.cfg.source = 1 then
    let p := mgetD s.ryl x.cfg.unit {}
    let t : Int := s.time.ptpF - ((s.time.frame : Int) * 64 - (x.dec.lastG * 8 + p.dEpoch : Nat)) * cycleU s
    un 32 (floorDiv t nsU)
  else s.time.wallF

/-- A precise output is delivered with its settling flags (R109, R112, R114). -/
def preciseOut (s : State) (c : Nat) : State :=
  let x := chAt s c
  let (v, filled, ovr) := decOut x.dec x.cfg
  let s := modCh s c fun x => { x with outFrame := some s.time.frame }
  pairUnits (deliverResult s c x.cfg (scaleValue x.scale v) (filled || decide (0 < x.settleLeft)) ovr false (chStamp s x))
    (physPair s x.pair) true

/-- The channels of sources 1 and 2, those of lower tag first (R132). -/
def streamChans (s : State) : List Nat :=
  sortBy (fun a b => decide ((chAt s a).cfg.tag < (chAt s b).cfg.tag))
    (mkeys s.cchans fun i x => decide (x.cfg.source ≠ 3) && isLive s cCCHAN i && serves s 2 (physPair s x.pair))

/-- The three current channels of a joint, when it has exactly three (R130). -/
def sumChans (s : State) (j : Joint) : Option (Nat × Nat × Nat) :=
  match (headChans s j.port j.pos).filter fun c => decide ((chAt s c).scale.kind = 1) with
  | [a, b, c] => some (a, b, c)
  | _ => none

/-- The channels' OSR and FIR settings agree. -/
def sumEqual (s : State) (t : Nat × Nat × Nat) : Bool :=
  let f (c : Nat) : Nat × Bool := ((chAt s c).cfg.osr, chFIR (chAt s c).cfg)
  decide (f t.1 = f t.2.1) && decide (f t.1 = f t.2.2)

/-- The phase sum of a joint at an output instant, the three outputs of which arise in this frame (R130). -/
def sumCheck (s : State) (ji : Nat) (j : Joint) : State :=
  match sumChans s j with
  | none => s
  | some (a, b, c) =>
    let l := [chAt s a, chAt s b, chAt s c]
    if sumEqual s (a, b, c) = false ∨ l.any (fun x => decide (x.outFrame ≠ some s.time.frame)) = true then s
    else
      let clean := l.all fun x => !x.settle && !x.ovr
      let n := isum (l.map fun x => x.value * x.scale.fullScale)
      let far := clean && decide ((reg s 0x80014 : Int) * 8388608 < n.natAbs)
      let run := if far then mgetD s.cnv.sumRun ji 0 + 1 else 0
      let s := modCnv s fun v => { v with sumRun := mput v.sumRun ji run }
      if run = 8 then raise s .cnvSumFail (handleOf s cCCHAN a) (un 32 (satS 32 (divFree 26 n 8388608))) (oCh s a) else s

/-- A grid sample of a stream in a valid cell that a head's position still holds, of either lane. -/
def keptBit (h : Head) (st g : Nat) : Option Bool :=
  h.cells.findSome? fun x =>
    let o : Int := (g : Int) - (if x.lane = 1 then h.sB else h.sA) - 8 * x.frame
    if x.cell.isEmpty ∨ o < 0 ∨ 8 ≤ o then none else some (bit (leNat (takeBytes x.cell st 1)) o.toNat)

/-- The last grid sample of the latest cell of a head: the valid cell whose last sample is newest, on either lane (R167). -/
def latestCell (h : Head) : Nat :=
  (h.cells.filter fun x => !x.cell.isEmpty).foldl (fun n x =>
    Nat.max n (8 * (x.frame : Int) + 7 + (if x.lane = 1 then h.sB else h.sA)).toNat) 0

/-- The position that a head stream's samples come from. -/
def streamHead (s : State) (c : CchCfg) : Head := if c.source = 1 then mgetD (mgetD s.ryl c.unit {}).heads (chPos c) {} else {}

/-- The fast output at a frame boundary: the 8 samples of the latest cell and the 7 before them, from the joined stream and from cells
that are still to be joined (R108, R167). A window with filled samples gives none (R112). -/
def fastAt (s : State) (x : Cchan) : Option (Int × Nat) :=
  let d := x.dec
  let h := streamHead s x.cfg
  let bitAt (g : Nat) : Option Bool := if g ≤ d.lastG then d.hist[d.lastG - g]? else keptBit h (chStream x.cfg) g
  let win (g : Nat) : List (Option Bool) := (List.range 15).map fun i => bitAt (g - i)
  let g := if d.lastG < latestCell h ∧ (win (latestCell h)).all Option.isSome = true then latestCell h else d.lastG
  let filled := match d.fillAt with
    | some a => decide (g + (d.n - a) < d.lastG + 15)
    | none => false
  if chFAST x.cfg && !filled && decide (15 ≤ d.hist.length) then
    some (scaleValue x.scale (fastOut ((win g).map fun b => b.getD false)), g)
  else none

/-- The decimators at a frame boundary: fast outputs, and the precise outputs that are due (R108, R109). -/
def decFrame (s : State) : State :=
  let s := (streamChans s).foldl (fun s c =>
    let x := chAt s c
    let s := modCh s c fun y => { y with fast := fastAt s x }
    let s := if (chAt s c).fast.isSome then pairUnits s (physPair s x.pair) false else s
    let per := outPeriod s x.cfg
    let step := if chFIR x.cfg then per / 2 else per
    if per = 0 ∨ 8 * s.time.frame % step ≠ 0 then s
    else
      let s := modCh s c fun x => { x with dec := decSinc x.dec x.cfg.osr }
      if 8 * s.time.frame % per = 0 ∧ x.since < s.time.frame then preciseOut s c else s) s
  s.joints.foldl (fun s e => sumCheck s e.1 e.2) s

/-- The bits of a local modulator input in the frame that ended (R107, R109). -/
def mdatBits (s : State) (inp prev : FrameIn) (n : Nat) : List Bool :=
  let m := reg s (0x90010 + 4 * n)
  let fall := bit m 3
  if bit m 0 then
    let per := 8 * 2 ^ bits m 1 2
    (List.range (64 / per)).map fun k => pinBit inp.mdat n (k * per + (if fall then per / 2 else 0))
  else
    (List.range 64).filterMap fun c =>
      let now := pinBit inp.mclk n c
      let old := if c = 0 then pinBit prev.mclk n 63 else pinBit inp.mclk n (c - 1)
      if now ≠ old ∧ now = !fall then some (pinBit inp.mdat n c) else none

/-- One bit of a stream that an input MCLK clocks: a sinc3 output arises at every OSR-th bit since the filter was set (R109). -/
def mclkBit (c : CchCfg) (d : DecSt) (b : Bool) : DecSt :=
  let d := { decBit d b false with since := d.since + 1 }
  if d.since % c.osr = 0 then decSinc d c.osr else d

/-- The local modulator inputs take the frame that ended. -/
def mdatFrame (s : State) (inp prev : FrameIn) : State :=
  (mkeys s.cchans fun i x => decide (x.cfg.source = 2) && isLive s cCCHAN i).foldl (fun s i =>
    let x := chAt s i
    let bs := mdatBits s inp prev x.cfg.unit
    if outPeriod s x.cfg = 0 then modCh s i fun x => { x with dec := bs.foldl (mclkBit x.cfg) x.dec }
    else decFeed s i bs (8 * s.time.frame - 1)) s

/-- DEC_MDAT_CFGn has been written: with another clock or edge the pair's stream is a new one, and its outputs are counted anew (R109). -/
def mdatRestart (s : State) (old n : Nat) : State :=
  if reg s (0x90010 + 4 * n) = old then s
  else (mkeys s.cchans fun _ x => decide (x.cfg.source = 2) && decide (x.cfg.unit = n)).foldl (fun s i =>
    modCh s i fun x => { x with dec := { x.dec with since := 0 } }) s

/-- MDAT_MCLK_OUTPUT: an output of an MDAT pair that an input MCLK clocks falls due once enough samples have come (R109); a
pair that no longer serves gives none (R457). -/
def mclkOutput (s : State) (n : Nat) : State :=
  match (mkeys s.cchans fun i x => decide (x.cfg.source = 2) && decide (x.cfg.unit = n) && isLive s cCCHAN i).head? with
  | none => s
  | some i =>
    let x := chAt s i
    let per := x.cfg.osr * (if chFIR x.cfg then 2 else 1)
    if outPeriod s x.cfg = 0 ∧ 0 < per ∧ per ≤ x.dec.since ∧ serves s 2 (physPair s x.pair) = true then
      preciseOut (modCh s i fun x => { x with dec := { x.dec with since := x.dec.since - per } }) i
    else s

/-! ### On-die converters (R117 to R128) -/

/-- Calibration is requested, and the conversions already started are finished (R128). DESIGN CHOICE (log 32): a request that comes while
a calibration runs starts no other and joins it. -/
def calRequest (s : State) (n : Nat) (acc : Option Acc) : State :=
  let s := modConv (convFill 11 s n) n fun v =>
    { v with calReq := v.calReq || !v.calBusy, calAccs := v.calAccs ++ acc.toList }
  calPump s n

/-- CNV_n_CTRL.CAL is written: the block of a retired converter takes no write (R118, R128). -/
def calWrite (s : State) (n : Nat) : State := if retired s 1 n then s else calRequest s n none

/-- A trigger of an injected group (R124, R128). -/
def triggerInj (s : State) (n g : Nat) : State :=
  let v := convAt s n
  let drop (s : State) : State := raise (bump s 0x80028) .injOverrun 0 (n + 256 * g) (origin 0x0B n)
  if v.calReq ∨ v.calBusy then
    if v.latched.contains g then drop s else modConv s n fun v => { v with latched := v.latched ++ [g] }
  else
    let running : Bool := match v.injRun with
      | some (r, _) => decide (r = g)
      | none => false
    if v.pend.contains g ∨ running = true then drop s
    else if groupOf s n g = [] then s
    else modConv s n fun v => { v with pend := insertBy (fun a b => decide (a < b)) g v.pend }

/-- A trigger of the regular group: a group without entries has no pass (R123). -/
def triggerReg (s : State) (n : Nat) : State :=
  if groupOf s n 0 = [] then s
  else if regPass s n then bump s 0x8002C
  else modConv s n fun v => { v with regRun := true, regEntry := 0, regCount := 0 }

/-- A trigger of a group: 0 regular, 1 to 4 injected. -/
def triggerGroup (s : State) (n g : Nat) : State :=
  if !(convRuns s n) then s
  else
    let s := convFill 11 s n
    if g = 0 then triggerReg s n else triggerInj s n g

/-- A software trigger acts for every source but 0 (R134). -/
def softTrigger (s : State) (n g : Nat) : State :=
  let src := bits (trigReg s n g) 0 4
  if src = 0 ∨ src = 14 ∨ src = 15 then s else triggerGroup s n g

/-- Every group whose trigger register satisfies a test is triggered. -/
def triggerWhere (s : State) (p : Nat → Bool) : State :=
  (List.range 9).foldl (fun s n => (List.range 5).foldl (fun s g =>
    if p (trigReg s n g) then triggerGroup s n g else s) s) s

/-- The period triggers of a frame boundary (R125). -/
def frameTriggers (s : State) : State :=
  let f := s.time.frame
  triggerWhere s fun t =>
    match bits t 0 4 with
    | 10 => true
    | 11 => decide (f % 160 = bits t 16 11 % 160)
    | 12 => decide (f % 1280 = bits t 16 11 % 1280)
    | _ => false

/-- An accepted TRGn edge (R125). -/
def trgEdge (s : State) (pin : Nat) (rising : Bool) : State :=
  triggerWhere s fun t =>
    decide (bits t 0 4 = 2 + pin) && bit (bits t 4 2) (if rising then 0 else 1)

/-- The pipeline code of an input in nV at a gain, left-justified in 24 bits, and OVR (R120). -/
def pipeCode (nv : Int) (gain : Nat) : Int × Bool :=
  let c := roundDiv (8192 * (2 ^ gain : Nat) * (nv - 1250000000)) 1250000000
  let v := satS 14 c
  (v * 1024, decide (v ≠ c))

/-- A result of a live converter meets its shadows, once the spare's calibration has ended: 64 results of each entry are
compared, those with SETTLE left out (R442). -/
def convUnits (s : State) (live entry : Nat) (settle : Bool) : State :=
  (shadowsOn s 1 live).foldl (fun s sp =>
    let v := convAt s sp
    if settle || v.calBusy || v.calReq then s else (shadowUnitOf s 1 sp (16 + entry) 64 true).2) s

/-- The oldest conversion leaves the pipeline, and its result is delivered with the tag, gain and flags of the entry that sampled it
(R115, R120). A channel that has been destroyed gets none. -/
def pipeResult (s : State) (n : Nat) (nv : Int) : State :=
  match (convAt s n).pipe with
  | [] => s
  | f :: rest =>
    let s := convUnits (modConv s n fun v => { v with pipe := rest }) n f.entry f.settle
    let (v, ovr) := pipeCode nv f.cfg.gain
    let stamp := un 32 (floorDiv (s.time.ptp - (s.time.elapsed - f.at_ : Nat)) nsU)
    let s := if liveHandle s f.handle then
        deliverResult s f.chan f.cfg (scaleValue (chAt s f.chan).scale v) f.settle ovr (decide (32 ≤ f.entry)) stamp else s
    calPump s n

/-- The decimator of a converter in modulator personality gives its next result (R107, R114, R119). -/
def modResult (s : State) (n : Nat) (mods : List Bool) : State :=
  match nextConv s n with
  | none => s
  | some (g, e, s) =>
    match (groupOf s n g)[e]? with
    | none =>
      calPump (modConv s n fun v => if g = 0 then { v with regEntry := 0, regCount := 0, regRun := false } else { v with injRun := none }) n
    | some c =>
      let x := chAt s c
      let (st, s) := convSettle s n g x.cfg
      let s := refEarly (convUnits s n (32 * g + e) st) n
      let d := mods.foldl (mclkBit x.cfg) (convAt s n).dec
      let s := modConv s n fun v => { v with dec := d }
      let (v, _, ovr) := decOut d x.cfg
      convAdvance (deliverResult s c x.cfg (scaleValue x.scale v) st ovr (decide (g ≠ 0)) (wall32 s)) n g e x.cfg.samples

/-- CNV_RESULT: a result leaves the pipeline or the decimator and is delivered (R115, R116, R120, R122 to R124, R127). `nv` is the
input in nV, `mods` the modulator's bits since its last output. A pipeline that holds nothing has sampled the conversion 11 clocks
before. -/
def convResult (s : State) (n : Nat) (nv : Int) (mods : List Bool) : State :=
  if isMod s n then modResult s n mods
  else pipeResult (if (convAt s n).pipe = [] then convSample s n else s) n nv

/-- The duration of a calibration (R128). -/
def calTime (s : State) (n : Nat) : Nat := if isMod s n then 2 * msU else 520 * usU

/-- CNV_CAL_DONE (R128): the corrections are stored, the latched groups become pending, the regular group restarts, the descriptors
complete. -/
def calDone (s : State) (n : Nat) (inRange : Bool) : State :=
  let v := convAt s n
  if v.calBusy = true ∧ v.calSince + calTime s n ≤ s.time.elapsed then
    let (i, s) := draw s
    let s := modConv s n fun v =>
      { v with calBusy := false, corr := some (Config.freeNat i), calAccs := [], latched := [], regEntry := 0, regCount := 0,
               sampleAt := s.time.elapsed,
               pend := sortBy (fun a b => decide (a < b)) (v.latched.filter fun g => decide (mgetD v.groups g [] ≠ [])),
               fresh := List.range 5 }
    let s := raise s .cnvCalDone 0 (n + 256 * b2n (isMod s n)) (origin 0x0B n)
    let s := if inRange then s else wearInput s 1 n 6
    v.calAccs.foldl (fun s a => complete s a stOK 0 0) s
  else s

/-- The converter has a live channel entry. -/
def hasEntries (s : State) (n : Nat) : Bool := (convAt s n).groups.any fun e => decide (e.2 ≠ [])

/-- CNV_CFG_WRITE (R118, R121, R128). -/
def convCfgWrite (s : State) (n v : Nat) : State :=
  if retired s 1 n then s
  else if hasEntries s n then modConv s n fun x => { x with cfgRefused := true }
  else
    let old := isMod s n
    let s := setReg s (0x80100 + 0x40 * n) (bits v 0 4 + bits v 8 8 * 256)
    let s := modConv s n fun x => { x with cfgRefused := false }
    if isMod s n ≠ old then calRequest s n none else s

/-- CNV_REF_ON is written (R126, R127). -/
def refOnWrite (s : State) (on : Bool) : State :=
  if on then
    if s.cnv.refSince.isSome then s
    else modCnv (setReg s 0x80000 1) fun c =>
      { c with refSince := some s.time.elapsed, convs := c.convs.map fun e => (e.1, { e.2 with earlyRaised := false }) }
  else modCnv (setReg s 0x80000 0) fun c => { c with refSince := none, refReady := false }

/-- CNV_REF_READY, 3 ms after ON (R126). -/
def refReady (s : State) : State :=
  match s.cnv.refSince with
  | some t =>
    if s.cnv.refReady = false ∧ t + 3 * msU ≤ s.time.elapsed then
      (List.range 9).foldl calPump (modCnv s fun c => { c with refReady := true })
    else s
  | none => s

/-! ### Plausibility checks (R129) -/

/-- The physical converter that stands as spare and ready. -/
def standingSpare (s : State) : Option Nat := (sparesReady s 1).head?
/-- The physical converters in service. -/
def convsServing (s : State) : List Nat := (List.range 9).filter fun n => serves s 1 n

/-- The physical converter that a bit of MASK selects, one that is powered. -/
def maskConv (s : State) (b : Nat) : Option Nat :=
  if b = 12 then (standingSpare s).filter (convRuns s)
  else let n := physConv s (b - 4)
       if serves s 1 n && convRuns s n then some n else none

/-- The next converter to be checked, with its bit of MASK. -/
def nextCheck (s : State) : Option (Nat × Nat) :=
  let mask := reg s 0x80010
  let order := (List.range 9).map fun i => 4 + (s.cnv.chkPos - 4 + 1 + i) % 9
  (order.filterMap fun b => if bit mask b then (maskConv s b).map fun n => (b, n) else none).head?

/-- The check partner of a converter (R129): one that is not powered converts nothing, and no check is then taken (log 34). -/
def checkPartner (s : State) (n : Nat) : Option Nat :=
  match standingSpare s with
  | some p => if p = n then (convsServing s).head? else some p
  | none => ((convsServing s).filter (fun m => decide (n < m)) ++ (convsServing s).filter fun m => decide (m < n)).head?

/-- The value that a converter's personality gives a level of AIN_CHK in nV at gain 1, in Q1.23, and OVR (R119, R120). -/
def checkValue (s : State) (n : Nat) (nv : Int) : Int × Bool :=
  if isMod s n then
    let q := divFree 27 ((nv - 1250000000) * 8388608) 1250000000
    (satS 24 q, decide (satS 24 q ≠ q))
  else pipeCode nv 0

/-- CNV_PLAUS_CHECK (R129): both converters convert AIN_CHK, whose levels as each sees it are given in nV; the input is then the one
of their previous conversion (R114). While the reference is not ready both results carry SETTLE and are not judged (R116, R127). -/
def plausCheck (s : State) (nv1 nv2 : Int) : State :=
  let ctl := reg s 0x80010
  let period := s.time.frame / 1280 / 2 ^ bits ctl 1 3
  if bit ctl 0 = false ∨ s.cnv.chkLast = some period then s
  else
    let s := modCnv s fun c => { c with chkLast := some period }
    match nextCheck s with
    | none => s
    | some (b, n) =>
      match checkPartner s n with
      | none => s
      | some p =>
        let busy (m : Nat) : Bool := (convAt s m).calBusy || !convRuns s m
        if busy n ∨ busy p then s
        else
          let s := modCnv s fun c => { c with chkPos := b }
          let seen (v : Conv) : Conv := { v with prevMux := some 16, prevGain := 0 }
          let s := refEarly (refEarly (modConv (modConv s n seen) p seen) n) p
          let (v1, o1) := checkValue s n nv1
          let (v2, o2) := checkValue s p nv2
          let ex := sx 32 (reg s 0x80008)
          let tol : Int := reg s 0x8000C
          let d1 := (v1 - ex).natAbs
          let d2 := (v2 - ex).natAbs
          let d3 := (v1 - v2).natAbs
          let worst := Nat.max d1 (Nat.max d2 d3)
          if s.cnv.refReady = true ∧ (o1 = true ∨ o2 = true ∨ tol < worst) then
            let s := raise s .cnvPlausFail 0 (n + 256 * p + Nat.min worst 8388607 * 65536) (origin 0x0B n)
            let s := wearInput (wearInput s 1 n 5) 1 p 5
            modHlt s fun h => { h with retest := h.retest ++ [n, p] }
          else s

end Sys2Proof.Machine
end

