-- ==== Sys2Proof/Machine/Link.lean ====
section
/-!
DEFINITION. The Ryris link on the receiving side (R68 to R101): checks, scrambling, uplink frames and cells, joining of the lanes,
training and delay measurement, rejoining, service traffic, telemetry, lanes and breaks.
-/
namespace Sys2Proof.Machine

/-! ### Units and checks -/

/-- Units of 0.125 fs in a slot, 1/16 slot, 0.25 ns, a character, a grid sample. -/
def slotQ : Int := 25000000
def subQ : Int := 1562500
def qnsQ : Int := 2000000
def charQ : Int := 12800000
def gridQ : Int := 200000000

/-- CRC-8 of R74: polynomial 0x2F, initial value 0xFF, final XOR 0xFF. -/
def crc8 (l : List Byte) : Nat :=
  Nat.xor 0xFF (l.foldl (fun c b => (List.range 8).foldl (fun c _ => if bit c 7 then Nat.xor ((c * 2) % 256) 0x2F else (c * 2) % 256)
    (Nat.xor c b.toNat)) 0xFF)

/-- CRC-16 of R74: polynomial 0x1021, initial value 0xFFFF. -/
def crc16 (l : List Byte) : Nat :=
  l.foldl (fun c b => (List.range 8).foldl
    (fun c _ => if bit c 15 then Nat.xor ((c * 2) % 65536) 0x1021 else (c * 2) % 65536) (Nat.xor c (b.toNat * 256))) 0xFFFF

/-- One step of the scrambler (R73). -/
def lfsrStep (l : Nat) : Nat :=
  let fb := Bool.xor (Bool.xor (bit l 15) (bit l 4)) (Bool.xor (bit l 3) (bit l 2))
  (l * 2 + b2n fb) % 65536

/-- The scrambler over the characters from byte 1 up; it is its own inverse (R73). -/
def scramble (l : List Byte) : List Byte :=
  (l.foldl (fun (acc : List Byte × Nat) b =>
    let (k, r) := (List.range 8).foldl (fun (a : Nat × Nat) i => (a.1 + b2n (bit a.2 15) * 2 ^ i, lfsrStep a.2)) (0, acc.2)
    (acc.1 ++ [BitVec.ofNat 8 (Nat.xor b.toNat k)], r)) ([], 0xFFFF)).1

/-! ### Records -/

def portAt (s : State) (p : Nat) : RPort := mgetD s.ryl p {}
def modPort (s : State) (p : Nat) (f : RPort → RPort) : State := { s with ryl := mput s.ryl p (f (portAt s p)) }
def headAt (s : State) (p c : Nat) : Head := mgetD (portAt s p).heads c {}
def modHead (s : State) (p c : Nat) (f : Head → Head) : State :=
  modPort s p fun x => { x with heads := mput x.heads c (f (mgetD x.heads c {})) }
def laneOf (x : RPort) (b : Bool) : RLane := if b then x.b else x.a
def modLane (s : State) (p : Nat) (b : Bool) (f : RLane → RLane) : State :=
  modPort s p fun x => if b then { x with b := f x.b } else { x with a := f x.a }

/-- RYL_CTRL of a port. -/
def rylCtrl (s : State) (p : Nat) : Nat := reg s (0x60000 + 0x1000 * p)
/-- The lane is enabled and not retired (R98). -/
def laneOn (s : State) (p : Nat) (b : Bool) : Bool :=
  bit (rylCtrl s p) (if b then 3 else 2) && !(laneOf (portAt s p) b).retired
/-- The port sends frames: neither OFF nor FAIL (R85). -/
def portSends (x : RPort) : Bool := decide (x.st ≠ 0) && decide (x.st ≠ 6)

/-- The joint bound to a head position (R102). -/
def headJoint (s : State) (p c : Nat) : Option Nat :=
  (mkeys s.joints fun i j => decide (j.port = p) && decide (j.pos = c) && isLive s cJOINT i).head?
/-- An event about a head (R102, R471). -/
def raiseHead (s : State) (e : Event) (p c more : Nat) : State :=
  raise s e (handleOf? s cJOINT (headJoint s p c)) (p + 256 * c + 65536 * more) (origin 0x0A (8 * p + c - 1))
/-- An event about a port. -/
def raisePort (s : State) (e : Event) (p more : Nat) : State := raise s e 0 (p + 65536 * more) (origin 0x08 p)
/-- An event about a lane. -/
def raiseLane (s : State) (e : Event) (p : Nat) (b : Bool) : State :=
  raise s e 0 (p + 65536 * b2n b) (origin 0x09 (2 * p + b2n b))

/-! ### Service traffic (R89, R90) -/

/-- A request joins the port's queue. -/
def svcAsk (s : State) (p : Nat) (r : SvcReq) : State := modPort s p fun x => { x with queue := x.queue ++ [r] }
def svcRead (s : State) (p c reg_ : Nat) (u : SvcFor) : State :=
  svcAsk s p { dest := c, op := 1, reg := reg_, data := 0, mask := 0, use := u }
def svcWrite (s : State) (p c reg_ v : Nat) (u : SvcFor) : State :=
  svcAsk s p { dest := c, op := 2, reg := reg_, data := v, mask := 0xFFFFFFFF, use := u }

/-- The 16 bytes of a request (R89). -/
def svcBytes (r : SvcReq) (tag : Nat) : List Byte :=
  leBytes 1 r.dest ++ leBytes 1 r.op ++ leBytes 1 tag ++ [0] ++ leBytes 2 r.reg ++ leBytes 4 r.data ++ leBytes 4 r.mask ++ [0, 0]

/-- The request that leaves in a request frame, if any: the frame's number names the measured frame of a STAMP (R85, R89). -/
def svcSend (s : State) (p : Nat) : Option (List Byte) × State :=
  let ts := s.time.frame % 160
  let x := portAt s p
  if ts % 16 ≠ 0 then (none, s)
  else
    match x.queue with
    | [] => (none, s)
    | r :: q =>
      let (k, s) := draw s
      let fn := (s.time.frame + 1 + Config.freeNat k % 15) % 65536
      let r := if r.op = 3 then { r with data := fn } else r
      let tag := (x.tag + 1) % 256
      let s := modPort s p fun x =>
        { x with queue := q, tag := tag, stampFn := if r.op = 3 then fn else x.stampFn,
                 sent := if r.dest = 15 then x.sent
                         else x.sent ++ [{ req := r, tag := tag, tick := s.time.frame / 160, j := ts / 16 }] }
      (some (svcBytes r tag), s)

/-- A RYL_HEAD_ACCESS that has no reply (R403). -/
def accessFails (s : State) (r : SvcReq) : State :=
  match r.use with
  | .access a => complete s a stBUSY 0 (det12 0 0xFF)
  | _ => s

/-- The port stops sending: what it was doing ends (R85). -/
def portStop (s : State) (p st cause : Nat) : State :=
  let x := portAt s p
  let s := modPort s p fun x =>
    { x with st := st, failCause := cause, queue := [], sent := [], setRun := none,
             a := { x.a with up := false, good := 0, bad := 0, got := false, origin := none, idle := true },
             b := { x.b with up := false, good := 0, bad := 0, got := false, origin := none, idle := true } }
  (x.queue ++ x.sent.map fun e => e.req).foldl accessFails s

/-- Training fails (R85). -/
def trainFail (s : State) (p cause : Nat) : State := raisePort (portStop s p 6 cause) .rylTrainFail p cause

/-- Training fails where the table names no cause: the cause shown is free. -/
def trainFailFree (s : State) (p : Nat) : State :=
  let (k, s) := draw s
  trainFail s p (Config.freeNat k % 8)

/-! ### Training (R85, R86) -/

/-- Every region that has a joint on the port is SAFE_OFF or EMPTY (R86). -/
def portSafe (s : State) (p : Nat) : Bool :=
  (mkeys s.joints fun i j => decide (j.port = p) && isLive s cJOINT i).all fun j =>
    match jointRegion s j with
    | some r => decide (regionSt s r = .safeOff ∨ regionSt s r = .empty)
    | none => true

/-- RYL_CTRL.TRAIN is written 1 (R85, R86). -/
def train (s : State) (p : Nat) : State :=
  let x := portAt s p
  if portSafe s p = false then modPort s p fun x => { x with refused := true }
  else if bit (rylCtrl s p) 0 = false then modPort s p fun x => { x with refused := false }
  else if x.st = 0 ∨ x.st = 5 ∨ x.st = 6 then
    let s := portStop s p 1 0
    modPort s p fun x =>
      { x with refused := false, since := s.time.elapsed, present := [], broken := false, breakSeg := 15, round := 0, stamps := [],
               dEpoch := 0, a := { retired := x.a.retired }, b := { retired := x.b.retired },
               heads := x.heads.map fun e => (e.1, ({ table := e.2.table, jobs := e.2.jobs, cal := e.2.cal } : Head)) }
  else modPort s p fun x => { x with refused := false }

/-- RYL_CTRL.EN is written (R101). -/
def enWrite (s : State) (p : Nat) (en : Bool) : State :=
  let s := setReg s (0x60000 + 0x1000 * p) (setBit (rylCtrl s p) 0 en)
  if en then s else portStop s p 0 0

/-- The median of a list, the mean of the two middle values of an even count. Doubled. -/
def median2 (l : List Int) : Int :=
  let l := sortBy (fun a b => decide (a < b)) l
  let n := l.length
  l.getD ((n - 1) / 2) 0 + l.getD (n / 2) 0

/-- The lanes that take part in the measurement. -/
def measLanes (s : State) (p : Nat) : List Bool := [false, true].filter fun b => laneOn s p b

/-- A round of MEASURE begins: STAMP, then the values of every head and lane. -/
def measRound (s : State) (p : Nat) : State :=
  let x := portAt s p
  let s := svcAsk s p { dest := 15, op := 3, reg := 0, data := 0, mask := 0, use := .stamp x.round }
  (measLanes s p).foldl (fun s b => x.present.foldl (fun s c =>
    svcRead s p c (if b then 0x14 else 0x10) (.meas x.round c (b2n b))) s) s

/-- No request of a kind is waiting or unanswered. -/
def noSvc (x : RPort) (k : SvcFor → Bool) : Bool := !(x.queue.any fun r => k r.use) && !(x.sent.any fun e => k e.req.use)

/-- Fewer than both lanes are up on a port with no retired lane (R85, R98). -/
def oneLaneUp (x : RPort) : Bool := !(x.a.up && x.b.up) && !x.a.retired && !x.b.retired

/-- ENUMERATE ends once every identity has been read or has failed (R85). Where a present position has not been read although the count
agrees, training cannot go on and fails, and the cause is free, as the table names none (log 86). -/
def enumDone (s : State) (p : Nat) : State :=
  let x := portAt s p
  let isIdent (u : SvcFor) : Bool := match u with
    | .ident _ _ => true
    | _ => false
  if x.st ≠ 2 ∨ noSvc x isIdent = false then s
  else
    let readHeads := x.present.filter fun c => decide ((headAt s p c).idents.length = 4)
    if readHeads.length ≠ bits (rylCtrl s p) 4 4 then trainFail s p 2
    else if readHeads.length ≠ x.present.length ∨ x.present = [] then trainFailFree s p
    else if readHeads.any (fun c => decide ((headAt s p c).rev % 256 ≠ 1)) then trainFail s p 3
    else
      let s := modPort s p fun x => { x with st := 3, present := readHeads, round := 0, stamps := [], a := { x.a with laps := [] },
                                             b := { x.b with laps := [] } }
      if oneLaneUp x then trainFail s p 4 else measRound s p

/-- ENUMERATE begins: the positions with valid cells are asked for their identity; it ends at once where there is none
(R85). -/
def enumerate (s : State) (p : Nat) : State :=
  let x := portAt s p
  let pres := (List.range 8).filterMap fun i => if x.a.cells.contains (i + 1) || x.b.cells.contains (i + 1) then some (i + 1) else none
  let s := modPort s p fun x => { x with st := 2, present := pres }
  let s := pres.foldl (fun s c => modHead s p c fun h => { h with idents := [] }) s
  enumDone (pres.foldl (fun s c => (List.range 4).foldl (fun s k => svcRead s p c (4 * k) (.ident c k)) s) s) p

/-- f_d and f_u of a HEAD_TIMING, in units (R100). -/
def fdOf (t : Nat) : Int := bits t 0 8 * qnsQ
def fuOf (t : Nat) : Int := bits t 8 8 * qnsQ

/-- The positions of a lane in the order in which it reaches them (R69). -/
def chainOf (x : RPort) (b : Bool) : List Nat := if b then x.present.reverse else x.present

/-- The median Δ of a head on a lane, in units. -/
def deltaOf (x : RPort) (c : Nat) (b : Bool) : Int :=
  let l := (List.range 16).filterMap fun r => (mget x.stamps (r * 64 + c * 2 + b2n b)).map fun v => (v : Int)
  median2 l * slotQ / 2

/-- d and u of every head of a lane (R86). -/
def laneDelays (s : State) (p : Nat) (b : Bool) : List (Nat × Int × Int) :=
  let x := portAt s p
  let lap := (laneOf x b).lap
  let go := (chainOf x b).foldl (fun (acc : List (Nat × Int × Int) × Option (Nat × Int)) c =>
    let dl := deltaOf x c b
    let d := match acc.2 with
      | none => (lap - dl) / 2
      | some (q, dq) =>
        let t := (headAt s p q).timing
        dq + fdOf t + (deltaOf x q b - dl - fdOf t - fuOf t) / 2
    (acc.1 ++ [(c, d, d + dl)], some (c, d))) ([], none)
  go.1

/-- EPOCH_X, UPASS_X and S_X of a head (R86), each saturated to its field (R9, R100). -/
def epochOf (de : Nat) (d : Int) : Int := clampI (roundDiv (de * slotQ - d) slotQ) 0 65535
def upassOf (de : Nat) (u : Int) : Int := satS 16 (roundDiv (u - de * slotQ) slotQ)
def windowOf (de c : Nat) (u : Int) : Int :=
  satS 8 (floorDiv (u + charQ * (4 + 14 * ((c : Int) - 1)) - 400000000 - de * slotQ) gridQ - 7)

/-- The writes that set up a head: EPOCH_A/B, WINDOW, UPASS, HCTRL (R85, R88, R100). DESIGN CHOICE (log 86): the halves of WINDOW and
UPASS that belong to a retired lane are computed from the values last held for it, or 0. -/
def headSetup (s : State) (p c : Nat) (u : SvcFor) : State :=
  let x := portAt s p
  let h := headAt s p c
  let s := if x.a.retired then s else svcWrite s p c 0x18 (un 16 (epochOf x.dEpoch h.dA)) u
  let s := if x.b.retired then s else svcWrite s p c 0x1C (un 16 (epochOf x.dEpoch h.dB)) u
  let s := svcWrite s p c 0x20 (un 8 h.sA + un 8 h.sB * 256) u
  let s := svcWrite s p c 0x24 (un 16 (upassOf x.dEpoch h.uA) + un 16 (upassOf x.dEpoch h.uB) * 65536) u
  svcWrite s p c 0x28 (1 + p * 16) u

/-- The values of R86 are computed and the heads set up (R85). -/
def measCompute (s : State) (p : Nat) : State :=
  let x := portAt s p
  let lanes := measLanes s p
  if oneLaneUp x then trainFail s p 4
  else if lanes.any fun b => (laneOf x b).laps.length < 16 then trainFailFree s p
  else
    let s := lanes.foldl (fun s b => modLane s p b fun l => { l with lap := median2 (l.laps.map fun v => (v : Int)) * subQ / 2 }) s
    let all := lanes.map fun b => (b, laneDelays s p b)
    let worst := all.foldl (fun (m : Int) e => e.2.foldl (fun (m : Int) h =>
      let v := h.2.1 + charQ * (6 + 12 * h.1) + 240000000
      if m < v then v else m) m) 0
    let de := Nat.max (bits (reg s (0x6000C + 0x1000 * p)) 0 16) ((-(floorDiv (-worst) slotQ)) + 2).toNat
    if 640 < de then trainFail s p 5
    else
      let s := modPort s p fun x => { x with dEpoch := de, st := 4, setRun := none }
      let s := all.foldl (fun s e => e.2.foldl (fun s h => modHead s p h.1 fun y =>
        if e.1 then { y with dB := h.2.1, uB := h.2.2, sB := windowOf de h.1 h.2.2 }
        else { y with dA := h.2.1, uA := h.2.2, sA := windowOf de h.1 h.2.2 }) s) s
      x.present.foldl (fun s c => headSetup s p c (.setup c)) s

/-- A round of MEASURE ends once its values have been read. -/
def measDone (s : State) (p : Nat) : State :=
  let x := portAt s p
  let isMeas (u : SvcFor) : Bool := match u with
    | .meas _ _ _ => true
    | _ => false
  if x.st ≠ 3 ∨ noSvc x isMeas = false then s
  else
    let want := x.present.length * (measLanes s p).length
    let have_ := (x.stamps.filter fun e => decide (e.1 / 64 = x.round)).length
    if have_ < want then trainFailFree s p
    else if x.round < 15 then measRound (modPort s p fun x => { x with round := x.round + 1 }) p
    else measCompute s p

/-! ### Rejoining (R88) -/

/-- The expected Δ of a reappeared head on a lane, in units: the trained one, with the new head's own delays. -/
def expectDelta (s : State) (p c : Nat) (b : Bool) : Int :=
  let x := portAt s p
  let h := headAt s p c
  let trained := if b then h.uB - h.dB else h.uA - h.dA
  if (chainOf x b).getLast? = some c then
    trained + (bits h.rejTiming 24 8 : Int) * qnsQ - (bits h.timing 24 8 : Int) * qnsQ
  else trained + fdOf h.rejTiming + fuOf h.rejTiming - fdOf h.timing - fuOf h.timing

/-- The age of a head's cell on a lane (R84), in units. -/
def cellAge (x : RPort) (h : Head) (c : Nat) (b : Bool) : Int :=
  (laneOf x b).lap + charQ * (4 + 14 * ((c : Int) - 1)) - x.dEpoch * slotQ - gridQ * ((if b then h.sB else h.sA) + 7)

/-- The lane reaches a ring position: lane A those up to its end head, lane B those from its end head on, as the lanes' ORIGINs name it
(R69, R97). -/
def laneReaches (x : RPort) (c : Nat) (b : Bool) : Bool :=
  let l := laneOf x b
  l.up && !l.retired && match l.origin with
    | some e => if b then decide (e ≤ c) else decide (c ≤ e)
    | none => true

/-- The primary lane of a head: of the lanes that reach it the one whose cell is younger, lane A on a tie (R84, R98); a head that a break
cuts off from its primary lane goes to the other. -/
def primaryLane (x : RPort) (c : Nat) : Bool :=
  if x.a.retired then true
  else if x.b.retired then false
  else if laneReaches x c false ≠ laneReaches x c true then laneReaches x c true
  else let h := mgetD x.heads c {}
       decide (cellAge x h c true < cellAge x h c false)

/-- The window offset of a head's primary lane (R83, R84). -/
def primaryWindow (x : RPort) (c : Nat) : Int :=
  let h := mgetD x.heads c {}
  if primaryLane x c then h.sB else h.sA

/-- The streams of a head begin with the frame that begins (R84): its frames are judged and its samples joined from there on. -/
def headBegins (s : State) (p c : Nat) : State :=
  let f := s.time.frame
  modHead s p c fun h => { h with missRun := 0, dueM := f, cells := [], nextG := (8 * f + max (primaryWindow (portAt s p) c) 0).toNat }

/-- The delays of a position that was absent at training, whose expected Δ no rule gives: a free Δ in slots, and R86's formulas from the
head before it in the chain (DESIGN CHOICE, log 86). -/
def untrained (s : State) (p c : Nat) (b : Bool) : State :=
  let (k, s) := draw s
  let x := portAt s p
  let dl : Int := (Config.freeNat k % 65536 : Nat) * slotQ
  let before := (chainOf x b).takeWhile fun q => if b then decide (c < q) else decide (q < c)
  let d : Int := match before.getLast? with
    | none => ((laneOf x b).lap - dl) / 2
    | some q =>
      let h := headAt s p q
      let (dq, uq) := if b then (h.dB, h.uB) else (h.dA, h.uA)
      dq + fdOf h.timing + (uq - dq - dl - fdOf h.timing - fuOf h.timing) / 2
  modHead s p c fun h =>
    if b then { h with dB := d, uB := d + dl, sB := windowOf x.dEpoch c (d + dl) }
    else { h with dA := d, uA := d + dl, sA := windowOf x.dEpoch c (d + dl) }

/-- A reply of the rejoin has come; when it was the last of its kind the next step follows (R88). DESIGN CHOICE (log 86): after
RYL_REJOIN_FAIL the head stays OFF until the port is trained anew. -/
def rejoinStep (s : State) (p c : Nat) : State :=
  let x := portAt s p
  let h := headAt s p c
  let busy (u : SvcFor) : Bool := match u with
    | .rejIdent q _ => decide (q = c)
    | .rejStamp q => decide (q = c)
    | .rejMeas q _ => decide (q = c)
    | .rejSet q => decide (q = c)
    | _ => false
  if h.rejoin = 0 ∨ noSvc x busy = false then s
  else if h.rejoin = 1 then
    if h.rejWorst ≤ 2 * slotQ then headSetup (modHead s p c fun h => { h with rejoin := 2 }) p c (.rejSet c)
    else raiseHead (modHead s p c fun h => { h with rejoin := 0, off := true, timed := false }) .rylRejoinFail p c
      (un 48 (divFree 30 h.rejWorst slotQ))
  else
    let s := modPort s p fun x => { x with present := insertBy (fun a b => decide (a < b)) c (x.present.filter (· ≠ c)) }
    raiseHead (headBegins (modHead s p c fun h => { h with rejoin := 0, timed := true, lost := false, off := false, timing := h.rejTiming })
      p c) .rylRejoin p c h.id

/-- The steps of a rejoin are requested: identity, STAMP, Δ on each reachable lane. -/
def rejoinStart (s : State) (p c : Nat) : State :=
  let h := headAt s p c
  let s := if (portAt s p).present.contains c then s else untrained (untrained s p c false) p c true
  let s := modHead s p c fun h => { h with rejoin := 1, timed := false, rejWorst := 0, rejTiming := h.timing }
  let s := (List.range 4).foldl (fun s k => svcRead s p c (4 * k) (.rejIdent c k)) s
  let s := svcAsk s p { dest := c, op := 3, reg := 0, data := 0, mask := 0, use := .rejStamp c }
  let s := if laneOn s p false && h.aValid then svcRead s p c 0x10 (.rejMeas c 0) else s
  if laneOn s p true && h.bValid then svcRead s p c 0x14 (.rejMeas c 1) else s

/-- A rejoin that lacks one of its replies is given up; the head's next valid cell begins another. -/
def rejoinDrops (s : State) (p c : Nat) : State := modHead s p c fun h => { h with rejoin := 0 }

/-- The request belongs to a head's rejoin. -/
def rejoinUse (c : Nat) (u : SvcFor) : Bool :=
  match u with
  | .check q => decide (q = c)
  | .rejIdent q _ => decide (q = c)
  | .rejStamp q => decide (q = c)
  | .rejMeas q _ => decide (q = c)
  | .rejSet q => decide (q = c)
  | _ => false

/-- An identity register of a head. -/
def setIdent (h : Head) (k v : Nat) : Head :=
  let h := { h with idents := if h.idents.contains k then h.idents else h.idents ++ [k] }
  match k with
  | 0 => { h with id := v }
  | 1 => { h with rev := v }
  | 2 => { h with caps := v }
  | _ => { h with timing := v }

/-- A good reply (R90). -/
def svcReply (s : State) (p : Nat) (e : SvcSent) (status v : Nat) : State :=
  let s := modPort s p fun x => { x with sent := x.sent.filter (· ≠ e) }
  match e.req.use with
  | .access a => complete s a stOK 0 (det12 v status)
  | .ident c k => enumDone (if status = 0 then modHead s p c fun h => setIdent h k v else s) p
  | .stamp _ => s
  | .meas r c l =>
    let ok := decide (status = 0) && decide (v / 65536 = (portAt s p).stampFn)
    measDone (if ok then modPort s p fun x => { x with stamps := mput x.stamps (r * 64 + c * 2 + l) (v % 65536) } else s) p
  | .setup _ => if status ≠ 0 ∧ (portAt s p).st = 4 then trainFail s p 6 else s
  | .check c =>
    if status ≠ 0 then rejoinDrops s p c
    else if bit v 0 && (portAt s p).present.contains c then headBegins (modHead s p c fun h => { h with lost := false, rejoin := 0 }) p c
    else rejoinStart s p c
  | .rejIdent c k =>
    if status ≠ 0 then rejoinDrops s p c
    else
      let s := modHead s p c fun h => if k = 3 then { h with rejTiming := v } else setIdent h k v
      rejoinStep s p c
  | .rejStamp c => if status ≠ 0 then rejoinDrops s p c else rejoinStep (modHead s p c fun h => { h with rejFn := e.req.data }) p c
  | .rejMeas c l =>
    if status ≠ 0 ∨ v / 65536 ≠ (headAt s p c).rejFn then rejoinDrops s p c
    else
      let e : Int := (v % 65536 : Nat) * slotQ - expectDelta s p c (l = 1)
      rejoinStep (modHead s p c fun h => { h with rejWorst := if h.rejWorst < e.natAbs then e.natAbs else h.rejWorst }) p c
  | .rejSet c => if status ≠ 0 then rejoinDrops s p c else rejoinStep s p c

/-- RYL_SVC_TIMEOUT: a reply that is missing or bad is asked for again, and after 3 retries given up (R90). -/
def svcTimeout (s : State) (p j : Nat) : State :=
  match (portAt s p).sent.find? fun e => decide (e.j = j) with
  | none => s
  | some e =>
    let x := portAt s p
    let lap := Nat.max (x.a.lap.toNat) x.b.lap.toNat / slotQ.toNat / 64
    let due := (e.tick + 1) * 160 + 8 * j + 8 + lap + 2
    if e.bad = false ∧ s.time.frame < due then s
    else
      let s := modPort s p fun x => { x with sent := x.sent.filter (· ≠ e) }
      if e.req.tries < 3 then
        bump (modPort s p fun x => { x with queue := { e.req with tries := e.req.tries + 1 } :: x.queue }) (0x6001C + 0x1000 * p)
      else
        let s := raiseHead s .rylSvcTimeout p e.req.dest (e.tag + 256 * e.req.op)
        match e.req.use with
        | .access a => complete s a stBUSY 0 (det12 0 0xFF)
        | .ident _ _ => enumDone s p
        | .meas _ _ _ => measDone s p
        | .setup _ => if x.st = 4 then trainFail s p 6 else s
        | .check c => rejoinDrops s p c
        | .rejIdent c _ => rejoinDrops s p c
        | .rejStamp c => rejoinDrops s p c
        | .rejMeas c _ => rejoinDrops s p c
        | .rejSet c => rejoinDrops s p c
        | .stamp _ => s

/-- A TEL byte of frame `m` (R90): a reply is judged at its eighth byte, the telemetry block at its last. -/
def telByte (s : State) (p c m : Nat) (b : Byte) : State :=
  let ts := m % 160
  let s := modHead s p c fun h =>
    { h with tel := mput (if h.telTick = m / 160 then h.tel else []) ts b.toNat, telTick := m / 160 }
  let h := headAt s p c
  let run (a n : Nat) : Option (List Byte) :=
    let l := (List.range n).filterMap fun i => mget h.tel (a + i)
    if l.length = n then some (l.map fun v => BitVec.ofNat 8 v) else none
  if ts = 159 then
    match run 80 80 with
    | some l => if leNat (l.drop 78) = crc16 (l.take 78) then modHead s p c fun h => { h with block := l } else s
    | none => s
  else if ts < 80 ∧ ts % 8 = 7 then
    match (portAt s p).sent.find? fun e => decide (e.j = ts / 8) && decide (e.tick + 1 = m / 160) && decide (e.req.dest = c) with
    | none => s
    | some e =>
      match run (ts - 7) 8 with
      | none => s
      | some l =>
        if leNat (l.drop 6) = crc16 (l.take 6) ∧ leNat (l.take 1) = e.tag then
          svcReply s p e (leNat (takeBytes l 1 1)) (leNat (takeBytes l 2 4))
        else modPort s p fun x => { x with sent := x.sent.map fun y => if y = e then { y with bad := true } else y }
  else s

/-! ### Cells (R79, R83, R84, R96) -/

/-- The elapsed time of a grid sample of a port's heads: H_n + 25 ns · i (R83). -/
def gridElapsed (s : State) (p g : Nat) : Nat :=
  ((s.time.elapsedF : Int) + ((g * 8 + (portAt s p).dEpoch : Nat) - (s.time.frame * 64 : Nat) : Int) * cycleU s).toNat
def gridWall (s : State) (p g : Nat) : Nat :=
  un 32 (floorDiv (s.time.ptpF + ((g * 8 + (portAt s p).dEpoch : Nat) - (s.time.frame * 64 : Nat) : Int) * cycleU s) nsU)

/-- The head's cells feed its streams: the port is READY, the head present, timed and not lost. -/
def headLive (s : State) (p c : Nat) : Bool :=
  let x := portAt s p
  let h := headAt s p c
  decide (x.st = 5) && x.present.contains c && h.timed && !h.lost

/-- What is known of a grid sample on one lane: still to come, or missing for good, or the cell that carries it and its place there
(R83, R84). Frames below `past` have been judged. -/
def laneSample (s : State) (p c : Nat) (b : Bool) (g past : Nat) : Option (Option (List Byte × Nat)) :=
  let h := headAt s p c
  let o : Int := g - (if b then h.sB else h.sA)
  let m := floorDiv o 8
  if !(laneOn s p b) then some none
  else
    match h.cells.find? fun x => decide ((x.frame : Int) = m) && decide (x.lane = b2n b) with
    | some x => if x.cell.isEmpty then some none else some (some (x.cell, (o - 8 * m).toNat))
    | none => if m < past then some none else none

/-- A grid sample joined from both lanes: the primary lane's copy, and the other's where that one is missing (R84). -/
def gridSample (s : State) (p c g past : Nat) : Option (Option (List Byte × Nat)) :=
  let b := primaryLane (portAt s p) c
  match laneSample s p c b g past with
  | some none => laneSample s p c (!b) g past
  | r => r

/-- One grid sample goes to the head's streams: conversion channels and the feedback channel (R84, R112, R140, R144). -/
def feedSample (s : State) (p c g : Nat) (r : Option (List Byte × Nat)) : State :=
  let fb := fbOfDecoder s (8 * p + c - 1)
  let t := gridElapsed s p g
  let w := gridWall s p g
  match r with
  | some (cell, i) =>
    let byte (k : Nat) : Nat := leNat (takeBytes cell k 1)
    let s := (headChans s p c).foldl (fun s ch => decFeed s ch [bit (byte (chStream (chAt s ch).cfg)) i] g) s
    match fb with
    | none => s
    | some f => fbFeed s f ((List.range 6).foldl (fun a k => a + b2n (bit (byte (4 + k)) i) * 2 ^ k) 0) (bit (byte 11) i) g t w
  | none =>
    let k := (((g : Int) - primaryWindow (portAt s p) c) % 8).toNat
    let s := (headChans s p c).foldl (fun s ch => decFillBit s ch k g) s
    match fb with
    | none => s
    | some f => fbMiss s f g t w

/-- The samples that can be joined are, in grid order, without a gap (R84); whether any of them was missing. -/
def joinSamples (fuel : Nat) (s : State) (p c : Nat) (filled : Bool) : State × Bool :=
  match fuel with
  | 0 => (s, filled)
  | k + 1 =>
    let h := headAt s p c
    match gridSample s p c h.nextG h.dueM with
    | none => (s, filled)
    | some r =>
      joinSamples k (modHead (feedSample s p c h.nextG r) p c fun h => { h with nextG := h.nextG + 1 }) p c (filled || r.isNone)

/-- The copies that are still needed: those with samples to join, and those of frames to judge. -/
def pruneCells (h : Head) : Head :=
  { h with cells := h.cells.filter fun x =>
      decide (h.dueM ≤ x.frame) || decide ((h.nextG : Int) ≤ 8 * x.frame + 7 + (if x.lane = 1 then h.sB else h.sA)) }

/-- A head's streams take what can be joined; a frame with missing samples counts as filled (R112). -/
def joinHead (s : State) (p c : Nat) : State :=
  let (s, filled) := if headLive s p c then joinSamples 64 s p c false else (s, false)
  let s := modHead s p c pruneCells
  if filled then (headChans s p c).foldl decFilled s else s

/-- The STATUS byte of frame `m` from valid copies of its cell: each bit active where it is active in either one (R84, R102). -/
def headStatus (s : State) (p c m : Nat) (copies : List (List Byte)) : State :=
  let h := headAt s p c
  if copies.isEmpty || decide (m < h.statusFrame) then s
  else
  let v := copies.foldl (fun v x => Nat.lor v (leNat (takeBytes x 10 1))) (if h.statusFrame = m then h.status else 0)
  let s := modHead s p c fun h => { h with status := v, statusFrame := m }
  let rose (k : Nat) : Bool := bit v k && !bit h.status k
  let s := if rose 5 then raiseHead s .rylDesat p c v else s
  let s := if rose 4 then raiseHead s .rylOvertemp p c v else s
  let s := if rose 6 then raiseHead s .rylBusUv p c v else s
  if rose 3 then raiseHead s .rylStoActive p c v else s

/-- A copy of frame `m` on a lane is kept for joining and judging on a READY port; an invalid one without its bytes (R84, R96). -/
def keepCell (s : State) (p c m : Nat) (b : Bool) (cell : List Byte) : State :=
  if (portAt s p).st = 5 then modHead s p c fun h => { h with cells := h.cells ++ [{ frame := m, lane := b2n b, cell := cell }] } else s

/-- The valid copies of frame `m` that are held. -/
def validCopies (s : State) (p c m : Nat) : List (List Byte) :=
  ((headAt s p c).cells.filter fun x => decide (x.frame = m) && !x.cell.isEmpty).map fun x => x.cell

/-- A copy of frame `m` has come on every lane that can bring one. -/
def copiesIn (s : State) (p c m : Nat) : Bool :=
  (measLanes s p).all fun b => (headAt s p c).cells.any fun x => decide (x.frame = m) && decide (x.lane = b2n b)

/-- A valid cell of frame `m` on a lane (R84, R96): its TEL bytes count at once; a head that is lost, or that was absent at
training, begins to rejoin (R88). -/
def headCell (s : State) (p c m : Nat) (b : Bool) (cell : List Byte) : State :=
  let x := portAt s p
  let h := headAt s p c
  let s := keepCell s p c m b cell
  let s := if x.st = 5 then s else headStatus s p c m [cell]
  let s := telByte s p c m (cell.getD 12 0)
  if x.st = 5 ∧ (h.lost = true ∨ x.present.contains c = false) ∧ h.rejoin = 0 ∧ h.off = false ∧ noSvc x (rejoinUse c) = true then
    svcRead (modHead s p c fun h => { h with rejoin := 3 }) p c 0x28 (.check c)
  else s

/-- Breaks of the ring as the lanes' ORIGINs show them (R97). DESIGN CHOICE (log 86): they are judged on a READY port with both lanes in
service; a break that lies at no one segment (j other than i + 1) is recorded with BREAK_SEG 0xF and raises no event. -/
def judgeBreak (s : State) (p : Nat) : State :=
  let x := portAt s p
  let n := nmax x.present
  if x.st ≠ 5 ∨ x.a.retired = true ∨ x.b.retired = true then s
  else
    match x.a.origin, x.b.origin with
    | some i, some j =>
      if i = n ∧ j = 1 then
        if x.broken then raisePort (modPort s p fun x => { x with broken := false, breakSeg := 15 }) .rylRingRestored p 0 else s
      else if j = i + 1 then
        if x.broken ∧ x.breakSeg = i then s
        else raisePort (modPort s p fun x => { x with broken := true, breakSeg := i }) .rylRingBreak p i
      else if i < n ∨ 1 < j then modPort s p fun x => { x with broken := true, breakSeg := 15 }
      else s
    | _, _ => s

/-- The full frame number of an uplink FN. -/
def frameOfFn (s : State) (fn : Nat) : Nat := s.time.frame - (s.time.frame + 65536 - fn % 65536) % 65536

/-- Which cells of the last frame of a lane were valid (R101). -/
def cellsValid (s : State) (p : Nat) (b : Bool) (good : List Nat) : State :=
  ((List.range 8).map (· + 1)).foldl (fun s c =>
    modHead s p c fun h => if b then { h with bValid := good.contains c } else { h with aValid := good.contains c }) s

/-- Every head of a READY port joins what has come. -/
def joinHeads (s : State) (p : Nat) : State :=
  if (portAt s p).st = 5 then (List.range 8).foldl (fun s i => joinHead s p (i + 1)) s else s

/-- RYL_UPLINK_FRAME: a frame on a lane whose check is complete: its arrival after T_m in units of 1/16 slot, and its characters
1 to 119 (R73, R78, R85, R96). -/
def uplink (s : State) (p : Nat) (b : Bool) (arrival : Nat) (chars : List Byte) : State :=
  let x := portAt s p
  if portSends x = false ∨ laneOn s p b = false then s
  else
    let bs := scramble (takeBytes chars 0 119)
    if leNat (takeBytes bs 115 4) ≠ crc32 (bs.take 115) then
      let s := bump s ((if b then 0x60018 else 0x60014) + 0x1000 * p)
      wearInput (cellsValid (modLane s p b fun l => { l with good := 0, cells := [] }) p b []) 0 (2 * p + b2n b) 2
    else
      let m := frameOfFn s (leNat (bs.take 2))
      let timely := decide (x.st < 4) || decide (((arrival : Int) * subQ - (laneOf x b).lap).natAbs ≤ (2 * slotQ).toNat)
      if !timely then joinHeads ((List.range 8).foldl (fun s i => keepCell s p (i + 1) m b [])
        (cellsValid (modLane s p b fun l => { l with good := 0, cells := [] }) p b [])) p
      else
        let cellsAt (c : Nat) : List Byte := takeBytes bs (3 + 14 * (c - 1)) 14
        let prefix_ : Nat := if b then 0x50 else 0x40
        let good := ((List.range 8).map (· + 1)).filter fun c =>
          decide (leNat ((cellsAt c).drop 13) = crc8 (BitVec.ofNat 8 (prefix_ + c) :: (cellsAt c).take 13))
        let s := modLane s p b fun l =>
          { l with got := true, good := l.good + 1, bad := 0, up := l.up || decide (64 ≤ l.good + 1), cells := good,
                   origin := some (bits (leNat (takeBytes bs 2 1)) 0 4),
                   laps := if x.st = 3 ∧ m % 65536 = x.stampFn then (arrival :: l.laps).take 16 else l.laps }
        let s := cellsValid s p b good
        let s := (((List.range 8).map (· + 1)).filter fun c => !(good.contains c)).foldl (fun s c => keepCell s p c m b []) s
        let s := good.foldl (fun s c => headCell s p c m b (cellsAt c)) s
        let s := ((List.range 8).map (· + 1)).foldl (fun s c => if copiesIn s p c m then headStatus s p c m (validCopies s p c m) else s) s
        let s := joinHeads s p
        let x := portAt s p
        if x.st = 1 then
          if [false, true].all fun l => !(laneOn s p l) || decide (64 ≤ (laneOf x l).good) then enumerate s p else s
        else judgeBreak s p

/-! ### Frame boundaries -/

/-- After how many frames no copy of an uplink frame can still come: its lap, the two slots of R96 and its own 64 slots. -/
def frameLag (s : State) (p : Nat) : Nat :=
  let lap := (measLanes s p).foldl (fun (m : Int) b => max m (laneOf (portAt s p) b).lap) 0
  (-(floorDiv (-(lap + 66 * slotQ)) (64 * slotQ))).toNat

/-- A present head of a READY port at a frame boundary: the frame of which no copy can still come is judged, and what it brought is joined
(R84, R96, R112). DESIGN CHOICE (log 86): misses are judged on a READY port alone. -/
def headFrame (s : State) (p c : Nat) : State :=
  let h := headAt s p c
  if s.time.frame < h.dueM + frameLag s p then s
  else
    let s := headStatus s p c h.dueM (validCopies s p c h.dueM)
    let s :=
      if h.cells.any fun x => decide (x.frame = h.dueM) && !x.cell.isEmpty then modHead s p c fun h => { h with missRun := 0 }
      else
        let lanes := b2n (laneOn s p false) + 2 * b2n (laneOn s p true)
        let s := raiseHead (bump s (0x60114 + 0x1000 * p + 0x20 * (c - 1))) .rylCellMiss p c lanes
        modHead s p c fun h => { h with missRun := h.missRun + 1 }
    joinHead (modHead s p c fun h => { h with dueM := h.dueM + 1 }) p c

/-- A head whose cells feed nothing, on any port: its frame brings no valid cell, its conversion channels are filled and its feedback
channel lacks the samples (R112, R144, R150). -/
def silentHead (s : State) (p c : Nat) : State :=
  if headLive s p c then s
  else
    let g0 := 8 * (s.time.frame - 1)
    let chs := headChans s p c
    let s := chs.foldl (fun s ch => decFilled ((List.range 8).foldl (fun s i => decFillBit s ch i (g0 + i)) s) ch) s
    match fbOfDecoder s (8 * p + c - 1) with
    | none => s
    | some f => (List.range 8).foldl (fun s i => fbMiss s f (g0 + i) (gridElapsed s p (g0 + i)) (gridWall s p (g0 + i))) s

/-- The head positions that conversion channels or feedback channels name, each once: 16 times the port, and the ring position. -/
def namedHeads (s : State) : List Nat :=
  dedup (((mkeys s.cchans fun c x => decide (x.cfg.source = 1) && isLive s cCCHAN c).map fun c =>
      16 * (chAt s c).cfg.unit + chPos (chAt s c).cfg) ++
    (mkeys s.fbchs fun f x => !x.cfg.isLocal && isLive s cFBCH f).map fun f => 16 * (fbAt s f).cfg.unit + (fbAt s f).cfg.pos)

/-- The frame of every head that brings nothing (R112). -/
def silentHeads (s : State) : State := (namedHeads s).foldl (fun s e => silentHead s (e / 16) (e % 16)) s

/-- Lanes, heads and training at a frame boundary (R85, R96, R97). -/
def linkFrame (s : State) (p : Nat) : State :=
  let x := portAt s p
  if portSends x = false then s
  else
    let bad (b : Bool) (s : State) : State := modLane s p b fun l =>
      if l.got then { l with got := false } else { l with bad := l.bad + 1, good := 0 }
    let clean := (measLanes s p).all fun b => (laneOf x b).got && x.present.all fun c => (laneOf x b).cells.contains c
    let s := bad true (bad false s)
    if x.st = 5 then x.present.foldl (fun s c => headFrame s p c) s
    else if x.st = 4 then
      let isSetup (u : SvcFor) : Bool := match u with
        | .setup _ => true
        | _ => false
      match x.setRun with
      | none => if noSvc x isSetup then modPort s p fun x => { x with setRun := some 0 } else s
      | some n =>
        if !clean then trainFail s p 6
        else if n + 1 < 64 then modPort s p fun x => { x with setRun := some (n + 1) }
        else
          let s := modPort s p fun x => { x with st := 5, setRun := none }
          let s := x.present.foldl (fun s c => headBegins (modHead s p c fun h => { h with timed := true, lost := false, off := false }) p c) s
          raisePort s .rylReady p x.dEpoch
    else s

/-- RYL_DETECT_TIMEOUT (R85). -/
def detectTimeout (s : State) (p : Nat) : State :=
  let x := portAt s p
  if x.st = 1 ∧ x.since + 2 * msU ≤ s.time.elapsed then trainFail s p 1 else s

/-- RYL_HEAD_LOST (R96). -/
def headLost (s : State) (p c : Nat) : State :=
  let h := headAt s p c
  let x := portAt s p
  if x.st = 5 ∧ x.present.contains c = true ∧ h.lost = false ∧ 2 ≤ h.missRun then
    raiseHead (modHead s p c fun h => { h with lost := true, rejoin := 0 }) .rylHeadLost p c 0
  else s

/-- RYL_LANE_DOWN (R97, R444). -/
def laneDown (s : State) (p : Nat) (b : Bool) : State :=
  let x := portAt s p
  let l := laneOf x b
  if portSends x = true ∧ l.up = true ∧ 4 ≤ l.bad then
    let s := raiseLane (modLane s p b fun l => { l with up := false, origin := none }) .rylLaneDown p b
    let s := if (laneOf x !b).up then wearInput s 0 (2 * p + b2n b) 3 else s
    -- in MEASURE a port with no retired lane needs both (R85)
    if (portAt s p).st = 3 && oneLaneUp (portAt s p) then trainFail s p 4 else s
  else s

/-- A worn lane is retired: the port runs on the other one (R98, R446). -/
def laneRetire (s : State) (p : Nat) (b : Bool) : State :=
  raiseLane (modLane s p b fun l => { retired := true, lap := l.lap }) .rylLaneRetired p b

/-! ### The link's descriptors (R77, R91, R403) -/

/-- RYL_HEAD_CYCLIC's own rules. -/
def cyclicCheck (_s : State) (a : Acc) : Option Refuse :=
  let d := a.d
  let n := pf d 19 1
  firstRefuse [
    (decide (15 < pf d 16 1) || decide (pf d 17 1 = 0) || decide (8 < pf d 17 1) || decide (n = 0) || decide (22 < n) ||
      decide (160 < pf d 18 1 + n) || !(onlyBytes d [(16, 4), (20, 2 * n)]), rRANGE)]

/-- RYL_HEAD_CYCLIC sets words of the table; its completion follows once they have been sent unchanged in two servo ticks. -/
def cyclicSet (s : State) (a : Acc) : State :=
  let d := a.d
  let p := pf d 16 1
  let c := pf d 17 1
  let first := pf d 18 1
  let n := pf d 19 1
  let words := (List.range n).map fun i => (first + i, pf d (20 + 2 * i) 2)
  modHead s p c fun h =>
    { h with table := words.foldl (fun t w => mput t w.1 w.2) h.table,
             jobs := (h.jobs.map fun j => { j with sent := j.sent.filter fun e => e.1 < first ∨ first + n ≤ e.1 }) ++
               [{ acc := a, first := first, count := n }] }

/-- A cyclic word leaves in a frame: the jobs that wait on it note it, with the servo tick and whether it left in the tick before too
(R77). -/
def cyclicSent (s : State) (p ts : Nat) : State :=
  let k := s.time.frame / 160
  let note (j : CycJob) : CycJob :=
    if j.first ≤ ts ∧ ts < j.first + j.count then
      match mget j.sent ts with
      | some (q, twice) => { j with sent := mput j.sent ts (k, twice || decide (k = q + 1)) }
      | none => { j with sent := mput j.sent ts (k, false) }
    else j
  modPort s p fun x => { x with heads := x.heads.map fun e => (e.1, { e.2 with jobs := e.2.jobs.map note }) }

/-- RYL_HEAD_CYCLIC_DONE: jobs whose every word has been sent unchanged twice complete (R77). -/
def cyclicDone (s : State) (p c : Nat) : State :=
  let h := headAt s p c
  let done (j : CycJob) : Bool := (List.range j.count).all fun i => (mgetD j.sent (j.first + i) (0, false)).2
  let s := modHead s p c fun h => { h with jobs := h.jobs.filter fun j => !done j }
  (h.jobs.filter done).foldl (fun s j => complete s j.acc stOK 0 0) s

/-- RYL_HEAD_ACCESS's own rules (R91, R403). -/
def accessCheck (_s : State) (a : Acc) : Option Refuse :=
  let d := a.d
  let op := pf d 18 1
  firstRefuse [
    (decide (15 < pf d 16 1) || decide (pf d 17 1 = 0) || decide (8 < pf d 17 1) || decide (op = 0) || decide (2 < op) ||
      !(onlyBytes d [(16, 3), (20, 2), (24, 8)]) || (decide (op = 1) && decide (pf d 24 8 ≠ 0)), rRANGE),
    (decide (op = 2) && decide (pf d 20 2 < 0x100), rDENIED)]

/-- RYL_HEAD_ACCESS: the request joins the service traffic. -/
def accessStart (s : State) (a : Acc) : State :=
  let d := a.d
  let p := pf d 16 1
  let r : SvcReq := { dest := pf d 17 1, op := pf d 18 1, reg := pf d 20 2, data := pf d 24 4, mask := pf d 28 4, use := .access a }
  if portSends (portAt s p) then svcAsk s p r else accessFails s r

end Sys2Proof.Machine
end

