-- ==== Sys2Proof/Machine/Switch.lean ====
section
/-!
DEFINITION. The switching engine (R162 to R182): channels and their parameters, set-points, phase observers, the placing of edges,
staggering, the channel states, soft start, trips, power, and the downlink frame that carries its decisions (R75, R76, R93, R175).
-/
namespace Sys2Proof.Machine

def swAt (s : State) (c : Nat) : Swch := mgetD s.swchs c {}
def modSw (s : State) (c : Nat) (f : Swch → Swch) : State := { s with swchs := mput s.swchs c (f (swAt s c)) }
def busAt (s : State) (g : Nat) : BusGrp := mgetD s.buses g {}
def modBus (s : State) (g : Nat) (f : BusGrp → BusGrp) : State := { s with buses := mput s.buses g (f (busAt s g)) }

/-- The switching channel of a joint. -/
def jointSw (s : State) (j : Nat) : Option Nat := (mget s.joints j).map fun x => x.swch

/-- Event of a channel, with the joint's handle (R185). -/
def raiseSw (s : State) (e : Event) (c detail : Nat) : State :=
  raise s e (handleOf? s cJOINT (swAt s c).joint) detail (origin 0x0E c)

/-! ### Binding and parameters (R162 to R164) -/

/-- The lowest-numbered free in-service channel (R162). -/
def freeSwch (s : State) (taken : List Nat) : Option Nat :=
  (List.range 144).find? fun c => serves s 3 c && decide ((swAt s c).joint = none) && !taken.contains c

/-- The parameters at create (R164). -/
def swDefault (stepper : Bool) : SwCfg :=
  if stepper then { topology := 2, currents := 2, decay := 2, fastSlots := 32 } else {}

/-- A joint's channel is bound (R162). -/
def swBind (s : State) (c j port pos : Nat) (stepper : Bool) : State :=
  modSw s c fun _ => { joint := some j, port := port, pos := pos, cfg := swDefault stepper }
/-- A joint's channel is freed. -/
def swFree (s : State) (c : Nat) : State := { s with swchs := mdel s.swchs c }

/-- The channel of a head stream. -/
def streamChan (s : State) (port pos stream : Nat) : Option Nat :=
  (headChans s port pos).find? fun c => decide (chStream (chAt s c).cfg = stream)

/-- The current streams of a topology (R163). -/
def currentStreams (topology currents : Nat) : List Nat :=
  if topology = 2 then [0, 1] else if currents = 2 then [0, 1] else [0, 1, 2]

/-- The joint's streams meet R163. -/
def streamsOk (s : State) (port pos topology currents : Nat) : Bool :=
  let cs := (currentStreams topology currents).map (streamChan s port pos)
  let ok (o : Option Nat) : Bool := match o with
    | some c => let x := chAt s c
                decide (x.scale.kind = 1) && chFAST x.cfg
    | none => false
  let fs := cs.filterMap fun o => o.map fun c => (chAt s c).scale.fullScale
  cs.all ok && (match fs with
    | [] => false
    | a :: t => t.all fun b => decide (b = a)) &&
    match streamChan s port pos 3 with
    | some c => decide ((chAt s c).scale.kind = 2)
    | none => false

/-- SWE_SET's parameters. -/
def swCfgOf (d : Desc) : SwCfg :=
  { topology := pf d 16 1, currents := pf d 17 1, busGrp := pf d 18 1, decay := pf d 19 1,
    minPulse := if pf d 20 1 = 0 then 64 else pf d 20 1, fastSlots := pf d 21 1,
    fClamp := if pf d 22 1 = 0 then 50 else pf d 22 1, ish := bits (pf d 23 1) 0 3, dsh := bits (pf d 23 1) 3 5,
    band := pf d 24 2, bandMax := pf d 26 2, iLimit := pf d 28 2, iTrip := pf d 30 2, kslope := pf d 32 4, ramp := pf d 36 4,
    chopOn := pf d 40 2, chopOff := pf d 42 2, residMax := pf d 44 2 }

/-- SWE_SET's own rules (R164, R165). -/
def sweCheck (s : State) (a : Acc) : Option Refuse :=
  let d := a.d
  let c := swCfgOf d
  match mget s.joints (tIdx d) with
  | none => some rRANGE
  | some j =>
    let old := (swAt s j.swch).cfg
    let dead := cyclicWord s j.port j.pos 0
    let three := decide (c.topology = 1) || decide (c.topology = 3)
    let fieldsOk := onlyBytes d [(16, 30)] && (three || decide (c.topology = 2)) &&
      (if three then decide (c.currents = 2 ∨ c.currents = 3) && decide (c.decay = 0) else decide (c.currents = 2) && decide (c.decay ≤ 2)) &&
      decide (c.busGrp ≤ 15) && decide (2 * dead ≤ c.minPulse ∧ c.minPulse ≤ 255) &&
      (if c.topology = 2 ∧ c.decay = 2 then decide (1 ≤ c.fastSlots) else decide (c.fastSlots = 0)) &&
      decide (pf d 22 1 ≤ 250) && decide (1 ≤ c.ish) && decide (8 ≤ c.dsh ∧ c.dsh ≤ 24) && decide (0x400 ≤ c.band ∧ c.band ≤ c.bandMax) &&
      decide (c.bandMax ≤ 0x4000) && decide (c.iLimit < c.iTrip) && decide (1 ≤ c.ramp ∧ c.ramp < 8388608) &&
      (if c.topology = 3 then decide (c.chopOff < c.chopOn) else decide (c.chopOn = 0) && decide (c.chopOff = 0)) &&
      (if j.stepper then !three else three) && streamsOk s j.port j.pos c.topology c.currents
    let changes := decide (c.topology ≠ old.topology) || decide (c.currents ≠ old.currents) || decide (c.busGrp ≠ old.busGrp)
    let safe := match armRegion s j.arm with
      | some r => decide (regionSt s r = .safeOff)
      | none => false
    firstRefuse [(!fieldsOk, rRANGE), (changes && !safe, rMODE)]

/-- SWE_SET takes effect: the half-bands are reset, the observer state is kept (R165). -/
def sweSet (s : State) (d : Desc) : State :=
  match mget s.joints (tIdx d) with
  | none => s
  | some j =>
    let c := swCfgOf d
    modSw s j.swch fun x => { x with cfg := c, legs := x.legs.map fun l => { l with hEff := c.band, short := false } }

/-- SWE_HEAD_CAL's own rules (R175, R403). -/
def headCalCheck (s : State) (a : Acc) : Option Refuse :=
  let d := a.d
  match mget s.joints (tIdx d) with
  | none => some rRANGE
  | some j =>
    let service := match armRegion s j.arm with
      | some r => decide (regionSt s r = .service)
      | none => false
    firstRefuse [(decide (pf d 16 1 ≠ 1) || !(onlyBytes d [(16, 1)]), rRANGE),
                 (!service || decide ((swAt s j.swch).st ≠ 0), rMODE)]

/-- SWE_HEAD_CAL: CAL is sent until the head's sequence ends, after a number of frames that no rule gives (a free value). -/
def headCal (s : State) (a : Acc) : State :=
  match mget s.joints (tIdx a.d) with
  | none => s
  | some j =>
    let (k, s) := draw s
    modHead s j.port j.pos fun h => { h with cal := some (a, s.time.frame + 1 + Config.freeNat k) }

/-- CAL sequences that have ended complete. -/
def calEnds (s : State) : State :=
  s.ryl.foldl (fun s e => e.2.heads.foldl (fun s h =>
    match h.2.cal with
    | some (a, f) =>
      if f ≤ s.time.frame then complete (modHead s e.1 h.1 fun h => { h with cal := none }) a stOK 0 0 else s
    | none => s) s) s

/-! ### Numbers -/

/-- Units of î in one CUR24 LSB: 3 · 2^39. -/
def ihU : Int := 1649267441664
/-- A Q0.16 fraction of current full scale in CUR24 LSB. -/
def q16 (n : Nat) : Int := (n : Int) * 128

/-- ⌊√n⌋, or one more where n is no square: the rounding is free. -/
def rootFree (site : Nat) (n : Nat) : Int :=
  let r := isqrt n
  if r * r = n then r else if Config.roundsUp site n 1 then r + 1 else r

/-- (√3 / 2) · x, its rounding free. -/
def halfRoot3 (x : Int) : Int := sgn x * rootFree 40 (3 * x.natAbs * x.natAbs / 4)
/-- x / √3, its rounding free. -/
def overRoot3 (x : Int) : Int := sgn x * rootFree 41 (x.natAbs * x.natAbs / 3)

/-- x · cos θ and x · sin θ for θ in Q0.32 turns. -/
def mulCos (x : Int) (th : Nat) : Int := divFree 42 (x * cosTurn th) 4611686018427387904
def mulSin (x : Int) (th : Nat) : Int := divFree 43 (x * sinTurn th) 4611686018427387904

/-! ### Set-points (R168, R177) -/

/-- The electrical angle at the middle of head frame j + 1 (R168). -/
def predictTheta (s : State) (x : Swch) : Nat :=
  match x.joint.bind fun j => mget s.joints j with
  | some j =>
    match j.fbch with
    | some f =>
      let b := fbAt s f
      let (n, d) := elecSpeed b j.scale
      let t : Int := ((s.time.elapsedF + (96 + (portAt s x.port).dEpoch) * cycleU s : Nat) : Int) - b.stamp
      un 32 (b.theta + divFree 44 (n * t * 4294967296) (d * secU))
    | none => 0
  | none => 0

/-- The set-point limited to I_LIMIT: its two components, and whether it was limited (R168). -/
def limitSp (x : Swch) : (Int × Int) × Bool :=
  let il := q16 x.cfg.iLimit
  if x.cfg.topology = 2 then
    let a := clampI x.sp.2 (-il) il
    ((x.sp.1, a), decide (a ≠ x.sp.2))
  else
    let d := clampI x.sp.1 (-il) il
    let r := rootFree 45 (il * il - d * d).toNat
    let q := clampI x.sp.2 (-r) r
    ((d, q), decide ((d, q) ≠ x.sp))

/-- The components that the ramp moves: d and q, or the two winding currents. -/
def spParts (x : Swch) (sp : Int × Int) : Int × Int :=
  if x.cfg.topology = 2 then (mulCos sp.2 (un 32 sp.1), mulSin sp.2 (un 32 sp.1)) else sp

/-- The phase set-points of the ramp's components (R168). -/
def phaseTargets (x : Swch) (parts : Int × Int) (th : Nat) : List Int :=
  if x.cfg.topology = 2 then [parts.1, parts.2, 0]
  else
    let al := mulCos parts.1 th - mulSin parts.2 th
    let be := mulSin parts.1 th + mulCos parts.2 th
    let h := divFree 46 (-al) 2
    let b := halfRoot3 be
    [al, h + b, h - b]

/-- The ramp's components that the observer's currents give (R177). -/
def measuredParts (x : Swch) (i : List Int) (th : Nat) : Int × Int :=
  let l := i.map fun v => divFree 47 v ihU
  if x.cfg.topology = 2 then (l.getD 0 0, l.getD 1 0)
  else
    let al := l.getD 0 0
    let be := overRoot3 (l.getD 1 0 - l.getD 2 0)
    (mulCos al th + mulSin be th, mulCos be th - mulSin al th)

/-- One step of a ramp component. -/
def rampStep (v target : Int) (r : Nat) : Int := v + clampI (target - v) (-(r : Int)) r

/-! ### The phase model (R169) -/

/-- The phase of a leg. -/
def legPhase (topology l : Nat) : Nat := if topology = 2 then l / 2 else l

/-- The state of a leg at a head slot, from its edges. -/
def legAt (l : Leg) (k : Nat) : Bool × Nat :=
  match l.edges.find? fun e => decide (e.1 ≤ k) with
  | some e => (e.2, k - e.1)
  | none => match l.edges.getLast? with
    | some e => (!e.2, k)
    | none => (l.on, k)

/-- The effective state in the deadtime slots: 0 if î of its phase is positive, else 1. -/
def deadState (i : Int) : Bool := !(decide (0 < i))

/-- Three times u of each phase, from the legs' effective states. -/
def phaseU (topology : Nat) (e : List Bool) : List Int :=
  let v (i : Nat) : Int := if e.getD i false then 1 else 0
  if topology = 2 then [3 * (v 0 - v 1), 3 * (v 2 - v 3), 0]
  else [2 * v 0 - v 1 - v 2, 2 * v 1 - v 0 - v 2, 2 * v 2 - v 0 - v 1]

/-- î one slot later (R169). `kv` is KSLOPE · v. -/
def slotStep (topology currents : Nat) (kv : Int) (dh : List Int) (i : List Int) (e : List Bool) : List Int :=
  let u := phaseU topology e
  let f (p : Nat) : Int := i.getD p 0 + kv * u.getD p 0 - dh.getD p 0 * 25165824
  if topology ≠ 2 ∧ currents = 2 then [f 0, f 1, -(f 0 + f 1)] else [f 0, f 1, f 2]

/-- A channel's bus voltage: the latest precise value of stream 3. -/
def busV (s : State) (x : Swch) : Int :=
  match streamChan s x.port x.pos 3 with
  | some c => (chAt s c).value
  | none => 0

/-- The fast outputs of a channel's phases, with the grid index of their last sample; W is derived with CURRENTS 2. -/
def fastOuts (s : State) (x : Swch) : List (Option (Int × Nat)) :=
  let f (st : Nat) : Option (Int × Nat) := (streamChan s x.port x.pos st).bind fun c => (chAt s c).fast
  if x.cfg.topology = 2 then [f 0, f 1, none]
  else if x.cfg.currents = 2 then
    [f 0, f 1, match f 0, f 1 with
      | some (a, g), some (b, _) => some (satS 24 (-(a + b)), g)
      | _, _ => none]
  else [f 0, f 1, f 2]

/-- The head slot of a fast output's measurement instant t_y: its last sample minus 175 ns (R167). -/
def tySlot (g : Nat) : Nat := 8 * g - 56

/-- The phases that the observer corrects. -/
def observed (c : SwCfg) : List Nat := if c.topology = 2 ∨ c.currents = 2 then [0, 1] else [0, 1, 2]

/-- The head slot from which a phase's estimate is propagated: the newest corrected t_y, or the oldest slot held (R169). -/
def lastCorrected (x : Swch) (base p : Nat) : Nat :=
  match x.lastG.getD p none with
  | some g => if x.h0 ≤ tySlot g ∧ tySlot g ≤ base then tySlot g else x.h0
  | none => x.h0

/-- The observer's correction and the propagation up to the start of head frame j + 1: each phase from its newest corrected instant,
also one without a correction in this pass (R169). Also the residuals. -/
def observe (x : Swch) (ys : List (Option (Int × Nat))) (kv : Int) (base dead : Nat) : Swch × List (Option Int) :=
  let old (p k : Nat) : Int := (x.ih.getD p []).getD (k - x.h0) 0
  let corr : List (Option (Nat × Int)) := (List.range 3).map fun p =>
    match ys.getD p none with
    | some (y, g) =>
      let k := tySlot g
      if (observed x.cfg).contains p ∧ x.h0 ≤ k ∧ k ≤ base ∧ (x.lastG.getD p none) ≠ some g then some (k, y * ihU - old p k) else none
    | none => none
  let dh := (List.range 3).map fun p =>
    match corr.getD p none with
    | some (_, r) => satS 32 (x.dh.getD p 0 - divFree 48 r (25165824 * 2 ^ x.cfg.dsh))
    | none => x.dh.getD p 0
  let start (p : Nat) : Nat := match corr.getD p none with
    | some (ky, _) => ky
    | none => lastCorrected x base p
  let k0 := ((observed x.cfg).map start).foldl Nat.min base
  let at_ (p k : Nat) (prop : Int) : Int :=
    if k < start p then old p k
    else if k = start p then old p k + (match corr.getD p none with
      | some (_, r) => divFree 49 r (2 ^ x.cfg.ish)
      | none => 0)
    else prop
  let fixW (l : List Int) : List Int :=
    if x.cfg.topology ≠ 2 ∧ x.cfg.currents = 2 then [l.getD 0 0, l.getD 1 0, -(l.getD 0 0 + l.getD 1 0)] else l
  let first := fixW ((List.range 3).map fun p => at_ p k0 0)
  let go := (List.range (base - k0)).foldl (fun (acc : List (List Int) × List Int) i =>
    let k := k0 + i
    let cur := acc.2
    let eff := (List.range 4).map fun l =>
      let (st, age) := legAt (x.legs.getD l {}) k
      if age < dead then deadState (cur.getD (legPhase x.cfg.topology l) 0) else st
    let nxt := slotStep x.cfg.topology x.cfg.currents kv dh cur eff
    let nxt := fixW ((List.range 3).map fun p => at_ p (k + 1) (nxt.getD p 0))
    (nxt :: acc.1, nxt)) ([first], first)
  let news := go.1.reverse
  let ih := (List.range 3).map fun p => (((x.ih.getD p []).take (k0 - x.h0)) ++ news.map fun l => l.getD p 0).drop (base - 1024 - x.h0)
  ({ x with ih := ih, h0 := Nat.max x.h0 (base - 1024), dh := dh, lastG := (List.range 3).map fun p => match ys.getD p none with
      | some (_, g) => some g
      | none => x.lastG.getD p none },
   corr.map fun c => c.map fun e => e.2)

/-! ### Placing edges (R170 to R174) -/

/-- A leg in the simulation of head frame j + 1. -/
structure SimLeg where
  on : Bool
  /-- Deadtime slots left. -/
  dead : Nat
  /-- Head slot of its last edge. -/
  last : Option Nat
  /-- An edge placed in this frame: slot and state. -/
  placed : Option (Nat × Bool) := none
  /-- A request moved by MINPULSE: slot and state. -/
  pend : Option (Nat × Bool) := none
  hits : Nat := 0
  ones : Nat := 0

/-- A channel in the simulation. -/
structure Sim where
  ch : Nat
  /-- Offset of its slots from T_{j+1}: D_EPOCH + round(G / 3.125 ns). -/
  off : Nat
  /-- Head slot at which head frame j + 1 starts. -/
  base : Nat
  cfg : SwCfg
  dead : Nat
  kv : Int
  v : Int
  dh : List Int
  target : List Int
  h : List Int
  legs : List SimLeg
  ih : List Int
  traj : List (List Int) := []
  fastEnd : List Nat
  uSum : List Int := [0, 0, 0]

/-- The group's windows while the edges of a pass are granted. -/
structure Wins where
  counts : Map Nat
  overs : Nat := 0
  max : Nat
  maxDly : Nat

/-- Grants a request of `n` edges at slot k, or moves it (R174). -/
def grant (w : Wins) (x : Sim) (k n : Nat) : Nat × Wins :=
  let key (k : Nat) : Nat := (x.base + x.off + k) / 8
  let room (k : Nat) : Bool := decide (w.max = 0) || decide (mgetD w.counts (key k) 0 + n ≤ w.max)
  let put (w : Wins) (k : Nat) : Wins := { w with counts := mput w.counts (key k) (mgetD w.counts (key k) 0 + n) }
  match (List.range (w.maxDly + 1)).find? fun i => decide (k + i ≤ 63) && room (k + i) with
  | some i => (k + i, put w (k + i))
  | none => (k, { put w k with overs := w.overs + n })

/-- The edges that a unit of the channel (a leg, or a winding's two legs) wants at slot k. -/
def wanted (x : Sim) (u k : Nat) : List (Nat × Bool) :=
  let leg (l : Nat) : SimLeg := x.legs.getD l { on := false, dead := 0, last := none }
  if x.cfg.topology = 2 then
    let a := 2 * u
    let b := 2 * u + 1
    let pos := decide (0 ≤ x.target.getD u 0)
    let (da, db) := if pos then (true, false) else (false, true)
    let i := x.ih.getD u 0
    let t := x.target.getD u 0 * ihU
    let th (l : Nat) : Int := x.h.getD l 0 * ihU
    let sa := (leg a).on
    let sb := (leg b).on
    let go (ta tb : Bool) : List (Nat × Bool) :=
      (if sa = ta then [] else [(a, ta)]) ++ (if sb = tb then [] else [(b, tb)])
    let lead := if pos then a else b
    if sa = da ∧ sb = db then
      let hit := if pos then decide (t + th lead ≤ i) else decide (i ≤ t - th lead)
      if hit then (if x.cfg.decay = 0 then go false false else go db da) else []
    else
      let back := if pos then decide (i ≤ t - th lead) else decide (t + th lead ≤ i)
      if back then go da db
      else if x.cfg.decay = 2 ∧ sa = db ∧ sb = da ∧ x.fastEnd.getD u 0 ≤ x.base + k then go false false
      else []
  else if u = 3 then
    if x.cfg.topology = 3 ∧ k = 0 then
      if (leg 3).on = false ∧ q16 x.cfg.chopOn ≤ x.v then [(3, true)]
      else if (leg 3).on = true ∧ x.v ≤ q16 x.cfg.chopOff then [(3, false)] else []
    else []
  else
    let i := x.ih.getD u 0
    let t := x.target.getD u 0 * ihU
    let h := x.h.getD u 0 * ihU
    if (leg u).on then (if t + h ≤ i then [(u, false)] else []) else (if i ≤ t - h then [(u, true)] else [])

/-- One unit of a channel at slot k: a request is made, moved by MINPULSE, granted (R170, R172, R174). -/
def simUnit (acc : Sim × Wins) (u k : Nat) : Sim × Wins :=
  let (x, w) := acc
  let leg (l : Nat) : SimLeg := x.legs.getD l { on := false, dead := 0, last := none }
  let setLeg (x : Sim) (l : Nat) (f : SimLeg → SimLeg) : Sim :=
    { x with legs := x.legs.set l (f (x.legs.getD l { on := false, dead := 0, last := none })) }
  let mine := if x.cfg.topology = 2 then [2 * u, 2 * u + 1] else [u]
  let place (x : Sim) (w : Wins) (es : List (Nat × Bool)) : Sim × Wins :=
    let (k', w) := grant w x k es.length
    (es.foldl (fun x e => setLeg x e.1 fun l => { l with placed := some (k', e.2), pend := none }) x, w)
  let due := mine.filterMap fun l => match (leg l).pend with
    | some (q, b) => if q = k then some (l, b) else none
    | none => none
  if due ≠ [] then place x w due
  else
    let es := wanted x u k
    if es = [] ∨ es.any (fun e => (leg e.1).placed.isSome || (leg e.1).pend.isSome) = true then (x, w)
    else
      let first := es.foldl (fun m e => match (leg e.1).last with
        | some t => Nat.max m (t + x.cfg.minPulse - x.base)
        | none => m) k
      if first = k then place x w es
      else (es.foldl (fun x e => setLeg x e.1 fun l => { l with pend := some (first, e.2), hits := l.hits + 1 }) x, w)

/-- A channel's slot k: its requests, the edges that take effect, the phases one slot on. -/
def simSlot (acc : Sim × Wins) (k : Nat) : Sim × Wins :=
  let units := if acc.1.cfg.topology = 2 then [0, 1] else [0, 1, 2, 3]
  let (x, w) := units.foldl (fun a u => simUnit a u k) acc
  let x := { x with
    fastEnd := (List.range 2).map fun u =>
      match (x.legs.getD (2 * u) { on := false, dead := 0, last := none }).placed,
            (x.legs.getD (2 * u + 1) { on := false, dead := 0, last := none }).placed with
      | some (q, _), some _ => if q = k ∧ x.cfg.topology = 2 then x.base + k + 4 * x.cfg.fastSlots else x.fastEnd.getD u 0
      | _, _ => x.fastEnd.getD u 0
    legs := x.legs.map fun (l : SimLeg) => match l.placed with
      | some (q, b) => if q = k then { l with on := b, dead := x.dead, last := some (x.base + k) } else l
      | none => l }
  let eff := (List.range 4).map fun i =>
    let l := x.legs.getD i { on := false, dead := 0, last := none }
    if 0 < l.dead then deadState (x.ih.getD (legPhase x.cfg.topology i) 0) else l.on
  let nxt := slotStep x.cfg.topology x.cfg.currents x.kv x.dh x.ih eff
  let u := phaseU x.cfg.topology (x.legs.map fun (l : SimLeg) => l.on)
  ({ x with traj := x.ih :: x.traj, ih := nxt, uSum := (List.range 3).map fun p => x.uSum.getD p 0 + u.getD p 0,
            legs := x.legs.map fun (l : SimLeg) => { l with dead := l.dead - 1, ones := l.ones + b2n l.on } }, w)

/-- The channels of a group place their edges, in ascending group instant and then channel number (R174). -/
def simGroup (xs : List Sim) (w : Wins) : List Sim × Wins :=
  let lo := xs.foldl (fun m x => Nat.min m x.off) 100000
  let hi := nmax (xs.map fun x => x.off) + 64
  (List.range (hi - lo)).foldl (fun (acc : List Sim × Wins) i =>
    acc.1.foldl (fun (a : List Sim × Wins) x =>
      if x.off ≤ lo + i ∧ lo + i < x.off + 64 then
        let (x, w) := simSlot (x, a.2) (lo + i - x.off)
        (a.1 ++ [x], w)
      else (a.1 ++ [x], a.2)) ([], acc.2)) (xs, w)

/-- The effective half-band after an edge (R171). -/
def bandAfter (c : SwCfg) (l : Leg) (k : Nat) (st : Bool) : Leg :=
  match l.edges with
  | _ :: e :: _ =>
    if e.2 = st then
      let p := k - e.1
      let h : Int := l.hEff
      let n := p * c.fClamp
      let new : Int :=
        if n < 320000 then
          let g := if 2 * n ≤ 320000 then 2 * h else divFree 50 (h * 320000) n
          if (c.bandMax : Int) < g then c.bandMax else g
        else if 360000 ≤ n then
          let g := h - divFree 51 (h - c.band) 4
          if g < c.band then c.band else g
        else h
      { l with hEff := new.toNat, period := p, short := decide (n < 320000) }
    else l
  | _ => l

/-- Power of a frame per unit of 2^-23 · (3 · 2^62)^-1 / 64 · 10^-12 W (R181). -/
def powerDen : Int := 8388608 * (3 * 4611686018427387904) * 64 * 1000000000000

/-! ### Channel states (R176) -/

/-- The region of a channel is energised: neither EMPTY nor held off (R21, R518). -/
def energised (s : State) (x : Swch) : Bool :=
  match x.joint.bind (jointRegion s) with
  | some r => !(heldOff s r) && decide (regionSt s r ≠ .empty)
  | none => false

/-- Legs of a topology. -/
def topoLegs (t : Nat) : Nat := if t = 1 then 3 else 4

/-- The state of a channel at the start of a pass (R163, R176, R178, R182). -/
def swState (s : State) (c : Nat) : State :=
  let x := swAt s c
  let live := energised s x
  let h := headAt s x.port x.pos
  let ok := streamsOk s x.port x.pos x.cfg.topology x.cfg.currents
  let s := modSw s c fun x => { x with incomplete := !ok }
  let soft (s : State) : State :=
    modSw s c fun x => { x with st := 1, softFrames := 0, softDue := true, sawOff := false, legs := x.legs.map fun l => { l with switched := false, thr := none } }
  let off (s : State) : State := modSw s c fun x => { x with st := 0, tripRun := [0, 0, 0], residRun := [0, 0, 0] }
  if x.st = 4 then
    if live then (if x.sawOff then soft s else s)
    else
      match x.joint.bind (jointRegion s) with
      | some r => if regionSt s r = .empty then off s else modSw s c fun x => { x with sawOff := true }
      | none => off s
  else if x.st = 3 then s
  else if live = false ∨ h.timed = false ∨ ok = false then off s
  else if x.st = 0 then soft s
  else s

/-- Trips and residuals of a pass (R178, R179). -/
def swChecks (s : State) (c : Nat) (ys : List (Option (Int × Nat))) (rs : List (Option Int)) : State :=
  (List.range 3).foldl (fun s p =>
    let x := swAt s c
    let s := match ys.getD p none with
      | some (y, _) =>
        let n := if q16 x.cfg.iTrip ≤ y.natAbs then x.tripRun.getD p 0 + 1 else 0
        let s := modSw s c fun x => { x with tripRun := x.tripRun.set p n }
        if 2 ≤ n ∧ (x.st = 1 ∨ x.st = 2) then
          raiseSw (modSw s c fun x => { x with st := 4, sawOff := false, tripRun := [0, 0, 0] }) .sweOvercurrent c (p + un 32 y * 4294967296)
        else s
      | none => s
    match rs.getD p none with
    | some r =>
      let lim := q16 (if x.cfg.residMax = 0 then x.cfg.bandMax else x.cfg.residMax) * ihU
      let n := if lim < r.natAbs then x.residRun.getD p 0 + 1 else 0
      let s := modSw s c fun x => { x with residRun := x.residRun.set p n }
      if n = 8 then raiseSw s .sweModelDiverge c (p + un 32 (satS 24 (divFree 52 r ihU)) * 4294967296) else s
    | none => s) s

/-- The observer of a channel in a pass: copies in OFF, corrections elsewhere (R169). Also the residuals. -/
def swEstimate (s : State) (c : Nat) (off : Bool) : List (Option Int) × State :=
  let x := swAt s c
  let ys := fastOuts s x
  let base := (s.time.frame + 1) * 64
  let dead := cyclicWord s x.port x.pos 0
  let kv := (x.cfg.kslope : Int) * busV s x
  let invalid := (observed x.cfg).any fun p => (ys.getD p none).isNone
  let span := match ys.getD 0 none with
    | some (_, g) => base - tySlot g
    | none => x.span + 64
  let s := modSw s c fun x => { x with fastInvalid := invalid, span := span, vSum := x.vSum + busV s x }
  let x := swAt s c
  if off = true ∨ x.ih.any (fun l => l = []) = true ∨ base < x.h0 then
    let v (p : Nat) : Int := match ys.getD p none with
      | some (y, _) => y * ihU
      | none => (x.ih.getD p []).getLastD 0
    let three := decide (x.cfg.topology ≠ 2) && decide (x.cfg.currents = 2)
    let ih := (List.range 3).map fun p => List.replicate 1025 (if three && decide (p = 2) then -(v 0 + v 1) else v p)
    let g := (List.range 3).map fun p => match ys.getD p none with
      | some (_, g) => some g
      | none => x.lastG.getD p none
    ([none, none, none], modSw s c fun x => { x with ih := ih, h0 := base - 1024, lastG := g })
  else
    let (x', rs) := observe x ys kv base dead
    (rs, modSw s c fun _ => x')

/-- A channel observes its phases and checks them for a trip and for a residual that stays (R169, R178, R179). -/
def swObserve (s : State) (c : Nat) : State :=
  let ys := fastOuts s (swAt s c)
  let (rs, s) := swEstimate s c (decide ((swAt s c).st = 0))
  swChecks s c ys rs

/-- The set-point of a pass: limited, ramped in SOFTSTART (R168, R177). -/
def swSetpoint (s : State) (c : Nat) : List Int × State :=
  let x := swAt s c
  let th := predictTheta s x
  let (sp, lim) := limitSp x
  let live := decide (x.st = 1 ∨ x.st = 2)
  let target := spParts x sp
  let s := modSw s c fun x => { x with limited := live && lim, limFrames := if live && lim then x.limFrames + 1 else x.limFrames }
  let s := if live && lim then bump s (0xC106C + 0x100 * c) else s
  if x.st = 1 then
    let start := if x.softFrames = 0 then measuredParts x (x.ih.map fun l => l.getLastD 0) th else x.ramp
    let near := decide ((target.1 - start.1).natAbs ≤ x.cfg.ramp) && decide ((target.2 - start.2).natAbs ≤ x.cfg.ramp)
    let r := if x.softFrames = 0 then (if near then target else start)
      else (rampStep start.1 target.1 x.cfg.ramp, rampStep start.2 target.2 x.cfg.ramp)
    let n := x.softFrames + 1
    let done := decide (r = target)
    let s := modSw s c fun x => { x with ramp := r, softFrames := n, st := if done then 2 else 1 }
    let s := if done then raiseSw s .sweRun c (n - 1) else s
    (phaseTargets x r th, s)
  else (phaseTargets x target th, s)

/-- The simulation's view of a live channel. -/
def simOf (s : State) (c : Nat) (target : List Int) : Sim :=
  let x := swAt s c
  let h := headAt s x.port x.pos
  let g : Int := (bits h.timing 16 8 : Int) * 2
  { ch := c, off := (portAt s x.port).dEpoch + (roundDiv g 25).toNat, base := (s.time.frame + 1) * 64, cfg := x.cfg,
    dead := cyclicWord s x.port x.pos 0, kv := (x.cfg.kslope : Int) * busV s x, v := busV s x, dh := x.dh, target := target,
    h := x.legs.map fun l => q16 (l.thr.getD l.hEff), ih := x.ih.map fun l => l.getLastD 0, fastEnd := x.fastEnd,
    legs := x.legs.map fun l =>
      let (st, age) := legAt l ((s.time.frame + 1) * 64)
      let d := cyclicWord s x.port x.pos 0
      { on := st, dead := if age < d ∧ l.edges ≠ [] then d - age else 0, last := l.edges.head?.map fun e => e.1 } }

/-- A channel's edges and history after a pass (R169 to R171). The excursion that an edge begins keeps the half-band that this edge
leaves (log 36). -/
def simTake (x : Swch) (m : Sim) : Swch :=
  let traj := m.traj.reverse
  let ih := (List.range 3).map fun p =>
    let l := (x.ih.getD p []).dropLast ++ traj.map (fun v => v.getD p 0) ++ [m.ih.getD p 0]
    l.drop (l.length - 1089)
  let len := (ih.getD 0 []).length
  let legs := (List.range 4).map fun i =>
    let l := x.legs.getD i {}
    let q := m.legs.getD i { on := false, dead := 0, last := none }
    match q.placed with
    | some (k, st) =>
      let l := bandAfter x.cfg l (m.base + k) st
      { l with on := st, switched := true, thr := some l.hEff, edge := some (k, st), edges := ((m.base + k, st) :: l.edges).take 24 }
    | none => { l with edge := none }
  { x with ih := ih, h0 := m.base + 65 - len, legs := legs, fastEnd := m.fastEnd,
           iest := x.ih.map fun l => satS 24 (divFree 54 (l.getLastD 0) ihU) }

/-- A channel's results of a pass: edges, history, counters, power (R169 to R171, R181). -/
def simDone (s : State) (m : Sim) : State :=
  let c := m.ch
  let x := swAt s c
  let placed := (List.range 4).filter fun i => (m.legs.getD i { on := false, dead := 0, last := none }).placed.isSome
  let hits := (m.legs.map fun l => l.hits).foldl (· + ·) 0
  let fsI := match streamChan s x.port x.pos 0 with
    | some ch => (chAt s ch).scale.fullScale
    | none => 0
  let fsV := match streamChan s x.port x.pos 3 with
    | some ch => (chAt s ch).scale.fullScale
    | none => 0
  let i0 := x.ih.map fun l => l.getLastD 0
  let sum : Int :=
    if x.cfg.topology = 2 then isum ((List.range 2).map fun p => divFree 53 (m.uSum.getD p 0) 3 * i0.getD p 0)
    else isum ((List.range 3).map fun p => ((m.legs.getD p { on := false, dead := 0, last := none }).ones : Int) * i0.getD p 0)
  let pw := m.v * sum * fsI * fsV
  let s := modSw s c fun x => simTake x m
  let s := bumpBy (bumpBy s (0xC1064 + 0x100 * c) placed.length) (0xC1068 + 0x100 * c) hits
  modBus s x.cfg.busGrp fun b => { b with pSum := b.pSum + pw }

/-- What a channel's next downlink slot carries (R175). -/
def swOutput (s : State) (c : Nat) : State :=
  let x := swAt s c
  let live := decide (x.st = 1 ∨ x.st = 2)
  let cal := (headAt s x.port x.pos).cal.isSome
  let n := topoLegs x.cfg.topology
  let en := listMask ((List.range n).filter fun i => (x.legs.getD i {}).switched)
  let byte (l : Leg) : Nat := match l.edge with
    | some (k, st) => if live then k + 64 * b2n st + 128 else 64 * b2n l.on
    | none => 64 * b2n l.on
  modSw s c fun x =>
    { x with legEn := if live then en else 0, headMode := if live then 1 else if cal ∧ x.st = 0 then 2 else 0,
             brakeRel := decide (x.st = 2) && x.brakeReq, legBytes := x.legs.map byte }

/-- SWE_CH_STAT (R184). -/
def swStat (x : Swch) : Nat :=
  x.st + 8 * b2n x.incomplete + 16 * x.sentEn + 256 * listMask ((List.range 4).filter fun i => (x.legs.getD i {}).on) +
    4096 * b2n x.limited + 8192 * b2n (x.legs.any fun l => decide (l.hEff = x.cfg.bandMax) && l.short) + 16384 * b2n x.fastInvalid +
    32768 * b2n x.sentBrake

/-- The live channel that a spare in SHADOW follows, while a joint is bound to it. -/
def shadowLive (s : State) (sp : Nat) : Option Nat := (swAt s sp).shadowOf.filter fun c => (swAt s c).joint.isSome

/-- A spare in SHADOW takes the live channel's parameters, set-point, leg states and thresholds, and runs its own observer on the
live channel's fast outputs; it raises nothing (R180). -/
def shadowObserve (s : State) (sp : Nat) : State :=
  match shadowLive s sp with
  | none => s
  | some c =>
    let y := swAt s c
    let s := modSw s sp fun x =>
      { x with port := y.port, pos := y.pos, cfg := y.cfg, sp := y.sp, legs := y.legs.map fun l => { l with edge := none },
               fastEnd := y.fastEnd, incomplete := y.incomplete }
    (swEstimate s sp (decide (y.st = 0))).2

/-- The decisions of the spares that shadow channels of a bus group: each spare runs the law in its live channel's place, against
the windows that the live channel met, and nothing of it is sent or counted (R180). -/
def shadowPlace (s : State) (sims : List Sim) (w0 : Wins) (targets : Map (List Int)) : State :=
  (mkeys s.swchs fun _ x => x.shadowOf.isSome).foldl (fun s sp =>
    match shadowLive s sp with
    | none => s
    | some c =>
      if sims.any fun m => decide (m.ch = c) then
        let own := simOf s sp (mgetD targets c [])
        match (simGroup (sims.map fun m => if m.ch = c then own else m) w0).1.find? fun m => decide (m.ch = sp) with
        | some m => modSw s sp fun x => simTake x m
        | none => s
      else s) s

/-- The wall time of a fast output's measurement instant: 175 ns before its last grid sample (R167, R489). -/
def fastWall (s : State) (port g : Nat) : Nat :=
  let p := mgetD s.ryl port {}
  un 32 (floorDiv (s.time.ptpF - ((s.time.frame : Int) * 64 - (g * 8 + p.dEpoch : Nat) + 56) * cycleU s) nsU)

/-- The fast-current trace of phase `p` in a pass (R488). A phase without a valid fast output gives a record marked invalid, with the
boundary's stamp and a free value (log 72). -/
def traceFast (s : State) (h : Nat) (x : Swch) (p : Nat) : State :=
  let est := un 32 (x.iest.getD p 0)
  match (fastOuts s x).getD p none with
  | some (y, g) => traceFrom s 1 h (fastWall s x.port g) 0 (fun k => decide (k = p)) fun _ => (un 32 y, est)
  | none =>
    let (i, s) := draw s
    traceFrom s 1 h s.time.wallF 4 (fun k => decide (k = p)) fun _ =>
      (Config.freeNat i % 4294967296, if p < 3 then est else Config.freeNat i / 4294967296 % 4294967296)

/-- The pass of a boundary (R166): every bound channel, then the edges of each bus group; the pass takes at most 160 ns. -/
def swPass (s : State) : State :=
  let s := noteLongest s 0xC000C 160
  let bound := mkeys s.swchs fun c x => x.joint.isSome && serves s 3 c
  let s := bound.foldl swState s
  let s := (mkeys s.swchs fun _ x => x.shadowOf.isSome).foldl shadowObserve s
  let s := bound.foldl swObserve s
  let (targets, s) := bound.foldl (fun (acc : Map (List Int) × State) c =>
    let (t, s) := swSetpoint acc.2 c
    (mput acc.1 c t, s)) ([], s)
  let live := bound.filter fun c => decide ((swAt s c).st = 1 ∨ (swAt s c).st = 2)
  let s := (bound.filter fun c => !live.contains c).foldl (fun s c =>
    modSw s c fun x => { x with legs := x.legs.map fun l => { l with edge := none },
                                iest := x.ih.map fun l => satS 24 (divFree 54 (l.getLastD 0) ihU) }) s
  let ctl := reg s 0xC0000
  let s := (List.range 16).foldl (fun s g =>
    let cs := live.filter fun c => decide ((swAt s c).cfg.busGrp = g)
    if cs = [] ∧ !mhas s.buses g then s
    else
      let b := busAt s g
      let key := (s.time.frame + 1) * 8
      let w0 : Wins := { counts := b.wins.filter fun e => decide (key ≤ e.1), max := bits ctl 0 4, maxDly := bits ctl 4 8 }
      let starts := cs.map fun c => simOf s c (mgetD targets c [])
      let (sims, w) := simGroup starts w0
      let s := shadowPlace s starts w0 targets
      let s := modBus s g fun b => { b with wins := w.counts, overs := b.overs + w.overs, wMax := Nat.max b.wMax (nmax (w.counts.map Prod.snd)) }
      let s := bumpBy s 0xC0008 w.overs
      let before := (busAt s g).pSum
      let s := sims.foldl simDone s
      let p := (busAt s g).pSum - before
      modBus s g fun b => { b with pPeak := some (match b.pPeak with
        | some q => if q < p then p else q
        | none => p) }) s
  let s := bound.foldl swOutput s
  bound.foldl (fun s c =>
    let x := swAt s c
    let h := handleOf? s cJOINT x.joint
    let s := (List.range 4).foldl (fun s p => traceFast s h x p) s
    modSw s c fun y => { y with edgeRec := if x.legs.any fun l => l.edge.isSome then some (s.time.wallF, swStat x) else none }) s

/-- What planning receives at a plan-tick boundary, with the notices of the plan tick (R171, R174, R181, R185). -/
def swPlanTick (s : State) : State :=
  let s := (mkeys s.swchs fun _ x => x.joint.isSome).foldl (fun s c =>
    let x := swAt s c
    let s := if 0 < x.limFrames then raiseSw s .sweLimited c (x.limFrames * 4294967296) else s
    let s := match (List.range 4).find? fun i => let l := x.legs.getD i {}
                                                decide (l.hEff = x.cfg.bandMax) && l.short with
      | some i => raiseSw s .sweClampMax c (i + un 32 (divFree 55 ((x.legs.getD i {}).period * 25) 8) * 4294967296)
      | none => s
    modSw s c fun x => { x with iAvail := if x.st = 1 ∨ x.st = 2 then x.cfg.iLimit else 0, vMean := divFree 56 x.vSum 1280,
                                limTick := x.limFrames, vSum := 0, limFrames := 0 }) s
  (s.buses.map Prod.fst).foldl (fun s g =>
    let b := busAt s g
    let q (n d : Int) : Int := satS 32 (divFree 57 (n * 256) d)
    let s := modBus s g fun b => { b with pMean := q b.pSum (powerDen * 1280), pPeakOut := q (b.pPeak.getD 0) powerDen, wMaxOut := b.wMax,
                                          pSum := 0, pPeak := none, wMax := 0, overs := 0 }
    if 0 < b.overs then raise s .sweStaggerOver 0 (g + b.overs * 4294967296) (blockOrigin 0x0E) else s) s

/-! ### Spares (R180) -/

/-- A darn commits: the spare takes the worn channel's joint, parameters, leg states, last edges and half-bands, keeps its own observer
and enters SOFTSTART (R176, R180). -/
def swTakeover (s : State) (worn spare : Nat) : State :=
  let x := swAt s worn
  let own := swAt s spare
  let live := decide (x.st = 1 ∨ x.st = 2)
  let s := { s with swchs := mput (mdel s.swchs worn) spare
                      { x with st := 1, softFrames := 0, softDue := true, shadowOf := none, ih := own.ih, h0 := own.h0, dh := own.dh, lastG := own.lastG,
                               legs := x.legs.map fun l => { l with switched := if live then true else l.switched } } }
  let s := match x.joint with
    | some j => { s with joints := mmod s.joints j fun y => { y with swch := spare } }
    | none => s
  raiseSw s .sweTakeover spare (spare + worn * 65536)

/-- A spare begins to shadow a live channel: its observer starts from the live one's estimates (DESIGN CHOICE, log 19). -/
def swShadow (s : State) (spare live : Nat) : State :=
  modSw s spare fun _ => { swAt s live with joint := none, st := 3, shadowOf := some live, sentEn := 0, sentBrake := false }

/-- The decisions of a spare and of its live channel differ: a leg's state, or an edge's slot by more than 1 (R180). -/
def decisionsDiffer (x y : Swch) : Bool :=
  (List.range 4).any fun i =>
    let a := x.legs.getD i {}
    let b := y.legs.getD i {}
    decide (a.on ≠ b.on) || match a.edge, b.edge with
      | some (k, _), some (q, _) => decide (k + 1 < q ∨ q + 1 < k)
      | none, none => false
      | _, _ => true
/-- A spare returns to standing ready. -/
def swUnshadow (s : State) (spare : Nat) : State := { s with swchs := mdel s.swchs spare }

/-! ### The downlink frame (R75, R76, R92, R93) -/

/-- A slot's 12 bytes: CRC-8 over the prefix and bytes 0 to 9 (R74, R76). -/
def slotBytes (pos : Nat) (body : List Byte) : List Byte :=
  body ++ [BitVec.ofNat 8 (crc8 (BitVec.ofNat 8 (0x80 + pos) :: body)), 0]

/-- A SAFE_OFF pin is accepted, and the frame starts 60 ns or more after: the transmitters force the kill (R92). -/
def pinKill (s : State) : Bool := (s.md.pinA || s.md.pinB) && decide (s.md.pinSince + 60 * nsU ≤ s.time.elapsed)

/-- The downlink forces a head's legs off: an empty position, a kill, a lost or barred head, a port that is not READY (R76, R92, R93,
R96). -/
def slotDead (s : State) (p c : Nat) : Bool :=
  let h := headAt s p c
  let inSafe := match (headJoint s p c).bind (jointRegion s) with
    | some r => heldOff s r
    | none => false
  !((portAt s p).present.contains c) || pinKill s || inSafe || h.lost || h.off || decide ((portAt s p).st ≠ 5)

/-- The head slot of a position in the downlink of this frame (R76, R92, R93, R96, R175). -/
def headSlot (s : State) (p c : Nat) : List Byte :=
  let fn := s.time.frame % 65536
  let h := headAt s p c
  let x := match (headJoint s p c).bind (jointSw s) with
    | some w => swAt s w
    | none => {}
  let inSafe := match (headJoint s p c).bind (jointRegion s) with
    | some r => heldOff s r
    | none => false
  let kill := pinKill s || inSafe || h.lost
  let quiet := pinKill s
  let dead := slotDead s p c
  let legs := x.legBytes.map fun b => BitVec.ofNat 8 (if quiet || dead then b % 128 else b)
  let mode := (if dead then 0 else x.legEn) + 16 * (if dead then 0 else x.headMode) + 64 * b2n kill
  let ser := match fbOfDecoder s (8 * p + c - 1) with
    | some f => if serialType (fbAt s f).cfg.type then
        (List.range 8).foldl (fun a i => a + b2n (sencClock (fbAt s f) (8 * s.time.frame + i)) * 2 ^ i) 0 else 0xFF
    | none => 0xFF
  slotBytes c (legs ++ [BitVec.ofNat 8 (b2n (x.brakeRel && !dead))] ++ leBytes 1 ser ++
    leBytes 2 (mgetD h.table (s.time.frame % 160) 0) ++ leBytes 1 (fn % 256) ++ leBytes 1 mode)

/-- The edges that the last pass has placed go to the trace with the bytes as sent (R488). -/
def traceEdges (s : State) (w : Nat) (dead : Bool) : State :=
  let x := swAt s w
  match x.edgeRec with
  | none => s
  | some (wall, stat) =>
    let b (i : Nat) : Nat := let v := x.legBytes.getD i 0; if dead then v % 128 else v
    let s := modSw s w fun y => { y with edgeRec := none }
    traceFrom s 3 (handleOf? s cJOINT x.joint) wall 0 (fun _ => true) fun _ => (b 0 + 256 * b 1 + 65536 * b 2 + 16777216 * b 3, stat)

/-- A port sends its downlink frame of this boundary on both lanes, but on a lane that is retired or not enabled, which stays in electrical
idle (R71, R75, R77, R89, R98). -/
def sendDownlink (s : State) (p : Nat) : State :=
  let x := portAt s p
  if portSends x = false then s
  else
    let (svc, s) := svcSend s p
    let kill := pinKill s || decide (s.md.mode = .safeOff) || decide (s.md.mode = .prepare)
    let flags := b2n kill + 2 * b2n (decide (x.st ≠ 5)) + 4 * b2n svc.isSome + 16 * p
    let slots := (List.range 8).foldl (fun l i => l ++ headSlot s p (i + 1)) []
    let body := leBytes 2 (s.time.frame % 65536) ++ leBytes 1 (s.time.frame % 160) ++ leBytes 1 flags ++ leBytes 1 (255 - flags) ++
      slots ++ svc.getD (List.replicate 16 0)
    let all := body ++ leBytes 4 (crc32 body)
    let s := (List.range 8).foldl (fun s i =>
      match (headJoint s p (i + 1)).bind (jointSw s) with
      | some w => modSw (traceEdges s w (slotDead s p (i + 1))) w fun y =>
          let dead := slotDead s p (i + 1)
          { y with sentEn := if dead then 0 else y.legEn, sentBrake := y.brakeRel && !dead }
      | none => s) s
    let lane (b : Bool) (l : RLane) : RLane := { l with idle := !(laneOn s p b) }
    cyclicSent (modPort s p fun x => { x with tx := all, wire := scramble all, a := lane false x.a, b := lane true x.b }) p (s.time.frame % 160)

end Sys2Proof.Machine
end

