-- ==== Sys2Proof/Machine/Profile.lean ====
section
/-!
DEFINITION. Profiles, gears, step inputs, the stepper drive, limit switches and homing (R230 to R260).
-/
namespace Sys2Proof.Machine

/-- A profile's record. -/
def prfAt (s : State) (p : Nat) : Profile := mgetD s.profiles p {}
/-- Changes a profile's record. -/
def modPrf (s : State) (p : Nat) (f : Profile → Profile) : State := { s with profiles := mmod s.profiles p f }
/-- A gear's record. -/
def gearAt (s : State) (g : Nat) : Gear := mgetD s.gears g {}
/-- Changes a gear's record. -/
def modGear (s : State) (g : Nat) (f : Gear → Gear) : State := { s with gears := mmod s.gears g f }

/-- Origin of a profile's events (R471). -/
def oPRF (p : Nat) : Nat := origin 0x10 p

/-- The gear of a follower (R242). -/
def gearOf (s : State) (p : Nat) : Option Nat := (mkeys s.gears fun _ g => decide (g.follower = p)).head?

/-- The followers geared to a profile. -/
def followersOf (s : State) (p : Nat) : List Nat :=
  s.gears.filterMap fun e => if e.2.kind = 2 ∧ e.2.master = p then some e.2.follower else none

/-- The profiles geared to a profile, directly or through a chain of at most 4 (R242, R260). -/
def chainFrom (s : State) (p : Nat) : List Nat :=
  let f (l : List Nat) : List Nat := l.flatMap (followersOf s)
  let a := f [p]
  let b := f a
  let c := f b
  dedup (a ++ b ++ c ++ f c)

/-- The region of a profile's joint. -/
def prfRegion (s : State) (p : Nat) : Option Nat := (prfAt s p).joint.bind (jointRegion s)

/-- The scope of a profile's events: its joint's region, or for a virtual axis those of the joints geared to it (R260). -/
def prfScope (s : State) (p : Nat) : List Nat :=
  match (prfAt s p).joint with
  | some j => (jointRegion s j).toList
  | none => dedup ((chainFrom s p).filterMap (prfRegion s))

/-- Raises one of the unit's events. -/
def raisePrf (s : State) (e : Event) (p detail : Nat) : State :=
  raiseIn s e (handleOf s cPROFILE p) detail (oPRF p) (prfScope s p)

/-! ### Numbers (R233) -/

/-- REF_POS, REF_VEL and REF_ACC of internal values. -/
def refPos (x : Profile) : Int := satS 64 (roundDiv x.p 4294967296)
def refVel (x : Profile) : Int := satS 32 (roundDiv x.v 16777216)
def refAcc (x : Profile) : Int := satS 32 (roundDiv x.a 268435456)

/-- Internal limits of fields: speed Q8.24, acceleration Q12.20, jerk Q16.16. -/
def vIn (x : Int) : Int := x * 16777216
def aIn (x : Int) : Int := x * 268435456
def jIn (x : Int) : Int := x * 4294967296

/-- The reference is at rest (R231). -/
def atRest (x : Profile) : Bool := decide (x.v = 0) && decide (x.a = 0)

/-- R234 after n frames from a start state: position, velocity, acceleration. -/
def segState (p0 v0 a0 j : Int) (n : Nat) : Int × Int × Int :=
  let n : Int := n
  (p0 + divFree 70 (65536 * (v0 * n * 150000000000000 + a0 * n * n * 15000000 + j * n * n * n)) 750000000000000000000,
   v0 + divFree 71 (a0 * n * 10000000 + j * n * n) 50000000000000,
   a0 + divFree 72 (j * n) 5000000)

/-- A run of segments moves on by one frame: the segments left, frames run, the state at the start of the first, and the state. -/
def segsStep (l : List (Int × Nat)) (n : Nat) (p0 v0 a0 : Int) :
    List (Int × Nat) × Nat × (Int × Int × Int) × (Int × Int × Int) :=
  match l with
  | [] => ([], 0, (p0, v0, a0), (p0, v0, a0))
  | (j, d) :: t =>
    let x := segState p0 v0 a0 j (n + 1)
    if d ≤ n + 1 then (t, 0, x, x) else ((j, d) :: t, n + 1, (p0, v0, a0), x)

/-- The least natural n with n^3 ≥ x, searched bit by bit. -/
def cbrtUp (x : Nat) : Nat :=
  let r := (List.range 64).foldl (fun r i => let t := r + 2 ^ (63 - i); if t * t * t < x then t else r) 0
  if x = 0 then 0 else r + 1

/-- ⌈√n⌉. -/
def isqrtUp (n : Nat) : Nat := let r := isqrt n; if r * r = n then r else r + 1

/-- The durations tj, ta and tv of a MOVE over the distance d > 0, in whole frames (R237). `d` in 2^-64, limits in 2^-48. -/
def moveFrames (d v a j : Nat) : Nat × Nat × Nat :=
  let up (n m : Nat) : Nat := ceilDiv n m
  -- frames a second: 5 · 10^6; its square 25 · 10^12; its cube 125 · 10^18
  let d48 := 65536
  if v * j < a * a then
    -- tj = √(v / j), ta = 0
    let nj := isqrtUp (up (25000000000000 * v) j)
    -- d ≥ 2 v tj, squared
    if 4 * v * v * v * d48 * d48 ≤ d * d * j then
      -- tv = d / v − 2 tj
      let q := v * d48
      let r := isqrt (100000000000000 * v * q * q / j)
      (nj, 0, up (5000000 * d - r) q)
    else if 2 * a * a * a * d48 ≤ d * j * j then
      let r := isqrtUp (25000000000000 * a * a + up (100000000000000 * d * j * j) (a * d48))
      (up (5000000 * a) j, up (r - 15000000 * a) (2 * j), 0)
    else (cbrtUp (up (125000000000000000000 * d) (2 * j * d48)), 0, 0)
  else
    -- tj = a / j, ta = v / a − a / j
    let dv := v * (a * a + v * j) * d48
    if dv ≤ d * a * j then (up (5000000 * a) j, up (5000000 * (v * j - a * a)) (a * j), up (5000000 * (d * a * j - dv)) (v * d48 * a * j))
    else if 2 * a * a * a * d48 ≤ d * j * j then
      let r := isqrtUp (25000000000000 * a * a + up (100000000000000 * d * j * j) (a * d48))
      (up (5000000 * a) j, up (r - 15000000 * a) (2 * j), 0)
    else (cbrtUp (up (125000000000000000000 * d) (2 * j * d48)), 0, 0)

/-- The segments of a MOVE over a signed distance (R237). -/
def moveSegs (dist v a j : Int) : List (Int × Nat) :=
  if dist = 0 then []
  else
    let (nj, na, nv) := moveFrames dist.natAbs v.toNat a.toNat j.toNat
    let jp := divFree 73 (dist * 125000000000000000000) (65536 * (nj * (nj + na) * (2 * nj + na + nv) : Nat))
    ([(jp, nj), (0, na), (-jp, nj), (0, nv), (-jp, nj), (0, na), (jp, nj)] : List (Int × Nat)).filter fun e => decide (0 < e.2)

/-- One frame of a velocity change (R238): the new state, and whether it has finished. The position of the frame in which it
finishes advances at the velocity held before. -/
def velChange (p v a v1 aLim jLim : Int) : (Int × Int × Int) × Bool :=
  if (v1 - v).natAbs * 25000000000000 ≤ jLim ∧ a.natAbs * 5000000 ≤ jLim then
    ((p + divFree 74 (v * 65536) 5000000, v1, 0), true)
  else
    let s := sgn ((v1 - v) * 2 * jLim - a * a.natAbs)
    let jk := if s = 0 then -(sgn a) * jLim else if s * a < aLim then s * jLim else 0
    let (p, v, a) := segState p v a jk 1
    ((p, v, clampI a (-aLim) aLim), false)

/-! ### Stops (R238 to R240, R247) -/

/-- The gear's ratio becomes 0 at once: a release, or part of a slip (R247). -/
def gearRelease (s : State) (g : Nat) : State :=
  modGear s g fun x => { x with ratio := 0, seam := .idle, catch_ := none, waits := [], fast := 0 }

/-- A seam of the gear runs. -/
def Gear.seamRuns (x : Gear) : Bool :=
  match x.seam with
  | .run .. => true
  | _ => false

/-- The gear moves its follower or would: a ratio, a seam, a seam that waits or a catch-up. -/
def gearLive (x : Gear) : Bool :=
  decide (x.ratio ≠ 0) || decide (x.seam ≠ .idle) || x.catch_.isSome || decide (x.waits ≠ [])

/-- A homing sequence under way ends without a shift (R258). -/
def homeAbort (s : State) (p : Nat) : State :=
  let st := (prfAt s p).home.st
  if st = 0 then s
  else raisePrf (modPrf s p fun x => { x with home := { x.home with st := 0, cand := none, window := none } }) .homeAborted p st

/-- A profile stop: the queue is discarded, the gear released, the velocity changes to 0 (R238). -/
def profStop (s : State) (p : Nat) : State :=
  let s := match gearOf s p with
    | some g => if gearLive (gearAt s g) then modPrf (gearRelease s g) p fun x => { x with a := 0 } else s
    | none => s
  modPrf s p fun x =>
    { x with queue := [], mot := if atRest x then .idle else .stop, steady := false, nv := 0, na := 0, rate := 0, stopNow := true }

/-- Starvation (R239, R241). -/
def starve (s : State) (p cause : Nat) : State := raisePrf (profStop s p) .prfStarved p cause

/-- PRF_STOP (R240, R258). -/
def prfStop (s : State) (d : Desc) : State := profStop (homeAbort s (tIdx d)) (tIdx d)

/-- A slip (R247). -/
def gearSlip (s : State) (g cause : Nat) : State :=
  let p := (gearAt s g).follower
  let s := gearRelease s g
  let s := modPrf s p fun x => { x with a := 0, mot := if x.v = 0 then .idle else .stop, steady := false, queue := [], stopNow := true }
  raisePrf s .prfGearSlip p (cause + handleOf s cGEAR g * 4294967296)

/-! ### Descriptors (R231, R235, R242, R244, R254) -/

/-- The joint that a profile descriptor names. -/
def prfJointOf (d : Desc) : Option Nat := if pf d 16 4 = 0 then none else some (hIdx (pf d 16 4))

/-- The full steps per motor revolution in force (R231). -/
def stepsPerRev (c : PrfCfg) (sc : Scale) : Nat := if c.steps = 0 then 4 * sc.polePairs else c.steps

/-- A profile's fields lie in their ranges (R231). -/
def prfFieldsOk (s : State) (d : Desc) : Bool :=
  let src := pf d 20 1
  let j := (prfJointOf d).bind fun j => mget s.joints j
  let step := (j.map fun x => x.stepper).getD false
  let fb := (j.bind fun x => x.fbch).isSome
  let pp : Nat := (j.map fun x => x.scale.polePairs).getD 0
  onlyBytes d [(16, 7), (24, 36)] && decide (1 ≤ src ∧ src ≤ 4) &&
    (j.isSome || decide (src = 1 ∨ src = 3)) &&
    ([24, 28, 32, 36, 40].all fun o => decide (0 < pfs d o 4)) &&
    (if src = 4 then decide (pf d 21 1 ≤ 7) && decide (pf d 22 1 ≤ 8) &&
        (decide (pf d 52 2 = 0) || decide (50 ≤ pf d 52 2 ∧ pf d 52 2 ≤ 50000)) && (decide (pf d 54 2 ≠ 0) || decide (pp ≠ 0))
     else decide (pf d 21 2 = 0) && decide (pf d 52 2 = 0)) &&
    (if step then decide (pf d 46 2 ≤ pf d 44 2) && decide (pf d 48 2 ≤ 10000) && decide (pf d 50 2 ≤ 10000) &&
        (fb || decide (pf d 56 4 = 0))
     else decide (pf d 44 8 = 0) && decide (pf d 56 4 = 0))

/-- The configuration of a descriptor. -/
def prfCfgOf (d : Desc) : PrfCfg :=
  { source := pf d 20 1, stepIn := pf d 21 1, stepSize := pf d 22 1, vMax := pfs d 24 4, aMax := pfs d 28 4, jMax := pfs d 32 4,
    aStop := pfs d 36 4, jStop := pfs d 40 4, runAmp := pf d 44 2, holdAmp := pf d 46 2,
    standMs := if pf d 48 2 = 0 then 200 else pf d 48 2, reduceMs := if pf d 50 2 = 0 then 100 else pf d 50 2,
    interpUs := if pf d 52 2 = 0 then 2000 else pf d 52 2, steps := pf d 54 2, stallLim := pf d 56 4 }

/-- The profile of a joint. -/
def jointProfile (s : State) (j : Nat) : Option Nat := (mkeys s.profiles fun _ x => decide (x.joint = some j)).head?

/-- PRF_CREATE's own rules (R230, R231). -/
def prfCreateCheck (s : State) (a : Acc) : Option Refuse :=
  let holder := (prfJointOf a.d).bind (jointProfile s)
  firstRefuse [
    (!(prfFieldsOk s a.d), rRANGE),
    (holder.isSome, rBUSY (handleOf? s cPROFILE holder)),
    (!(hasFree s cPROFILE), rNORES)]

/-- PRF_SET's own rules, in order (R231); a virtual axis that has left RUN takes none (R241, log 87). -/
def prfSetChecks (s : State) (a : Acc) : List (Bool × Refuse) :=
  let p := tIdx a.d
  let x := prfAt s p
  let still := atRest x && decide (x.queue = []) && decide (x.home.st = 0) &&
    match gearOf s p with
    | some g => decide ((gearAt s g).ratio = 0) && !(gearAt s g).seamRuns
    | none => true
  [
    (!(prfFieldsOk s a.d) || decide (prfJointOf a.d ≠ x.joint), rRANGE),
    (x.barred, rMODE),
    (decide (pf a.d 20 1 ≠ x.cfg.source) && !still, (stBUSY, 0))]

/-- The first of them that refuses. -/
def prfSetCheck (s : State) (a : Acc) : Option Refuse := firstRefuse (prfSetChecks s a)

/-- A new profile: its reference starts at the measured position (R241). -/
def prfNew (s : State) (d : Desc) : Profile :=
  let j := prfJointOf d
  let p := match j with
    | some j => jointPos s j * 4294967296
    | none => 0
  { joint := j, cfg := prfCfgOf d, p := p, base := p }

/-- The places of a profile's queue that members of open presses have reserved (R342). -/
def queueStaged (s : State) (p : Nat) : Nat :=
  (s.presses.map fun e => (e.2.members.filter fun m =>
    match m with
    | .desc a _ => decide (a.op = 0x0802) && decide (tIdx a.d = p)
    | _ => false).length).sum

/-- PRF_QUEUE's own rules, in order (R235). -/
def prfQueueChecks (s : State) (a : Acc) (staged : Nat) : List (Bool × Refuse) :=
  let d := a.d
  let x := prfAt s (tIdx d)
  let k := pf d 16 1
  let st := pf d 17 1
  let lims := [(32, x.cfg.vMax), (36, x.cfg.aMax), (40, x.cfg.jMax)]
  let limsOk := lims.all fun e => decide (0 ≤ pfs d e.1 4) && decide (pfs d e.1 4 ≤ e.2)
  let vLim := if pf d 32 4 = 0 then x.cfg.vMax else pfs d 32 4
  let fields :=
    match k with
    | 1 => decide (1 ≤ pf d 20 4) && decide (pf d 28 4 = 0) && decide ((pfs d 24 4).natAbs ≤ x.cfg.jMax) && decide (pf d 32 12 = 0)
    | 2 => decide (pf d 20 4 = 0) && limsOk
    | 3 => decide (pf d 20 4 = 0) && decide (pf d 28 4 = 0) && limsOk && decide ((pfs d 24 4).natAbs ≤ vLim)
    | _ => false
  let keyOk :=
    match st with
    | 0 => decide (pf d 44 8 = 0)
    | 1 => true
    | 2 => decide (pf d 48 4 = 0)
    | _ => false
  [
    (!(onlyBytes d [(16, 2), (20, 32)]) || !fields || !keyOk, rRANGE),
    (decide (x.cfg.source ≠ 1), rMODE),
    (decide (64 ≤ x.queue.length + staged), rNORES)]

/-- The first of them that refuses. -/
def prfQueueCheck (s : State) (a : Acc) (staged : Nat) : Option Refuse := firstRefuse (prfQueueChecks s a staged)

/-- PRF_QUEUE takes effect (R235, R236). -/
def prfQueue (s : State) (d : Desc) : State :=
  let x := prfAt s (tIdx d)
  let lim (o : Nat) (dflt : Int) : Int := if pf d o 4 = 0 then dflt else pfs d o 4
  let k := pf d 16 1
  let st := pf d 17 1
  let key := if st = 2 then pf d 44 4 else pf d 44 8
  let e : PEntry :=
    { kind := k, start := st, key := key, full := keyTime s key, due := decide (st = 0), frame := s.time.frame,
      behind := if st = 1 then lineBehind s key else if st = 2 then wallReached s key else false,
      dur := pf d 20 4,
      target := if k = 1 then jIn (pfs d 24 4) else if k = 2 then pfs d 24 8 * 4294967296 else vIn (pfs d 24 4),
      vLim := vIn (lim 32 x.cfg.vMax), aLim := aIn (lim 36 x.cfg.aMax), jLim := jIn (lim 40 x.cfg.jMax) }
  modPrf s (tIdx d) fun x => { x with queue := x.queue ++ [e] }

/-- The depth of a profile in its chain of gears: how many gears lie above it. -/
def gearDepth (fuel : Nat) (s : State) (p : Nat) : Nat :=
  match fuel with
  | 0 => 0
  | k + 1 =>
    match gearOf s p with
    | some g => let x := gearAt s g; if x.kind = 2 then 1 + gearDepth k s x.master else 1
    | none => 0

/-- The longest chain of gears below a profile. -/
def gearBelow (fuel : Nat) (s : State) (p : Nat) : Nat :=
  match fuel with
  | 0 => 0
  | k + 1 => nmax ((followersOf s p).map fun f => 1 + gearBelow k s f)

/-- GEAR_CREATE's own rules (R242). -/
def gearCreateCheck (s : State) (a : Acc) : Option Refuse :=
  let d := a.d
  let f := hIdx (pf d 16 4)
  let k := pf d 20 1
  let m := hIdx (pf d 24 4)
  let above := if k = 2 then gearDepth 8 s m else 0
  let cyc := decide (k = 2) && (decide (m = f) || (chainFrom s f).contains m)
  let held := gearOf s f
  firstRefuse [
    (!(onlyBytes d [(16, 6), (24, 4)]) || decide (k < 1 ∨ 3 < k) || decide (1 < pf d 21 1) || decide (pf d 21 1 = 1 ∧ k ≠ 1) ||
      decide (k = 1 ∧ pf d 24 4 ≠ 0), rRANGE),
    (held.isSome, rBUSY (handleOf? s cGEAR held)),
    (cyc || decide (4 < above + 1 + gearBelow 8 s f), rRANGE),
    (!(hasFree s cGEAR), rNORES)]

/-- The master value of a gear, modulo 2^64 (R243). -/
def masterOf (s : State) (x : Gear) : Nat :=
  match x.kind with
  | 1 => if x.hwm then s.line.hwm else s.line.line
  | 2 => un 64 (refPos (prfAt s x.master))
  | _ => un 64 (((fbAt s x.master).count - x.count0) * 4294967296)

/-- A new gear: ratio 0 (R242). -/
def gearNew (s : State) (d : Desc) : Gear :=
  let g : Gear := { follower := hIdx (pf d 16 4), kind := pf d 20 1, hwm := decide (pf d 21 1 = 1), master := hIdx (pf d 24 4),
                    count0 := if pf d 20 1 = 3 then (fbAt s (hIdx (pf d 24 4))).count else 0 }
  { g with last := masterOf s g }

/-- GEAR_SET's own rules, in order (R244); nor does its follower take one as a virtual axis that has left RUN (R241, log 87). -/
def gearSetChecks (s : State) (a : Acc) : List (Bool × Refuse) :=
  [
    (!(onlyBytes a.d [(16, 17), (36, 4)]) || decide (1 < pf a.d 32 1) || decide (pf a.d 32 1 = 0 ∧ pf a.d 24 8 ≠ 0), rRANGE),
    ((prfAt s (gearAt s (tIdx a.d)).follower).barred, rMODE),
    (decide ((gearAt s (tIdx a.d)).seam ≠ .idle), (stBUSY, 0))]

/-- The first of them that refuses. -/
def gearSetCheck (s : State) (a : Acc) : Option Refuse := firstRefuse (gearSetChecks s a)

/-- GEAR_SET takes effect (R244). -/
def gearSet (s : State) (d : Desc) : State :=
  modGear s (tIdx d) fun x =>
    { x with seam := .wait (pfs d 16 8) (pf d 36 4) (if pf d 32 1 = 1 then some (pf d 24 8) else none) }

/-! ### Gears (R243 to R247) -/

/-- The master speed in master units per second, as a fraction (R243). -/
def masterSpeed (s : State) (x : Gear) : Int × Nat :=
  match x.kind with
  | 1 => if x.hwm ∧ s.line.line ≠ s.line.hwm then (0, 1) else (lineSpeed s, 65536)
  | 2 => (refVel (prfAt s x.master), 16777216)
  | _ => (fbAt s x.master).speed

/-- A step of the master that the gear hides from its follower and makes up by a catch-up (R246). -/
def masterStep (s : State) (x : Gear) : Int := if x.kind = 1 then (if x.hwm then s.line.stepHwm else s.line.stepBy) else 0

/-- W_e in units of 2^-32 (R245); the rounding of its terms is free. -/
def seamWidth (c : PrfCfg) (w : Nat) (dr : Int) (sm : Int × Nat) : Nat :=
  let n := sm.1.natAbs
  let d := sm.2
  let r := dr.natAbs
  let t1 := divFree 75 (3 * n * n * r * 1048576 : Nat) (2 * d * d * c.aMax.toNat : Nat)
  let t2 := rootFree 76 (6 * n * n * n * r * 281474976710656 / (d * d * d * c.jMax.toNat))
  nmax [w * 65536, t1.toNat, t2.toNat]

/-- The seam's rise of the follower over r0 · dm, in units of 2^-64. -/
def seamRise (dr dm : Int) (we : Nat) : Int :=
  let w : Int := we
  if w = 0 then 0 else divFree 77 (dr * (2 * w * dm * dm * dm - dm * dm * dm * dm)) (2 * w * w * w)

/-- A cause of R247 holds for a gear: 0 none. -/
def slipCause (s : State) (x : Gear) : Nat :=
  if x.kind = 1 ∧ (s.line.desig.isNone ∨ s.line.frozen = true) then 1
  else if x.kind = 3 ∧ (fbAt s x.master).fault = true then 2
  else if x.kind = 2 ∧ ((prfAt s x.master).mot = .stop ∨ (prfAt s x.master).stopNow = true) then 3 else 0

/-- The base of a gear moves by a distance, and the start of a seam that runs with it. -/
def Gear.shiftBy (x : Gear) (q : Int) : Gear :=
  { x with pb := x.pb + q,
           seam := match x.seam with
                   | .run r0 r1 d we ps => .run r0 r1 d we (ps + q)
                   | k => k }

/-- The catch-ups of a gear move on by one frame: a queued one starts when none runs (R246). -/
def catchStep (s : State) (g : Nat) (c : PrfCfg) : State :=
  let x := gearAt s g
  match x.catch_, x.waits with
  | some (l, n, p0, v0, a0, dist), _ =>
    let (l, n, st, _) := segsStep l n p0 v0 a0
    match l with
    | [] => modGear s g fun x => { x with catch_ := none }.shiftBy dist
    | _ => modGear s g fun x => { x with catch_ := some (l, n, st.1, st.2.1, st.2.2, dist) }
  | none, dist :: t =>
    let l := moveSegs dist (vIn c.vMax / 4) (aIn c.aMax / 4) (jIn c.jMax / 4)
    modGear s g fun x => { x with catch_ := some (l, 0, 0, 0, 0, dist), waits := t }
  | none, [] => s

/-- The state of a running catch-up: its distance, velocity and acceleration so far. -/
def catchNow (x : Gear) : Int × Int × Int :=
  match x.catch_ with
  | some ((j, _) :: _, n, p0, v0, a0, _) => segState p0 v0 a0 j n
  | _ => (0, 0, 0)

/-- The master moves by a difference: the base, or a running seam, moves with it. -/
def gearMove (x : Gear) (m : Nat) (dm : Int) : Gear :=
  { x with last := m, dm := x.dm + dm,
           seam := match x.seam with
                   | .run r0 r1 d we ps => .run r0 r1 (d + dm) we ps
                   | k => k }

/-- A seam that is asked for starts when its key passes, or at once (R244, R245). -/
def seamStart (s : State) (g : Nat) (c : PrfCfg) (prev m : Nat) : State :=
  let x := gearAt s g
  match x.seam with
  | .wait r1 w key =>
    let passes := match key with
      | none => true
      | some k => decide (lineDiff prev k < 0) && decide (0 ≤ lineDiff m k) && decide (0 < lineDiff m prev)
    if passes then
      let sm := masterSpeed s x
      let we := seamWidth c w (r1 - x.ratio) sm
      let we16 := satU 32 (divFree 78 we 65536).toNat
      let ps := x.pb + x.ratio * x.dm
      let s := modGear s g fun x => { x with seam := .run x.ratio r1 0 we ps, ratio := r1, weLast := we16 }
      if w * 65536 < we then raisePrf s .prfSeamWidened x.follower (we16 * 4294967296) else s
    else s
  | _ => s

/-- A seam whose width is passed ends: the gear rebases (R245). -/
def seamEnd (s : State) (g : Nat) : State :=
  let x := gearAt s g
  match x.seam with
  | .run r0 r1 dm we ps =>
    if (we : Int) ≤ dm then
      let s := modGear s g fun x => { x with seam := .idle, ratio := r1, pb := ps + divFree 79 ((r0 + r1) * we) 2, dm := dm - we }
      raisePrf s .prfSeamDone x.follower (handleOf s cGEAR g * 4294967296)
    else s
  | _ => s

/-- The follower's position, and the ratio dp/dm and its slope in units of 2^-32, times 2^32, of a gear. -/
def gearPlace (x : Gear) : Int × Int × Int :=
  match x.seam with
  | .run r0 r1 dm we ps =>
    let w : Int := we
    if dm < 0 ∨ we = 0 then (ps + r0 * dm, r0, 0)
    else
      (ps + r0 * dm + seamRise (r1 - r0) dm we,
       r0 + divFree 80 ((r1 - r0) * (3 * w * dm * dm - 2 * dm * dm * dm)) (w * w * w),
       divFree 81 ((r1 - r0) * (6 * w * dm - 6 * dm * dm) * 4294967296) (w * w * w))
  | _ => (x.pb + x.ratio * x.dm, x.ratio, 0)

/-- The follower takes its geared place (R243, R245, R246). -/
def gearFollow (s : State) (g : Nat) : State :=
  let x := gearAt s g
  let p := x.follower
  let c := (prfAt s p).cfg
  let (pos, r, slope) := gearPlace x
  let (n, d) := masterSpeed s x
  let (cp, cv, ca) := catchNow x
  let v := divFree 82 (r * n * 65536) d
  let macc := if x.kind = 2 then (prfAt s x.master).a else Config.masterAcc s.time.frame g
  let acc := divFree 83 (slope * n * n) (65536 * d * d) + divFree 84 (r * macc) 4294967296
  let s := modPrf s p fun y => { y with p := pos + cp, v := v + cv, a := acc + ca, mot := .idle, steady := false }
  let fast := if vIn c.vMax < v.natAbs then x.fast + 1 else 0
  let s := modGear s g fun x => { x with fast := fast }
  if 8 ≤ fast then gearSlip s g 4 else s

/-- A gear whose follower may be moved, at a frame boundary (R243 to R247). -/
def gearFrame (s : State) (g : Nat) : State :=
  let x := gearAt s g
  let c := (prfAt s x.follower).cfg
  let m := masterOf s x
  let step := masterStep s x
  let prev := x.last
  let dm := lineDiff m prev - step
  let cause := slipCause s x
  if cause ≠ 0 ∧ (x.ratio ≠ 0 ∨ x.seamRuns = true ∨ x.catch_.isSome = true) then gearSlip (modGear s g fun x => { x with last := m }) g cause
  else
    let rest := decide (x.ratio = 0) && !x.seamRuns && x.catch_.isNone && decide (x.waits = [])
    -- with ratio 0 the follower holds, and the base follows it
    let s := modGear s g fun x => let y := gearMove x m dm; if rest then { y with pb := (prfAt s x.follower).p, dm := 0 } else y
    let s := seamStart s g c prev m
    let s := seamEnd s g
    let jump := (gearAt s g).ratio * step
    let s := if step ≠ 0 ∧ jump ≠ 0 then
        let s := raisePrf s .prfCatchup x.follower (un 32 (satS 32 (roundDiv jump 4294967296)) * 4294967296)
        modGear s g fun x => { x with waits := x.waits ++ [jump] }
      else s
    if 4 < (gearAt s g).waits.length - (if (gearAt s g).catch_.isNone then 1 else 0) then gearSlip s g 5
    else
      let s := catchStep s g c
      let y := gearAt s g
      if rest ∧ y.seamRuns = false ∧ y.catch_.isNone = true then s else gearFollow s g

/-- A gear whose follower it does not move, at a frame boundary: its seams go their way with the master (R244, R245), the base stays with
the follower's position, and a cause of R247 takes the ratio to 0 with the event, without a stop of a follower that it does not move
(DESIGN CHOICE, log 87). -/
def gearIdle (s : State) (g : Nat) : State :=
  let x := gearAt s g
  let m := masterOf s x
  let prev := x.last
  let cause := slipCause s x
  let moved := modGear s g fun x => gearMove x m (lineDiff m prev)
  if cause ≠ 0 ∧ (x.ratio ≠ 0 ∨ x.seamRuns = true) then
    raisePrf (gearRelease moved g) .prfGearSlip x.follower (cause + handleOf s cGEAR g * 4294967296)
  else
    let s := seamEnd (seamStart moved g (prfAt s x.follower).cfg prev m) g
    modGear s g fun y => y.shiftBy ((prfAt s x.follower).p - (gearPlace y).1)

/-! ### Homing (R253 to R258) -/

/-- A head's STATUS for a joint. -/
def jointStatus (s : State) (j : Nat) : Nat :=
  match mget s.joints j with
  | some x => (headAt s x.port x.pos).status
  | none => 0

/-- The WALL32 of the last grid sample of the cell that carries a joint's present STATUS (R255). -/
def headBitWall (s : State) (j : Nat) : Nat :=
  match mget s.joints j with
  | some x =>
    let h := headAt s x.port x.pos
    gridWall s x.port (8 * (h.statusFrame : Int) + 7 + (if primaryLane (portAt s x.port) x.pos then h.sB else h.sA)).toNat
  | none => s.time.wallF

/-- The raw level of a DIN pin, and its timestamp (R551, R552). -/
def dinRaw (s : State) (n : Nat) : Bool × Nat := let d := mgetD s.pins.dins n {}; (d.raw, d.rawTs)

/-- The limit input in a direction is active (R253, R552). -/
def limitActive (s : State) (x : Profile) (neg : Bool) : Bool :=
  match x.limDin with
  | some (a, b) => (dinRaw s (if neg then b else a)).1
  | none => match x.joint with
    | some j => bit (jointStatus s j) (if neg then 1 else 0)
    | none => false

/-- The reference input's present level: none for methods 4 and 5 (R255). -/
def homeLevel (s : State) (x : Profile) : Option Bool :=
  let h := x.home
  match h.method with
  | 3 => some (limitActive s x h.neg)
  | 1 | 2 =>
    if h.din then some (dinRaw s h.homeDin).1 else x.joint.map fun j => bit (jointStatus s j) 2
  | _ => none

/-- The joint position that a candidate latches: the measured one, or REF_POS without a channel. -/
def homePosNow (s : State) (x : Profile) : Int :=
  match x.joint.bind fun j => mget s.joints j with
  | some j => match j.fbch with
    | some f => jointPosOf (fbAt s f) j.scale
    | none => refPos x
  | none => refPos x

/-- Starts a motion of the homing sequence. -/
def homeMove (x : Profile) (back : Bool) : Profile :=
  let neg := x.home.neg != back
  { x with mot := .jog (vIn (if neg then -x.home.vSearch else x.home.vSearch)) (aIn x.cfg.aMax) (jIn x.cfg.jMax),
           home := { x.home with back := back } }

/-- A stop of the homing sequence. -/
def homeStop (x : Profile) : Profile := { x with mot := if atRest x then .idle else .stop, steady := false }

/-- The feedback channel of a profile's joint has FAULT or is UNCERTAIN: cause 3 of HOME_FAIL (R256). -/
def homeBad (s : State) (x : Profile) : Bool :=
  match x.joint.bind fun j => (mget s.joints j).bind fun j => j.fbch with
  | some f => (fbAt s f).fault || (fbAt s f).uncertain
  | none => false

/-- The sequence fails (R256). -/
def homeFail (s : State) (p cause : Nat) : State :=
  let s := modPrf s p fun x => homeStop { x with home := { x.home with st := 7, cand := none, window := none } }
  if cause = 0 then s else raisePrf s .homeFail p cause

/-- The reference edge is accepted (R255, R256). -/
def homeAccept (s : State) (p : Nat) : State :=
  let x := prfAt s p
  let h := x.home
  match h.cand with
  | none => s
  | some (pos, wall) =>
    let edges := s.time.elapsed :: (h.edges.filter fun t => decide (s.time.elapsed - t ≤ 100 * msU))
    let active := !h.confirmed
    let capture := decide (h.st = 2)
    let s := modPrf s p fun x =>
      { x with hcap := pos, hcapT := wall,
               home := { x.home with confirmed := active, cand := none, window := none, edges := edges,
                                     cap := if capture then pos else x.home.cap, capT := if capture then wall else x.home.capT } }
    if 8 < edges.length then homeFail (raisePrf s .homeChatter p edges.length) p 0
    else if h.st = 1 ∧ active = false then modPrf s p fun x => homeStop { x with home := { x.home with leaving := true } }
    else if capture then
      if h.method = 2 then
        let f := x.joint.bind fun j => (mget s.joints j).bind fun j => j.fbch
        modPrf s p fun x => { x with home := { x.home with st := 4, pulses := (f.map fun f => (fbAt s f).pulses).getD 0 } }
      else modPrf s p fun x => homeStop { x with home := { x.home with st := 5 } }
    else s

/-- A raw level of the reference input, at an instant with its WALL32 (R255). -/
def homeRaw (s : State) (p : Nat) (level : Bool) (wall : Nat) : State :=
  let x := prfAt s p
  let h := x.home
  if h.st = 0 ∨ h.st = 7 ∨ level = h.raw then s
  else
    let cand := if h.cand.isNone ∧ level ≠ h.confirmed then some (homePosNow s x, wall) else h.cand
    let s := modPrf s p fun x =>
      { x with home := { x.home with raw := level, cand := cand, window := some (s.time.elapsed + h.debounce * 10 * usU) } }
    if h.debounce = 0 then
      if level ≠ h.confirmed then homeAccept s p else modPrf s p fun x => { x with home := { x.home with cand := none } }
    else s

/-- HOME_DEBOUNCE_EXPIRY: the window ends (R255). -/
def homeExpiry (s : State) (p : Nat) : State :=
  let h := (prfAt s p).home
  match h.window with
  | some t =>
    if s.time.elapsed < t ∨ h.st = 0 ∨ h.st = 7 then s
    else if h.raw = h.confirmed then modPrf s p fun x => { x with home := { x.home with cand := none, window := none } }
    else homeAccept s p
  | none => s

/-- The raw level of a DIN pin has changed: the sequences whose reference input it is see it (R255, R552). -/
def homeDinChange (s : State) (pin : Nat) : State :=
  let (level, ts) := dinRaw s pin
  (mkeys s.profiles fun _ x =>
      decide (x.home.st ≠ 0) && x.home.din &&
        (if x.home.method = 3 then decide (pin = (if x.home.neg then x.home.negDin else x.home.posDin))
         else decide (x.home.method ≤ 2) && decide (pin = x.home.homeDin))).foldl
    (fun s p => homeRaw s p level ts) s

/-- PRF_HOME's own rules, in order (R254). -/
def prfHomeChecks (s : State) (a : Acc) : List (Bool × Refuse) :=
  let d := a.d
  let x := prfAt s (tIdx d)
  let m := pf d 16 1
  let j := x.joint.bind fun j => mget s.joints j
  let reg := prfRegion s (tIdx d)
  let aux := (j.bind fun j => (mget s.arms j.arm).map fun r => r.aux).getD false
  let st := reg.map (regionSt s)
  let indexed := match j.bind fun j => j.fbch with
    | some f => (fbAt s f).cfg.index
    | none => 0
  [
    (!(onlyBytes d [(16, 24)]) || decide (m < 1 ∨ 5 < m) || decide (1 < pf d 17 1) || decide (1 < pf d 18 1) ||
      (if pf d 18 1 = 1 then decide (63 < pf d 19 1) || decide (63 < pf d 20 1) || decide (63 < pf d 21 1) else decide (pf d 19 3 ≠ 0)) ||
      decide (1000 < pf d 22 2 ∧ pf d 22 2 ≠ 0xFFFF) || decide (pfs d 32 4 ≤ 0) || decide (x.cfg.vMax < pfs d 32 4), rRANGE),
    (!(decide (st = some .service) || (decide (st = some .active) && aux)), rMODE),
    (!(atRest x && decide (x.cfg.source = 1) && decide (x.queue = [])) || decide (x.home.st ≠ 0), (stBUSY, 0)),
    (decide (m = 2 ∨ m = 4) && decide (indexed = 0), rRANGE)]

/-- The first of them that refuses. -/
def prfHomeCheck (s : State) (a : Acc) : Option Refuse := firstRefuse (prfHomeChecks s a)

/-- PRF_HOME starts a sequence (R254, R256). -/
def prfHome (s : State) (d : Desc) : State :=
  let p := tIdx d
  let din := decide (pf d 18 1 = 1)
  let m := pf d 16 1
  let x := prfAt s p
  let h : Home :=
    { st := 2, method := m, neg := decide (pf d 17 1 = 1), din := din, homeDin := pf d 19 1, posDin := pf d 20 1, negDin := pf d 21 1,
      debounce := if pf d 22 2 = 0xFFFF then 100 else pf d 22 2, homePos := pfs d 24 8, vSearch := pfs d 32 4, maxTravel := pf d 36 4,
      start := refPos x }
  let f := x.joint.bind fun j => (mget s.joints j).bind fun j => j.fbch
  let s := modPrf s p fun x => { x with limDin := if din then some (pf d 20 1, pf d 21 1) else none, home := h }
  let lv := (homeLevel s (prfAt s p)).getD false
  modPrf s p fun x =>
    let x := { x with home := { x.home with confirmed := lv, raw := lv, pulses := (f.map fun f => (fbAt s f).pulses).getD 0 } }
    if m = 5 then { x with home := { x.home with st := 6, cap := homePosNow s x } }
    else if lv then homeMove { x with home := { x.home with st := 1 } } true
    else homeMove x false

/-- A homing sequence at a frame boundary (R255, R256). -/
def homeFrame (s : State) (p : Nat) : State :=
  let x := prfAt s p
  let h := x.home
  if h.st = 0 then s
  else if h.st = 7 then
    if atRest x then
      let step := ((x.joint.bind fun j => mget s.joints j).map fun j => j.stepper).getD false
      modPrf s p fun x => { x with home := { x.home with st := 0 }, reduceAt := if step then some s.time.elapsedF else none }
    else s
  else
    let s := if h.din then s
      else match homeLevel s x with
        | some lv =>
          homeRaw s p lv ((x.joint.map (headBitWall s)).getD s.time.wallF)
        | none => s
    let x := prfAt s p
    let h := x.home
    if h.st = 0 ∨ h.st = 7 then s
    else if homeBad s x then homeFail s p 3
    else if h.st = 6 then s
    else
      let fb := x.joint.bind fun j => (mget s.joints j).bind fun j => j.fbch
      let dirNeg := h.neg != h.back
      let isRef := decide (h.method = 3) && decide (dirNeg = h.neg)
      let lim := limitActive s x dirNeg && !isRef && (h.st = 1 || h.st = 2 || h.st = 4)
      let pulse := match fb with
        | some f => decide (h.pulses < (fbAt s f).pulses)
        | none => false
      let index : Int := match fb, x.joint.bind fun j => mget s.joints j with
        | some f, some j => jointPosOf { fbAt s f with count := (fbAt s f).indexCount } j.scale
        | _, _ => 0
      if h.maxTravel ≠ 0 ∧ (h.maxTravel : Int) * 65536 < (refPos x - h.start).natAbs then homeFail s p 2
      else if lim then
        if h.st = 2 ∧ h.reversed = false then modPrf s p fun x => homeStop { x with home := { x.home with st := 3 } }
        else homeFail s p 1
      else if (h.st = 4 ∨ (h.st = 2 ∧ h.method = 4)) ∧ pulse = true then
        modPrf s p fun x => homeStop { x with hcap := index, home := { x.home with st := 5, cap := index } }
      else if h.st = 1 ∧ h.leaving = true ∧ atRest x = true then
        modPrf s p fun x => homeMove { x with home := { x.home with st := 2, leaving := false } } false
      else if h.st = 3 ∧ atRest x = true then
        modPrf s p fun x => homeMove { x with home := { x.home with st := 2, reversed := true } } true
      else if h.st = 5 ∧ atRest x = true then modPrf s p fun x => { x with home := { x.home with st := 6 } }
      else s

/-- The home shift at a servo-tick boundary (R257); the count, the index reference and the serial base saturate (R9, R141). DESIGN CHOICE
(log 87): the rounding to Q0.16 is that of the term subtracted from ANGLE_OFFSET (R257, R567). -/
def homeShift (s : State) (p : Nat) : State :=
  let x := prfAt s p
  let h := x.home
  if h.st ≠ 6 then s
  else if homeBad s x then homeFail s p 3
  else if atRest x = false then s
  else
    let j := x.joint.bind fun j => mget s.joints j
    let (delta, s) : Int × State :=
      match j, j.bind fun j => j.fbch with
      | some j, some f =>
        let b := fbAt s f
        let fs : Int := fullScale b.cfg j.scale
        let sg := dirSign j.scale
        let ratio := j.scale.ratio
        let k := roundDiv ((h.homePos - h.cap) * ratio * fs * sg) 281474976710656
        let off := un 16 ((b.cfg.angleOff : Int) - roundDiv (j.scale.polePairs * sg * k * 65536) fs)
        let s := modFb s f fun b =>
          { b with count := satS 64 (b.count + k), indexRef := b.indexRef.map fun r => satS 64 (r + k), serBase := satS 64 (b.serBase + k),
                   cfg := { b.cfg with angleOff := off } }
        (divFree 85 (sg * k * 18446744073709551616 * 65536) (fs * ratio), s)
      | _, _ =>
        let dl := h.homePos - h.cap
        (dl * 4294967296, modPrf s p fun x => { x with shift := satS 64 (x.shift + dl) })
    let s := modPrf s p fun x =>
      { x with p := x.p + delta, base := x.base + delta, homed := true, home := { x.home with st := 0 } }
    raisePrf s .prfHomed p (b2n h.reversed + un 32 (satS 32 (roundDiv delta 4294967296)) * 4294967296)

/-! ### Step inputs (R248, R249) -/

/-- The configuration of a step input. -/
def stepCfg (s : State) (n : Nat) : Nat := reg s (0x180010 + 4 * n)

/-- The interpolation target of a STEPDIR profile, in units of 2^-64 rev. -/
def stepTarget (s : State) (x : Profile) : Int :=
  match x.joint.bind fun j => mget s.joints j with
  | some j =>
    let den : Int := 256 * stepsPerRev x.cfg j.scale * j.scale.ratio
    if den = 0 then x.base else x.base + divFree 86 (x.target * 65536 * 18446744073709551616) den
  | none => x.base

/-- PRF_SET takes effect: a profile that follows steps before and after keeps the target it has reached. -/
def prfSet (s : State) (d : Desc) : State :=
  modPrf s (tIdx d) fun x =>
    if x.cfg.source = 4 ∧ pf d 20 1 = 4 then { x with cfg := prfCfgOf d, base := stepTarget s x, target := 0 }
    else { x with cfg := prfCfgOf d, base := x.p, target := 0, rate := 0 }

/-- The sources of a profile may run: its region's state, or for a virtual axis the device mode (R241). -/
def prfRuns (s : State) (p : Nat) : Bool :=
  match prfRegion s p with
  | some r => decide (regionSt s r = .active) || ((prfAt s p).cfg.source = 2 && (regionSt s r = .hold || regionSt s r = .mending))
  | none => decide (s.md.mode = .run)

/-- STEP_EDGE: an accepted edge of STEPn with the level of DIRn (R248, R249). -/
def stepEdge (s : State) (n : Nat) (dir : Bool) : State :=
  let c := stepCfg s n
  if bit c 0 = false then s
  else
    let up := dir != bit c 2
    let x := mgetD s.stepIns n {}
    let now := s.time.elapsed
    let close := match x.last with
      | some (t, _) => decide (now - t < 100 * nsU)
      | none => false
    let first := close && !x.overrun
    let s := { s with stepIns := mput s.stepIns n
                        { count := un 32 ((x.count : Int) + (if up then 1 else -1)), last := some (now, up), overrun := x.overrun || close } }
    let followers := mkeys s.profiles fun _ p => decide (p.cfg.source = 4) && decide (p.cfg.stepIn = n)
    -- the event carries the handle of the first profile that follows the input; none follows: the null handle (log 87)
    let s := if first then match followers.head? with
        | some p => raisePrf s .prfStepOverrun p n
        | none => raise s .prfStepOverrun 0 n (blockOrigin 0x10)
      else s
    followers.foldl (fun s p =>
      if prfRuns s p then
        let s := modPrf s p fun y => { y with target := y.target + (if up then 1 else -1) * (2 : Int) ^ y.cfg.stepSize }
        let y := prfAt s p
        let most := y.cfg.interpUs * usU
        let span := match x.last with
          | some (t, u) => if u = up ∧ now - t ≤ most then now - t else most
          | none => most
        modPrf s p fun y => { y with rate := if span = 0 then 0 else divFree 87 ((stepTarget s y - y.p) * secU) (span * 65536) }
      else modPrf s p fun y => { y with held := y.held + 1 }) s

/-- A STEPDIR profile's frame (R249). -/
def stepFrame (s : State) (p : Nat) : State :=
  let x := prfAt s p
  let t := stepTarget s x
  let q := x.p + divFree 88 (x.rate * 65536) 5000000
  let q := if 0 ≤ x.rate then (if t < q ∧ x.p ≤ t then t else q) else (if q < t ∧ t ≤ x.p then t else q)
  let r := if q = t then 0 else x.rate
  modPrf s p fun x => { x with p := q, v := r, rate := r, mot := .idle }

/-! ### The frame (R233, R236 to R241) -/

/-- The running motion moves on by one frame; true when an entry or a stop has ended. -/
def motStep (x : Profile) : Profile × Bool :=
  match x.mot with
  | .idle => ({ x with p := x.p + divFree 74 (x.v * 65536) 5000000 }, false)
  | .segs l n p0 v0 a0 snap k =>
    let (l, n, st, now) := segsStep l n p0 v0 a0
    match l with
    | [] =>
      match snap with
      | some t => ({ x with p := t.1, v := t.2.1, a := t.2.2, mot := .idle }, true)
      | none => ({ x with p := now.1, v := now.2.1, a := now.2.2, mot := .idle }, true)
    | _ => ({ x with p := now.1, v := now.2.1, a := now.2.2, mot := .segs l n st.1 st.2.1 st.2.2 snap k }, false)
  | .jog v1 al jl =>
    let (st, fin) := velChange x.p x.v x.a v1 al jl
    ({ x with p := st.1, v := st.2.1, a := st.2.2, mot := if fin then .idle else x.mot, steady := fin && decide (st.2.1 ≠ 0) }, fin)
  | .stop =>
    let (st, fin) := velChange x.p x.v x.a 0 (aIn x.cfg.aStop) (jIn x.cfg.jStop)
    ({ x with p := st.1, v := st.2.1, a := st.2.2, mot := if fin then .idle else .stop }, fin)

/-- An entry begins (R234, R237, R238, R241). -/
def entryBegin (s : State) (p : Nat) (e : PEntry) (service : Bool) : State :=
  let x := prfAt s p
  match e.kind with
  | 1 =>
    if service then starve s p 4
    else modPrf s p fun x => { x with mot := .segs [(e.target, e.dur)] 0 x.p x.v x.a e.snap true, steady := false }
  | 2 =>
    if atRest x = false then starve s p 2
    else
      match moveSegs (e.target - x.p) e.vLim e.aLim e.jLim with
      | [] => s
      | l => modPrf s p fun x => { x with mot := .segs l 0 x.p 0 0 (some (e.target, 0, 0)) false, steady := false }
  | _ => modPrf s p fun x => { x with mot := .jog e.target e.aLim e.jLim, steady := false }

/-- Entries start while nothing runs (R236, R239). The fuel bounds the MOVEs that end at once. -/
def entriesStart (fuel : Nat) (s : State) (p : Nat) (ended service : Bool) : State :=
  match fuel with
  | 0 => s
  | k + 1 =>
    let x := prfAt s p
    if x.mot ≠ .idle then s
    else
      match x.queue with
      | [] => if ended && !(atRest x) && !x.steady then starve s p 1 else s
      | e :: t =>
        if e.due then entriesStart k (entryBegin (modPrf s p fun x => { x with queue := t }) p e service) p true service
        else if atRest x || x.steady then s else starve s p 3

/-- Keys of queued entries that fire in this frame (R236). -/
def keysFire (s : State) (p : Nat) : State :=
  modPrf s p fun x =>
    { x with queue := x.queue.map fun (e : PEntry) =>
        if e.due then e
        else if e.start = 1 then { e with due := lineFires s e.key e.frame e.behind }
        else { e with due := wallFires s e.full e.frame e.behind } }

/-- The limits of R239, from which a profile stop is exempt. -/
def limitCheck (s : State) (p : Nat) : State :=
  let x := prfAt s p
  if x.mot = .stop then modPrf s p fun x => { x with nv := 0, na := 0 }
  else
    let nv := if vIn x.cfg.vMax < x.v.natAbs then x.nv + 1 else 0
    let na := if aIn x.cfg.aMax < x.a.natAbs then x.na + 1 else 0
    let s := modPrf s p fun x => { x with nv := nv, na := na }
    if 8 ≤ nv then raisePrf (profStop s p) .prfLimitExceeded p 1
    else if 8 ≤ na then raisePrf (profStop s p) .prfLimitExceeded p 2 else s

/-- |REF_POS − POS| as PRF_P_FERR shows it. -/
def followErr (s : State) (x : Profile) : Nat :=
  match x.joint with
  | some j => satU 32 (refPos x - jointPos s j).natAbs
  | none => 0

/-- Limit switches outside homing, and the stall check (R252, R253). -/
def switchCheck (s : State) (p : Nat) : State :=
  let x := prfAt s p
  -- the reference moves toward an active limit: reported when that begins
  let neg := decide (x.v < 0)
  let hit := decide (x.home.st = 0) && decide (x.v ≠ 0) && limitActive s x neg
  let s := modPrf s p fun x => { x with limHit := hit }
  let s := if hit && !x.limHit then raisePrf (profStop s p) .prfLimitSwitch p (b2n neg) else s
  let j := x.joint.bind fun j => mget s.joints j
  let sound := match j.bind fun j => j.fbch with
    | some f => !(fbAt s f).fault && !(fbAt s f).uncertain
    | none => false
  let step := (j.map fun j => j.stepper).getD false
  let run := if step && sound && decide (x.cfg.stallLim ≠ 0) && decide (x.cfg.stallLim < (refPos x - (jointPos s (x.joint.getD 0))).natAbs)
    then x.stallRun + 1 else 0
  let s := modPrf s p fun x => { x with stallRun := run }
  if run = 16 then raisePrf (profStop s p) .prfStall p (followErr s x * 4294967296) else s

/-- The microstep angle of a STEPPER joint (R250). -/
def microstep (s : State) (x : Profile) (j : Joint) : Nat :=
  let (n, d) : Int × Int :=
    match j.fbch with
    | some f => (j.scale.polePairs * j.scale.ratio * refPos x + (fbAt s f).cfg.angleOff * 4294967296, 281474976710656)
    | none => (j.scale.polePairs * j.scale.ratio * (refPos x - x.shift), 281474976710656)
  un 32 (roundDiv (n * 1024) d * 4194304)

/-- The amplitude and angle of a STEPPER joint (R250, R251). `moved`: the reference moved in this frame. -/
def stepperDrive (s : State) (p : Nat) (moved : Bool) : State :=
  let x := prfAt s p
  match x.joint.bind fun j => mget s.joints j with
  | some j =>
    if j.stepper then
      let since := if moved then none else match x.restSince with
        | some t => some t
        | none => some s.time.elapsedF
      let red := if moved then none else x.reduceAt
      let top := q16 x.cfg.runAmp
      let low := q16 x.cfg.holdAmp
      let amp := match red with
        | none => top
        | some t =>
          let full := x.cfg.reduceMs * msU
          let dt := s.time.elapsedF - t
          if full ≤ dt then low else top - divFree 89 ((top - low) * dt) full
      modPrf s p fun x => { x with restSince := since, reduceAt := red, amp := amp, theta := microstep s x j }
    else s
  | none => s

/-- STEPPER_REDUCE_START (R251). -/
def reduceStart (s : State) (p : Nat) : State :=
  let x := prfAt s p
  let step := ((x.joint.bind fun j => mget s.joints j).map fun j => j.stepper).getD false
  match x.restSince with
  | some t =>
    if isLive s cPROFILE p ∧ step = true ∧ x.reduceAt.isNone = true ∧ x.cfg.standMs * msU ≤ s.time.elapsed - t then
      modPrf s p fun x => { x with reduceAt := some s.time.elapsed }
    else s
  | none => s

/-- In SAFE_OFF the reference rests at the measured position, or where it stands (R241). -/
def prfOff (s : State) (p : Nat) : State :=
  let s := homeAbort s p
  let s := match gearOf s p with
    | some g => if (prfAt s p).wasOff then gearIdle s g else gearRelease s g
    | none => s
  modPrf s p fun x =>
    let fb := x.joint.bind fun j => (mget s.joints j).bind fun j => j.fbch
    let q := match fb, x.joint with
      | some _, some j => jointPos s j * 4294967296
      | _, _ => x.p
    { x with p := q, v := 0, a := 0, mot := .idle, steady := false, queue := [], nv := 0, na := 0, rate := 0, base := q, target := 0,
             homed := x.homed && (match fb with | some f => !(fbAt s f).fault | none => x.wasOff), wasOff := true, ran := false, stallRun := 0, planNew := none,
             vTick := 0 }

/-- A profile returns to running: a STEPDIR target is reset to the reference (R241). -/
def prfResume (s : State) (p : Nat) : State :=
  let x := prfAt s p
  if x.cfg.source = 4 then
    let n := x.held
    let s := modPrf s p fun x => { x with base := x.p, target := 0, rate := 0, held := 0 }
    if n = 0 then s else raisePrf (bumpBy s (0x181034 + 0x40 * p) n) .prfStepsLost p (satU 32 n * 4294967296)
  else s

/-- A profile's evaluation at a frame boundary (R233). -/
def prfFrame (s : State) (p : Nat) : State :=
  let x0 := prfAt s p
  let st := (prfRegion s p).map (regionSt s)
  if st = some .safeOff ∨ st = some .empty then
    let s := prfOff s p
    stepperDrive s p (decide ((prfAt s p).p ≠ x0.p))
  else
    let runs := prfRuns s p
    let service := decide (st = some .service)
    let s := if runs && !x0.ran then prfResume s p else s
    let g := gearOf s p
    let geared := decide (x0.cfg.source = 3) && runs
    let s := keysFire s p
    -- what runs moves the reference up to this boundary
    let engaged : Bool := match g with
      | some g => geared && gearLive (gearAt s g) && decide ((prfAt s p).mot ≠ .stop)
      | none => false
    let stepping := decide (x0.cfg.source = 4) && runs && decide (x0.mot ≠ .stop)
    let (s, ended) : State × Bool :=
      if stepping then (stepFrame s p, false)
      else if engaged then (s, false)
      else
        let (y, e) := motStep (prfAt s p)
        (modPrf s p fun _ => y, e)
    -- a commit of planning control replaces what runs from this boundary (R299, R300)
    let s := match (prfAt s p).planNew with
      | some [] => modPrf (profStop s p) p fun x => { x with planNew := none }
      | some q => modPrf s p fun x => { x with planNew := none, mot := .idle, steady := false, queue := q }
      | none => s
    let s := match g with
      | some g => if geared then gearFrame s g else gearIdle s g
      | none => s
    -- the state of the region, or the device mode, stops what may not run (R241)
    let mayService := service && decide (x0.cfg.source = 1)
    let wrong := mayService && (match (prfAt s p).mot with | .segs _ _ _ _ _ _ true => true | _ => false)
    let s :=
      if x0.ran && !runs && !mayService then
        if service && decide (x0.cfg.source = 2) && !(atRest (prfAt s p)) then starve s p 4 else profStop s p
      else if wrong then starve s p 4 else s
    let s := if !runs && !service then homeAbort s p else s
    let free := (runs || mayService) && decide ((prfAt s p).home.st = 0) && decide (x0.cfg.source ≤ 2)
    let s := if free then entriesStart 66 s p ended service else s
    let failed := decide ((prfAt s p).home.st = 7)
    let s := homeFrame s p
    -- the standstill reduction that follows a failed homing begins in the frame in which its stop ends (R251)
    let ended := failed && decide ((prfAt s p).home.st = 0)
    let s := limitCheck s p
    let s := switchCheck s p
    let fault := match x0.joint.bind fun j => (mget s.joints j).bind fun j => j.fbch with
      | some f => (fbAt s f).fault
      | none => false
    let left := x0.joint.isNone && (x0.barred || x0.ran) && !runs
    let s := modPrf s p fun x => { x with ran := runs || mayService, wasOff := false, homed := x.homed && !fault, barred := left }
    let y := prfAt s p
    stepperDrive s p ((decide (y.p ≠ x0.p) && !ended) || !(atRest y))

/-- Every live profile and gear is evaluated, masters before their followers, within 120 ns (R233, R242, R259). -/
def profilesFrame (s : State) : State :=
  let s := noteLongest s 0x180004 120
  let s := [0, 1, 2, 3, 4].foldl (fun s d =>
    (mkeys s.profiles fun p _ => decide (gearDepth 5 s p = d)).foldl prfFrame s) s
  { s with profiles := s.profiles.map fun e => (e.1, { e.2 with stopNow := false }) }

/-- The set-points of STEPPER joints that the next pass uses (R194, R233). -/
def stepperSetpoints (s : State) : State :=
  s.profiles.foldl (fun s e =>
    match e.2.joint with
    | some j =>
      match mget s.joints j with
      | some x => if x.stepper then modSw s x.swch fun w => { w with sp := (e.2.theta, e.2.amp) } else s
      | none => s
    | none => s) s

/-- The unit at a servo-tick boundary: STEPDIR accelerations, and the home shifts (R249, R257). -/
def profilesServo (s : State) : State :=
  let s := { s with profiles := s.profiles.map fun (e : Nat × Profile) =>
      let x := e.2
      if x.cfg.source = 4 ∧ x.mot ≠ PMot.stop then (e.1, { x with a := (x.v - x.vTick) * 31250, vTick := x.v }) else (e.1, { x with vTick := x.v }) }
  (s.profiles.map Prod.fst).foldl homeShift s

/-- At a plan-tick boundary each input may raise PRF_STEP_OVERRUN again (R248). -/
def stepsPlan (s : State) : State := { s with stepIns := s.stepIns.map fun e => (e.1, { e.2 with overrun := false }) }

/-- The profiles of the joint that a feedback channel serves lose HOMED (R257). -/
def homedClear (s : State) (f : Nat) : State :=
  { s with profiles := s.profiles.map fun e =>
      match e.2.joint.bind fun j => mget s.joints j with
      | some j => if j.fbch = some f then (e.1, { e.2 with homed := false }) else e
      | none => e }

/-- PRF_P_STAT (R259). -/
def prfStat (s : State) (p : Nat) : Nat :=
  if isLive s cPROFILE p then
    let x := prfAt s p
    let catch_ := match gearOf s p with
      | some g => (gearAt s g).catch_.isSome
      | none => false
    let waits := match x.queue with
      | e :: _ => !e.due
      | [] => false
    x.cfg.source + 8 * x.home.st + 64 * b2n (atRest x) + 128 * b2n x.homed + 256 * b2n (decide (x.mot = .stop)) +
      512 * b2n x.reduceAt.isSome + 1024 * b2n catch_ + 2048 * Nat.min 64 x.queue.length + 262144 * b2n waits
  else 0

/-- PRF_G_STAT (R259). -/
def gearStat (s : State) (g : Nat) : Nat :=
  if isLive s cGEAR g then
    let x := gearAt s g
    let st := match x.seam with
      | .run .. => 2
      | .wait _ _ (some _) => 3
      | _ => if x.ratio = 0 then 0 else 1
    x.kind + 4 * b2n x.hwm + 8 * st
  else 0

end Sys2Proof.Machine
end

