-- ==== Sys2Proof/Machine/Security.lean ====
section
/-!
DEFINITION. The keeper's security: lifecycle (R516 to R518), images and signatures (R519 to R523), rollback floors (R524),
SEC_IMAGE (R525, R526), debug tokens and sessions (R527 to R534), the TAP (R535).
-/
namespace Sys2Proof.Machine

/-- SEC and DBG origin (R471). -/
def oSEC : Nat := blockOrigin 4

/-! ### Images -/

/-- A signature record stands at `off` (R520): signer, SVN, and whether it is well formed and verifies over the bytes before it and
its own first 16. SIGNER 0 carries zeros and verifies by that. -/
def sigSigner (bs : List Byte) (off : Nat) : Nat := leNat (takeBytes bs (off + 4) 1)
def sigSvn (bs : List Byte) (off : Nat) : Nat := leNat (takeBytes bs (off + 8) 4)

/-- The digest of the key a signer signs with: the vendor key, or the owner key once supplied (R521). -/
def signerKey (s : State) (signer : Nat) : Option Nat :=
  match signer with
  | 1 => some Config.vendorKeyDigest
  | 2 => if s.sec.ownerSupplied then s.sec.ownerDigest else none
  | _ => none

/-- The signature record at `off` verifies (R520, R521). -/
def sigVerifies (s : State) (bs : List Byte) (off : Nat) : Bool :=
  let f (o n : Nat) : Nat := leNat (takeBytes bs (off + o) n)
  let r := beNat (takeBytes bs (off + 16) 48)
  let t := beNat (takeBytes bs (off + 64) 48)
  decide (f 0 4 = 0x31474953) && decide (f 5 3 = 0) && decide (f 12 4 = 0) && decide (off + 112 ≤ bs.length) &&
    match sigSigner bs off with
    | 0 => decide (r = 0) && decide (t = 0)
    | k => match signerKey s k with
           | some key => Config.ecdsaVerifies key (Config.sha384 (bs.take (off + 16))) r t
           | none => false

/-- The signer that an image kind must carry in a lifecycle state: kind 1 firmware, else Draver image or problem block (R521). -/
def signerPermitted (lifecycle kind signer : Nat) : Bool :=
  if kind = 1 then decide (signer = 1)
  else
    match lifecycle with
    | 0 => decide (signer = 0) || decide (signer = 1)
    | 3 => decide (signer = 1)
    | _ => decide (signer = 2)

/-- The image envelope is well formed (R519). -/
def envelopeOk (bs : List Byte) (kind : Nat) : Bool :=
  let f (o n : Nat) : Nat := leNat (takeBytes bs o n)
  let len := f 8 4
  let enc := bit (f 7 1) 0
  decide (f 0 4 = 0x4D49434B) && decide (f 4 2 = 1) && decide (f 6 1 = kind) && decide (f 7 1 < 4) &&
    (decide (kind = 1) || decide (f 7 1 < 2)) && decide (16 ≤ len) && decide (len % 16 = 0) &&
    (enc || (decide (f 12 12 = 0) && decide (f 24 16 = 0))) && decide (f 40 24 = 0) && decide (bs.length = 176 + len)

/-- The offset of an envelope's signature record. -/
def envelopeSig (bs : List Byte) : Nat := 64 + leNat (takeBytes bs 8 4)

/-- The key digest under which an encrypted payload decrypts: the family firmware key, or the owner image key (R522). -/
def imageKey (s : State) (kind : Nat) : Option Nat :=
  if kind = 1 then some 0
  else if factoryOnly s then none else s.sec.ownerImageKey

/-- The check of R522 on bytes whose signature record lies at `sig`: 0 passes, else the sub-cause. -/
def imageCheck (s : State) (kind : Nat) (bs : List Byte) (sig : Nat) (encrypted : Bool) : Nat :=
  if !(signerPermitted s.sec.lifecycle kind (sigSigner bs sig)) then 2
  else if !(sigVerifies s bs sig) then 1
  else if sigSvn bs sig < (if kind = 1 then s.sec.fwFloor else s.sec.usrFloor) then 3
  else if encrypted then
    match imageKey s kind with
    | some k => if Config.gcmTagOk k bs then 0 else 4
    | none => 4
  else 0

/-- The check of an image in its envelope (R519, R522). A malformed envelope counts as a signature failure. -/
def envelopeCheck (s : State) (kind : Nat) (bs : List Byte) : Nat :=
  if !(envelopeOk bs kind) then 1
  else imageCheck s kind bs (envelopeSig bs) (bit (leNat (takeBytes bs 7 1)) 0)

/-- SEC_IMAGE_REJECTED: kind 1 firmware, 2 Draver, 3 problem, and the sub-cause (R522, R543). -/
def rejectImage (s : State) (kind cause : Nat) : State :=
  raise (bump s 0x20020) .secImageRejected 0 (kind + cause * 256) oSEC

/-! ### Tokens and sessions -/

/-- The present challenge of a port (R529). -/
def challengeOf (s : State) (port : Nat) : Nat := Config.challenge port (mgetD s.sec.drawn port 0)

/-- A port draws a new challenge (R529). -/
def drawChallenge (s : State) (port : Nat) : State :=
  modSec s fun x => { x with drawn := mput x.drawn port (mgetD x.drawn port 0 + 1) }

/-- The failure of a token at a port: 0 valid, 1 format, 2 serial, 3 nonce, 4 signature (R528, R529, R543). -/
def tokenFail (s : State) (port : Nat) (bs : List Byte) : Nat :=
  let f (o n : Nat) : Nat := leNat (takeBytes bs o n)
  let key := if s.sec.lifecycle = 3 then some Config.vendorKeyDigest else s.sec.ownerDigest
  let life := f 56 4
  if bs.length ≠ 160 ∨ f 0 4 ≠ 0x4E4B5444 ∨ f 4 1 ≠ 1 ∨ 2 < f 5 1 ∨ f 60 4 ≠ 0 ∨ life < 60 ∨ 86400 < life ∨
      (f 5 1 ≠ 2 ∧ f 6 2 ≠ 0) then 1
  else if f 8 16 ≠ Config.serial % 2 ^ 128 then 2
  else if f 24 32 ≠ challengeOf s port % 2 ^ 256 then 3
  else
    match key with
    | some k => if Config.ecdsaVerifies k (Config.sha384 (bs.take 64)) (beNat (takeBytes bs 64 48)) (beNat (takeBytes bs 112 48)) then 0 else 4
    | none => 4

/-- The matrix asks for a token for this level (R534). -/
def needsToken (s : State) (level : Nat) : Bool :=
  match s.sec.lifecycle with
  | 0 => false
  | 1 => decide (level = 2)
  | _ => true

/-- The region of a request that fails R531, if any: in FIELD it must be in SERVICE, otherwise in HOLD, SERVICE or SAFE_OFF. -/
def reachFails (s : State) (regions : Nat) : Option Nat :=
  (maskList regions 16).find? fun r =>
    if s.sec.lifecycle = 2 then decide (regionSt s r ≠ .service)
    else !([RegionState.hold, .service, .safeOff].contains (regionSt s r))

/-- A D2 session holds the region (R531). -/
def debugHolds (s : State) (r : Nat) : Bool := s.sec.sessions.any fun e => decide (e.2.level = 2) && bit e.2.regions r

/-- DBG_TOKEN_FAIL, with TOKEN_FAIL in the port's session register (R530, R543). -/
def tokenFailed (s : State) (port cause : Nat) : State :=
  let s := modSec s fun x => { x with flags := mput x.flags port (setBit (mgetD x.flags port 0) 1 true) }
  raise s .dbgTokenFail 0 (port + cause * 256) oSEC

/-- The outcome of asking a port for a session: OK, BUSY, MODE with the region in byte 9, DENIED with the cause (R530, R531, R534). -/
def sessionVerdict (s : State) (port level regions : Nat) (token : List Byte) : Refuse × Nat :=
  if mhas s.sec.sessions port then ((stBUSY, 0), 0)
  else if s.md.mode = .dormant then ((stMODE, 0), 0)
  else
    let cause :=
      if needsToken s level then
        let c := tokenFail s port token
        if c ≠ 0 then c
        else if leNat (takeBytes token 5 1) ≠ level ∨ leNat (takeBytes token 6 2) ≠ regions then 5 else 0
      else 0
    if cause ≠ 0 then ((stDENIED, 0), cause)
    else
      match (if level = 2 then reachFails s regions else none) with
      | some r => ((stMODE, r * 256), 0)
      | none => ((stOK, port), 0)

/-- The session opens: regions in HOLD go to SERVICE with the cap at 250 mm/s (R531, R571). They go at the instant at which the session
opens, outside the ranking of a frame's causes (DESIGN CHOICE, log 78). -/
def openSession (s : State) (port level regions : Nat) (life : Option Nat) : State :=
  let s := modSec s fun x =>
    { x with sessions := mput x.sessions port
               { level := level, regions := if level = 2 then regions else 0, ends := life.map fun l => s.time.elapsed + l * 1000 * msU }
             flags := mput x.flags port 0, tapResets := if port = 0 then 0 else x.tapResets }
  let s := if level = 2 then
      (maskList regions 16).foldl (fun s r =>
        if regionSt s r = .hold then modRegion s r fun x => { x with st := .service, cap := 250, stillSince := none, v0 := 0 } else s) s
    else s
  raise s .dbgOpened 0 (port + level * 256 + (if level = 2 then regions else 0) * 4294967296) oSEC

/-- An attempt to open a session at a port (R529, R530): the token's lifetime bounds it where one is asked for. -/
def attemptSession (s : State) (port level regions : Nat) (token : List Byte) : State × Refuse :=
  let (v, cause) := sessionVerdict s port level regions token
  let s := if token.isEmpty then s else drawChallenge s port
  if v.1 = stOK then
    (openSession s port level regions (if token.length = 160 then some (leNat (takeBytes token 56 4)) else none), v)
  else if v.1 = stDENIED then (tokenFailed s port cause, v)
  else (s, v)

/-- DBG_OPEN at its effect (R530). -/
def dbgOpen (s : State) (a : Acc) : State :=
  let d := a.d
  let lv := pf d 16 1
  let len := pf d 32 4
  if lv < 1 ∨ 2 < lv ∨ (len ≠ 0 ∧ len ≠ 160) ∨ onlyBytes d [(16, 1), (18, 2), (24, 12)] = false then
    complete s a stRANGE 0 0
  else
    let (s, v) := attemptSession s 1 lv (pf d 18 2) (if len = 0 then [] else takeBytes d.data 0 160)
    complete s a v.1 0 v.2

/-! ### SEC_IMAGE -/

/-- A key record: the uncompressed P-384 point of 97 bytes. -/
def keyDigest (bs : List Byte) : Nat := Config.sha384 (bs.take 97)

/-- The lifecycle's fuses change: SEC_STATUS.PENDING shows it, and it governs from the next cold reset (R516). -/
def fuse (s : State) (state : Nat) : State :=
  let old := s.sec.fused
  raise (modSec s fun x => { x with fused := state }) .secLifecycle 0 (old + state * 256) oSEC

/-- The payload of a SEC_IMAGE is well formed for its OP (R526). -/
def secImageFormOk (d : Desc) : Bool :=
  let op := pf d 16 1
  onlyBytes d [(16, 2), (20, 16)] && decide (1 ≤ op ∧ op ≤ 7) &&
    (if op = 1 then decide (pf d 17 1 < 2) else if op = 2 then decide (pf d 17 1 = 1 ∨ pf d 17 1 = 2) else decide (pf d 17 1 = 0)) &&
    (decide (op = 2) || decide (pf d 20 4 = 0)) && (!(op == 2 || op == 4) || decide (pf d 24 12 = 0))

/-- SEC_IMAGE (R525, R526). -/
def secImage (s : State) (a : Acc) : State :=
  let d := a.d
  let op := pf d 16 1
  let data := takeBytes d.data 0 (pf d 32 4)
  let x := s.sec
  if !(secImageFormOk d) then complete s a stRANGE 0 0
  else if s.md.mode ≠ .prepare ∧ s.md.mode ≠ .dormant then complete s a stMODE 0 0
  else
    match op with
    | 1 =>
      let cause := envelopeCheck s 1 data
      let range := if pf d 17 1 = 0 then x.rangeA else x.rangeB
      if cause ≠ 0 then complete (rejectImage s 1 cause) a stRANGE 0 (1 + cause * 256)
      else if range < data.length then complete s a stRANGE 0 0
      else complete (modSec s fun x => if pf d 17 1 = 0 then { x with flashA := data } else { x with flashB := data }) a stOK 0 0
    | 2 =>
      let floor := if pf d 17 1 = 1 then x.fwFloor else x.usrFloor
      if pf d 20 4 < floor then complete s a stRANGE 0 0
      else complete (modSec s fun x => if pf d 17 1 = 1 then { x with fwFloor := pf d 20 4 } else { x with usrFloor := pf d 20 4 }) a stOK 0 0
    | 3 =>
      if x.fused ≠ 0 ∨ x.lifecycle ≠ 0 then complete s a stMODE 0 0
      else if data.length ≠ 97 ∧ data.length ≠ 145 then complete s a stRANGE 0 0
      else
        let s := modSec s fun x =>
          { x with ownerDigest := some (keyDigest data),
                   ownerImageKey := if data.length = 145 then some (Config.sha384 (data.drop 97)) else none }
        complete (fuse s 1) a stOK 0 0
    | 4 => if x.fused ≠ 1 ∨ x.lifecycle ≠ 1 then complete s a stMODE 0 0 else complete (fuse s 2) a stOK 0 0
    | 5 =>
      if (x.fused ≠ 1 ∧ x.fused ≠ 2) ∨ x.lifecycle ≠ x.fused then complete s a stMODE 0 0
      else
        let c := tokenFail s 1 data
        let c := if c = 0 ∧ leNat (takeBytes data 5 1) ≠ 0 then 5 else c
        let s := if data.isEmpty then s else drawChallenge s 1
        if c ≠ 0 then complete (tokenFailed s 1 c) a stDENIED 0 0
        else complete (fuse (modSec s fun x => { x with ownerImageKey := none, usrFloor := 0 }) 3) a stOK 0 0
    | 6 =>
      if pf d 32 4 < Config.certificate.length then complete s a stNORES 0 0
      else complete (modHost s fun h => { h with hostWrite := some (fnOf a.req, pf d 24 8, Config.certificate) }) a stOK 0
             (satU 32 Config.certificate.length)
    | _ =>
      if data.length ≠ 97 then complete s a stRANGE 0 0
      else if x.ownerDigest ≠ some (keyDigest data) then complete s a stDENIED 0 0
      else complete (modSec s fun x => { x with ownerSupplied := true }) a stOK 0 0

/-! ### The TAP -/

/-- IDCODE (R535): part number 0x4B16, and the stepping in the version field. The places of the fields, the manufacturer's identity
among them, are those of IEEE 1149.1 (PRESUMED, log 78). -/
def idcode : Nat := Config.stepping % 16 * 268435456 + 0x4B16 * 4096 + Config.jedecId % 2048 * 2 + 1

/-- Boundary scan is allowed: BLANK and RETURNED always, else with RESET_N held (R534, R535). -/
def scanAllowed (s : State) : Bool := factoryOnly s || s.sec.resetHeld

/-- JTAG_INSTRUCTION: 0 BYPASS, 1 IDCODE, 2 DBGACC, 3 any boundary-scan instruction (R535). -/
def tapLoad (s : State) (ins : Nat) : State :=
  modSec s fun x => { x with tap := if ins = 3 ∧ scanAllowed s = false then 0 else ins }

end Sys2Proof.Machine
end

