-- ==== Sys2Proof/Machine/Draver.lean ====
section
/-!
DEFINITION. The Draver array: servo capture, loops, publication, images, banks, bindings, faults and spares (R186, R192 to R209).
-/
namespace Sys2Proof.Machine

/-- Changes a core's record. -/
def modDrv (s : State) (n : Nat) (f : DCore → DCore) : State := { s with drv := mput s.drv n (f (drvAt s n)) }
/-- A loop slot. -/
def slotAt (c : DCore) (k : Nat) : DSlot := mgetD c.slots k {}
/-- Changes a loop slot. -/
def modSlot (s : State) (n k : Nat) (f : DSlot → DSlot) : State :=
  modDrv s n fun c => { c with slots := mput c.slots k (f (slotAt c k)) }
/-- Origin of a core's events (R471). -/
def oDRV (n : Nat) : Nat := origin 0x0F n

/-- Raises a loop's event: the JOINT handle, core and slot in bytes 0 and 1 (R209). -/
def raiseLoop (s : State) (e : Event) (n k more : Nat) : State :=
  let c := drvAt s n
  raise s e (handleOf? s cJOINT (slotAt c k).live) (n + 256 * k + more) (oDRV n)

/-- TICK of the present servo tick, low 32 bits. -/
def servoTick (s : State) : Nat := s.time.frame / 160 % 4294967296

/-! ### Budgets (R199, R201) -/

/-- DRV_TICK_BUDGET. -/
def tickBudget : Nat := 19008
/-- The bank whose loop table governs: the one that a swap under way makes active. -/
def nextBank (c : DCore) : DBank := if c.swapDue then bankOf c (1 - c.active) else bankOf c c.active
/-- The bound slots, rising. -/
def boundSlots (c : DCore) : List Nat := mkeys c.slots fun _ x => x.joint.isSome
/-- W of a slot's loop. -/
def slotW (b : DBank) (k : Nat) : Nat := ((mget b.loops k).map fun l => l.w).getD 0
/-- c_k (R199). -/
def slotCycles (s : State) (n : Nat) (b : DBank) (k : Nat) : Nat :=
  holdoffMax s n + (((boundSlots (drvAt s n)).filter (· ≤ k)).map fun j => 12 + slotW b j).sum
/-- The publish frame of a slot (R199): t_min is 1 / 594 MHz. -/
def pubFrame (s : State) (n : Nat) (b : DBank) (k : Nat) : Nat := ceilDiv (118800 + 1000 * slotCycles s n b k) 118800
/-- DRV_BUDGET_USED. -/
def budgetUsed (s : State) (n : Nat) : Nat :=
  match (boundSlots (drvAt s n)).getLast? with
  | some k => slotCycles s n (nextBank (drvAt s n)) k
  | none => 0
/-- A core keeps its budget and its publish frames (R199, R201). -/
def drvBudgetOk (s : State) (n : Nat) : Bool :=
  let c := drvAt s n
  decide (budgetUsed s n ≤ tickBudget) && (boundSlots c).all fun k => decide (pubFrame s n (nextBank c) k ≤ 159)

/-! ### The servo capture (R192 to R195) -/

/-- The code of a region's state in FLAGS. -/
def regionFlag (r : RegionState) : Nat :=
  match r with
  | .empty => 0
  | .active => 1
  | .hold => 2
  | .safeOff => 3
  | .service => 4
  | .mending => 5

/-- The angle that the feedback unit held at an output's stamp (R193). -/
def thetaAt (f : Fbch) (stamp : Nat) : Nat :=
  match f.thetas.find? fun e => decide (0 ≤ sx 32 (un 32 ((stamp : Int) - e.1))) with
  | some e => e.2
  | none => ((f.thetas.getLast?).map Prod.snd).getD f.theta

/-- The measured d and q currents, or the winding currents of a STEPPER joint (R193). -/
def measuredDQ (s : State) (j : Joint) : Int × Int :=
  let ch (st : Nat) : Cchan := ((streamChan s j.port j.pos st).map (chAt s)).getD {}
  let x := swAt s j.swch
  if j.stepper then ((ch 0).value, (ch 1).value)
  else
    let a := (ch 0).value
    let b := (ch 1).value
    let c := if x.cfg.currents = 2 then -(a + b) else (ch 2).value
    let th := match j.fbch with
      | some f => thetaAt (fbAt s f) (ch 0).stamp
      | none => 0
    let be := overRoot3 (b - c)
    (satS 24 (mulCos a th + mulSin be th), satS 24 (mulCos be th - mulSin a th))

/-- The words of a 64-bit field. -/
def words64 (x : Nat) : List Nat := [x % 4294967296, x / 4294967296 % 4294967296]

/-- What the capture finds in the joint's state for FLAGS, without INIT and the alert causes, and the joined 0 to 127 words (R193). -/
def captureWords (s : State) (j : Nat) (param : List Nat) (flags : Nat) : List Nat :=
  match mget s.joints j with
  | none => []
  | some x =>
    let pos := jointPos s j
    let vel := jointVel s j
    let (rp, rv, ra) : Int × Int × Int :=
      match jointProfile s j with
      | some p => let y := prfAt s p; (refPos y, refVel y, refAcc y)
      | none => (pos, 0, 0)
    let (idm, iq) := measuredDQ s x
    let sw := swAt s x.swch
    words64 (un 64 rp) ++ [un 32 rv, un 32 ra] ++ words64 (un 64 pos) ++
      [un 32 vel, un 32 idm, un 32 iq, un 32 (busV s sw), sw.iAvail % 65536, flags, servoTick s, s.time.wallF] ++
      words64 s.line.line ++ param

/-- Bits 1 to 23 of FLAGS (R193). -/
def captureFlags (s : State) (j : Nat) : Nat :=
  match mget s.joints j with
  | none => 0
  | some x =>
    let f : Fbch := (x.fbch.map (fbAt s)).getD {}
    let sw := swAt s x.swch
    let chs := (currentStreams sw.cfg.topology sw.cfg.currents).filterMap fun st => (streamChan s x.port x.pos st).map (chAt s)
    let reg := ((jointRegion s j).map fun r => regionFlag (regionSt s r)).getD 0
    2 * b2n f.uncertain + 4 * b2n f.fault + 8 * b2n (chs.any fun c => c.settle) + 16 * b2n (chs.any fun c => c.ovr) +
      32 * f.speedSt + 128 * b2n sw.limited + 256 * reg + 2048 * b2n (decide (sw.st = 1)) +
      65536 * (headAt s x.port x.pos).status

/-- The capture of one loop slot: its record, its entry and its alert causes (R192, R193, R195). -/
def captureSlot (s : State) (n k : Nat) : State :=
  let c := drvAt s n
  let x := slotAt c k
  match x.joint with
  | none => modSlot s n k fun x => { x with live := none, phase := 0, alert := 0 }
  | some j =>
    let fl := captureFlags s j
    let unc := bits fl 1 2
    let reg := bits fl 8 3
    let newUnc := decide (Nat.land unc (3 - Nat.land x.flags 3) ≠ 0)
    let alert := b2n newUnc + 2 * b2n (decide (reg ≠ x.region) && x.live.isSome) + 4 * b2n x.late + 8 * b2n x.trapped
    let init := x.initNext || (((mget s.joints j).map fun y => (swAt s y.swch).softDue).getD false)
    let pub := pubFrame s n (bankOf c c.active) k
    let words := captureWords s j x.param (fl + b2n init + 16777216 * alert)
    let base := 0x4000 + 0x40 * k
    let s := modDrv s n fun c =>
      { c with data := ((List.range 32).zip words).foldl (fun d e => mput d (base + e.1) e.2) c.data }
    modSlot s n k fun x =>
      { x with live := some j, initNext := init, flags := unc, region := reg, alert := alert, phase := 1, doneAt := 0, pubAt := pub,
               trapped := false }

/-- A swap that is due makes the staged bank active at a servo-tick boundary (R203). -/
def takeSwap (s : State) (n : Nat) : State :=
  let c := drvAt s n
  if c.swapDue then
    let b := bankOf c (1 - c.active)
    let s := modDrv s n fun c =>
      { c with active := 1 - c.active, swapDue := false,
               slots := c.slots.map fun e =>
                 (e.1, if ((mget b.loops e.1).map fun l => l.reinit).getD false then { e.2 with initNext := true } else e.2) }
    raise s .drvBankSwapped 0 (n + 65536 * (1 - c.active) + 4294967296 * b.ident) (oDRV n)
  else s

/-- A core's memories, loop slots and LOOP context as another core holds them. -/
def copyCore (x y : DCore) : DCore :=
  { x with copied := true, bankA := y.bankA, bankB := y.bankB, data := y.data, active := y.active, staged := y.staged,
           loop := y.loop, slots := y.slots, queue := y.queue, used := 0, entered := false }

/-- A core takes the input records that another has captured, and the loops of the tick. -/
def takeRecords (x y : DCore) : DCore :=
  let words := (boundSlots y).flatMap fun k => (List.range 32).map fun i => 0x4000 + 0x40 * k + i
  { x with data := words.foldl (fun d a => mput d a (dataAt y a)) x.data, active := y.active, staged := y.staged, slots := y.slots,
           queue := y.queue, used := 0, entered := false }

/-- A loop's output record (R197). -/
def outRecord (c : DCore) (k : Nat) : List Nat := (List.range 16).map fun i => dataAt c (0x4200 + 0x10 * k + i)

/-! ### Running the loops (R195, R198, R205) -/

/-- A breakpoint of a core at an address: the session that set it. -/
def breakAt (s : State) (n a : Nat) : Option Nat :=
  (s.sec.breaks.find? fun b => decide (b.1 = n) && decide (b.2.1 = a)).map fun b => b.2.2

/-- The entry of the loop in a slot begins: INIT, ALERT or RUN (R195). -/
def entryStart (c : DCore) (k : Nat) : DCore :=
  let x := slotAt c k
  let pc := match mget (bankOf c c.active).loops k with
    | some l => if x.initNext then l.init else if x.alert ≠ 0 then l.alert else l.run
    | none => 0
  { c with loop := startAt c.loop pc, used := c.used + 12, entered := true,
           slots := mput c.slots k { x with initNext := false } }

/-- The entry of the first loop in the queue has ended: by EXIT, or by a trap, which raises DRV_TRAP at HOLD class (R205). -/
def entryEnd (s : State) (n k : Nat) : State :=
  let c := drvAt s n
  let (c', x) := drain c c.loop
  let s := modDrv s n fun _ => { c' with loop := x, queue := c.queue.tail, entered := false }
  match c.loop.trap with
  | some (cause, a) =>
    let s := modSlot s n k fun x => { x with phase := 3, trapped := true }
    raiseLoop s .drvTrap n k (65536 * cause + 4294967296 * a)
  | none => modSlot s n k fun x => { x with phase := 2, doneAt := c.used }

/-- The most loop cycles of one tick since the cold reset, the hold-off left out (R208). -/
def tickNoted (c : DCore) : DCore := { c with tickMax := Nat.max c.tickMax (Nat.min 65535 (c.used - c.waited)) }
/-- A core's record of its longest tick is brought up to date (R208). -/
def noteTick (s : State) (n : Nat) : State := modDrv s n tickNoted

/-- A memory error as an operand gives it: the number of the instruction that meets it, 1 corrected or 2 uncorrectable, and the memory
(0 instruction, 1 data, 2 coefficient). -/
def memErr (ecc at_ : Nat) : Option (Nat × Nat × Nat) :=
  match ecc with
  | 1 => some (at_, 1, 1)
  | 2 => some (at_, 2, 1)
  | 3 => some (at_, 1, 0)
  | 4 => some (at_, 2, 0)
  | 5 => some (at_, 1, 2)
  | 6 => some (at_, 2, 2)
  | _ => none

/-- The instruction reads the memory: its own word, a data word, a coefficient (R186, R188). -/
def readsMem (i : DIns) (mem : Nat) : Bool :=
  match mem, i with
  | 0, _ => true
  | 1, .ld _ _ _ _ => true
  | 2, .ldc _ _ _ _ => true
  | _, .ftm _ _ _ _ _ _ _ => true
  | _, _ => false

/-- A memory error that an access of a core meets (R206): 1 corrected, 2 uncorrectable; memory 0 instruction, 1 data, 2
coefficient. -/
def drvMemError (s : State) (n ecc mem : Nat) : State :=
  match ecc with
  | 0 => s
  | 1 => wearInput (raise (bump s (0x10001C + 0x4000 * n)) .drvMemCorr 0 (n + 65536 * mem) (oDRV n)) 4 n 1
  | _ =>
    let c := drvAt s n
    let regs := dedup ((boundSlots c).filterMap fun k => (slotAt c k).joint.bind (jointRegion s))
    let s := modDrv s n fun c => { c with stopped := true, queue := [], entered := false }
    let s := raiseIn s .drvMemUncorr 0 (n + 65536 * mem) (oDRV n) regs
    let s := match (workerAt s n).running with
      | some i => nodeFault s i 5
      | none => s
    wearInput s 4 n 6

/-- The error that the next instruction meets: one due for it, of a memory that it reads. -/
def errHere (err : Option (Nat × Nat × Nat)) (i : DIns) : Option (Nat × Nat) :=
  match err with
  | some (0, e, m) => if readsMem i m then some (e, m) else none
  | _ => none
/-- The error still to come after one more instruction. -/
def errNext (err : Option (Nat × Nat × Nat)) : Option (Nat × Nat × Nat) :=
  match err with
  | some (k + 1, e) => some (k, e)
  | _ => none

/-- The loops of a tick run, one instruction a cycle, until the last has ended, a breakpoint halts the core (R541), the tick's
cycles are spent, or an uncorrectable error stops the core before its instruction has an effect (R206). `past`: the first instruction
passes a breakpoint at its address. -/
def runLoops (fuel : Nat) (s : State) (n : Nat) (past : Bool) (err : Option (Nat × Nat × Nat)) : State :=
  match fuel with
  | 0 => s
  | m + 1 =>
    let c := drvAt s n
    match c.queue with
    | [] => s
    | k :: _ =>
      if c.entered = false then runLoops m (modDrv s n fun c => entryStart c k) n false err
      else if c.loop.ended then runLoops m (entryEnd s n k) n false err
      else
        match (if past then none else breakAt s n c.loop.pc) with
        | some ses => modDrv s n fun c => { c with halted := if c.halted.contains ses then c.halted else c.halted ++ [ses] }
        | none =>
          let go (s : State) : State := modDrv s n fun c => { stepLoop c with used := c.used + 1 }
          match errHere err (drvDecode (codeAt c c.loop.pc)) with
          | some (e, mem) => if e = 2 then drvMemError s n 2 mem else runLoops m (go (drvMemError s n 1 mem)) n false none
          | none => runLoops m (go s) n false (errNext err)

/-! ### Publication (R194, R200) -/

/-- A spare in SHADOW runs the loops of the tick that ends, on its own memories and on the records that it has captured, and its output
records are compared with the live core's (R207; what the hardware of either adds to that is free, log 19). It publishes nothing and
raises nothing of its loops. A tick whose loops the live core has not run is not judged (log 19). -/
def shadowTick (s : State) (n : Nat) : State :=
  let c := drvAt s n
  match c.shadowOf with
  | none => s
  | some live =>
    let y := drvAt s live
    if c.copied = false ∨ (boundSlots y).any (fun k => decide ((slotAt y k).phase = 1)) = true then s
    else
      let t := drvAt (runLoops 19200 s n false none) n
      let same := (boundSlots y).all fun k => !([2, 4].contains (slotAt y k).phase) || decide (outRecord t k = outRecord y k)
      let (ok, s) := shadowUnitOf (modDrv s n fun _ => t) 4 n 0 0 same
      if ok then s
      else
        let s := bump s (0x100020 + 0x4000 * n)
        if c.misRaised then s
        else raise (modDrv s n fun c => { c with misRaised := true }) .drvShadowMismatch 0 (n + 65536 * live) (oDRV n)

/-- At a servo-tick boundary a spare in SHADOW takes the live core's input records; at its first one it copies both banks and the data
memory (R207). -/
def shadowTake (s : State) (n : Nat) : State :=
  let c := drvAt s n
  match c.shadowOf with
  | none => s
  | some live => modDrv s n fun c => if c.copied then takeRecords c (drvAt s live) else copyCore c (drvAt s live)

/-- The servo capture of every core in service (R192); a staged bank becomes active on a spare too (R203). -/
def servoCapture (s : State) : State :=
  let s := (List.range 18).foldl shadowTick s
  let s := (List.range 18).foldl (fun s n =>
    let s := takeSwap s n
    if serves s 4 n ∧ mhas s.drv n = true then
      let s := (List.range 8).foldl (fun s k => if mhas (drvAt s n).slots k then captureSlot s n k else s) s
      modDrv s n fun c =>
        { c with used := 0, waited := 0, entered := false,
                 queue := if c.stopped then [] else mkeys c.slots fun _ x => x.live.isSome }
    else s) s
  let s := (List.range 18).foldl shadowTake { s with swchs := s.swchs.map fun e => (e.1, { e.2 with softDue := false }) }
  -- a SERVO joint with no bound loop takes (0, 0) and no brake release (R194)
  let driven := s.drv.flatMap fun (e : Nat × DCore) =>
    if e.2.shadowOf.isSome then [] else e.2.slots.filterMap fun (f : Nat × DSlot) => f.2.live
  s.joints.foldl (fun s e =>
    if driven.contains e.1 then s
    else if e.2.stepper then modSw s e.2.swch fun w => { w with brakeReq := false }
    else modSw s e.2.swch fun w => { w with sp := (0, 0), brakeReq := false }) s

/-- The output is finished by its publish frame. The core's clock runs between 594 and 600 MHz: an output that is late at the
lower and in time at the higher is late or not as a free value says. -/
def inTime (s : State) (cycles pub : Nat) : Bool × State :=
  if cycles * 1000 ≤ (pub - 1) * 118800 then (true, s)
  else if (pub - 1) * 120 < cycles then (false, s)
  else
    let (i, s) := draw s
    (decide (Config.freeNat i % 2 = 0), s)

/-- A loop's output of this tick is not published (R200). -/
def loopLate (s : State) (n k : Nat) : State :=
  let s := bump s (0x100018 + 0x4000 * n)
  let m := (slotAt (drvAt s n) k).missed + 1
  let s := modSlot s n k fun x => { x with late := true, missed := m, phase := 4 }
  let t := 4294967296 * servoTick s
  let s := raiseLoop s .drvLoopLate n k t
  let s := if m = 2 then raiseLoop s .drvOverrun n k t else s
  if m = 4 then raiseLoop s .drvStall n k t else s

/-- A slot's output record is released to the switching engine and the trace. -/
def release (s : State) (n k j : Nat) : State :=
  let c := drvAt s n
  let out := (List.range 16).map fun i => dataAt c (0x4200 + 0x10 * k + i)
  let s := modSlot s n k fun x => { x with late := false, missed := 0, phase := 4, pub := out.take 4 }
  match mget s.joints j with
  | none => s
  | some x =>
    let req := bit (out.getD 2 0) 0
    let s := if x.stepper then modSw s x.swch fun w => { w with brakeReq := req }
      else modSw s x.swch fun w => { w with sp := (sx 24 (out.getD 0 0), sx 24 (out.getD 1 0)), brakeReq := req }
    let h := handleOf s cJOINT j
    -- the boundary before which the record is released (R200, R489)
    let w := wall32 (passCycles s (64 - s.time.cycle))
    let s := traceFrom s 4 h w 0 (fun _ => true) fun _ => (out.getD 0 0, out.getD 1 0)
    traceFrom s 7 h w 0 (fun _ => true) fun sel => (out.getD 3 0, out.getD (4 + sel % 12) 0)

/-- DRV_LOOP_PUBLISH: the frame before a slot's publish frame ends (R200). The publish frame is the one that held at the tick's
capture: a binding made since takes effect with the next tick (R204, R353). -/
def loopPublish (s : State) (n k : Nat) : State :=
  let x := slotAt (drvAt s n) k
  let pub := x.pubAt
  match x.live with
  | none => s
  | some j =>
    if serves s 4 n ∧ 1 ≤ x.phase ∧ x.phase ≤ 3 ∧ (s.time.frame + 1) % 160 = pub % 160 then
      if x.phase = 2 then
        let (ok, s) := inTime s x.doneAt pub
        if ok then release s n k j else loopLate s n k
      else loopLate s n k
    else s

/-! ### Instructions as commands -/

/-- A trap in the GRAPH context ends the graph operation (R205). -/
def graphTrap (s : State) (n : Nat) : State :=
  match (drvAt s n).graph.trap with
  | some (cause, a) =>
    let s := report s { rep .drvTrap 0 (n + 65536 * cause + 4294967296 * a) (oDRV n) with cls := 2 }
    match (workerAt s n).running with
    | some i => nodeFault s i 1
    | none => s
  | none => s

/-- A core issues one instruction in its LOOP (false) or GRAPH context, at the address the context has reached. Once an entry or
operation has ended, by EXIT or by a trap, nothing more of it has an effect (R221, R225). -/
def drvRow (s : State) (n : Nat) (graph : Bool) (i : DIns) : State :=
  let c := drvAt s n
  if (if graph then c.graph else c.loop).ended then s
  else if graph then
    let (d, x) := insIssue c c.graph i
    let s := modDrv s n fun _ => { d with graph := x }
    if x.trap.isSome && c.graph.trap.isNone then graphTrap s n else s
  else
    let (d, x) := insIssue c c.loop i
    let s := modDrv s n fun _ => if c.entered then tickNoted { d with loop := x, used := c.used + 1 } else { d with loop := x }
    match c.queue, c.entered, x.ended with
    | k :: _, true, true => entryEnd s n k
    | _, _, _ =>
      if x.trap.isSome && c.loop.trap.isNone then
        raise s .drvTrap 0 (n + 65536 * ((x.trap.map Prod.fst).getD 0) + 4294967296 * ((x.trap.map Prod.snd).getD 0)) (oDRV n)
      else s

/-- An instruction with the error that it meets: one in its own word, or in a memory that it reads. An uncorrectable error stops the
core before the instruction has any effect. -/
def drvMemRow (s : State) (n : Nat) (graph : Bool) (i : DIns) (ecc : Nat) : State :=
  match errHere (memErr ecc 0) i with
  | some (e, mem) => if e = 2 then drvMemError s n 2 mem else drvMemError (drvRow s n graph i) n e mem
  | none => drvRow s n graph i

/-! ### The start of a tick's loops (R197, R198) -/

/-- The core runs a graph operation that has not ended. -/
def graphRuns (s : State) (n : Nat) : Bool := (workerAt s n).running.isSome && !(drvAt s n).graph.ended

/-- A preemption point: the next instruction is neither a delay slot nor an instruction of a repeat body (R197). -/
def preemptPoint (x : DCtx) : Bool := x.br.isNone && !(inBody x)

/-- The running graph operation issues up to `k` instructions. -/
def graphIssue (k : Nat) (s : State) (n : Nat) : State :=
  match k with
  | 0 => s
  | m + 1 =>
    if graphRuns s n then let c := drvAt s n; graphIssue m (drvRow s n true (drvDecode (codeAt c c.graph.pc))) n else s

/-- The running graph operation issues instructions up to its next preemption point: their number, and the device then. -/
def toPreempt (fuel : Nat) (s : State) (n used : Nat) : Nat × State :=
  match fuel with
  | 0 => (used, s)
  | m + 1 =>
    let c := drvAt s n
    if graphRuns s n && !(preemptPoint c.graph) then
      toPreempt m (drvRow s n true (drvDecode (codeAt c c.graph.pc))) n (used + 1)
    else (used, s)

/-- DRV_LOOPS_START: the running graph operation has issued `issued` more instructions when the capture completes; it goes on to its
next preemption point, is frozen in place, and the core runs its loops (R198). -/
def loopsStart (s : State) (n issued : Nat) (err : Option (Nat × Nat × Nat)) : State :=
  let c := drvAt s n
  if serves s 4 n ∧ c.halted = [] ∧ c.queue ≠ [] ∧ c.used = 0 ∧ c.entered = false then
    let (w, s) := toPreempt 16000 (graphIssue issued s n) n 0
    let c := drvAt s n
    let (c', g) := drain c c.graph
    let s := modDrv s n fun _ => { c' with graph := g, used := w, waited := w, holdSeen := Nat.max c.holdSeen w }
    noteTick (runLoops 19200 s n false err) n
  else s

/-! ### Descriptors (R202 to R204) -/

/-- A swap of the core is a member of an open press. -/
def swapStaged (s : State) (n : Nat) : Bool :=
  s.presses.any fun e => e.2.members.any fun m =>
    match m with
    | .desc a _ => decide (a.op = 0x0701) && decide (pf a.d 16 1 = n)
    | _ => false

/-- DRV_LOAD's own rules at acceptance (R202). -/
def drvLoadCheck (s : State) (a : Acc) : Option Refuse :=
  let d := a.d
  let n := pf d 16 1
  let c := drvAt s n
  let w := workerAt s n
  let first := decide (pf d 17 1 = 1)
  firstRefuse [
    (!(onlyBytes d [(16, 2), (24, 12)]) || decide (17 < n) || decide (1 < pf d 17 1), rRANGE),
    (swapStaged s n || c.load.isSome, (stBUSY, 0)),
    (first && (!(boundSlots c).isEmpty || w.running.isSome || !w.prefetch.isEmpty), (stBUSY, 0))]

/-- A DRV_LOAD begins: the inactive bank no longer holds a staged image. -/
def drvLoadStart (s : State) (a : Acc) : State :=
  modDrv s (pf a.d 16 1) fun c => { c with load := some (a, decide (pf a.d 17 1 = 1)), staged := false }

/-- A list of words as a map from an address up. -/
def wordMap (base : Nat) (l : List Word) : Map Nat := (l.zipIdx base).map fun e => (e.2, e.1.toNat)

/-- The first failing check of an image after its signature: 2 sizes, 3 loop table, 4 budget, 5 hold-off (R202). -/
def imageFail (s : State) (n : Nat) (img : DrvImage) (b : DBank) : Nat :=
  let c := drvAt s n
  if 8192 < img.code.length ∨ 2048 < img.coef.length ∨ 2048 < img.page.length ∨ 0x3800 < img.shared.length then 2
  else if img.loops.any fun e => decide (8191 < e.2.init) || decide (8191 < e.2.alert) || decide (8191 < e.2.run) || decide (65535 < e.2.w)
    then 3
  else if (boundSlots c).any fun k => decide (159 < pubFrame s n b k) || decide (tickBudget < slotCycles s n b k) then 4
  else if img.ops.any fun o => decide (holdoffMax s n < o.h) then 5
  else 0

/-- DRV_LOAD_DONE: the image of the load under way has been read and checked (R202). -/
def drvLoadDone (s : State) (n : Nat) (img : DrvImage) : State :=
  let c := drvAt s n
  match c.load with
  | none => s
  | some (a, first) =>
    if c.swapDue then s
    else
      let s := modDrv s n fun c => { c with load := none }
      let sig := if img.envelope.length ≠ pf a.d 32 4 then 1 else envelopeCheck s 2 img.envelope
      let b : DBank := { ident := img.ident.toNat, code := wordMap 0 img.code, coef := wordMap 0 img.coef,
                         loops := img.loops.foldl (fun m e => mput m e.1.val e.2) [], ops := img.ops }
      let f := imageFail s n img b
      if sig ≠ 0 then complete (rejectImage s 2 sig) a stRANGE 0 (1 + 256 * sig)
      else if memPoisoned s (Config.imageCopy n) img.envelope.length then
        -- the copy in DRAM met an uncorrectable error (R484)
        complete (eccRead s (linesOf (Config.imageCopy n) img.envelope.length)) a stRANGE 0 0xEE
      else if f ≠ 0 then complete s a stRANGE 0 f
      else
        let s := eccRead s (linesOf (Config.imageCopy n) img.envelope.length)
        let t := 1 - c.active
        let s := modDrv s n fun c =>
          let c := { modBank c t (fun _ => b) with staged := true }
          let page := (List.range 2048).zip (img.page ++ List.replicate (2048 - img.page.length) 0)
          let data := page.foldl (fun d e => mput d (0x10000 + 0x800 * t + e.1) e.2.toNat) c.data
          { c with data := if first then (img.shared.zipIdx 0x0800).foldl (fun d e => mput d e.2 e.1.toNat) data else data }
        complete s a stOK 0 0

/-- The transfers of a function that ends leave no bank staged (R412). -/
def drvLoadAbort (s : State) (req : Nat) : State :=
  { s with drv := s.drv.map fun e =>
      match e.2.load with
      | some (a, _) => if a.req = req then (e.1, { e.2 with load := none, staged := false }) else e
      | none => e }

/-- DRV_SWAP's own rules (R203). `staging`: as a member it may wait for a load under way (R345). -/
def drvSwapCheck (s : State) (a : Acc) (staging : Bool) : Option Refuse :=
  let n := pf a.d 16 1
  let c := drvAt s n
  let b := bankOf c (1 - c.active)
  firstRefuse [
    (!(onlyBytes a.d [(16, 1)]) || decide (17 < n), rRANGE),
    (!c.staged && !(staging && c.load.isSome), rRANGE),
    (c.staged && ((boundSlots c).any fun k => !(mhas b.loops k)), rRANGE)]

/-- DRV_SWAP takes effect: the staged bank is active from the next servo-tick boundary (R203). -/
def drvSwap (s : State) (d : Desc) : State := modDrv s (pf d 16 1) fun c => { c with staged := false, swapDue := true }

/-- DRV_BIND's own rules (R204), without the budget. -/
def drvBindCheck (s : State) (a : Acc) : Option Refuse :=
  let d := a.d
  let n := pf d 16 1
  let k := pf d 17 1
  let j := hIdx (pf d 20 4)
  let bind := decide (pf d 20 4 ≠ 0)
  let held := s.drv.any fun (e : Nat × DCore) => e.2.shadowOf.isNone && e.2.slots.any fun (f : Nat × DSlot) =>
    decide (f.2.joint = some j) && !(decide (e.1 = n) && decide (f.1 = k))
  firstRefuse [
    (!(onlyBytes d [(16, 2), (20, 4)]) || decide (17 < n) || decide (7 < k) || (bind && !(serves s 4 n)), rRANGE),
    (bind && held, (stBUSY, 0)),
    (bind && !(mhas (nextBank (drvAt s n)).loops k), rRANGE)]

/-- DRV_BIND takes effect (R204). -/
def drvBind (s : State) (d : Desc) : State :=
  let j := if pf d 20 4 = 0 then none else some (hIdx (pf d 20 4))
  modSlot s (pf d 16 1) (pf d 17 1) fun x =>
    { x with joint := j, initNext := j.isSome, late := false, missed := 0, trapped := false, flags := 0 }

/-- DRV_PARAM's own rules (R403). -/
def drvParamCheck (_s : State) (a : Acc) : Option Refuse :=
  let d := a.d
  let first := pf d 18 1
  let count := pf d 19 1
  firstRefuse [
    (decide (17 < pf d 16 1) || decide (7 < pf d 17 1) || decide (count < 1 ∨ 11 < count) || decide (16 < first + count) ||
      !(onlyBytes d [(16, 4), (20, 4 * count)]), rRANGE)]

/-- DRV_PARAM takes effect (R204). -/
def drvParam (s : State) (d : Desc) : State :=
  let first := pf d 18 1
  modSlot s (pf d 16 1) (pf d 17 1) fun x =>
    { x with param := (List.range (pf d 19 1)).foldl (fun l i => l.set (first + i) (pf d (20 + 4 * i) 4)) x.param }

/-! ### Spares and debug (R207, R533) -/

/-- A spare core enters SHADOW of a live one, and leaves it. -/
def drvShadow (s : State) (spare live : Nat) : State := modDrv s spare fun _ => { shadowOf := some live }
def drvUnshadow (s : State) (spare : Nat) : State := { s with drv := mdel s.drv spare }

/-- The darn commits: the spare takes the worn core's place with everything it holds (R207, R370). -/
def drvTakeover (s : State) (worn spare : Nat) : State :=
  let w := workerAt s worn
  let s := modDrv s spare fun _ => { drvAt s worn with shadowOf := none, stopped := false }
  let s := { s with drv := mdel s.drv worn }
  let s := modWorker (modWorker s spare fun _ => w) worn fun _ => {}
  modGsc s fun g => { g with nodes := g.nodes.map fun e =>
    (e.1, if (w.running.toList ++ w.prefetch).contains e.1 then { e.2 with worker := spare } else e.2) }

/-- A session halts a core (R533). -/
def haltCore (s : State) (n ses : Nat) : State :=
  modDrv s n fun c => { c with halted := if c.halted.contains ses then c.halted else c.halted ++ [ses] }

/-- A session resumes a core that it halted: an entry under way goes on. -/
def resumeCore (s : State) (n ses : Nat) : State :=
  let s := modDrv s n fun c => { c with halted := c.halted.filter (· ≠ ses) }
  let c := drvAt s n
  if c.halted = [] ∧ c.entered = true then noteTick (runLoops 19200 s n true none) n else s

/-- A halted core executes one instruction: of the loop entry under way, else of the graph operation (R541). -/
def stepCore (s : State) (n : Nat) : State :=
  let c := drvAt s n
  if c.entered then drvRow s n false (drvDecode (codeAt c c.loop.pc)) else drvRow s n true (drvDecode (codeAt c c.graph.pc))

/-! ### Registers (R208) -/

/-- DRV_STAT. -/
def drvStat (s : State) (n : Nat) : Nat :=
  let c := drvAt s n
  let st := if retired s 4 n then 4 else if c.halted ≠ [] then 5 else if c.shadowOf.isSome then 2
    else if (instAt s 4 n).code = 1 then 3 else 1
  st + 8 * c.active + 16 * b2n c.staged + 256 * (boundSlots c).length

/-- INIT_NEXT: the slot's next entry is INIT: it is newly bound, its bank is about to be swapped for one that marks it REINIT, or its
joint's channel has entered SOFTSTART (R195, R208). -/
def initDue (s : State) (n k : Nat) : Bool :=
  let c := drvAt s n
  let x := slotAt c k
  x.initNext || (c.swapDue && ((mget (nextBank c).loops k).map fun l => l.reinit).getD false) ||
    ((x.joint.bind fun j => (mget s.joints j).map fun y => (swAt s y.swch).softDue).getD false)

/-- DRV_LOOPk_CFG. -/
def drvLoopCfg (s : State) (n k : Nat) : Nat :=
  let c := drvAt s n
  let x := slotAt c k
  let b := nextBank c
  if x.joint.isSome then
    pubFrame s n b k % 256 + 256 + 512 * b2n x.late + 1024 * b2n (initDue s n k) + 65536 * (slotW b k % 65536)
  else 512 * b2n x.late

end Sys2Proof.Machine
end

