-- ==== Sys2Proof/Machine/Solver.lean ====
section
/-!
DEFINITION. The solver fabric: gangs, problem blocks, binding, runs, results, memory errors, spares (R261 to R290).
-/
namespace Sys2Proof.Machine

/-- Changes the solver fabric. -/
def modSol (s : State) (f : SolSt → SolSt) : State := { s with sol := f s.sol }
/-- Changes a physical lane. -/
def modSolLane (s : State) (p : Nat) (f : Lane → Lane) : State :=
  modSol s fun x => { x with lanes := mput x.lanes p (f (laneAt s p)) }
/-- Changes a gang. -/
def modGang (s : State) (l : Nat) (f : Gang → Gang) : State :=
  modSol s fun x => { x with gangs := mput x.gangs l (f (gangAt s l)) }
/-- A problem's record. -/
def probAt (s : State) (p : Nat) : Problem := mgetD s.problems p {}
/-- Changes a problem. -/
def modProb (s : State) (p : Nat) (f : Problem → Problem) : State := { s with problems := mmod s.problems p f }
/-- Origin of a physical lane's events (R471). -/
def oSOL (p : Nat) : Nat := origin 0x11 p
/-- The logical lane that a physical lane serves (R289). -/
def logicalOf (s : State) (p : Nat) : Option Nat :=
  (List.range 192).find? fun n => decide (lmapAt s n = (p, false))

/-! ### The plan-tick window (R279, R280) -/

/-- START and DEADLINE of SOL_CTRL. -/
def solStart (s : State) : Nat := bits (reg s 0x1A0000) 0 11
def solDeadline (s : State) : Nat := bits (reg s 0x1A0000) 16 11
/-- SOL_BUDGET. -/
def solBudget (s : State) : Nat := (solDeadline s - solStart s) * 198
/-- Committed cycles of a problem (R276). -/
def committed (p : Problem) : Nat := p.cycles + 64
/-- Committed cycles of a gang's bound problems. -/
def gangCycles (s : State) (l : Nat) : Nat := ((gangAt s l).order.map fun p => committed (probAt s p)).sum
/-- The frame within the plan tick. -/
def tickFrame (s : State) : Nat := s.time.frame % 1280
/-- The number of the plan tick. -/
def planTick (s : State) : Nat := s.time.frame / 1280

/-- A gang has a bound problem, or one that this tick still runs (R264, R278). -/
def gangBound (g : Gang) : Bool := !g.order.isEmpty || !g.left.isEmpty || g.run.isSome

/-! ### Gangs (R264) -/

/-- SOL_GANG's own rules (R264). -/
def solGangCheck (s : State) (a : Acc) : Option Refuse :=
  let d := a.d
  let first := pf d 16 2
  let size := pf d 18 1
  let role := pf d 19 1
  let lanes := (List.range size).map fun i => first + i
  let out (n : Nat) : Bool :=
    let l := gangOf s n
    gangBound (gangAt s l) || decide (l < first) || decide (first + size < l + (gangAt s l).size)
  let busy := lanes.find? out
  firstRefuse [
    (!(onlyBytes d [(16, 4)]) || !([1, 2, 4].contains size) || decide (191 < first) || decide (first % size ≠ 0) || decide (3 < role),
      rRANGE),
    (decide (role = 2) || (lanes.any fun n => decide ((gangAt s (gangOf s n)).role = 2)), rDENIED),
    (busy.isSome, (stBUSY, busy.getD 0)),
    (lanes.any fun n => (lmapAt s n).2, rNORES)]

/-- A gang replaces those of its lanes. -/
def formGang (s : State) (first size role : Nat) : State :=
  let s := (List.range size).foldl (fun s i => modSol s fun x => { x with gangs := mdel x.gangs (first + i) }) s
  modGang s first fun _ => { size := size, role := role }

/-- SOL_GANG takes effect (R264). -/
def solGang (s : State) (d : Desc) : State := formGang s (pf d 16 2) (pf d 18 1) (pf d 19 1)

/-! ### Problem blocks (R272 to R275) -/

/-- A field of a block. -/
def blk (bs : List Byte) (off n : Nat) : Nat := leNat (takeBytes bs off n)

/-- A program record (R273). -/
def recOf (bs : List Byte) (off : Nat) : KRec :=
  let w (o : Nat) : BitVec 16 := BitVec.ofNat 16 (blk bs (off + o) 2)
  let y (o : Nat) : BitVec 8 := BitVec.ofNat 8 (blk bs (off + o) 1)
  { kernel := y 0, flags := y 1, shift := y 2, vsel := y 3, m := w 4, n := w 6, k := w 8, a := w 10, b := w 12, c := w 14 }

/-- The sections of R272 lie within the block, aligned, and the fields in their ranges. -/
def blockLayoutOk (bs : List Byte) : Bool :=
  let n := bs.length
  let recs := blk bs 12 2
  let inert := blk bs 14 2
  let words := blk bs 28 2
  decide (128 ≤ n) && decide (blk bs 7 1 = 0) && decide (blk bs 30 2 = 0) && decide (blk bs 120 8 = 0) &&
    decide (1 ≤ recs ∧ recs ≤ 512) && decide (inert ≤ 4096) &&
    decide (blk bs 16 4 % 16 = 0) && decide (blk bs 16 4 + 16 * recs ≤ n) &&
    decide (blk bs 20 4 + ceilDiv inert 4 ≤ n) &&
    decide (blk bs 24 4 % 16 = 0) && decide (blk bs 24 4 + 4 * words ≤ n) &&
    decide (4 ≤ words ∧ words ≤ 24576 ∧ words % 4 = 0) &&
    decide (blk bs 32 2 % 4 = 0) && decide (blk bs 34 2 ≤ 4096) && decide (blk bs 32 2 + blk bs 34 2 ≤ words) &&
    decide (blk bs 36 2 % 4 = 0) && decide (4 ≤ blk bs 38 2 ∧ blk bs 38 2 ≤ 4096) && decide (blk bs 36 2 + blk bs 38 2 ≤ words) &&
    decide (0 < blk bs 40 4) && decide (blk bs 112 4 ≤ n) && decide (blk bs 116 4 + 112 ≤ n)

/-- A block taken apart. -/
def problemOf (bs : List Byte) : Problem :=
  let off := blk bs 24 4
  let words := blk bs 28 2
  { gang := blk bs 6 1, image := blk bs 8 4,
    recs := (List.range (blk bs 12 2)).map fun i => recOf bs (blk bs 16 4 + 16 * i),
    inertia := (List.range (blk bs 14 2)).map fun i => bits (blk bs (blk bs 20 4 + i / 4) 1) (2 * (i % 4)) 2,
    data := (List.range words).foldl (fun m i => putWord m i (blk bs (off + 4 * i) 4)) [],
    words := words, capOff := blk bs 32 2, capWords := blk bs 34 2, resOff := blk bs 36 2, resWords := blk bs 38 2,
    eps := blk bs 40 4, cycles := blk bs 44 4, vinit := (List.range 16).map fun i => blk bs (48 + 4 * i) 4,
    fmt := if blk bs 112 4 = 0 then [] else (bs.take (blk bs 116 4)).drop (blk bs 112 4) }

/-- The first record, by index, that fails a test. -/
def firstBad (recs : List KRec) (ok : Nat → KRec → Bool) : Option Nat :=
  (recs.zipIdx.find? fun e => !(ok e.2 e.1)).map Prod.snd

/-- The first failing check of R275 on a block, with the record it names; 0 passes. The count of R280 has no value for GANG 0, which check 8
meets, and none for a GREDUCE on a gang that is no power of two, whose CYCLES therefore equals no count (DEDUCED, log 49). -/
def blockCheck (s : State) (bs : List Byte) : Nat × Nat :=
  let p := problemOf bs
  let isRep (r : KRec) : Bool := decide (r.kernel.toNat = 0x0D)
  let bad4 := firstBad p.recs (kValid p.recs p.words)
  let bad5 := firstBad p.recs fun i r => !(isRep r) || repeatOk p.recs i r
  let bad6 := firstBad p.recs fun _ r => decide (r.kernel.toNat ≠ 0x04) || decide (r.k.toNat + r.m.toNat ≤ p.inertia.length)
  if imageCheck s 3 bs (blk bs 116 4) false ≠ 0 then (1, 0)
  else if blk bs 0 4 ≠ 0x424F5250 ∨ blk bs 4 2 ≠ 1 then (2, 0)
  else if blockLayoutOk bs = false then (3, 0)
  else if bad4.isSome then (4, bad4.getD 0)
  else if bad5.isSome then (5, bad5.getD 0)
  else if bad6.isSome then (6, bad6.getD 0)
  else if p.inertia.contains 3 then (6, 0)
  else if p.gang ≠ 0 ∧ (recCycles 1024 p.recs p.gang ≠ p.cycles ∨ (2 ^ log2g p.gang ≠ p.gang ∧ p.recs.any (fun r => decide (r.kernel.toNat = 0x0B)) = true)) then
    (7, 0)
  else if [1, 2, 4].contains p.gang then (0, 0) else (8, 0)

/-- PROBLEM_CREATE's own rules at acceptance (R275). -/
def problemCreateCheck (s : State) (a : Acc) : Option Refuse :=
  firstRefuse [
    (!(onlyBytes a.d [(16, 12)]), rRANGE),
    (decide (256 ≤ countObjs s cPROBLEM + s.sol.creates.length + s.sol.made.length) || !(hasFree s cPROBLEM), rNORES)]

/-- PROBLEM_CREATE has been accepted: the block is being read. -/
def problemCreateStart (s : State) (a : Acc) : State := modSol s fun x => { x with creates := x.creates ++ [a] }

/-- PROBLEM_CREATE_DONE: the block of the oldest create has been read, and is checked and kept (R275); its object is created at the next
frame boundary (R30). -/
def problemCreateDone (s : State) (bs : List Byte) : State :=
  match s.sol.creates with
  | [] => s
  | a :: rest =>
    let s := modSol s fun x => { x with creates := rest }
    let (chk, idx) := if bs.length ≠ pf a.d 24 4 then (1, 0) else blockCheck s bs
    if chk = 1 then
      complete (rejectImage s 3 (if bs.length ≠ pf a.d 24 4 then 1 else imageCheck s 3 bs (blk bs 116 4) false)) a stRANGE 0 1
    else if memPoisoned s (Config.blockCopy 256) bs.length then
      -- the copy in DRAM met an uncorrectable error (R484)
      complete (eccRead s (linesOf (Config.blockCopy 256) bs.length)) a stRANGE 0 0xEE
    else if chk ≠ 0 then complete s a stRANGE 0 (chk + 65536 * idx)
    else modSol s fun x => { x with made := x.made ++ [(a, problemOf bs)] }

/-- The creates of a function that ends are dropped (R412). -/
def problemCreateAbort (s : State) (req : Nat) : State :=
  modSol s fun x => { x with creates := x.creates.filter (fun a => decide (a.req ≠ req)), made := x.made.filter fun m => decide (m.1.req ≠ req) }

/-! ### Binding and writing (R276 to R278) -/

/-- The ranges of lane memory that a gang's bound problems take: base and length. -/
def gangUsed (s : State) (l : Nat) : List (Nat × Nat) :=
  (gangAt s l).order.map fun p => ((probAt s p).base, (probAt s p).words)

/-- The lowest free address of a gang's lane memory at which `words` words fit (R276). -/
def findRun (used : List (Nat × Nat)) (words : Nat) : Option Nat :=
  let cands := 0 :: used.map fun u => u.1 + u.2
  let fits (b : Nat) : Bool := decide (b + words ≤ 24576) && used.all fun u => decide (b + words ≤ u.1) || decide (u.1 + u.2 ≤ b)
  (cands.filter fits).foldl (fun m b =>
    match m with
    | none => some b
    | some x => some (Nat.min x b)) none

/-- A gang's problems obey R276: together on a PLAN gang, each on a HOUSE gang. -/
def gangBudgetOk (s : State) (l : Nat) : Bool :=
  let g := gangAt s l
  if g.role = 1 then decide (gangCycles s l ≤ solBudget s)
  else g.order.all fun p => decide (committed (probAt s p) ≤ solBudget s)

/-- PROBLEM_BIND's own rules (R276). -/
def problemBindCheck (s : State) (a : Acc) : Option Refuse :=
  let l := pf a.d 16 2
  let p := probAt s (tIdx a.d)
  let g := gangAt s l
  let bind := decide (l ≠ 0xFFFF)
  firstRefuse [
    (!(onlyBytes a.d [(16, 2)]) || (bind && (decide (191 < l) || decide (gangOf s l ≠ l))), rRANGE),
    (bind && decide (g.role ≠ 1) && decide (g.role ≠ 3), rDENIED),
    (bind && decide (g.size ≠ p.gang), rRANGE),
    (bind && p.bound.isSome && decide (p.bound ≠ some l), (stBUSY, p.bound.getD 0)),
    (bind && p.bound.isNone && (findRun (gangUsed s l) p.words).isNone, rNORES),
    (bind && p.bound.isNone && memPoisoned s (Config.blockCopy (tIdx a.d)) (4 * p.words), (stRANGE, 0xEE))]

/-- A change under R278 reaches a gang: at once for an idle HOUSE gang's next dispatch, at the next plan-tick boundary for a PLAN
gang. -/
def laneOp (s : State) (l : Nat) (o : LaneOp) : State := modGang s l fun g => { g with todo := g.todo ++ [o] }

/-- A problem leaves its gang. -/
def unbindProblem (s : State) (p : Nat) : State :=
  match (probAt s p).bound with
  | some l => modProb (modGang s l fun g => { g with order := g.order.filter (· ≠ p) }) p fun x => { x with bound := none }
  | none => s

/-- A problem joins a gang at a free place. -/
def bindTo (s : State) (p l : Nat) : State :=
  match findRun (gangUsed s l) (probAt s p).words with
  | some b =>
    let s := modProb s p fun x => { x with bound := some l, base := b }
    laneOp (modGang s l fun g => { g with order := g.order ++ [p] }) l (.bind p b)
  | none => s

/-- A PROBLEM_BIND reads the device's copy of the block, in DRAM (R276, R484). -/
def copyRead (s : State) (a : Acc) : State :=
  let i := tIdx a.d
  if a.op = 0x0902 ∧ pf a.d 16 2 ≠ 0xFFFF ∧ (probAt s i).bound = none then
    eccRead s (linesOf (Config.blockCopy i) (4 * (probAt s i).words)) else s

/-- PROBLEM_BIND takes effect (R276). -/
def problemBind (s : State) (d : Desc) : State :=
  let l := pf d 16 2
  if l = 0xFFFF then unbindProblem s (tIdx d)
  else if (probAt s (tIdx d)).bound = some l then s else bindTo s (tIdx d) l

/-- PROBLEM_WRITE's own rules (R277). -/
def problemWriteCheck (s : State) (a : Acc) : Option Refuse :=
  let d := a.d
  let p := probAt s (tIdx d)
  let off := pf d 16 2
  let n := pf d 18 1
  firstRefuse [
    (decide (n < 1 ∨ 11 < n) || !(onlyBytes d [(16, 3), (20, 4 * n)]) || decide (p.words < off + n), rRANGE),
    (decide (0 < p.capWords) && decide (off < p.capOff + p.capWords) && decide (p.capOff < off + n), rDENIED)]

/-- Words are written into a problem's data section: the device's copy, and while it is bound every lane of its gang (R277). -/
def writeProblem (s : State) (i off : Nat) (ws : List Nat) : State :=
  let p := probAt s i
  let s := modProb s i fun p => { p with data := (ws.zipIdx off).foldl (fun m e => putWord m e.2 e.1) p.data }
  match p.bound with
  | some l => laneOp s l (.write p.base off ws)
  | none => s

/-- PROBLEM_WRITE takes effect (R277). -/
def problemWrite (s : State) (d : Desc) : State :=
  writeProblem s (tIdx d) (pf d 16 2) ((List.range (pf d 18 1)).map fun i => pf d (20 + 4 * i) 4)

/-- A physical lane, and with it the SHADOW spare that has its copy and does what it does (R286). -/
def laneAndShadows (s : State) (p : Nat) : List Nat :=
  p :: mkeys s.sol.lanes fun _ x => decide (x.shadowOf = some p) && x.copied

/-- A change of a physical lane and of its SHADOW spare (R286). -/
def modLanes (s : State) (p : Nat) (f : Lane → Lane) : State :=
  (laneAndShadows s p).foldl (fun s q => modSolLane s q f) s

/-- Words are stored in every lane of a gang. -/
def laneWrite (s : State) (l a : Nat) (ws : List Nat) : State :=
  (gangPhys s l).foldl (fun s p => modLanes s p fun x =>
    { x with mem := (ws.zipIdx a).foldl (fun m e => putWord m e.2 e.1) x.mem }) s

/-- The changes that wait are applied in order (R278). -/
def applyOps (s : State) (l : Nat) : State :=
  let ops := (gangAt s l).todo
  let s := modGang s l fun g => { g with todo := [] }
  ops.foldl (fun s o =>
    match o with
    | .bind p b =>
      let x := probAt s p
      laneWrite s l b ((List.range x.words).map fun i => mgetD x.data i 0)
    | .write b off ws => laneWrite s l (b + off) ws) s

/-! ### Runs (R279 to R285) -/

/-- A problem starts on a gang: VINIT is loaded (R267, R279). -/
def startProblem (s : State) (l p base : Nat) : State :=
  let x := probAt s p
  let h := handleOf s cPROBLEM p
  let s := (gangPhys s l).foldl (fun s q => modLanes s q fun y => { y with v := x.vinit, problem := h }) s
  modGang s l fun g => { g with run := some { problem := p, base := base } }

/-- The first problem that waits starts, when the gang can run. -/
def startNextProblem (s : State) (l : Nat) : State :=
  let g := gangAt s l
  match g.run, g.left with
  | none, (p, b) :: t =>
    if gangServes s l then startProblem (modGang s l fun g => { g with left := t }) l p b else s
  | _, _ => s

/-- The gangs of a role, rising. -/
def gangsOf (s : State) (role : Nat) : List Nat := mkeys s.sol.gangs fun _ g => decide (g.role = role)

/-- SOLVER_START: at frame START every PLAN gang starts its first problem (R279). -/
def solverStart (s : State) : State :=
  if tickFrame s = solStart s then (gangsOf s 1).foldl startNextProblem s else s

/-- What a gang's records work on. -/
def kctxOf (s : State) (l : Nat) (r : KRun) : KCtx :=
  let p := probAt s r.problem
  let lanes := (gangPhys s l).map (laneAt s)
  { mems := lanes.map fun x => x.mem, v := (lanes.headD {}).v, acc := (lanes.headD {}).acc, base := r.base, inertia := p.inertia,
    eps := p.eps, seed := s.free, run := r }

/-- The lanes of a gang take what its records have left. -/
def kctxBack (s : State) (l : Nat) (c : KCtx) : State :=
  let s := ((gangPhys s l).zip c.mems).foldl (fun s e => modLanes s e.1 fun x => { x with mem := e.2, v := c.v, acc := c.acc }) s
  modGang { s with free := c.seed } l fun g => { g with run := some c.run }

/-- One kernel record issued to the gang of a logical lane while it runs a problem. -/
def issueRec (s : State) (n : Nat) (r : KRec) : State :=
  let l := gangOf s n
  match (gangAt s l).run with
  | some run =>
    if gangServes s l then
      let c := kctxOf s l run
      let c := kernel c (kResolve run.next r none)
      kctxBack s l { c with run := { c.run with issued := true, next := run.next + 1 } }
    else s
  | none => s

/-- A REPEAT record issued with the records that it repeats (R274). -/
def issueRepeat (s : State) (n : Nat) (r : KRec) (body : List KRec) : State :=
  let l := gangOf s n
  match (gangAt s l).run with
  | some run =>
    if gangServes s l then
      let recs := ({ r with kernel := 0x0D, n := BitVec.ofNat 16 body.length } :: body).zipIdx run.next
      let c := runRecs 1024 (recs.map fun e => (e.2, e.1)) none (kctxOf s l run)
      kctxBack s l { c with run := { c.run with issued := true, next := run.next + 1 + body.length } }
    else s
  | none => s

/-- PIVOT_REG (R282). -/
def pivotReg (r : KRun) : Nat := r.first + 65536 * r.count

/-- A status of R284: the highest-ranked that applies. -/
def runStatus (r : KRun) (fault late : Bool) : Nat :=
  if fault then 4 else if late then 3 else if r.sats ≠ 0 then 2 else if r.count ≠ 0 then 1 else 0

/-- The result of a problem is written in lane memory and copied out; of a LATE one the header alone (R281, R284). -/
def deliverResult' (s : State) (l : Nat) (r : KRun) (status cycles : Nat) : State :=
  let p := probAt s r.problem
  let head := [status, pivotReg r, r.sats, cycles % 4294967296]
  let s := laneWrite s l (r.base + p.resOff) head
  let m := (laneAt s ((gangPhys s l).headD 0)).mem
  let res := (List.range p.resWords).map fun i => mgetD m (r.base + p.resOff + i) 0
  modProb s r.problem fun p =>
    { p with status := status,
             result := if status = 3 then head ++ (p.result ++ List.replicate (p.resWords - p.result.length) 0).drop 4 else res }

/-- The registers of a gang's lanes at the end of a problem (R289). `used`: cycles used so far in this tick or dispatch; `fin`: the first
frame boundary at or after the end. -/
def laneEnd (s : State) (l : Nat) (r : KRun) (status used fin : Nat) : State :=
  let s := (gangPhys s l).foldl (fun s q => modLanes s q fun x =>
    { x with status := status, pivotReg := pivotReg r, vEnd := x.v, lastCycles := used, finish := fin }) s
  if (gangAt s l).role = 1 then modSol s fun x => { x with finishMax := Nat.max x.finishMax fin } else s

/-- The saturations of a problem by the lanes of its gang: which lane met each is free (R289). -/
def satShares (s : State) (lanes : List Nat) (sats : Nat) : List (Nat × Nat) × State :=
  match lanes with
  | [] => ([], s)
  | [q] => ([(q, sats)], s)
  | q :: t =>
    let (i, s) := draw s
    let n := Config.freeNat i % (sats + 1)
    let (l, s) := satShares s t (sats - n)
    ((q, n) :: l, s)

/-- Counts and events of a problem's pivots and saturations (R283, R290). -/
def runEvents (s : State) (l : Nat) (r : KRun) : State :=
  let p := probAt s r.problem
  let h := handleOf s cPROBLEM r.problem
  let q := (gangPhys s l).headD 0
  let s := bumpBy s 0x1A0018 r.count
  let s := if r.count ≠ 0 ∧ p.regRaised = false then
      raise (modProb s r.problem fun p => { p with regRaised := true }) .solRegularised h (4294967296 * pivotReg r) (oSOL q)
    else s
  if r.sats = 0 then s
  else
    let (shares, s) := satShares s (gangPhys s l) r.sats
    let s := shares.foldl (fun s e => (laneAndShadows s e.1).foldl (fun s q => bumpBy s (0x1B0018 + 0x400 * q) e.2) s)
      (bumpBy s 0x1A001C r.sats)
    if p.satRaised then s
    else raise (modProb s r.problem fun p => { p with satRaised := true }) .solSaturated h
        ((r.satRec.getD 0) % 65536 + 4294967296 * r.sats) (oSOL q)

/-- The node of a HOUSE gang ends with its problem (R379). -/
def houseEnd (s : State) (l status : Nat) : State :=
  match (workerAt s (64 + l)).running with
  | some i => if status = 3 ∨ status = 4 then nodeFault s i 2 else nodeDone s i fun _ => true
  | none => s

/-- A gang's problem has ended with a status. -/
def endProblem (s : State) (l : Nat) (r : KRun) (status cycles : Nat) : State :=
  let s := deliverResult' s l r status cycles
  let used := (gangAt s l).used + cycles + 64
  let s := modGang s l fun g => { g with run := none, used := used }
  let s := runEvents (laneEnd s l r status used ((tickFrame s + 1) % 1280)) l r
  let s := if status = 4 then modGang s l fun g => { g with left := [] } else s
  if (gangAt s l).role = 3 then houseEnd s l status else startNextProblem s l

/-- A corrected memory error of a physical lane (R285). -/
def laneCorrected (s : State) (q : Nat) : State :=
  wearInput (raise (bump s (0x1B001C + 0x400 * q)) .solMemCorr 0 q (oSOL q)) 5 q 1

/-- An uncorrectable memory error of a physical lane (R285). -/
def laneUncorrectable (s : State) (q word : Nat) : State :=
  wearInput (raise (modSolLane s q fun x => { x with faulty := true }) .solMemUncorr 0 (q + 4294967296 * word) (oSOL q)) 5 q 6

/-- The regions of the HOUSE nodes whose problem is bound to a gang warm-start when one of its lanes fails (R473). -/
def houseWarm (s : State) (l q problem : Nat) : State :=
  let rs := dedup (s.gsc.nodes.filterMap fun (e : Nat × Node) =>
    if e.2.op = 2 ∧ (probAt s (hIdx (bits e.2.args 0 32))).bound = some l ∧ e.2.region ≠ 0xFF then some e.2.region else none)
  if (gangAt s l).role = 3 ∧ bit (reg s 0x260000) 0 = true then
    let h := handleOf s cPROBLEM problem
    let w : WarmReq := { handle := h, origin := oSOL q, regions := rs, code := eventCode .solMemUncorr, src := 0, detail := q }
    modFlt s fun x => { x with
      quarantines := x.quarantines ++ [{ origin := oSOL q, handle := h, kind := 4 }],
      warmReqs := if rs = [] then x.warmReqs else x.warmReqs ++ [w] }
  else s

/-- The cycles that a problem has used when it is stopped before its end: free, at most its count (log 49). -/
def cyclesUsed (s : State) (p : Nat) : Nat × State :=
  let (i, s) := draw s
  (Config.freeNat i % ((probAt s p).cycles + 1), s)

/-- An uncorrectable error ends the running problem with FAULT, and what the gang still had in this tick does not run (R285). -/
def gangFault (s : State) (l q word : Nat) : State :=
  let s := laneUncorrectable s q word
  match (gangAt s l).run with
  | some r =>
    let (used, s) := cyclesUsed (houseWarm s l q r.problem) r.problem
    endProblem s l r 4 used
  | none => modGang s l fun g => { g with left := [] }

/-- SOLVER_PROBLEM_END: the problem of the gang of a logical lane ends (R284), with the memory error that it met: none, a corrected
one, or an uncorrectable one, in a lane of the gang at a word. Records that were not issued one by one run here. -/
def problemEnd (s : State) (n err errLane word : Nat) : State :=
  let l := gangOf s n
  let q := (gangPhys s l).getD (errLane % (gangAt s l).size) 0
  match (gangAt s l).run with
  | none => if (gangAt s l).role = 2 ∧ err = 2 then laneUncorrectable s q word
            else if (gangAt s l).role = 2 ∧ err = 1 then laneCorrected s q else s
  | some r =>
    if err = 2 then gangFault s l q word
    else if gangServes s l = false then s
    else
      let s := if err = 1 then laneCorrected s q else s
      let s := if r.issued then s
        else kctxBack s l (runRecs 1024 ((probAt s r.problem).recs.zipIdx.map fun e => (e.2, e.1)) none (kctxOf s l r))
      match (gangAt s l).run with
      | some r => endProblem s l r (runStatus r false false) (probAt s r.problem).cycles
      | none => s

/-- A GEMM record with the memory error that it meets (R285). -/
def issueGemm (s : State) (n : Nat) (r : KRec) (ecc errLane word : Nat) : State :=
  let l := gangOf s n
  let q := (gangPhys s l).getD (errLane % (gangAt s l).size) 0
  match (gangAt s l).run with
  | some _ =>
    if ecc = 2 then gangFault s l q word
    else
      let s := issueRec s n r
      if ecc = 1 then laneCorrected s q else s
  | none => s

/-- SOLVER_DEADLINE: at frame DEADLINE running problems stop with LATE and the rest do not run (R279, R281). -/
def solverDeadline (s : State) : State :=
  if tickFrame s = solDeadline s then
    (gangsOf s 1).foldl (fun s l =>
      let s := modGang s l fun g => { g with left := [] }
      match (gangAt s l).run with
      | some r =>
        let (used, s) := cyclesUsed s r.problem
        let s := deliverResult' s l r 3 used
        let s := modGang s l fun g => { g with run := none, used := g.used + used + 64 }
        let s := runEvents (laneEnd s l r 3 (gangAt s l).used (tickFrame s)) l r
        raise (bump s 0x1A0014) .solLate (handleOf s cPROBLEM r.problem) (4294967296 * used) (oSOL ((gangPhys s l).headD 0))
      | none => s) s
  else s

/-- A HOUSE gang whose worker has started a node dispatches the node's problem (R265, R278). -/
def houseDispatch (s : State) (l : Nat) : State :=
  let g := gangAt s l
  match (workerAt s (64 + l)).running with
  | some i =>
    if g.run.isNone ∧ gangServes s l = true then
      let p := hIdx (bits (nodeAt s i).args 0 32)
      if (probAt s p).bound = some l then
        let s := applyOps s l
        startProblem (modGang s l fun g => { g with used := 0 }) l p (probAt s p).base
      else s
    else s
  | none => s

/-! ### The plan-tick boundary and spares (R278, R286) -/

/-- A spare in SHADOW copies the live lane at a plan-tick boundary; from then on it does what the lane does, and each tick is compared
(R286): whether the hardware's two results agree is free (log 19). -/
def laneShadowTick (s : State) (q : Nat) : State :=
  let x := laneAt s q
  match x.shadowOf with
  | none => s
  | some live =>
    if x.copied then
      let (ok, s) := shadowUnit s 5 q
      if ok then s
      else
        let s := bump s (0x1B0020 + 0x400 * q)
        if x.misRaised then s
        else raise (modSolLane s q fun x => { x with misRaised := true }) .solShadowMismatch 0 (q + 65536 * live) (oSOL q)
    else modSolLane s q fun x => { x with copied := true, mem := (laneAt s live).mem }

/-- The fabric at frame 0 of a plan tick: waiting changes apply, and each PLAN gang takes the problems it runs in this tick. -/
def solverTick (s : State) : State :=
  -- a problem that no HOUSE gang runs has not started in the tick (R284)
  let fresh (x : Problem) : Problem :=
    { x with regRaised := false, satRaised := false,
             status := if (x.bound.map fun l => (gangAt s l).role) = some 3 then x.status else 5 }
  let s := { s with problems := s.problems.map fun (e : Nat × Problem) => (e.1, fresh e.2) }
  let s := (List.range 208).foldl laneShadowTick s
  (gangsOf s 1).foldl (fun s l =>
    let s := applyOps s l
    let ps := (gangAt s l).order
    modGang s l fun g => { g with left := ps.map fun p => (p, (probAt s p).base), run := none, used := 0 }) s

/-- A spare lane enters SHADOW of a live one, and leaves it. -/
def laneShadow (s : State) (spare live : Nat) : State :=
  modSolLane s spare fun x => { x with shadowOf := some live, copied := false, misRaised := false }
def laneUnshadow (s : State) (spare : Nat) : State :=
  modSolLane s spare fun x => { x with shadowOf := none, copied := false, misRaised := false }

/-- A darn commits: the spare, with the memory that its copy and the same work have given it, takes the worn lane's place in SOL_LMAP, and
the worn lane retires with what its registers show (R286). -/
def laneTakeover (s : State) (worn spare : Nat) : State :=
  let x := laneAt s worn
  let s := modSolLane s spare fun y =>
    let y := if y.copied then y else { y with mem := x.mem, v := x.v, acc := x.acc }
    { y with shadowOf := none, copied := false, misRaised := false, faulty := false, halted := [] }
  match logicalOf s worn with
  | some n => modSol s fun x => { x with lmap := mput x.lmap n (spare, false) }
  | none => s

/-- A lane is lost: it wore out and no spare remains (R287). -/
def loseLane (s : State) (q : Nat) : State :=
  match logicalOf s q with
  | none => s
  | some n =>
    let s := modSol s fun x => { x with lmap := mput x.lmap n (q, true) }
    let l := gangOf s n
    let s := raise s .solLaneLost 0 (q + 65536 * n) (oSOL q)
    -- a problem that ran on a PLAN gang stops LATE at the deadline (R281)
    match (gangAt s l).run, (gangAt s l).role with
    | some r, 3 => let (used, s) := cyclesUsed s r.problem; endProblem s l r 4 used
    | _, _ => modGang s l fun g => { g with left := [] }

/-- A debug session halts a lane, and resumes it (R533, R541). -/
def haltLane (s : State) (q ses : Nat) : State :=
  modSolLane s q fun x => { x with halted := if x.halted.contains ses then x.halted else x.halted ++ [ses] }
def resumeLane (s : State) (q ses : Nat) : State := modSolLane s q fun x => { x with halted := x.halted.filter (· ≠ ses) }

/-! ### Registers (R288, R289) -/

/-- SOL_LMAPn. -/
def solLmap (s : State) (n : Nat) : Nat :=
  let (p, lost) := lmapAt s n
  let g := gangAt s (gangOf s n)
  p + 256 * b2n lost + 512 * g.role + 2048 * (if g.size = 4 then 2 else if g.size = 2 then 1 else 0)

/-- Lanes under a self-test. -/
def laneTesting (s : State) (q : Nat) : Bool := s.hlt.tests.any fun t => decide (t.cls = 5) && decide (t.inst = q) && t.spare.isNone

/-- SOL_L_STAT. -/
def solLaneStat (s : State) (q : Nat) : Nat :=
  let x := laneAt s q
  let lg := logicalOf s q
  let g := (lg.map fun n => gangAt s (gangOf s n)).getD {}
  let running := g.run.isSome || (decide (g.role = 2) && s.grd.running)
  let st := if retired s 5 q then 4 else if x.halted ≠ [] then 5 else if laneTesting s q then 6 else if x.shadowOf.isSome then 2
    else if (instAt s 5 q).code = 1 then 3 else if lg.isSome && running then 1 else 0
  st + 8 * x.status + 256 * (lg.getD 0xFF) + 65536 * g.order.length

/-- The other registers of a lane block. -/
def solLaneReg (s : State) (q off : Nat) : Nat :=
  let x := laneAt s q
  let l := (logicalOf s q).map (gangOf s)
  match off with
  | 0x00 => solLaneStat s q
  | 0x04 => x.problem
  | 0x08 => (l.map (gangCycles s)).getD 0 % 262144
  | 0x0C => x.lastCycles % 262144
  | 0x10 => x.finish % 2048
  | 0x14 => x.pivotReg
  | 0x24 => ((l.map fun l => ((gangUsed s l).map Prod.snd).sum).getD 0) % 32768
  | o => if 0x40 ≤ o ∧ o < 0x80 ∧ o % 4 = 0 then x.vEnd.getD ((o - 0x40) / 4) 0 else 0

/-- SOL_STATUS: logical lanes not lost, and spare lanes remaining. -/
def solStatus (s : State) : Nat :=
  192 - (s.sol.lmap.filter fun e => e.2.2).length + 256 * sparesLeft s 5

end Sys2Proof.Machine
end

