-- ==== Sys2Proof/Machine/Plan.lean ====
section
/-!
DEFINITION. Planning control: branches, capture, joins, choice and commit, the bus power price, the derating ladder (R291 to R307).
-/
namespace Sys2Proof.Machine

/-- Origin of an arm's planning events, and of planning control's own (R471). -/
def oPLN (a : Nat) : Nat := origin 0x12 a
def oPLNall : Nat := blockOrigin 0x12

/-- Changes planning control. -/
def modPln (s : State) (f : PlnSt → PlnSt) : State := { s with pln := f s.pln }
/-- An arm in planning control. -/
def plnAt (s : State) (a : Nat) : PlnArm := mgetD s.pln.arms a {}
/-- Changes an arm in planning control. -/
def modPlnArm (s : State) (a : Nat) (f : PlnArm → PlnArm) : State :=
  modPln s fun x => { x with arms := mput x.arms a (f (plnAt s a)) }
/-- An arm is planned while its branch 0 exists (R291). -/
def planned (s : State) (a : Nat) : Bool := mhas (plnAt s a).br 0 && isLive s cARM a
/-- The planned arms in precedence order: ascending region, then ascending index (R304, R323). -/
def plannedArms (s : State) : List Nat :=
  let arms := (s.arms.map Prod.fst).filter (planned s)
  (List.range 16).flatMap fun r => arms.filter fun a => decide (armRegion s a = some r)

/-- The joints of an arm, in joint order. -/
def armJoints (s : State) (a : Nat) : List Nat := ((mget s.arms a).map fun x => x.joints).getD []
/-- The bus group of a joint's switching channel. -/
def jointBus (s : State) (j : Nat) : Nat := ((mget s.joints j).map fun x => (swAt s x.swch).cfg.busGrp).getD 0
/-- The bus group of an arm. -/
def armBus (s : State) (a : Nat) : Nat := ((armJoints s a).head?.map (jointBus s)).getD 0
/-- PLN_CTRL.EN. -/
def plnOn (s : State) : Bool := bit (reg s 0x200000) 0

/-! ### Branches (R291, R292, R303) -/

/-- A branch's problem and horizon in use at the ladder's level, none where the level drops it. -/
def branchUse (level b : Nat) (x : Branch) : Option (Nat × Nat) :=
  if 3 ≤ level ∧ 2 ≤ b then none
  else if 2 ≤ level then x.short.map fun p => (p, x.shortSteps)
  else some (x.prob, x.steps)

/-- The arm, and branch, that uses a problem. -/
def problemUser (s : State) (p : Nat) : Option (Nat × Nat) :=
  s.pln.arms.findSome? fun e => (e.2.br.find? fun b => decide (b.2.prob = p) || decide (b.2.short = some p)).map fun b => (e.1, b.1)

/-- Words that a problem needs for J joints and a horizon (R292). -/
def problemFits (p : Problem) (j h : Nat) : Bool := decide (16 + 16 * j ≤ p.capWords) && decide (6 + h + 4 * j * h ≤ p.resWords)

/-- PLN_BRANCH_SET's own rules, in order (R292). A removal has no PROBLEM, and else keeps the table of R291 like a setting. -/
def branchSetChecks (s : State) (a : Acc) : List (Bool × Refuse) :=
  let d := a.d
  let arm := tIdx d
  let b := pf d 16 1
  let kind := pf d 17 1
  let steps := pf d 18 1
  let ss := pf d 19 1
  let remove := decide (pf d 20 4 = 0)
  let js := armJoints s arm
  let p := hIdx (pf d 20 4)
  let q := if pf d 24 4 = 0 then none else some (hIdx (pf d 24 4))
  let fields := decide (kind ≤ 3) && decide ((kind = 0) = (b = 0)) && decide (1 ≤ steps ∧ steps ≤ 32) &&
    (match q with
     | some _ => decide (1 ≤ ss ∧ ss < steps)
     | none => decide (ss = 0)) &&
    (if kind = 2 then decide (1 ≤ pf d 28 2) else decide (pf d 28 2 = 0)) &&
    (if kind = 3 then decide (1 ≤ pf d 30 1) else decide (pf d 30 1 = 0))
  let noProfile := js.any fun j =>
    match jointProfile s j with
    | some x => decide ((prfAt s x).cfg.source ≠ 2)
    | none => true
  let buses := js.any fun j => decide (jointBus s j ≠ armBus s arm)
  let fits := (remove || problemFits (probAt s p) js.length steps) && ((q.map fun q => problemFits (probAt s q) js.length ss).getD true)
  let st := (armRegion s arm).map (regionSt s)
  let others := ((if remove then [] else [p]) ++ q.toList).filterMap fun x =>
    match problemUser s x with
    | some (y, c) => if y = arm ∧ c = b then none else some y
    | none => none
  [
    (((mget s.arms arm).map fun x => x.aux).getD false, rDENIED),
    (!(onlyBytes d [(16, 15)]) || decide (7 < b) || !fields || noProfile || buses || !fits, rRANGE),
    (decide (b = 0) && decide (st ≠ some .safeOff) && decide (st ≠ some .service), rMODE),
    (remove && decide (b = 0) && (plnAt s arm).br.any (fun e => decide (e.1 ≠ 0)), rBUSY (handleOf s cARM arm)),
    (!others.isEmpty, rBUSY (handleOf? s cARM others.head?)),
    (!remove && decide (((probAt s p).bound.map fun l => (gangAt s l).role) ≠ some 1), rNORES)]

/-- The first of them that refuses. -/
def branchSetCheck (s : State) (a : Acc) : Option Refuse := firstRefuse (branchSetChecks s a)

/-- The arms whose branches use each problem. -/
def markUsers (s : State) : State :=
  { s with problems := s.problems.map fun (e : Nat × Problem) => (e.1, { e.2 with arm := (problemUser s e.1).map Prod.fst }) }

/-- PLN_BRANCH_SET takes effect. -/
def branchSet (s : State) (d : Desc) : State :=
  let b := pf d 16 1
  markUsers (modPlnArm s (tIdx d) fun x =>
    { x with br := if pf d 20 4 = 0 then mdel x.br b
        else mput x.br b { kind := pf d 17 1, steps := pf d 18 1, shortSteps := pf d 19 1, prob := hIdx (pf d 20 4),
                           short := if pf d 24 4 = 0 then none else some (hIdx (pf d 24 4)), scale := pf d 28 2, via := pf d 30 1 } })

/-! ### The reference ahead (R294) -/

/-- The reference after `n` frames of what runs and what is queued. Each step takes one segment to its end. -/
def aheadSegs (fuel : Nat) (l : List (Int × Nat × Option (Int × Int × Int))) (done : Nat) (p v a : Int) (n : Nat) :
    Option (Int × Int × Int) × (Int × Int × Int) × Nat :=
  match fuel with
  | 0 => (none, (p, v, a), n)
  | k + 1 =>
    match l with
    | [] => (none, (p, v, a), n)
    | (j, d, snap) :: t =>
      if n < d - done then (some (segState p v a j (done + n)), (p, v, a), 0)
      else
        let e := match snap with
          | some x => x
          | none => segState p v a j d
        aheadSegs k t 0 e.1 e.2.1 e.2.2 (n - (d - done))

/-- `n` frames of a profile stop. -/
def aheadStop (c : PrfCfg) (n : Nat) (x : Int × Int × Int) : Int × Int × Int :=
  (List.range n).foldl (fun x _ =>
    if x.2.1 = 0 ∧ x.2.2 = 0 then x else (velChange x.1 x.2.1 x.2.2 0 (aIn c.aStop) (jIn c.jStop)).1) x

/-- The reference that a profile reaches `n` frames ahead, given its queue as it stands (R294). A queue that runs out ends in a
profile stop (R239). -/
def ahead (x : Profile) (n : Nat) : Int × Int × Int :=
  let queue := x.queue.map fun (e : PEntry) => (e.target, e.dur, e.snap)
  match x.mot with
  | .segs l done p v a snap _ =>
    let own := l.zipIdx.map fun e => (e.1.1, e.1.2, if e.2 + 1 = l.length then snap else none)
    match aheadSegs 130 (own ++ queue) done p v a n with
    | (some r, _, _) => r
    | (none, r, m) => aheadStop x.cfg m r
  | .stop => aheadStop x.cfg n (x.p, x.v, x.a)
  | _ =>
    match aheadSegs 130 queue 0 x.p x.v x.a n with
    | (some r, _, _) => r
    | (none, r, m) => aheadStop x.cfg m r

/-- The profile of a joint, or one at rest where it has none. -/
def jointPrf (s : State) (j : Nat) : Profile := ((jointProfile s j).map (prfAt s)).getD {}

/-! ### Capture (R293) -/

/-- The low and high words of a 64-bit value. -/
def lohi (x : Int) : List Nat := words64 (un 64 x)

/-- V_BUS: the mean bus voltage of the group's joints (R293 word 10). -/
def busMean (s : State) (g : Nat) : Int :=
  let vs := (s.swchs.filter fun e => e.2.joint.isSome && decide (e.2.cfg.busGrp = g)).map fun (e : Nat × Swch) => e.2.vMean
  if vs.isEmpty then 0 else divFree 110 (isum vs) vs.length

/-- PRICE of a bus group. -/
def priceAt (s : State) (g : Nat) : Nat := mgetD s.pln.price g 0

/-- The words of one joint in a capture section. -/
def captureJoint (s : State) (j : Nat) (st : Int × Int × Int) : List Nat :=
  let x := jointPrf s j
  let y : Profile := { x with p := st.1, v := st.2.1, a := st.2.2 }
  let sw := ((mget s.joints j).map fun z => swAt s z.swch).getD {}
  let fb := (((mget s.joints j).bind fun z => z.fbch).map (fbAt s)).getD {}
  lohi (refPos y) ++ [un 32 (refVel y), un 32 (refAcc y)] ++ lohi (jointPos s j) ++
    [un 32 (jointVel s j), sw.iAvail % 65536, un 32 x.cfg.vMax, un 32 x.cfg.aMax, un 32 x.cfg.jMax,
     b2n fb.uncertain + 2 * b2n fb.fault + 4 * b2n x.homed, sw.limTick, 0, 0, 0]

/-- A capture section (R293). -/
def captureSection (s : State) (a b : Nat) (x : Branch) (steps : Nat) (starts : List (Int × Int × Int)) : List Nat :=
  let js := armJoints s a
  let g := armBus s a
  let st := ((armRegion s a).map fun r => regionFlag (regionSt s r)).getD 0
  let short := decide (2 ≤ s.pln.level)
  let par := if x.kind = 1 then 0xFFFF else x.scale
  let line := un 64 ((s.line.line : Int) + divFree 111 (lineSpeed s * 65536 * 512) 1000000)
  [planTick s % 4294967296, x.kind + 8 * b2n short + 16 * b + 256 * st, par + 65536 * x.via, steps,
   un 32 ((s.time.wallF : Int) + 512000), 0] ++ words64 line ++
  [un 32 (lineSpeed s), priceAt s g, un 32 (busMean s g), js.length, 0, 0, 0, 0] ++
  ((js.zip starts).flatMap fun e => captureJoint s e.1 e.2)

/-- Every planned arm is captured, and the capture sections of its branches in use are written into every lane of their gangs
(R293, R294). -/
def planCapture (s : State) : State :=
  let s := modPln s fun x => { x with plan := planTick s % 4294967296 }
  (plannedArms s).foldl (fun s a =>
    let starts := (armJoints s a).map fun j => ahead (jointPrf s j) 2560
    let onPlan (p : Nat) : Bool := ((probAt s p).bound.map fun l => (gangAt s l).role) = some 1
    let uses := (plnAt s a).br.filterMap fun (e : Nat × Branch) => (branchUse s.pln.level e.1 e.2).map fun u => (e.1, u)
    let s := modPlnArm s a fun x =>
      { x with starts := (starts :: x.starts).take 2, cap := uses.map fun e => (e.1, e.2.1, e.2.2, onPlan e.2.1) }
    uses.foldl (fun s e =>
      let p := probAt s e.2.1
      match p.bound, mget (plnAt s a).br e.1 with
      | some l, some br =>
        if (gangAt s l).role = 1 then laneWrite s l (p.base + p.capOff) (captureSection s a e.1 br e.2.2 starts) else s
      | _, _ => s) s) s

/-! ### The bus power price (R302) -/

/-- The mean power that an arm's committed branch predicts at a frame: Q24.8 W. -/
def powerAt (s : State) (a frame : Nat) : Int :=
  let x := plnAt s a
  if frame < x.since then 0 else x.power.getD ((frame - x.since) / 5120) 0

/-- PRICE_UPDATE for one bus group. -/
def priceGroup (s : State) (g : Nat) : State :=
  let arms := (plannedArms s).filter fun a => decide (armBus s a = g)
  if arms.isEmpty then s
  else
    -- the steps that some committed branch of the group has still to run
    let last := nmax (arms.map fun a => (plnAt s a).since + 5120 * (plnAt s a).power.length)
    let sums := (List.range (ceilDiv (last - s.time.frame) 1280)).map fun i =>
      isum (arms.map fun a => powerAt s a (s.time.frame + 1280 * i))
    let peak := satS 32 (sums.foldl (fun m x => if m < x then x else m) (mgetD s.buses g {}).pPeakOut)
    let cap := bits (reg s (0x200104 + 0x20 * g)) 0 24
    let eta : Int := reg s (0x200108 + 0x20 * g)
    let pmax : Int := reg s (0x20010C + 0x20 * g)
    let new := if cap = 0 then 0 else clampI ((priceAt s g : Int) + divFree 112 (eta * (peak - 256 * cap)) 256000) 0 pmax
    let s := modPln s fun x => { x with price := mput x.price g new.toNat, peak := mput x.peak g peak }
    let k := planTick s
    let again := match mget s.pln.priceMax g with
      | some t => decide (t + 1024 ≤ k)
      | none => true
    if new = pmax ∧ cap ≠ 0 ∧ again = true then
      raise (modPln s fun x => { x with priceMax := mput x.priceMax g k }) .plnPriceMax 0 (g + 4294967296 * un 32 peak) oPLNall
    else s

/-! ### Joins (R296, R297) -/

/-- The three jerks of a step (R296) in JRK32: positions in units of 2^-64 rev, velocities and accelerations in 2^-48. -/
def stepJerks (p0 v0 a0 p1 v1 a1 : Int) : Int × Int × Int :=
  let n : Int := 15625
  let c := (p1 - p0) * n * n * n - 16 * 65536 * v0 * n * n - 128 * 65536 * a0 * n
  let b := 65536 * (4 * (v1 - v0) * n * n - 64 * a0 * n)
  let a := 65536 * 16 * (a1 - a0) * n
  let d : Int := 768 * 281474976710656
  (roundDiv (6 * c - 8 * b + 3 * a) d, roundDiv (12 * b - 5 * a - 6 * c) d, roundDiv (19 * a + 6 * c - 16 * b) d)

/-- A segment's end acceleration exceeds A_MAX: acceleration at its start (2^-48), jerk (JRK32), plan ticks. -/
def accAfter (a j : Int) (ticks : Int) : Int := a * 15625 + j * 4294967296 * 4 * ticks

/-- A step of one joint: the first reason of R297 that it gives, 0 for none. -/
def stepReason (c : PrfCfg) (v1 a0 a1 : Int) (j : Int × Int × Int) : Nat :=
  let am := aIn c.aMax * 15625
  let e1 := accAfter a0 j.1 1
  let e2 := e1 + j.2.1 * 4294967296 * 8
  if (c.jMax.natAbs < j.1.natAbs) ∨ (c.jMax.natAbs < j.2.1.natAbs) ∨ (c.jMax.natAbs < j.2.2.natAbs) then 2
  else if am < e1.natAbs ∨ am < e2.natAbs ∨ am < (a1 * 15625).natAbs then 3
  else if (vIn c.vMax) < v1.natAbs then 4 else 0

/-- A word of a result section. -/
def resWord (p : Problem) (i : Nat) : Nat := p.result.getD i 0

/-- The end state of joint j at step s of a result section (R295), in internal units. -/
def resState (p : Problem) (h nj s j : Nat) : Int × Int × Int :=
  let o := 6 + h + 4 * (nj * (s - 1) + j)
  (sx 64 (resWord p o + resWord p (o + 1) * 4294967296) * 4294967296, vIn (sx 32 (resWord p (o + 2))), aIn (sx 32 (resWord p (o + 3))))

/-- The segments of a joint through its step ends, from its start state. -/
def jerksOf (st : Int × Int × Int) (ends : List (Int × Int × Int)) : List (Int × Int × Int) :=
  match ends with
  | [] => []
  | e :: t => stepJerks st.1 st.2.1 st.2.2 e.1 e.2.1 e.2.2 :: jerksOf e t

/-- The reasons of a joint's steps. -/
def reasonsOf (c : PrfCfg) (st : Int × Int × Int) (ends js : List (Int × Int × Int)) : List Nat :=
  match ends, js with
  | e :: t, j :: u => stepReason c e.2.1 st.2.2 e.2.2 j :: reasonsOf c e t u
  | _, _ => []

/-- A captured branch: joined, or refused with its reason (R297). `ran`: a PLAN gang held its problem at the capture; what none held is
NOT_RUN (R284). -/
def joinBranch (s : State) (a b prob h : Nat) (ran : Bool) : Joined × Nat :=
  let p := probAt s prob
  let js := armJoints s a
  let n := Nat.min h 16
  let start := js.map fun j => ahead (jointPrf s j) 1280
  let ends := js.zipIdx.map fun e => (List.range n).map fun i => resState p h js.length (i + 1) e.2
  let jerks := (start.zip ends).map fun e => jerksOf e.1 e.2
  let rs := (List.range js.length).flatMap fun i =>
    reasonsOf (jointPrf s (js.getD i 0)).cfg (start.getD i (0, 0, 0)) (ends.getD i []) (jerks.getD i [])
  let x : Joined :=
    { regularised := decide (p.status = 1), pivots := resWord p 1 / 65536, cost := resWord p 4, steps := n,
      kind := ((mget (plnAt s a).br b).map fun y => y.kind).getD 0, power := (List.range h).map fun i => sx 32 (resWord p (6 + i)),
      start := start, ends := ends, jerks := jerks }
  let worst := rs.filter (· ≠ 0)
  (x, if 2 ≤ p.status ∨ ran = false then 1 else if worst.contains 2 then 2 else if worst.contains 3 then 3 else if worst.contains 4 then 4 else 0)

/-- BRANCH_JOIN: the branches captured in the tick that has ended are joined or refused, once (R297). -/
def planJoin (s : State) : State :=
  let (i, s) := draw s
  let s := modPln s fun x => { x with joinMax := Nat.max x.joinMax (Config.freeNat i % 16) }
  (plannedArms s).foldl (fun s a =>
    let x := plnAt s a
    let res := x.cap.map fun (e : Nat × Nat × Nat × Bool) => (e.1, joinBranch s a e.1 e.2.1 e.2.2.1 e.2.2.2)
    let bad := res.filter fun e => decide (e.2.2 ≠ 0)
    let regs := res.filter fun e => e.2.1.regularised
    let reason := ((bad.head?).map fun e => e.2.2).getD 0
    let s := modPlnArm s a fun x =>
      { x with cap := [], joined := (res.filter fun e => decide (e.2.2 = 0)).map fun e => (e.1, e.2.1), refused := listMask (bad.map Prod.fst),
               reason := reason, regularised := listMask (regs.map Prod.fst) }
    let s := bumpBy s 0x200010 bad.length
    if bad.isEmpty then s
    else raise s .plnBranchRefused (handleOf s cARM a) (listMask (bad.map Prod.fst) + 256 * reason) (oPLN a)) s

/-! ### Choosing and committing (R298 to R301) -/

/-- MAX_PIVOTS of a policy accepts a joined branch (R350). -/
def policyAccepts (maxPivots : Nat) (x : Joined) : Bool := !x.regularised || decide (maxPivots = 255) || decide (x.pivots ≤ maxPivots)

/-- The choice of R298 among passed branches, for a region state. -/
def choose (joined : Map Joined) (passed maxPivots : Nat) (st : RegionState) : Option Nat :=
  let ok (b : Nat) : Bool := mhas joined b && bit passed b
  let stop := if ok 0 then some 0 else none
  match st with
  | .active =>
    let cands := ((List.range 8).filter fun b => decide (0 < b) && ok b).filterMap fun b =>
      (mget joined b).bind fun x => if policyAccepts maxPivots x then some (b, x.cost) else none
    match cands.foldl (fun m c => match m with
                                  | none => some c
                                  | some (x : Nat × Nat) => if c.2 < x.2 then some c else some x) none with
    | some (b, _) => some b
    | none => stop
  | .hold => stop
  | .mending => stop
  | _ => none

/-- The entries of a joint's queue for a branch (R296, R299). -/
def branchEntries (ends jerks : List (Int × Int × Int)) : List PEntry :=
  (ends.zip jerks).flatMap fun e =>
    [{ kind := 1, dur := 1280, target := jIn e.2.1 }, { kind := 1, dur := 2560, target := jIn e.2.2.1 },
     { kind := 1, dur := 1280, target := jIn e.2.2.2, snap := some e.1 }]

/-- Every joint of an arm takes a new queue, or stops where the branch is none (R299, R300). -/
def armQueues (s : State) (a : Nat) (x : Option Joined) : State :=
  (armJoints s a).zipIdx.foldl (fun s e =>
    match jointProfile s e.1 with
    | some p => modPrf s p fun y =>
        { y with planNew := some (match x with
                                  | some b => branchEntries (b.ends.getD e.2 []) (b.jerks.getD e.2 [])
                                  | none => []) }
    | none => s) s

/-- MAX_PIVOTS of PRS_PLAN_POLICY (R358). -/
def planPolicy (s : State) : Nat := (pressAt s 0).maxPivots

/-- The region's last live check held a condition of R321 named in R332. -/
def guardCondition (s : State) (r : Nat) : Bool :=
  s.grd.causes.any fun c => decide (c.region = r) && [0x160, 0x162, 0x163].contains c.code

/-- A profile stop of R300 has yet to bring the arm's joints to rest. -/
def fallbackRuns (s : State) (a : Nat) : Bool :=
  (plnAt s a).fallback && (armJoints s a).any fun j => decide ((jointPrf s j).mot = PMot.stop) || decide ((jointPrf s j).planNew = some [])

/-- An arm's boundary without a commit (R300, R301, R332). `pressed`: its member has run in the press that committed. -/
def noCommit (s : State) (a : Nat) (pressed : Bool) : State :=
  let r := (armRegion s a).getD 0
  let st := regionSt s r
  let h := handleOf s cARM a
  let k := un 32 ((planTick s : Int) - 2)
  let x := plnAt s a
  let s := modPlnArm s a fun x => { x with committed := false, nocommit := Nat.min 15 (x.nocommit + 1) }
  match st with
  | .active =>
    let s := if pressed then
        let f := mgetD s.grd.arms a {}
        raise s .plnNoBranch h (f.fPassed + 256 * x.refused) (oPLN a)
      else s
    let limit := Nat.max 1 (bits (reg s 0x200000) 1 3)
    if limit ≤ x.nocommit + 1 then raise s .plnContExpired h (4294967296 * k) (oPLN a) else s
  | .safeOff => s
  | .service => s
  | .empty => s
  | _ =>
    let s := armQueues (modPlnArm s a fun x => { x with fallback := true }) a none
    let s := raise s .plnStopFallback h (4294967296 * k) (oPLN a)
    if guardCondition s r then raise s .grdNoStop h k (origin 0x13 a) else s

/-- The plan member of an arm commits (R298, R299). -/
def planCommit (s : State) (a maxPivots : Nat) : State :=
  let r := (armRegion s a).getD 0
  let x := plnAt s a
  let g := mgetD s.grd.arms a {}
  let s := modPln s fun x => { x with handled := x.handled ++ [a] }
  match choose x.joined g.fPassed maxPivots (regionSt s r) with
  | some b =>
    let j := mgetD x.joined b {}
    let s := armQueues s a (some j)
    modPlnArm s a fun x =>
      { x with power := j.power, since := s.time.frame, chosen := b, committed := true, cost := j.cost, nocommit := 0, fallback := false }
  | none => noCommit s a true

/-- PLN_A_STAT. -/
def plnStat (s : State) (a : Nat) : Nat :=
  if planned s a then
    let x := plnAt s a
    x.chosen + 8 * b2n x.committed + 16 * (((armRegion s a).map fun r => regionFlag (regionSt s r)).getD 0) +
      128 * b2n (decide (2 ≤ s.pln.level)) + 256 * (armJoints s a).length + 65536 * armBus s a + 1048576 * b2n (fallbackRuns s a)
  else 0

/-- The planned arms for which a member is staged: their region's state admits one (R298). -/
def stagedArms (s : State) : List Nat :=
  (plannedArms s).filter fun a =>
    match (armRegion s a).map (regionSt s) with
    | some .active => true
    | some .hold => true
    | some .mending => true
    | _ => false

/-- The commit boundary of planning: an arm whose member has not run, since the plan press aborted, planning is off or no member was
staged, commits nothing (R300, R301); the trace takes its sample (R488). `pressed`: the plan press has committed and run its members. -/
def planBoundary (s : State) (pressed : Bool) : State :=
  let ran := if pressed then s.pln.handled else []
  let s := (plannedArms s).foldl (fun s a =>
    let s := if fallbackRuns s a then s else modPlnArm s a fun x => { x with fallback := false }
    if ran.contains a then s else noCommit s a false) (modPln s fun x => { x with handled := [] })
  (s.arms.map Prod.fst).foldl (fun s a =>
    traceFrom s 8 (handleOf s cARM a) s.time.wallF 0 (fun _ => true) fun _ => (plnStat s a, (plnAt s a).cost)) s

/-! ### The derating ladder (R303 to R305) -/

/-- A branch can be placed on a gang: its size, lane memory and budget (R304). -/
def placeOk (s : State) (p l : Nat) : Bool :=
  let g := gangAt s l
  decide (g.role = 1) && gangServes s l && decide (g.size = (probAt s p).gang) && (findRun (gangUsed s l) (probAt s p).words).isSome &&
    decide (gangCycles s l + committed (probAt s p) ≤ solBudget s)

/-- The branches of all arms in the order of R304, with their problems at a level; those that the level drops are left out. -/
def ladderBranches (s : State) (level : Nat) : List (Nat × Nat × Nat) :=
  (plannedArms s).flatMap fun a => (plnAt s a).br.filterMap fun (e : Nat × Branch) =>
    (branchUse level e.1 e.2).map fun u => (a, e.1, u.1)

/-- Every problem that some branch names leaves its gang. -/
def unbindBranches (s : State) : State :=
  (s.pln.arms.flatMap fun e => e.2.br.flatMap fun (b : Nat × Branch) => b.2.prob :: b.2.short.toList).foldl unbindProblem s

/-- HOUSE gangs are dissolved into PLAN gangs of 1 (R303 level 1). -/
def dissolveHouse (s : State) : State :=
  (gangsOf s 3).foldl (fun s l =>
    let n := (gangAt s l).size
    let s := modSol ((gangAt s l).order.foldl unbindProblem s) fun x => { x with gangs := mdel x.gangs l }
    (List.range n).foldl (fun s i => if (lmapAt s (l + i)).2 then s else formGang s (l + i) 1 1) s) s

/-- The placement of one level: the state with it, and the branches that found no gang. -/
def tryLevel (s : State) (level : Nat) (keep : Bool) : State × List (Nat × Nat) :=
  let s := if 1 ≤ level then dissolveHouse s else s
  let stays (s : State) (p : Nat) : Bool :=
    match (probAt s p).bound with
    | some l => decide ((gangAt s l).role = 1) && gangServes s l
    | none => false
  let bs := ladderBranches s level
  let s := if keep && decide (level ≤ 1) then bs.foldl (fun s b => if stays s b.2.2 then s else unbindProblem s b.2.2) s
    else unbindBranches s
  bs.foldl (fun (x : State × List (Nat × Nat)) b =>
    let s := x.1
    if (probAt s b.2.2).bound.isSome then x
    else
      match (gangsOf s 1).find? (placeOk s b.2.2) with
      | some l => (bindTo s b.2.2 l, x.2)
      | none => (s, x.2 ++ [(b.1, b.2.1)])) (s, [])

/-- The arms whose stop branch has no gang at a level. -/
def stopless (s : State) (level : Nat) (un : List (Nat × Nat)) : List Nat :=
  (plannedArms s).filter fun a => un.contains (a, 0) ||
    (match mget (plnAt s a).br 0 with
     | some b => (branchUse level 0 b).isNone
     | none => false)

/-- The first level from `level` up to `most` whose branches all find a gang: the state and the level. At level 4 what is placed
stands, with the arms whose stop branch is not. -/
def ladder (fuel : Nat) (s : State) (level most : Nat) (keep : Bool) : State × Nat × List Nat :=
  let (s', un) := tryLevel s level keep
  match fuel with
  | 0 => (s', level, stopless s' level un)
  | k + 1 => if un.isEmpty ∨ most ≤ level then (s', level, stopless s' level un) else ladder k s (level + 1) most keep

/-- Logical lanes lost. -/
def lanesLost (s : State) : Nat := (s.sol.lmap.filter fun e => e.2.2).length

/-- A physical lane has been lost: planning control places its branches anew two plan ticks later (R304). -/
def planLaneLost (s : State) (q : Nat) : State :=
  match (List.range 192).find? fun n => decide (lmapAt s n = (q, true)) with
  | some n => if bit (reg s 0x200000) 4 then modPln s fun x => { x with lost := x.lost ++ [(planTick s, n)] } else s
  | none => s

/-- The logical lanes are taken as lost or not. -/
def markLost (s : State) (ls : List (Nat × Nat)) (b : Bool) : State :=
  ls.foldl (fun s e => modSol s fun x => { x with lmap := mput x.lmap e.2 ((lmapAt s e.2).1, b) }) s

/-- DERATE_APPLY (R304). -/
def derateApply (s : State) : State :=
  let isDue (e : Nat × Nat) : Bool := decide (e.1 + 2 ≤ planTick s)
  if decide (tickFrame s = 0) && s.pln.lost.any isDue then
    let later := s.pln.lost.filter fun e => !isDue e
    let (s', level, bad) := ladder 4 (markLost s later false) s.pln.level 4 true
    let s := modPln (markLost s' later true) fun x => { x with level := level, lost := later, placed := x.placed + 1 }
    let s := raise s .plnDerate 0 (level + 4294967296 * lanesLost s) oPLNall
    if level = 4 then
      (dedup (bad.filterMap (armRegion s))).foldl (fun s r =>
        raiseIn s .plnRegionUnplanned 0 (level + 256 * r) oPLNall [r]) s
    else s
  else s

/-- The levels that a PLN_REPLAN tries, as R304 goes through them: the last that places every stop branch, `best` where none does. -/
def replanLevels (fuel : Nat) (s : State) (level most : Nat) (best : Option (State × Nat)) : Option (State × Nat) :=
  let (s', un) := tryLevel s level false
  let best := if (stopless s' level un).isEmpty then some (s', level) else best
  match fuel with
  | 0 => best
  | k + 1 => if un.isEmpty ∨ most ≤ level then best else replanLevels k s (level + 1) most best

/-- The placement that a PLN_REPLAN gives, none where no level up to the one allowed places every stop branch (R305). -/
def replanResult (s : State) (most : Nat) : Option (State × Nat) := replanLevels 4 s 0 (Nat.min 4 most) none

/-- PLN_REPLAN's own rules (R305). -/
def replanCheck (_s : State) (a : Acc) : Option Refuse :=
  firstRefuse [(!(onlyBytes a.d [(16, 1)]) || decide (4 < pf a.d 16 1), rRANGE)]

/-- PLN_REPLAN takes effect: its placement commits at the next plan-tick boundary. -/
def replan (s : State) (a : Acc) : State :=
  match replanResult s (pf a.d 16 1) with
  | some _ => modPln s fun x => { x with replan := x.replan ++ [a] }
  | none => complete s a stNORES 0 0

/-- The placements of the PLN_REPLANs commit at a plan-tick boundary, in the order in which they were accepted (R305). -/
def replanCommit (s : State) : State :=
  s.pln.replan.foldl (fun s a =>
    match replanResult s (pf a.d 16 1) with
    | some (s', level) => complete (modPln s' fun x => { x with level := level, placed := x.placed + 1 }) a stOK 0 0
    | none => complete s a stNORES 0 0) (modPln s fun x => { x with replan := [] })

/-! ### Registers (R306) -/

/-- PLN_STATUS. -/
def plnStatus (s : State) : Nat :=
  s.pln.level + 256 * (plannedArms s).length + 65536 * (((gangsOf s 1).map fun l => (gangAt s l).size).sum)

/-- An arm block's registers. -/
def plnArmReg (s : State) (a off : Nat) : Nat :=
  let x := plnAt s a
  match off with
  | 0x00 => plnStat s a
  | 0x04 => listMask (x.br.map Prod.fst) + 256 * (mgetD s.grd.arms a {}).fPassed + 65536 * x.refused + 16777216 * x.regularised
  | 0x08 => x.cost
  | 0x0C => x.nocommit
  | o => if 0x20 ≤ o ∧ o < 0x40 ∧ o % 4 = 0 then
      match (mget x.br ((o - 0x20) / 4)).bind fun b => branchUse s.pln.level ((o - 0x20) / 4) b with
      | some u => handleOf s cPROBLEM u.1
      | none => 0
    else 0

end Sys2Proof.Machine
end

