-- ==== Sys2Proof/Machine/Guard.lean ====
section
/-!
DEFINITION. The separation guard: chains, capsules, stopping tables, tracks, zones, the live check, judging, the cross-check, capacity,
escalation and readiness (R308 to R337).
-/
namespace Sys2Proof.Machine

/-- Origins of the guard's events (R471). -/
def oGRD (_a : Nat) : Nat := blockOrigin 0x13
def oGRDall : Nat := blockOrigin 0x13

/-- Changes the guard. -/
def modGrd (s : State) (f : GrdSt → GrdSt) : State := { s with grd := f s.grd }
/-- An arm in the guard. -/
def garmAt (s : State) (a : Nat) : GArm := mgetD s.grd.arms a {}
/-- Changes an arm in the guard. -/
def modGarm (s : State) (a : Nat) (f : GArm → GArm) : State :=
  modGrd s fun x => { x with arms := mput x.arms a (f (garmAt s a)) }
/-- A stream block. -/
def streamAt (s : State) (i : Nat) : Stream := mgetD s.grd.streams i {}
/-- Changes a stream block. -/
def modStream (s : State) (i : Nat) (f : Stream → Stream) : State :=
  modGrd s fun x => { x with streams := mput x.streams i (f (streamAt s i)) }

/-- The guard's parameters (R336). -/
def grdReg (s : State) (off : Nat) : Nat := reg s (0x210000 + off)
/-- GRD_CTRL.EN. -/
def grdOn (s : State) : Bool := bit (grdReg s 0) 0
/-- GRD_END. -/
def grdEnd (s : State) : Nat := bits (grdReg s 0x0C) 0 11
/-- FIRST and GANGS of GRD_GANG. -/
def grdFirst (s : State) : Nat := bits (grdReg s 8) 0 8
def grdGangs (s : State) : Nat := bits (grdReg s 8) 8 2
/-- A length in µm in units of 2^-40 m and of 10^-18 m. -/
def umU (x : Int) : Int := divFree 130 (x * rotOne) 1000000
def umA (x : Int) : Int := x * 1000000000000
/-- GRD_ZR in 10^-18 m. -/
def zrA (s : State) : Int := umA (grdReg s 0x1C)
/-- A distance in units of 2^-40 m compared with a length in units of 10^-18 m. -/
def farEnough (d need : Int) : Bool := decide (need * rotOne ≤ d * 1000000000000000000)
/-- A distance minus a needed length, in µm. -/
def marginUm (d need : Int) : Int := divFree 131 (d * 1000000000000000000 - need * rotOne) (rotOne * 1000000000000)

/-! ### Descriptors (R308, R309, R312, R313, R317) -/

/-- A vector of three LEN32 fields of a payload. -/
def v3f (d : Desc) (off : Nat) : V3 := (pfs d off 4, pfs d (off + 4) 4, pfs d (off + 8) 4)

/-- The arm's region is SAFE_OFF or EMPTY (R334). -/
def armStill (s : State) (a : Nat) : Bool :=
  match (armRegion s a).map (regionSt s) with
  | some .safeOff => true
  | some .empty => true
  | _ => false

/-- GRD_KIN_SET's own rules (R308, R334). -/
def kinCheck (s : State) (a : Acc) : Option Refuse :=
  let d := a.d
  let link := pf d 16 1
  let kind := pf d 17 1
  let q := [pfs d 32 4, pfs d 36 4, pfs d 40 4, pfs d 44 4]
  let n := isum (q.map fun x => x * x)
  firstRefuse [
    (!(onlyBytes d [(16, 2), (20, 32)]) || decide (link ≠ 255 ∧ (armJoints s (tIdx d)).length ≤ link) ||
      (if link = 255 then decide (kind ≠ 0) else decide (kind ≠ 1 ∧ kind ≠ 2)) || decide (kind ≠ 2 ∧ pf d 48 4 ≠ 0) ||
      decide (1099511627776 < (n - 1152921504606846976).natAbs), rRANGE),
    (!(armStill s (tIdx d)), rMODE)]

/-- GRD_KIN_SET takes effect. -/
def kinSet (s : State) (d : Desc) : State :=
  let k : Kin :=
    { kind := pf d 17 1, t := v3f d 20, q := (pfs d 32 4, pfs d 36 4, pfs d 40 4, pfs d 44 4), lead := pfs d 48 4 }
  modGarm s (tIdx d) fun x => { x with kin := mput x.kin (pf d 16 1) k }

/-- Capsules of an arm. -/
def capsOf (s : State) (a : Nat) : Nat := (garmAt s a).caps.length

/-- GRD_CAPSULE_SET takes effect (R309). -/
def capsuleSet (s : State) (d : Desc) : State :=
  let c : Cap := { link := pf d 17 1, a := v3f d 20, b := v3f d 32, r := pfs d 44 4 }
  modGarm s (tIdx d) fun x =>
    { x with caps := if bit (pf d 18 1) 0 then mput x.caps (pf d 16 1) c else mdel x.caps (pf d 16 1) }

/-- An arm counts as planned in the capacity rules (R331). -/
def capPlanned (s : State) (a : Nat) : Bool :=
  decide (0 < capsOf s a) && !((mget s.arms a).map fun x => x.aux).getD true &&
    match armRegion s a with
    | some r => decide (regionSt s r ≠ .empty)
    | none => false

/-- The arms in precedence order, whether they count as planned or not (R323). -/
def armsInOrder (s : State) : List Nat :=
  (List.range 16).flatMap fun r => (s.arms.map Prod.fst).filter fun a => decide (armRegion s a = some r)

/-- p_live of R331. -/
def pLive (s : State) : Nat :=
  let cs := (s.arms.map Prod.fst).map (capsOf s)
  let c := cs.sum
  let pairs := (c * c - (cs.map fun x => x * x).sum) / 2
  c * (s.grd.tracks.length + s.grd.zones.length) + pairs

/-- o_a of R331. -/
def pairsAgainst (s : State) (a : Nat) : Nat :=
  let order := armsInOrder s
  let before := order.takeWhile (· ≠ a)
  let others := order.filter (· ≠ a)
  s.grd.tracks.length + s.grd.zones.length +
    (others.map fun b => if capPlanned s b then (if before.contains b then 2 * capsOf s b else capsOf s b) else capsOf s b).sum

/-- p_a and x_a of R331. -/
def pJudge (s : State) (a : Nat) : Nat := 8 * 17 * capsOf s a * pairsAgainst s a
def xPairs (s : State) (a : Nat) : Nat := 2 * 17 * capsOf s a * pairsAgainst s a
/-- The arms that count as planned. -/
def capArms (s : State) : List Nat := (s.arms.map Prod.fst).filter (capPlanned s)

/-- The first rule of R331 that a configuration breaks with `g` GUARD gangs and END; 0 for none. -/
def capacityFail (s : State) (g end_ : Nat) : Nat :=
  let xs := (capArms s).map (xPairs s)
  if 65536 < pLive s then 1
  else if end_ - 16 < ((capArms s).map fun a => ceilDiv (pJudge s a) 4096).sum then 2
  else if 192 * g * 1271 < pLive s + xs.sum then 3
  else if 192 * g * (1272 - end_) < nmax xs then 4 else 0

/-- The capacity rules as a refusal of a resulting state (R331). -/
def capacityRefuse (s : State) : Option Refuse :=
  let n := capacityFail s (grdGangs s) (grdEnd s)
  if n = 0 then none else some (stNORES, n)

/-- GRD_CAPSULE_SET's own rules, in order (R309, R334). -/
def capsuleChecks (s : State) (a : Acc) : List (Bool × Refuse) :=
  let d := a.d
  let arm := tIdx d
  let link := pf d 17 1
  let set := bit (pf d 18 1) 0
  let have_ := mhas (garmAt s arm).caps (pf d 16 1)
  let total := ((s.arms.map Prod.fst).map (capsOf s)).sum
  [
    (decide (31 < pf d 16 1) || decide (link ≠ 255 ∧ 15 < link) || decide (1 < pf d 18 1) || !(onlyBytes d [(16, 3), (20, 28)]) ||
      decide (pfs d 44 4 ≤ 0), rRANGE),
    (!(armStill s arm), rMODE),
    (set && !have_ && (decide (32 ≤ capsOf s arm) || decide (256 ≤ total)), rNORES)]

/-- The first of them that refuses. -/
def capsuleCheck (s : State) (a : Acc) : Option Refuse := firstRefuse (capsuleChecks s a)

/-- The rows of a stopping table as given. -/
def stopRows (d : Desc) : List (Nat × Nat × Nat) :=
  (List.range 8).map fun i => (pf d (16 + 6 * i) 2, pf d (18 + 6 * i) 2, pf d (20 + 6 * i) 2)

/-- The used rows: row 0 and those up to the row of SPEED 0 that ends the table. -/
def usedRows (rows : List (Nat × Nat × Nat)) : List (Nat × Nat × Nat) :=
  match rows with
  | [] => []
  | r :: t => r :: t.takeWhile fun x => decide (x.1 ≠ 0)

/-- GRD_STOP_SET's own rules (R312, R334). -/
def stopCheck (s : State) (a : Acc) : Option Refuse :=
  let rows := stopRows a.d
  let used := usedRows rows
  let rest := rows.drop used.length
  let rise := (used.zip used.tail).all fun e => decide (e.1.1 < e.2.1) && decide (e.1.2.1 ≤ e.2.2.1) && decide (e.1.2.2 ≤ e.2.2.2)
  firstRefuse [
    (decide (((rows.headD (0, 0, 0)).1) ≠ 0) || decide (used.length < 2) || !rise || !(rest.all fun r => decide (r = (0, 0, 0))), rRANGE),
    (!(armStill s (tIdx a.d)), rMODE)]

/-- GRD_STOP_SET takes effect. -/
def stopSet (s : State) (d : Desc) : State := modGarm s (tIdx d) fun x => { x with stop := usedRows (stopRows d) }

/-- The TRACK bound to a slot of a stream. -/
def trackOf (s : State) (stream slot : Nat) : Option Nat :=
  (mkeys s.grd.tracks fun _ t => decide (t.stream = stream) && decide (t.slot = slot)).head?

/-- TRACK_CREATE's own rules (R313). -/
def trackCheck (s : State) (a : Acc) : Option Refuse :=
  let d := a.d
  let held := trackOf s (pf d 16 1) (pf d 17 1)
  firstRefuse [
    (!(onlyBytes d [(16, 2)]) || decide (7 < pf d 16 1) || decide (15 < pf d 17 1), rRANGE),
    (held.isSome, rBUSY (handleOf? s cTRACK held)),
    (!(hasFree s cTRACK), rNORES)]

/-- The zone of a payload (R317). -/
def zoneOf (d : Desc) : Zone :=
  { kind := pf d 16 1, enable := pf d 17 1, din := pf d 18 1, hostOn := decide (pf d 19 1 = 1), a := v3f d 20, b := v3f d 32,
    r := pfs d 44 4, vcap := pf d 48 2, regions := pf d 50 2 }

/-- ZONE_CREATE's and GRD_ZONE_SET's own rules (R317). -/
def zoneCheck (s : State) (a : Acc) (create : Bool) : Option Refuse :=
  let d := a.d
  let en := pf d 17 1
  firstRefuse [
    (!(onlyBytes d [(16, 36)]) || decide (pf d 16 1 ≠ 1 ∧ pf d 16 1 ≠ 2) || decide (3 < en) ||
      (if 2 ≤ en then decide (63 < pf d 18 1) else decide (pf d 18 1 ≠ 0)) ||
      (if en = 1 then decide (1 < pf d 19 1) else decide (pf d 19 1 ≠ 0)) || decide (pfs d 44 4 ≤ 0) ||
      (if pf d 16 1 = 2 then decide (pf d 48 2 < 1 ∨ 5000 < pf d 48 2) else decide (pf d 48 2 ≠ 0)), rRANGE),
    (create && !(hasFree s cZONE), rNORES)]

/-! ### Tracks (R314 to R316) -/

/-- A track record of a frame, none where it breaks the table (R314). -/
def trackRec (bs : List Byte) (off : Nat) : Option (Nat × TrackRec) :=
  let f (o n : Nat) : Nat := beNat (takeBytes bs (off + o) n)
  let g (o : Nat) : Int := sx 32 (f o 4)
  if f 0 1 ≤ 15 ∧ (f 1 1 = 1 ∨ f 1 1 = 2) ∧ g 12 ≤ g 16 ∧ 0 < g 20 ∧ f 28 4 = 0 then
    some (f 0 1, { person := decide (f 1 1 = 1), speed := f 2 2, x := g 4, y := g 8, z0 := g 12, z1 := g 16, r := g 20, zd := f 24 2,
                   c := f 26 2 })
  else none

/-- The enabled stream block that holds a stream (R313). -/
def streamBlock (s : State) (id : Nat) : Option Nat :=
  (List.range 8).find? fun i => bit (grdReg s (0x100 + 0x10 * i)) 0 && decide (bits (grdReg s (0x100 + 0x10 * i)) 16 16 = id)

/-- Raises GRD_STREAM_LOST for the regions of a stream (R316). -/
def streamLost (s : State) (i cause : Nat) : State :=
  if (streamAt s i).lost = 0 then
    raiseIn (modStream s i fun x => { x with lost := cause }) .grdStreamLost 0 (i + 256 * cause) oGRDall
      (maskList (bits (grdReg s (0x104 + 0x10 * i)) 0 16) 16)
  else modStream s i fun x => { x with lost := cause }

/-- TRACK_FRAME_RX: a datagram at the track port of a selected Ethernet port is dropped and counted, or accepted (R313 to R315). -/
def trackFrame (s : State) (port udp : Nat) (bs : List Byte) : State :=
  let ctl := grdReg s 0x48
  if decide (udp ≠ bits ctl 0 16) || !(bit (bits ctl 16 4) port) then s
  else
    let f (o n : Nat) : Nat := beNat (takeBytes bs o n)
    let drop := bump s 0x210044
    let n := f 5 1
    let recs := (List.range n).map fun i => trackRec bs (32 + 32 * i)
    let good := recs.filterMap id
    let meas : Int := (f 12 6 : Int) * 1000000000 + f 18 4
    if n ≤ 16 ∧ bs.length = 36 + 32 * n ∧ f 0 4 = 0x4754524B ∧ f 4 1 = 1 ∧ f (32 + 32 * n) 4 = crc32 (bs.take (32 + 32 * n)) ∧
        good.length = n ∧ (dedup (good.map Prod.fst)).length = n ∧ f 22 8 = s.time.gm ∧ f 30 1 = s.time.domain ∧
        s.time.servo ≠ .freerun ∧ meas ≤ ptpNs s + 1000 then
      match streamBlock s (f 6 2) with
      | none => drop
      | some i =>
        let later := match (streamAt s i).seq with
          | none => true
          | some q => let d := (f 8 4 + 4294967296 - q) % 4294967296
                      decide (1 ≤ d ∧ d < 2147483648)
        if !later then drop
        else
          let fault := bit (f 31 1) 0
          let s := modStream s i fun x =>
            { x with seq := some (f 8 4), seqShow := f 8 4, meas := some meas, heardAge := ptpNs s - meas, heardAt := s.time.elapsed, fault := fault,
                     since := s.time.elapsed,
                     recs := good.foldl (fun m e => mput m e.1 e.2) [] }
          let s := modGrd s fun x => { x with tracks := x.tracks.map fun (e : Nat × GTrack) =>
            if e.2.stream = i then (e.1, { e.2 with seen := true }) else e }
          if fault then streamLost s i 2 else modStream s i fun x => { x with lost := 0 }
    else drop

/-- TRACK_STREAM_LOST: no frame for GRD_STREAM_LIMIT (R316). -/
def streamSilent (s : State) (i : Nat) : State :=
  let x := streamAt s i
  if s.grd.running && bit (grdReg s (0x100 + 0x10 * i)) 0 && decide (x.lost = 0) &&
      decide (grdReg s 0x18 * usU ≤ s.time.elapsed - x.since) then streamLost s i 1 else s

/-- A write has enabled a stream block: its first frame may carry any SEQUENCE (R315). Its silence still counts from the enabling of the
guard or from its last frame (R316). -/
def streamEnable (s : State) (i : Nat) : State := modStream s i fun x => { x with seq := none }

/-! ### Geometry of the cell at an instant -/

/-- A robot capsule at an instant: arm, capsule, region, body, speed in nm/s. -/
structure Robot where
  arm : Nat
  cap : Nat
  region : Nat
  body : Body
  speed : Int
deriving DecidableEq, Repr

/-- The capsules of an arm at joint positions (ANG64), inflated for movements in 2^-64 rev, with a speed for each (nm/s). -/
def robotsBy (s : State) (a : Nat) (qs es : List Int) (speed : Map Kin → Cap → Int) : List Robot :=
  let g := garmAt s a
  let ps := chainPoses g.kin qs
  g.caps.map fun (e : Nat × Cap) =>
    { arm := a, cap := e.1, region := (armRegion s a).getD 0, body := bodyOf ps e.2 (reachMove g.kin e.2 es), speed := speed g.kin e.2 }

/-- The capsules of an arm at joint positions (ANG64), with speeds in 2^-48 rev/s and movements in 2^-64 rev for the inflation. -/
def robotsOf (s : State) (a : Nat) (qs vs es : List Int) : List Robot := robotsBy s a qs es fun k c => capSpeed k c vs

/-- An envelope: the capture pose, each radius grown by V_MAX over 16.64 ms (R323). -/
def envelopeOf (s : State) (a : Nat) : List Robot :=
  let g := garmAt s a
  -- V_MAX in 2^-48 rev/s times 16.64 ms, in units of 2^-64 rev
  let es := g.vMax.map fun v => divFree 132 (vIn v * 65536 * 1664) 100000
  robotsOf s a g.pos [] es

/-- A track's capsule: vertical; a STALE one's radius grown by v_h × age (R319). -/
def trackBody (t : GTrack) (r : TrackRec) (vh : Int) : Body :=
  let grow := if t.st = 2 then divFree 133 (vh * t.age * rotOne) 1000000000000000000 else 0
  { a := (lenU r.x, lenU r.y, lenU r.z0), b := (lenU r.x, lenU r.y, lenU r.z1), r := lenU r.r + grow }

/-- v_h in nm/s: a STALE track counts as a PERSON (R318, R319). -/
def humanSpeed (s : State) (t : GTrack) (r : TrackRec) : Int :=
  let own : Int := (r.speed : Int) * 1000000
  let most : Int := (grdReg s 0x10 : Int) * 1000000
  if r.person ∨ t.st = 2 then (if own < most then most else own) else own

/-- The device's internal reaction time t_int, ns (R318). -/
def tInt : Int := 576000

/-- S_p in 10^-18 m (R318, R319): the robot's speed in nm/s, its stopping table, tau in ns. -/
def sepDist (s : State) (t : GTrack) (r : TrackRec) (rows : List (Nat × Nat × Nat)) (v tau : Int) (live : Bool) : Int :=
  let vh := humanSpeed s t r
  let stale := decide (t.st = 2)
  let tr := (if stale then 0 else t.age) + tInt + tau
  let cOwn := umA ((r.c : Int) * 1000)
  let cMin := umA (grdReg s 0x20)
  let c := if stale && decide (cOwn < cMin) then cMin else cOwn
  vh * (tr + stopValue rows 0 v) + v * tInt + (if live then v * t.age else 0) + stopValue rows 1 v + c + umA ((r.zd : Int) * 1000) + zrA s

/-- A zone's capsule. -/
def zoneBody (z : Zone) : Body := { a := v3u z.a, b := v3u z.b, r := lenU z.r }

/-- The number of a pair, which names its free parts. -/
def pairNo (a c kind other oc sample branch : Nat) : Nat :=
  ((((((a * 32 + c) * 4 + kind) * 128 + other) * 32 + oc) * 32 + sample) * 8 + branch) * 8

/-- An enabled zone acts on a region. -/
def zoneActs (z : Zone) (r : Nat) : Bool := z.on && bit z.regions r

/-- The cap of a capsule in nm/s, none where no cap applies (R321). `service`: the SERVICE term counts. -/
def capOf (s : State) (x : Robot) (frame : Nat) (service : Bool) : Option Int :=
  let own := bits (grdReg s (0x204 + 0x20 * x.arm)) 0 16
  let zones := s.grd.zones.filterMap fun (e : Nat × Zone) =>
    if e.2.kind = 2 ∧ zoneActs e.2 x.region = true ∧ engineD frame (pairNo x.arm x.cap 2 e.1 0 0 0) x.body (zoneBody e.2) ≤ 0 then
      some e.2.vcap else none
  let serv := if service ∧ mgetD s.grd.regs x.region 0 = 4 then [(regionAt s x.region).cap] else []
  match (if own = 0 then [] else [own]) ++ zones ++ serv with
  | [] => none
  | c :: t => some ((t.foldl Nat.min c : Nat) * 1000000)

/-! ### The capture (R316, R320) -/

/-- The age of a stream's latest accepted frame at the capture, in ns. DEDUCED (log 55): PTP time minus its measurement instant at
acceptance (R316), and elapsed time from there on, which no step of PTP time moves (R35, R36). -/
def streamAge (s : State) (x : Stream) : Int := x.heardAge + floorDiv ((s.time.elapsedF : Int) - x.heardAt) nsU

/-- The state of a TRACK at the capture. -/
def trackCapture (s : State) (i : Nat) (t : GTrack) : State :=
  let st := streamAt s t.stream
  let age : Int := if st.meas.isSome then streamAge s st else 0
  let data := if t.seen then mget st.recs t.slot else none
  let code := match data with
    | none => 0
    | some _ => if age ≤ (grdReg s 0x14 : Int) * 1000 then 1 else 2
  let s' := modGrd s fun x => { x with tracks := mput x.tracks i { t with st := code, data := data, age := age, margin := 0x7FFFFFFF } }
  if code = 2 ∧ t.st ≠ 2 then raise s' .grdTrackStale (handleOf s cTRACK i) (satU 32 (age / 1000).toNat) oGRDall else s'

/-- Whether a zone is enabled at the capture: DIN levels are the filtered ones (R317). -/
def zoneOn (s : State) (z : Zone) : Bool :=
  match z.enable with
  | 0 => true
  | 1 => z.hostOn
  | 2 => (mgetD s.pins.dins z.din {}).level
  | _ => !(mgetD s.pins.dins z.din {}).level

/-- GUARD_CAPTURE at frame 0 (R320). -/
def guardCapture (s : State) : State :=
  let s := (s.arms.map Prod.fst).foldl (fun s a =>
    modGarm s a fun x => { x with pos := (armJoints s a).map (jointPos s), vel := (armJoints s a).map (jointVel s),
                                  vMax := (armJoints s a).map fun j => (jointPrf s j).cfg.vMax }) s
  let s := (List.range 8).foldl (fun s i =>
    modStream s i fun x =>
      { x with age := if x.meas.isSome then satU 32 (streamAge s x / 1000).toNat else 0xFFFFFFFF }) s
  let s := s.grd.tracks.foldl (fun s (e : Nat × GTrack) => trackCapture s e.1 e.2) s
  let s := modGrd s fun x =>
    { x with zones := x.zones.map fun (e : Nat × Zone) => (e.1, { e.2 with on := zoneOn s e.2 }),
             regs := (List.range 16).map fun r => (r, regionFlag (regionSt s r)), cycle := some s.time.frame }
  modGrd s fun x => { x with shotArms := x.arms, shotTracks := x.tracks, shotZones := x.zones, shotRows := s.arms,
                             shotPlan := s.pln.arms, shotOrder := plannedArms s }

/-- An arm's verdicts with the chain, capsules, stopping table and captured motion of another record of it. -/
def withShape (g shape : GArm) : GArm :=
  { g with kin := shape.kin, caps := shape.caps, stop := shape.stop, pos := shape.pos, vel := shape.vel, vMax := shape.vMax }

/-- The records of a map, and those of another that it lacks. -/
def withLost {α : Type} (m shot : Map α) : Map α := (shot.filter fun e => !mhas m e.1).foldl (fun m e => mput m e.1 e.2) m

/-- The records of a map whose keys another has. -/
def withoutLost {α : Type} (m now : Map α) : Map α := m.filter fun e => mhas now e.1

/-- What the running cycle works on: the arms, chains, capsules, stopping tables, motion, tracks and zones that it has captured (R320). -/
def cycleView (s : State) : State :=
  let arms := (withLost s.grd.arms s.grd.shotArms).map fun e => (e.1, withShape e.2 (mgetD s.grd.shotArms e.1 {}))
  modGrd { s with arms := s.grd.shotRows, pln := { s.pln with arms := withLost s.pln.arms s.grd.shotPlan } } fun x =>
    { x with arms := arms, tracks := x.shotTracks, zones := x.shotZones }

/-- Work of the running cycle on what it has captured; what has replaced that since stands again after it, and of an object destroyed
since nothing stays (R320). -/
def inCycle (f : State → State) (s : State) : State :=
  let t := f (cycleView s)
  modGrd { t with arms := s.arms, pln := { t.pln with arms := withoutLost t.pln.arms s.pln.arms } } fun x =>
    { x with arms := (withoutLost x.arms s.grd.arms).map fun e => (e.1, withShape e.2 (garmAt s e.1)), tracks := s.grd.tracks,
             zones := s.grd.zones }

/-- The captured state of a region, as coded in R193. -/
def capturedReg (s : State) (r : Nat) : Nat := mgetD s.grd.regs r 0

/-- The capsules of the regions that are not EMPTY, as captured (R321). -/
def liveRobots (s : State) : List Robot :=
  (armsInOrder s).flatMap fun a =>
    match armRegion s a with
    | some r => if capturedReg s r = 0 then [] else robotsOf s a (garmAt s a).pos ((garmAt s a).vel.map vIn) []
    | none => []

/-! ### The live check (R321, R322) -/

/-- A shortfall in µm, saturated to 24 bits. -/
def shortfall (d need : Int) : Nat := satU 24 (-(marginUm d need)).toNat

/-- The causes of a capsule against a track, with the margin. -/
def trackCauses (s : State) (x : Robot) (i : Nat) (t : GTrack) : List GCause × Option Int :=
  match t.data with
  | none => ([], none)
  | some r =>
    let f := s.time.frame
    let d := engineD f (pairNo x.arm x.cap 0 i 0 0 0) x.body (trackBody t r (humanSpeed s t r))
    let need := sepDist s t r (garmAt s x.arm).stop x.speed 0 true
    let h := handleOf s cTRACK i
    let c : GCause := { code := 0x160, arm := x.arm, cap := x.cap, other := h, region := x.region, lo := h, hi := shortfall d need }
    ((if farEnough d need then [] else [c]) ++
      (if decide (d < 0) && (r.person || decide (t.st = 2)) then [{ c with code := 0x161, hi := 0 }] else []), some (marginUm d need))

/-- The causes of a capsule against a capsule of another arm. -/
def armCauses (s : State) (x y : Robot) : List GCause × Option Int :=
  if x.arm = y.arm then ([], none)
  else
    let f := s.time.frame
    let no := if x.arm < y.arm then pairNo x.arm x.cap 1 y.arm y.cap 0 0 else pairNo y.arm y.cap 1 x.arm x.cap 0 0
    let d := engineD f no x.body y.body
    let need := 2 * zrA s
    let h := handleOf s cARM y.arm
    let c : GCause := { code := 0x162, arm := x.arm, cap := x.cap, other := h + 4294967296 * y.cap, region := x.region, lo := h,
                        hi := shortfall d need }
    -- a pair within one region is one cause
    let mine := decide (x.region ≠ y.region) || decide (x.arm < y.arm)
    (if mine then (if farEnough d need then [] else [c]) ++ (if d < 0 then [{ c with code := 0x161, hi := 0 }] else []) else [],
     some (marginUm d need))

/-- The causes of a capsule against a KEEP_OUT zone. -/
def zoneCauses (s : State) (x : Robot) (i : Nat) (z : Zone) : List GCause × Option Int :=
  if z.kind = 1 ∧ zoneActs z x.region = true then
    let d := engineD s.time.frame (pairNo x.arm x.cap 2 i 0 0 0) x.body (zoneBody z)
    let h := handleOf s cZONE i
    let c : GCause := { code := 0x163, arm := x.arm, cap := x.cap, other := h, region := x.region, lo := h, hi := shortfall d (zrA s) }
    ((if farEnough d (zrA s) then [] else [c]) ++ (if d < 0 then [{ c with code := 0x161, hi := 0 }] else []),
     some (marginUm d (zrA s)))
  else ([], none)

/-- mm/s of a speed in nm/s. -/
def mmS (v : Int) : Nat := satU 32 (divFree 134 v 1000000).toNat

/-- A capsule's speed is above its cap. -/
def aboveCap (s : State) (x : Robot) : Option Int :=
  match capOf s x s.time.frame true with
  | some c => if c < x.speed then some c else none
  | none => none

/-- The speed causes of a capsule (R321). -/
def speedCauses (s : State) (x : Robot) : List GCause :=
  let c : GCause := { code := 0x165, arm := x.arm, cap := x.cap, other := 0, region := x.region, lo := mmS x.speed }
  let top := stopTop (garmAt s x.arm).stop
  (match aboveCap s x with
   | some cap => if 1 ≤ mgetD (garmAt s x.arm).above x.cap 0 then [{ c with code := 0x164, hi := satU 24 (mmS cap) }] else []
   | none => []) ++ (if decide (top < x.speed) && !(garmAt s x.arm).stop.isEmpty then [c] else [])

/-- Everything one capsule finds: causes, and the margins by track. -/
def robotCheck (s : State) (all : List Robot) (x : Robot) : List GCause × List (Option Nat × Int) :=
  let ts := s.grd.tracks.map fun (e : Nat × GTrack) => (some e.1, trackCauses s x e.1 e.2)
  let as_ := all.map fun y => (none, armCauses s x y)
  let zs := s.grd.zones.map fun (e : Nat × Zone) => (none, zoneCauses s x e.1 e.2)
  let l := ts ++ as_ ++ zs
  ((l.flatMap fun e => e.2.1) ++ speedCauses s x, l.filterMap fun e => e.2.2.map fun m => (e.1, m))

/-- Two causes are of one pair. -/
def sameCause (a b : GCause) : Bool :=
  decide (a.code = b.code) && decide (a.arm = b.arm) && decide (a.cap = b.cap) && decide (a.other = b.other)

/-- The least of margins, saturated to 32 bits. -/
def leastMargin (l : List Int) : Int := satS 32 (l.foldl (fun m x => if x < m then x else m) 0x7FFFFFFF)

/-- LIVE_CHECK (R321): the causes found, those that are new, the margins and speeds. A SAFE_OFF region raises none (R322). -/
def liveCheck (s : State) : State :=
  let all := liveRobots s
  let res := all.map fun x => (x, robotCheck s all x)
  let causes := (res.flatMap fun e => e.2.1).filter fun c => decide (capturedReg s c.region ≠ 3)
  let fresh := causes.filter fun c => !(s.grd.causes.any (sameCause c))
  let above := all.map fun x => (x.arm, x.cap, (aboveCap s x).isSome)
  let s := (s.arms.map Prod.fst).foldl (fun s a =>
    let mine := res.filter fun e => decide (e.1.arm = a)
    modGarm s a fun g =>
      { g with margin := leastMargin ((mine.flatMap fun e => e.2.2).map Prod.snd), vmax := nmax (mine.map fun e => mmS e.1.speed),
               above := (above.filter fun e => decide (e.1 = a) && e.2.2).map fun e => (e.2.1, mgetD g.above e.2.1 0 + 1) }) s
  modGrd s fun x =>
    { x with causes := causes, toAct := fresh,
             tracks := x.tracks.map fun (e : Nat × GTrack) =>
               (e.1, { e.2 with margin := leastMargin ((res.flatMap fun r => r.2.2).filterMap fun m => if m.1 = some e.1 then some m.2 else none) }) }

/-- The class of a cause: SAFE_OFF for contact, and for every cause of a region captured in SERVICE (R321, R322). -/
def causeClass (s : State) (c : GCause) : Nat := if c.code = 0x161 ∨ capturedReg s c.region = 4 then 4 else 3

/-- The event of a cause. -/
def causeEvent (code : Nat) : Event :=
  match code with
  | 0x160 => .grdSeparation
  | 0x161 => .grdContact
  | 0x162 => .grdArmClearance
  | 0x163 => .grdZone
  | 0x164 => .grdSpeedCap
  | _ => .grdSpeedRange

/-- The live causes act at frame 16, before the region transitions of that frame (R320, R321, R464). -/
def actCauses (s : State) : State :=
  let l := s.grd.toAct
  let s := modGrd s fun x => { x with toAct := [] }
  l.foldl (fun s c =>
    report s { ev := causeEvent c.code, cls := causeClass s c, handle := handleOf s cARM c.arm,
               detail := c.lo + 4294967296 * c.cap + 1099511627776 * c.hi, org := oGRD c.arm, scope := some [c.region] }) s

/-- GRD_STOP_OVERRUN (R332): a capsule still moves after the stopping time and the margin. -/
def stopOverrun (s : State) : State :=
  let still := fun r => match regionSt s r with
    | .hold => true
    | .mending => true
    | _ => false
  let s := modGrd s fun x => { x with overrun := x.overrun.filter still }
  (liveRobots s).foldl (fun s x =>
    match (regionAt s x.region).stillSince with
    | some t =>
      let ms := (s.time.elapsed - t) / msU
      let limit := stopTimeWide (garmAt s x.arm).stop (regionAt s x.region).v0 + (grdReg s 0x2C : Int) * 1000000
      if still x.region && decide ((grdReg s 0x28 : Int) * 1000000 < x.speed) && decide (limit * nsU < ((s.time.elapsed - t : Nat) : Int)) &&
          !(s.grd.overrun.contains x.region) then
        raiseIn (modGrd s fun g => { g with overrun := g.overrun ++ [x.region] }) .grdStopOverrun (handleOf s cARM x.arm)
          (mmS x.speed + 4294967296 * x.cap + 1099511627776 * satU 24 ms) (oGRD x.arm) [x.region]
      else s
    | none => s) s

/-! ### The cross-check (R329, R330) -/

/-- Two live bodies' cross-check: the pairs beyond GRD_XTOL, by capsule and other party. -/
def crossBeyond (s : State) (frame pair : Nat) : Option Nat :=
  let d := Config.crossDiff frame pair
  if grdReg s 0x24 < d then some d else none

/-- GRD_DIVERGE for the region of one arm of a pair (R329). -/
def divergeArm (s : State) (a cap other diff : Nat) : State :=
  raiseIn s .grdDiverge (handleOf s cARM a) (other + 4294967296 * cap + 1099511627776 * satU 24 diff) (oGRD a) (armRegion s a).toList

/-- A pair differs beyond GRD_XTOL: it counts once, and GRD_DIVERGE is raised for each arm in it (R329). The pair is that of a capsule
with a track or a zone, or with a capsule of another arm. -/
def diverge (s : State) (a cap other diff : Nat) (with_ : Option (Nat × Nat)) : State :=
  let s := divergeArm (bump s 0x21004C) a cap other diff
  match with_ with
  | some (o, oc) => divergeArm s o oc (handleOf s cARM a) diff
  | none => s

/-- The live pairs of the cross-check (R329). -/
def liveCross (s : State) : State :=
  let all := liveRobots s
  let f := s.time.frame
  all.foldl (fun s x =>
    let ts := s.grd.tracks.filterMap fun (e : Nat × GTrack) => if e.2.st = 0 then none else some (handleOf s cTRACK e.1, pairNo x.arm x.cap 0 e.1 0 0 0, none)
    let zs := s.grd.zones.filterMap fun (e : Nat × Zone) =>
      if zoneActs e.2 x.region then some (handleOf s cZONE e.1, pairNo x.arm x.cap 2 e.1 0 0 0, none) else none
    let as_ := all.filterMap fun y =>
      if y.arm ≤ x.arm then none else some (handleOf s cARM y.arm, pairNo x.arm x.cap 1 y.arm y.cap 0 0, some (y.arm, y.cap))
    (ts ++ zs ++ as_).foldl (fun s (e : Nat × Nat × Option (Nat × Nat)) =>
      match crossBeyond s f e.2.1 with
      | some d => diverge s x.arm x.cap e.1 d e.2.2
      | none => s) s) s

/-- The GUARD gangs. -/
def guardGangs (s : State) : List Nat := gangsOf s 2

/-- The first GUARD gang whose cross-check does not carry the cycle: one that faults, or one with a lost lane when the gangs that
remain do not carry the capacity rules (R330). -/
def xchkLost (s : State) : Option Nat :=
  let gs := guardGangs s
  let lost (l : Nat) : Bool := (gangLanes s l).any fun n => (lmapAt s n).2
  let left := (gs.filter fun l => gangServes s l).length
  let bad := gs.zipIdx.find? fun e => !(gangServes s e.1)
  match bad with
  | none => none
  | some (_, i) =>
    let faulted := gs.any fun l => !(lost l) && !(gangServes s l)
    if faulted || decide (capacityFail s left (grdEnd s) ≠ 0) then some i else none

/-! ### Judging (R323 to R326) -/

/-- The duration of a segment in units of 2^-32 s. -/
def segSpan (n : Nat) : Int := divFree 135 ((n : Int) * 4294967296) 5000000

/-- The instants within a segment at which its position turns: the velocity is 0. -/
def turnTimes (v a j : Int) (n : Nat) : List Int :=
  let disc := a * a - 2 * j * v
  let ts : List Int :=
    if j = 0 then (if a = 0 then [] else [divFree 137 (-v * 4294967296) a])
    else if disc < 0 then []
    else
      let r := sqrtFree 138 disc
      [divFree 137 ((-a + r) * 4294967296) j, divFree 137 ((-a - r) * 4294967296) j]
  ts.filter fun t => decide (0 < t) && decide (t < segSpan n)

/-- The extremes of a position within a segment: the values, in units of 2^-64, at the turning points inside it. -/
def turnsAt (p v a j : Int) (n : Nat) : List Int :=
  (turnTimes v a j n).map fun t =>
    p + divFree 136 (v * t) 65536 + divFree 136 (a * t * t) 562949953421312 + divFree 136 (j * t * t * t) 7253554917687775048237056

/-- A joint's motion in one segment: velocity and acceleration at its start, and jerk, in units of 2^-48. -/
abbrev SegMotion := Int × Int × Int

/-- The velocity at an instant of a segment. -/
def segVel (m : SegMotion) (t : Int) : Int :=
  m.1 + divFree 136 (m.2.1 * t) 4294967296 + divFree 136 (m.2.2 * t * t) 36893488147419103232

/-- A joint's motion in the three segments of a step. -/
def stepMotion (st j : Int × Int × Int) : List SegMotion :=
  let s1 := segState st.1 st.2.1 st.2.2 (jIn j.1) 1280
  let s2 := segState s1.1 s1.2.1 s1.2.2 (jIn j.2.1) 2560
  [(st.2.1, st.2.2, jIn j.1), (s1.2.1, s1.2.2, jIn j.2.1), (s2.2.1, s2.2.2, jIn j.2.2)]

/-- The greatest speed of a capsule in one segment (R310, R324): Σ |q̇| L is, between instants at which some joint turns, a quadratic in
time, so its greatest value lies at the segment's ends, at such an instant, or where that quadratic turns. -/
def segTop (kin : Map Kin) (c : Cap) (ms : List SegMotion) (n : Nat) : Int :=
  let span := segSpan n
  let cuts := sortBy (fun (x y : Int) => decide (x < y)) (0 :: span :: ms.flatMap fun m => turnTimes m.1 m.2.1 m.2.2 n)
  let inner := (cuts.zip cuts.tail).filterMap fun e =>
    let mid := Int.fdiv (e.1 + e.2) 2
    let side (k : SegMotion → Int) : Int := isum (ms.zipIdx.map fun m => sgn (segVel m.1 mid) * k m.1 * reachBound kin c m.2)
    let j := side fun m => m.2.2
    let t := if j = 0 then e.1 else divFree 137 (-(side fun m => m.2.1) * 4294967296) j
    if e.1 < t ∧ t < e.2 then some t else none
  (cuts ++ inner).foldl (fun m t => max m (capSpeed kin c (ms.map fun x => segVel x t))) 0

/-- v(s): the greatest capsule speed over a step, whose end velocities are `ends` (R324). -/
def stepTop (kin : Map Kin) (c : Cap) (ms : List (List SegMotion)) (ends : List Int) : Int :=
  [(0, 1280), (1, 2560), (2, 1280)].foldl (fun m (k : Nat × Nat) => max m (segTop kin c (ms.map fun l => l.getD k.1 (0, 0, 0)) k.2))
    (capSpeed kin c ends)

/-- The largest movement of a joint from a place in one step of a branch: at the segments' ends and the turning points (R324). -/
def stepReach (p0 : Int) (st en j : Int × Int × Int) : Int :=
  let s1 := segState st.1 st.2.1 st.2.2 (jIn j.1) 1280
  let s2 := segState s1.1 s1.2.1 s1.2.2 (jIn j.2.1) 2560
  let ps := [st.1, s1.1, s2.1, en.1] ++ turnsAt st.1 st.2.1 st.2.2 (jIn j.1) 1280 ++ turnsAt s1.1 s1.2.1 s1.2.2 (jIn j.2.1) 2560 ++
    turnsAt s2.1 s2.2.1 s2.2.2 (jIn j.2.2) 1280
  ps.foldl (fun m p => max m ((p - p0).natAbs : Int)) 0

/-- The samples of a branch: for s = 0 to S its capsules, inflated for s < S, with their speeds (R324). -/
def branchSamples (s : State) (a : Nat) (x : Joined) : List (List Robot) :=
  let p0s := ((plnAt s a).starts.getD 1 []).map Prod.fst
  let joints := List.range x.start.length
  (List.range (x.steps + 1)).map fun n =>
    let stateAt (j n : Nat) : Int × Int × Int := if n = 0 then x.start.getD j (0, 0, 0) else (x.ends.getD j []).getD (n - 1) (0, 0, 0)
    let place (j : Nat) : Int := if n = 0 then p0s.getD j (stateAt j 0).1 else (stateAt j n).1
    let qs := joints.map fun j => satS 64 (roundDiv (place j) 4294967296)
    if n < x.steps then
      let jerk (j : Nat) : Int × Int × Int := (x.jerks.getD j []).getD n (0, 0, 0)
      let ms := joints.map fun j => stepMotion (stateAt j n) (jerk j)
      let ends := joints.map fun j => (stateAt j (n + 1)).2.1
      robotsBy s a qs (joints.map fun j => stepReach (place j) (stateAt j n) (stateAt j (n + 1)) (jerk j)) fun k c => stepTop k c ms ends
    else robotsOf s a qs (joints.map fun j => (stateAt j n).2.1) []

/-- An opponent: its arm, and its capsules at each sample, or an envelope that stands at every sample. -/
structure Opponent where
  arm : Nat
  samples : List (List Robot)
  envelope : Bool
  /-- Its branch, 0 to 7; an envelope is the arm's only opponent. -/
  branch : Nat
deriving DecidableEq, Repr

/-- The first test of R324 that a sample of a branch fails, 0 for none. -/
def sampleTest (s : State) (frame n last : Nat) (b : Nat) (ops : List Opponent) (x : Robot) : Nat :=
  let rows := (garmAt s x.arm).stop
  let fin := decide (n = last)
  let tau : Int := 256000 + (n : Int) * 1024000
  let stop (v : Int) (r : List (Nat × Nat × Nat)) : Int := if fin then stopValue r 1 v else 0
  let tracks := s.grd.tracks.all fun (e : Nat × GTrack) =>
    match e.2.data with
    | none => true
    | some r => farEnough (engineD frame (pairNo x.arm x.cap 0 e.1 0 (n + 1) b) x.body (trackBody e.2 r (humanSpeed s e.2 r)))
        (sepDist s e.2 r rows x.speed tau false)
  let against (o : Opponent) : Bool :=
    let ys := if o.envelope then o.samples.headD [] else o.samples.getD (Nat.min n (o.samples.length - 1)) []
    ys.all fun y =>
      let d := engineD frame (pairNo x.arm x.cap 1 y.arm y.cap (n + 1) b + o.branch) x.body y.body
      let theirs := if o.envelope then 0 else stop y.speed (garmAt s y.arm).stop
      farEnough d (stop x.speed rows + theirs + 2 * zrA s)
  let zones := s.grd.zones.all fun (e : Nat × Zone) =>
    if e.2.kind = 1 ∧ zoneActs e.2 x.region = true then
      farEnough (engineD frame (pairNo x.arm x.cap 2 e.1 0 (n + 1) b) x.body (zoneBody e.2)) (stop x.speed rows + zrA s)
    else true
  let caps := match capOf s x frame false with
    | some c => decide (x.speed ≤ c)
    | none => true
  if !tracks then 1
  else if !((ops.filter fun o => !o.envelope).all against) then 2
  else if !((ops.filter fun o => o.envelope).all against) then 3
  else if !zones then 4
  else if !caps then 5
  else if stopTop rows < x.speed then 6 else 0

/-- The first test that a branch fails at any sample, 0 where every sample passes (R324). -/
def judgeBranch (s : State) (a b : Nat) (x : Joined) (ops : List Opponent) : Nat :=
  let tests := (branchSamples s a x).zipIdx.flatMap fun e => e.1.map (sampleTest s s.time.frame e.2 x.steps b ops)
  let bad := tests.filter (· ≠ 0)
  bad.foldl Nat.min (bad.headD 0)

/-- The opponents of a planned arm (R323). A planned arm whose stop branch has not been handed over stands as its envelope too. -/
def opponentsOf (s : State) (order : List Nat) (a : Nat) : List Opponent :=
  let before := order.takeWhile (· ≠ a)
  (armsInOrder s).flatMap fun o =>
    if o = a ∨ capsOf s o = 0 then []
    else
      let r := capturedReg s ((armRegion s o).getD 0)
      let env : Opponent := { arm := o, samples := [envelopeOf s o], envelope := true, branch := 0 }
      let br (b : Nat) : List Opponent :=
        match mget (plnAt s o).joined b with
        | some x => [{ arm := o, samples := branchSamples s o x, envelope := false, branch := b }]
        | none => []
      if !(order.contains o) || !([1, 2, 5].contains r) then [env]
      else if before.contains o then
        match (garmAt s o).sel with
        | some b => br b ++ (if b = 0 then [] else br 0)
        | none => [env]
      else if (br 0).isEmpty then [env] else br 0

/-- The region state that a captured code stands for. -/
def stOfCode (n : Nat) : RegionState :=
  match n with
  | 1 => .active
  | 2 => .hold
  | 3 => .safeOff
  | 4 => .service
  | 5 => .mending
  | _ => .empty

/-- The acceptance policy of the press that carries the plan (R325, R358). -/
def judgePolicy (s : State) : Nat :=
  if (pressAt s 0).phase = .free then bits (reg s 0x220008) 0 8 else (pressAt s 0).maxPivots

/-- One arm is judged (R323 to R325). -/
def judgeArm (s : State) (order : List Nat) (a : Nat) : State :=
  let ops := opponentsOf s order a
  let st := stOfCode (capturedReg s ((armRegion s a).getD 0))
  let tests := (plnAt s a).joined.map fun (e : Nat × Joined) => (e.1, judgeBranch s a e.1 e.2 ops)
  let pass := (tests.filter fun e => decide (e.2 = 0) && (decide (e.1 = 0) || decide (st = .active))).map Prod.fst
  let failed := (tests.map Prod.fst).filter fun b => !(pass.contains b)
  let first := (tests.find? fun e => failed.contains e.1).map Prod.snd
  modGarm s a fun x =>
    { x with passed := listMask pass, failed := listMask failed, firstTest := first.getD 0,
             sel := choose (plnAt s a).joined (listMask pass) (judgePolicy s) st }

/-- The arms judged in order. -/
def judgeAll (s : State) : State :=
  let s := liveCross s
  let order := s.grd.shotOrder
  let s := order.foldl (fun s a => judgeArm s order a) s
  let fin := 16 + ((capArms s).map fun a => ceilDiv (pJudge s a) 4096).sum
  modGrd s fun x => { x with finish := fin % 2048, finishMax := Nat.max x.finishMax (fin % 2048) }

/-- GUARD_JUDGING_START at frame 16: the live cross-check is compared, and the arms are judged in precedence order on what the cycle has
captured. The live causes have acted with the frame's boundary. -/
def guardJudge (s : State) : State := inCycle judgeAll s

/-- The pairs of a branch whose cross-check differs: at each sample every capsule with every track, applying zone and capsule of an
opponent, as the engine judged them (R329). -/
def branchCross (s : State) (frame a b : Nat) : List (Nat × Nat × Nat × Option (Nat × Nat)) :=
  let ops := opponentsOf s s.grd.shotOrder a
  let steps := ((mget (plnAt s a).joined b).map fun x => x.steps).getD 0
  let region := (armRegion s a).getD 0
  (List.range (steps + 1)).flatMap fun n => (garmAt s a).caps.flatMap fun (c : Nat × Cap) =>
    let ts := s.grd.tracks.filterMap fun (e : Nat × GTrack) =>
      if e.2.st = 0 then none else some (handleOf s cTRACK e.1, pairNo a c.1 0 e.1 0 (n + 1) b, none)
    let zs := s.grd.zones.filterMap fun (e : Nat × Zone) =>
      if zoneActs e.2 region then some (handleOf s cZONE e.1, pairNo a c.1 2 e.1 0 (n + 1) b, none) else none
    let os := ops.flatMap fun o => (garmAt s o.arm).caps.map fun (y : Nat × Cap) =>
      (handleOf s cARM o.arm, pairNo a c.1 1 o.arm y.1 (n + 1) b + o.branch, some (o.arm, y.1))
    (ts ++ zs ++ os).filterMap fun (e : Nat × Nat × Option (Nat × Nat)) => (crossBeyond s frame e.2.1).map fun d => (c.1, e.1, d, e.2.2)

/-- The final verdict of one arm (R326, R329, R330). -/
def finalArm (s : State) (frame : Nat) (lost : Bool) (a : Nat) : State :=
  let g := garmAt s a
  let checked := dedup (g.sel.toList ++ [0])
  let div := (checked.filter fun b => mhas (plnAt s a).joined b).filter fun b => !(branchCross s frame a b).isEmpty
  let s := div.foldl (fun s b => (branchCross s frame a b).foldl (fun s e => diverge s a e.1 e.2.1 e.2.2.1 e.2.2.2) s) s
  let keep (b : Nat) : Bool := bit g.passed b && !(div.contains b) && !(lost && decide (b ≠ 0))
  let pass := (List.range 8).filter keep
  let judged := (plnAt s a).joined.map Prod.fst
  let failed := judged.filter fun b => !(pass.contains b)
  let sel := match g.sel with
    | some b => if pass.contains b then some b else if pass.contains 0 then some 0 else none
    | none => none
  let s := modGarm s a fun x =>
    { x with fPassed := listMask pass, fFailed := listMask failed,
             fUnjudged := listMask ((List.range 8).filter fun b => !(judged.contains b)), fSel := sel, fXchk := !lost }
  if failed.isEmpty then s
  -- a branch that the cross-check alone has failed has failed no test of R324
  else raise s .grdBranchFail (handleOf s cARM a) (listMask failed + 256 * (if bit g.failed (failed.headD 0) then g.firstTest else 0)) (oGRD a)

/-- The arms whose pairs the GUARD gangs carry: every arm with capsules has live pairs, and a planned arm those of its branches too
(R329, R331). -/
def crossArms (s : State) : List Nat := (armsInOrder s).filter fun a => decide (capsOf s a ≠ 0) || s.grd.shotOrder.contains a

/-- GRD_XCHK_LOST stands for the regions of the arms whose pairs the cross-check does not carry (R330, R465). -/
def xchkStands (s : State) (gang : Nat) : State :=
  let v := cycleView s
  let rs := dedup ((crossArms v).filterMap (armRegion v))
  rs.foldl (fun s r =>
    if s.flt.standing.contains (0x169, r) then s
    else
      let a := ((crossArms v).find? fun a => decide (armRegion v a = some r)).getD 0
      raiseIn (modFlt s fun x => { x with standing := x.standing ++ [(0x169, r)] }) .grdXchkLost (handleOf s cARM a) gang (oGRD a) [r]) s

/-- GUARD_FINAL_VERDICT at frame 1272 (R326). -/
def guardFinal (s : State) : State :=
  match s.grd.cycle with
  | some f =>
    if s.grd.running && decide (tickFrame s = 1272) && decide (f / 1280 = planTick s) then
      let lost := xchkLost s
      let s := inCycle (fun s => s.grd.shotOrder.foldl (fun s a => finalArm s f lost.isSome a) s) s
      let s := modGrd s fun x => { x with cycle := none, doneArms := x.arms, doneTracks := x.tracks }
      match lost with
      | some i => xchkStands s i
      | none => modFlt s fun x => { x with standing := x.standing.filter fun e => decide (e.1 ≠ 0x169) }
    else s
  | none => s

/-- The guard at frame 0 of a plan tick (R320). -/
def guardTick (s : State) : State :=
  if s.grd.running then
    let s := guardCapture s
    let s := modGrd s fun x => { x with toAct := [] }
    let s := stopOverrun (liveCheck s)
    -- the greatest capsule speed of each region at this capture (R332)
    let all := liveRobots s
    let s := modGrd s fun x =>
      { x with speeds := (List.range 16).map fun r => (r, nmax ((all.filter fun y => decide (y.region = r)).map fun y => y.speed.toNat)) }
    (s.grd.arms.map Prod.fst).foldl (fun s a =>
      let g := garmAt s a
      traceFrom s 9 (handleOf s cARM a) s.time.wallF 0 (fun _ => true) fun _ => (un 32 g.margin, g.vmax)) s
  else s

/-! ### Enabling, readiness, resume (R327, R328, R333 to R335) -/

/-- The guard ends: its gangs are dissolved, and GRD_XCHK_LOST stands no longer (R465). -/
def guardStop (s : State) : State :=
  let s := (guardGangs s).foldl (fun s l => (List.range (gangAt s l).size).foldl (fun s i =>
    modSol s fun x => { x with gangs := mdel x.gangs (l + i) }) s) s
  let s := modFlt s fun x => { x with standing := x.standing.filter fun e => decide (e.1 ≠ 0x169) }
  modGrd (setReg s 0x210000 0) fun x => { x with running := false, cycle := none, toAct := [] }

/-- The lanes that GRD_GANG names. -/
def guardLanes (s : State) : List Nat := (List.range (4 * grdGangs s)).map fun i => grdFirst s + i

/-- GRD_EN_WRITE (R328, R334). -/
def grdEnWrite (s : State) (en : Bool) : State :=
  if s.md.mode ≠ .prepare then s
  else if !en then guardStop (modGrd s fun x => { x with refused := false })
  else if grdOn s then s
  else
    let lanes := guardLanes s
    let bad := lanes.any fun n =>
      let g := gangAt s (gangOf s n)
      (lmapAt s n).2 || decide (191 < n) || decide (g.role ≠ 0) || gangBound g
    if bad then modGrd s fun x => { x with refused := true }
    else
      -- gangs of role 0 that reach into the range are dissolved
      let touched := dedup (lanes.map (gangOf s))
      let s := touched.foldl (fun s l => modSol s fun x => { x with gangs := mdel x.gangs l }) s
      let s := (List.range (grdGangs s)).foldl (fun s i => formGang s (grdFirst s + 4 * i) 4 2) s
      let s := modGrd (setReg s 0x210000 1) fun x => { x with running := true, refused := false }
      (List.range 8).foldl (fun s i => modStream s i fun x =>
        { x with since := s.time.elapsed, lost := if x.fault then 2 else 0 }) s

/-- An arm's capsules all have their chain: every link up to each capsule's, and the base (R333). -/
def chainComplete (g : GArm) : Bool :=
  g.caps.all fun (e : Nat × Cap) =>
    mhas g.kin 255 && (decide (e.2.link = 255) || (List.range (e.2.link + 1)).all fun j => mhas g.kin j)

/-- The chain of an arm is set: its base and every joint (R308, R336). -/
def chainWhole (s : State) (a : Nat) : Bool :=
  mhas (garmAt s a).kin 255 && (List.range (armJoints s a).length).all fun j => mhas (garmAt s a).kin j

/-- The cause of GRD_NOT_READY of a region, and the arm it names; 0 for none (R333). -/
def notReady (s : State) (r : Nat) : Nat × Nat :=
  let arms := (s.arms.map Prod.fst).filter fun a => decide (armRegion s a = some r)
  let find (p : Nat → Bool) : Option Nat := arms.find? p
  if regionSt s r = .empty then (0, 0)
  else if grdOn s = false then (1, 0)
  else if (guardGangs s).length < grdGangs s then (2, 0)
  else
    match find fun a => !(chainComplete (garmAt s a)) with
    | some a => (3, a)
    | none =>
      match find fun a => decide (0 < capsOf s a) && (garmAt s a).stop.isEmpty with
      | some a => (4, a)
      | none =>
        match find fun a => planned s a && decide (capsOf s a = 0) with
        | some a => (5, a)
        | none => (0, 0)

/-- GRD_NOT_READY begins or ends for each region (R333, R465). -/
def readiness (s : State) : State :=
  (List.range 16).foldl (fun s r =>
    let (c, a) := notReady s r
    let stands := s.flt.standing.contains (0x16C, r)
    if c = 0 then (if stands then modFlt s fun x => { x with standing := x.standing.filter (· ≠ (0x16C, r)) } else s)
    else if stands then s
    else
      raiseIn (modFlt s fun x => { x with standing := x.standing ++ [(0x16C, r)] }) .grdNotReady
        (if c ≤ 2 then 0 else handleOf s cARM a) c (if c ≤ 2 then oGRDall else oGRD a) [r]) s

/-- An enabled stream that covers the region is lost (R316). -/
def regionStreamLost (s : State) (r : Nat) : Bool :=
  (List.range 8).any fun i =>
    bit (grdReg s (0x100 + 0x10 * i)) 0 && decide ((streamAt s i).lost ≠ 0) && bit (grdReg s (0x104 + 0x10 * i)) r

/-- The guard passes the region's stop branch in the current guard cycle (R327). -/
def guardPassesStop (s : State) (r : Nat) : Bool :=
  !(s.grd.causes.any fun c => decide (c.region = r)) && !(regionStreamLost s r) &&
    ((plannedArms s).filter fun a => decide (armRegion s a = some r)).all fun a => bit (garmAt s a).fPassed 0

/-! ### Registers (R336) -/

/-- GRD_STATUS. -/
def grdStatus (s : State) : Nat :=
  let count (c : Nat) : Nat := (s.grd.tracks.filter fun (e : Nat × GTrack) => decide (e.2.st = c)).length
  b2n s.grd.running + 2 * b2n s.grd.refused + 4 * ((guardGangs s).filter fun l => gangServes s l).length + 256 * count 1 + 65536 * count 2

/-- GRD_A_VERDICT. -/
def grdVerdict (x : GArm) : Nat :=
  x.fPassed + 256 * x.fFailed + 65536 * x.fUnjudged + 16777216 * (x.fSel.getD 0) + 134217728 * b2n x.fSel.isSome + 268435456 * b2n x.fXchk

/-- An arm block's read-only registers. -/
def grdArmReg (s : State) (a off : Nat) : Nat :=
  let x := garmAt s a
  match off with
  | 0x00 => x.caps.length + 64 * b2n (chainWhole s a) + 128 * b2n (!x.stop.isEmpty)
  | 0x08 => grdVerdict x
  | 0x0C => un 32 x.margin
  | 0x10 => x.vmax
  | _ => 0

/-- A zone's register. -/
def grdZoneReg (s : State) (i : Nat) : Nat :=
  match mget s.grd.zones i with
  | some z => if isLive s cZONE i then 1 + 2 * b2n (((mget s.grd.shotZones i).map fun x => x.on).getD false) + 4 * (z.kind - 1) else 0
  | none => 0

/-- A track block's registers. -/
def grdTrackReg (s : State) (i off : Nat) : Nat :=
  match mget s.grd.tracks i with
  | some t =>
    match off with
    | 0 => t.st + 4 * (match t.data with
                       | some r => if r.person then 1 else 2
                       | none => 0) + 16 * t.stream + 256 * t.slot
    | 4 => satU 32 (t.age / 1000).toNat
    | 8 => un 32 t.margin
    | _ => 0
  | none => if off = 8 then 0x7FFFFFFF else 0

end Sys2Proof.Machine
end

