-- ==== Sys2Proof/Machine/Health.lean ====
section
/-!
DEFINITION. The health manager (R442 to R461): what instances serve, shadows, tests, the darn and its commit, the ledger, the
reactions to wear with and without a spare.
-/
namespace Sys2Proof.Machine

/-! ### What an instance serves -/

/-- The conversion channels whose results an instance of class 1 or 2 gives. -/
def servedChans (s : State) (c i : Nat) : List Nat :=
  match c with
  | 1 => ((convAt s i).groups.flatMap fun e => e.2).filter fun ch => mhas s.cchans ch
  | 2 => mkeys s.cchans fun _ x => decide (x.cfg.source ≠ 3) && decide (physPair s x.pair = i)
  | _ => []

/-- The joints that an instance serves: a channel's joint, the joint of a pair's head stream, the joints of a core's loops. -/
def servedJoints (s : State) (c i : Nat) : List Nat :=
  match c with
  | 2 => ((servedChans s 2 i).filter fun ch => decide ((chAt s ch).cfg.source = 1)).filterMap (cchanJoint s)
  | 3 => ((mget s.swchs i).bind fun x => x.joint).toList
  | 4 => dedup ((drvAt s i).slots.filterMap fun e => e.2.joint)
  | _ => []

/-- The region of a joint is SAFE_OFF or EMPTY. -/
def jointOff (s : State) (j : Nat) : Bool :=
  match jointRegion s j with
  | some r => decide (regionSt s r = .safeOff) || decide (regionSt s r = .empty)
  | none => true

/-- The instance serves nothing running (R451). -/
def servesNothing (s : State) (c i : Nat) : Bool :=
  match c with
  | 1 => !hasEntries s i
  | 2 => (servedChans s 2 i).all fun ch => decide ((chAt s ch).cfg.source = 1) && ((cchanJoint s ch).map (jointOff s)).getD true
  | 3 => (servedJoints s 3 i).all (jointOff s)
  | 4 => (boundSlots (drvAt s i)).isEmpty && (workerAt s i).running.isNone && (workerAt s i).prefetch.isEmpty
  | 5 => match logicalOf s i with
    | some n => (gangAt s (gangOf s n)).order.isEmpty
    | none => true
  | _ => true

/-- The objects that a darn of the instance holds: class and index (R454). -/
def darnHolds (s : State) (c i : Nat) : List (Nat × Nat) :=
  match c with
  | 1 => (servedChans s 1 i).map fun ch => (cCCHAN, ch)
  | 2 => (servedJoints s 2 i).map fun j => (cJOINT, j)
  | 3 => (servedJoints s 3 i).map fun j => (cJOINT, j)
  | 4 => (servedJoints s 4 i).map fun j => (cJOINT, j)
  | 5 => match logicalOf s i with
    | some n => (gangAt s (gangOf s n)).order.map fun p => (cPROBLEM, p)
    | none => []
  | _ => []

/-- The core or lane is HALTED by invasive debug (R533). -/
def partHalted (s : State) (c i : Nat) : Bool :=
  match c with
  | 4 => decide ((drvAt s i).halted ≠ [])
  | 5 => decide ((laneAt s i).halted ≠ [])
  | _ => false

/-- A region that the instance serves is MENDING, or the core or lane is HALTED (R448). -/
def shadowBarred (s : State) (c i : Nat) : Bool :=
  let js := servedJoints s c i
  (js.any fun j => match jointRegion s j with
    | some r => decide (regionSt s r = .mending)
    | none => false) ||
  partHalted s c i ||
  match c with
  | 5 =>
    (match logicalOf s i with
     | some n => (gangAt s (gangOf s n)).order.any fun p => match objRegion s cPROBLEM p with
       | some r => decide (regionSt s r = .mending)
       | none => false
     | none => false)
  | _ => false

/-! ### Shadows (R442, R443) -/

/-- The units of a class that a shadow requires (R442): results of every entry, precise and fast outputs, frames, ticks. -/
def shadowNeed (s : State) (c live : Nat) : Nat :=
  match c with
  | 1 => 64 * ((convAt s live).groups.flatMap fun e => e.2).length
  | 2 => match servedChans s 2 live with
    | ch :: _ => if chFAST (chAt s ch).cfg then 72 else 8
    | [] => 0
  | 3 => 64
  | 4 => 16
  | _ => 4

/-- A spare converter takes the live converter's CNV_n_CFG and trigger settings (R443). -/
def convSettings (s : State) (spare live : Nat) : State :=
  [0, 0x0C, 0x10, 0x14, 0x18, 0x1C].foldl (fun s o => setReg s (0x80100 + 0x40 * spare + o) (reg s (0x80100 + 0x40 * live + o))) s

/-- A spare enters SHADOW on a live instance: a converter takes its settings and calibrates in its personality (R442, R443). -/
def shadowStart (s : State) (c spare live : Nat) : State :=
  match c with
  | 1 => calRequest (convSettings s spare live) spare none
  | 3 => swShadow s spare live
  | 4 => drvShadow s spare live
  | 5 => laneShadow s spare live
  | _ => s

/-- A spare leaves SHADOW and stands ready. -/
def shadowStop (s : State) (c spare : Nat) : State :=
  match c with
  | 3 => swUnshadow s spare
  | 4 => drvUnshadow s spare
  | 5 => laneUnshadow s spare
  | _ => s

/-- The results of a spare's shadow have differed before. -/
def shadowDiffers (s : State) (c spare : Nat) : Bool :=
  (s.hlt.tests.any fun t => decide (t.cls = c) && decide (t.spare = some spare) && t.diff) ||
    match s.hlt.darn with
    | some (r, sp, _, _, ph) => decide (r.cls = c) && decide (sp = spare) && decide (ph = 4)
    | none => false

/-- The run of consecutive units of a spare's shadow is broken: the units start again (R442). -/
def shadowBreak (s : State) (c spare : Nat) : State :=
  modHlt s fun h =>
    let mine : Bool := match h.darn with
      | some (r, sp, _, _, ph) => decide (r.cls = c ∧ sp = spare ∧ ph = 1)
      | none => false
    { h with darn := if mine then h.darn.map fun e => (e.1, e.2.1, 0, e.2.2.2.1, e.2.2.2.2) else h.darn,
             prog := if mine then [] else h.prog,
             tests := h.tests.map fun (t : TestRun) => if t.cls = c ∧ t.spare = some spare then { t with met := 0, prog := [] } else t }

/-- The spare switching channels compare their decisions with the live ones, in every frame with valid fast outputs; a frame without
them breaks the run of consecutive frames (R180). -/
def shadowFrames (s : State) : State :=
  (mkeys s.swchs fun _ x => x.shadowOf.isSome).foldl (fun s sp =>
    match (swAt s sp).shadowOf with
    | none => s
    | some live =>
      let y := swAt s live
      if y.fastInvalid = true ∨ y.joint = none then shadowBreak s 3 sp
      else
        let before := shadowDiffers s 3 sp
        let (ok, s) := shadowJudged s 3 sp (!decisionsDiffer (swAt s sp) y)
        if ok then s
        else
          let s := bump s (0xC1074 + 0x100 * sp)
          if before then s else raise s .sweShadowMismatch (handleOf? s cJOINT y.joint) (sp + 65536 * live) (origin 0x0E sp)) s

/-! ### The ledger (R455) -/

/-- A state record is written: the other copy takes it, with the next sequence number. The manual gives the record no layout: its
CRC-32 is held as the copy's verdict (log 89). -/
def ledgerStore (s : State) : State :=
  let th : Map Nat := (List.range 6).map fun c => (c, reg s (0x250104 + 0x10 * c))
  modHlt s fun h =>
    { h with ledger := { insts := h.insts, cnvMap := h.cnvMap, lmap := s.sol.lmap, pairMap := s.cnv.pairMap, thresh := th,
                         queue := h.queue.map fun r => (r.cls, r.worn, r.failed),
                         pend := match h.darn with
                           | some (r, sp, _, _, 2) => some (r.cls, r.worn, sp)
                           | _ => none,
                         seq := h.ledger.seq + 1, bad := false },
             writesA := h.writesA + b2n (decide (h.ledger.seq % 2 = 0)), writesB := h.writesB + b2n (decide (h.ledger.seq % 2 = 1)),
             ledgerOld := h.ledger, copyA := h.copyA || decide (h.ledger.seq % 2 = 0), copyB := h.copyB || decide (h.ledger.seq % 2 = 1),
             rewrite := false, wrote := s.time.elapsed }

/-- A ledger write has failed: it is reported, and is written again within one second (R456). -/
def ledgerFail (s : State) : State :=
  raise (modHlt s fun h => { h with rewrite := true, failAt := s.time.elapsed }) .hltLedgerErr 0 (oHLT + 2 * 4294967296) oHLT

/-- The health manager writes its state record (R455); whether the MRAM takes it is free (log 89). -/
def ledgerWrite (s : State) : State :=
  let (i, s) := draw s
  if Config.ledgerTakes i then ledgerStore s else ledgerFail s

/-- The commit mark of a darn that has committed: the record of the state after it (R455, log 89). -/
def ledgerMark (s : State) : State :=
  match s.hlt.darn with
  | some (_, _, _, _, 3) => ledgerWrite (modHlt s fun h => { h with darn := none, prog := [] })
  | _ => s

/-- Each frame: the commit mark of a darn of the frame before, and the repeat of a failed write before its second is out (R455, R456). -/
def ledgerFrame (s : State) : State :=
  let s := ledgerMark s
  let soon := s.time.elapsed + msU
  if s.hlt.rewrite = true ∧ s.hlt.failAt + secU ≤ soon then ledgerWrite s else s

/-- LEDGER_STATE_WRITE: the hourly state record, or the repeat of one that failed; a failure is reported and repeated (R455, R456). -/
def ledgerDue (s : State) (ok : Bool) : State :=
  if s.hlt.rewrite = true ∨ s.hlt.wrote + 3600 * secU ≤ s.time.elapsed then
    if ok then ledgerStore s else ledgerFail s
  else s

/-- WEAR_DECAY: at the end of every hour of elapsed time (R444); the lifetime counters count the hour (R455). -/
def wearHour (s : State) : State :=
  let hour := s.time.elapsed / (3600 * secU)
  -- bands of 5 °C from −40 °C up
  let band := ((s.pins.tj / 256 + 40) / 5).toNat
  if s.hlt.hour < hour then
    wearDecay (modHlt s fun h => { h with hour := h.hour + 1, hours := h.hours + 1, bands := mput h.bands band (mgetD h.bands band 0 + 1) })
  else s

/-! ### Retirement and loss (R457) -/

/-- An instance takes a state code; the ledger is to record it (R455, R470). -/
def setCode (s : State) (c i code : Nat) : State :=
  modHlt (modInst s c i fun x => { x with code := code }) fun h => { h with toWrite := true }

/-- What retiring an instance stops in its unit. A core leaves its nodes to the other cores of their CORE_MASK; DEDUCED (log 69): the
operation that it runs starts again there. -/
def unitOff (s : State) (c i : Nat) : State :=
  match c with
  | 3 => modSw s i fun x => { x with st := 0, legEn := 0, brakeRel := false, legBytes := [0, 0, 0, 0] }
  | 4 =>
    let w := workerAt s i
    let s := (w.running.toList ++ w.prefetch).foldl (fun s k => withdraw (modNode s k fun n => { n with st := .prefetched }) k) s
    let s := modWorker s i fun x => { x with running := none, prefetch := [] }
    modDrv s i fun x => { x with stopped := true, queue := [], entered := false }
  | _ => s

/-- An instance is retired with no spare: its code and the log (R460). -/
def retireInst (s : State) (c i kind : Nat) : State :=
  let o := origin (tyOf c) i
  setCode (logAdd (unitOff s c i) kind 0 o 0 (instAt s c i).wear) c i 3

/-- HLT_NO_SPARE or HLT_NO_SPARE_OFF for the joints served: the worn origin in detail bytes 4 to 7 (R461). -/
def raiseNoSpare (s : State) (e : Event) (c i : Nat) : State :=
  let o := origin (tyOf c) i
  (servedJoints s c i).foldl (fun s j => raise s e (handleOf s cJOINT j) (o * 4294967296) o) s

/-- The instance gives a head's joint its currents, its loops or its switching: the region stops with it (R457). -/
def stopsJoints (s : State) (c i : Nat) : Bool :=
  match c with
  | 2 => (servedChans s 2 i).any fun ch => decide ((chAt s ch).cfg.source = 1)
  | 3 => true
  | 4 => true
  | _ => false

/-- A worn or failed instance whose class has no spare ready (R457). -/
def noSpareReact (s : State) (c i : Nat) (failed : Bool) : State :=
  let key := origin (tyOf c) i
  if c = 5 then
    if failed then planLaneLost (retireInst (loseLane s i) 5 i 4) i else s
  else if stopsJoints s c i then
    if failed then
      let s := raiseNoSpare s .hltNoSpareOff c i
      modHlt (retireInst s c i 3) fun h => { h with stopping := h.stopping.filter fun e => e.1 ≠ key }
    else
      let s := raiseNoSpare s .hltNoSpare c i
      modHlt s fun h =>
        { h with stopping := h.stopping.filter (fun e => e.1 ≠ key) ++ [(key, s.time.elapsed + bits (reg s 0x250018) 0 14 * msU)] }
  else if failed then
    let chans := servedChans s c i
    let s := retireInst s c i 3
    chans.foldl (fun s ch => raise s .hltPartLost (handleOf s cCCHAN ch) (key * 4294967296) key) s
  else s

/-- The joints served stand still: profiles at rest and feedback STOPPED (R457). -/
def jointsStill (s : State) (js : List Nat) : Bool :=
  js.all fun j =>
    (match jointProfile s j with
     | some p => atRest (prfAt s p)
     | none => true) &&
    match (mget s.joints j).bind fun x => x.fbch with
    | some f => decide ((fbAt s f).speedSt = 0)
    | none => true

/-- NO_SPARE_RETIRE (R457): the joints have stopped, or HLT_STOP_LIMIT has passed. -/
def noSpareRetire (s : State) (c i : Nat) : State :=
  let key := origin (tyOf c) i
  match s.hlt.stopping.find? fun e => e.1 = key with
  | none => s
  | some (_, limit) =>
    if jointsStill s (servedJoints s c i) = true ∨ limit ≤ s.time.elapsed then
      let s := raiseNoSpare s .hltNoSpareOff c i
      modHlt (retireInst s c i 3) fun h => { h with stopping := h.stopping.filter fun e => e.1 ≠ key }
    else s

/-- A Ryris lane that wears out or fails: it retires when the port's other lane is up and not retired, and a failed one in any
case (R446, R457). The first lane of a port to go leaves the port without its spare. -/
def laneReact (s : State) (i : Nat) (failed : Bool) : State :=
  let p := i / 2
  let b := decide (i % 2 = 1)
  let other := laneOf (portAt s p) !b
  if (laneOf (portAt s p) b).retired then s
  else if failed || (other.up && !other.retired) then
    let first := !other.retired
    let s := setCode (laneRetire s p b) 0 i 3
    if first then raise s .spareExhausted 0 (origin 0x09 i + p * 4294967296) (origin 0x09 i) else s
  else s

/-! ### The darn queue (R450) -/

/-- The spares that a darn may take: ready, or under a test that the darn ends (R449, R451). -/
def darnSpares (s : State) (c : Nat) : List Nat :=
  (List.range (instances c)).filter fun i =>
    decide ((instAt s c i).code = 1) && !(instAt s c i).failed &&
    match s.hlt.darn with
    | some (r, sp, _) => !(decide (r.cls = c) && decide (sp = i))
    | none => true

/-- The order of the darn queue: failed before worn, then the class index; equals keep their order (R450). -/
def darnBefore (a b : DarnReq) : Bool :=
  (a.failed && !b.failed) || (a.failed == b.failed && decide (a.cls < b.cls))

/-- A darn's press is open: it has not committed. -/
def darnOpen (s : State) : Bool :=
  match s.hlt.darn with
  | some (_, _, _, _, ph) => decide (ph ≠ 3)
  | none => false

/-- A request is for an instance. -/
def darnFor (c i : Nat) (r : DarnReq) : Bool := decide (r.cls = c) && decide (r.worn = i)

/-- Puts a request in its place in a queue; the request of an open darn stays at the head. -/
def darnPlace (openDarn : Bool) (x : DarnReq) (q : List DarnReq) : List DarnReq :=
  match openDarn, q with
  | true, r :: t => r :: insertBy darnBefore x t
  | _, q => insertBy darnBefore x q

/-- Puts a request into the queue. One for an instance already queued is not added twice: the request there takes the descriptor, and
moves up when the instance has failed since, unless its darn is open (R450). -/
def darnQueue (s : State) (c i : Nat) (failed : Bool) (acc : Option Acc) : State :=
  modHlt s fun h =>
    let running := darnOpen s
    { h with queue :=
        match h.queue.find? (darnFor c i) with
        | none => darnPlace running { cls := c, worn := i, failed := failed, accs := acc.toList } h.queue
        | some r =>
          let x : DarnReq := { r with failed := r.failed || failed, accs := r.accs ++ acc.toList }
          if x.failed = r.failed ∨ (running && (h.queue.head?.map (darnFor c i)).getD false) = true then
            h.queue.map fun y => if darnFor c i y then x else y
          else darnPlace running x (h.queue.filter fun y => !darnFor c i y) }

/-- The reaction of R446 to an instance that has become worn or failed. -/
def wornReact (s : State) (o : Nat) (failed : Bool) : State :=
  let i := o % 65536
  match classOfTy (o / 65536) with
  | none => s
  | some 0 => laneReact s i failed
  | some c =>
    if serves s c i = false then s
    else if darnSpares s c = [] then noSpareReact s c i failed
    else if bit (reg s 0x250000) 0 ∧ s.hlt.queue.length < 16 then darnQueue s c i failed none
    else s

/-- The instances that have crossed since the last command are handled; one that has failed is handled as failed alone (R446, R457). -/
def handleCrossed (s : State) : State :=
  let l := s.hlt.crossed.filter fun e => e.2 || !(s.hlt.crossed.contains (e.1, true))
  if l = [] then s
  else
    let s := modHlt s fun h => { h with crossed := [] }
    modHlt (l.foldl (fun s e => wornReact s e.1 e.2) s) fun h => { h with toWrite := true }

/-- A record of the health manager: firmware writes the ledger as it handles it (R470). -/
def hltRecord (er : EventRec) : Bool := decide (0x1E0 ≤ er.code ∧ er.code ≤ 0x1E9)

/-- A ledger write that is due and that no record waiting to be handled will make is made (R455, R470). -/
def ledgerPump (s : State) : State :=
  if s.hlt.toWrite = true ∧ (s.flt.queues.any fun q => q.2.any hltRecord) = false ∧ (s.flt.arrived.any fun e => hltRecord e.1) = false then
    ledgerWrite (modHlt s fun h => { h with toWrite := false })
  else s

/-! ### Tests (R447 to R449) -/

/-- A test ends without a result: its spare stands ready again and its descriptor completes with BUSY (R449). -/
def testDrop (s : State) (t : TestRun) : State :=
  let s := modHlt s fun h => { h with tests := h.tests.filter fun u => !(decide (u.cls = t.cls) && decide (u.inst = t.inst)) }
  let s := match t.spare with
    | some sp => shadowStop s t.cls sp
    | none => s
  match t.acc with
  | some a => complete s a stBUSY 0 (det8 2)
  | none => s

/-- A test of an instance starts: a self-test of a spare, a shadow test of one in service (R447, R448). -/
def testStart (s : State) (c i : Nat) (acc : Option Acc) : State :=
  if (instAt s c i).code = 1 then
    modHlt s fun h => { h with tests := h.tests ++ [{ cls := c, inst := i, spare := none, acc := acc }] }
  else
    match sparesReady s c with
    | [] => s
    | sp :: _ =>
      let s := shadowStart s c sp i
      modHlt s fun h => { h with tests := h.tests ++ [{ cls := c, inst := i, spare := some sp, acc := acc, need := shadowNeed s c i }] }

/-- The instance may be tested: it exists and is not retired, no test of it runs, and for a shadow test a spare is ready and
nothing bars it. -/
def testable (s : State) (c i : Nat) : Bool :=
  decide (i < instances c) && !retired s c i && !(s.hlt.tests.any fun t => decide (t.cls = c) && decide (t.inst = i)) &&
    (if (instAt s c i).code = 1 then !(instAt s c i).failed && !spareBusy s c i
     else decide (sparesReady s c ≠ []) && !shadowBarred s c i && decide (c ≠ 0) &&
       match s.hlt.darn with
       | some (r, _) => !(decide (r.cls = c) && decide (r.worn = i))
       | none => true)

/-- The instance after one in the turn of R447: the classes in turn, within a class the instances in turn. -/
def nextInst (x : Nat × Nat) : Nat × Nat :=
  if x.2 + 1 < instances x.1 then (x.1, x.2 + 1) else (if x.1 < 5 then x.1 + 1 else 1, 0)

/-- The first testable instance from a point of the turn on. -/
def findTest (fuel : Nat) (s : State) (x : Nat × Nat) : Option (Nat × Nat) :=
  match fuel with
  | 0 => none
  | k + 1 => if testable s x.1 x.2 then some x else findTest k s (nextInst x)

/-- BACKGROUND_TEST_START: one test every 2^TEST_PERIOD s while AUTO_TEST is 1 (R447). -/
def backgroundTest (s : State) : State :=
  let ctl := reg s 0x250000
  let period := s.time.elapsed / (2 ^ bits ctl 4 4 * secU)
  if bit ctl 1 = false ∨ period = 0 ∨ s.hlt.lastTest = some period then s
  else
    let s := modHlt s fun h => { h with lastTest := some period }
    match findTest 931 s s.hlt.nextTest with
    | none => s
    | some x => testStart (modHlt s fun h => { h with nextTest := nextInst x }) x.1 x.2 none

/-- A failed test is reported and logged (R460, R461). -/
def testFailed (s : State) (c i how : Nat) : State :=
  let o := origin (tyOf c) i
  logAdd (raise s .hltTestFail 0 (o + how * 4294967296) o) 5 0 o 0 (instAt s c i).wear

/-- The running test of an instance, of either kind. -/
def testOf (s : State) (c i : Nat) (shadow : Bool) : Option TestRun :=
  s.hlt.tests.find? fun t => decide (t.cls = c) && decide (t.inst = i) && (t.spare.isSome == shadow)

/-- Ends the record of a test. -/
def testEnd (s : State) (t : TestRun) : State :=
  modHlt s fun h => { h with tests := h.tests.filter fun u => !(decide (u.cls = t.cls) && decide (u.inst = t.inst)) }

/-- SELF_TEST_DONE (R447, R448, R453): a failure marks the spare failed; a pass lays a mismatch to the live instance. -/
def selfTestDone (s : State) (c i : Nat) (pass : Bool) : State :=
  match testOf s c i false with
  | none => s
  | some t =>
    let s := testEnd s t
    let s := if pass then
        match t.blame with
        | some live => wearInput s c live 4
        | none => s
      else wearInput (testFailed s c i 1) c i 6
    match t.acc with
    | some a => complete s a stOK 0 (det8 (if pass then 0 else 1))
    | none => s

/-- SHADOW_TEST_DONE (R448): the requirement is met, or the results differed: then the spare is self-tested at once. -/
def shadowTestDone (s : State) (c i : Nat) : State :=
  match testOf s c i true with
  | none => s
  | some t =>
    if t.diff = false ∧ t.met < t.need then s
    else
      let sp := t.spare.getD 0
      let s := shadowStop (testEnd s t) c sp
      let s := if t.diff then
          let s := testFailed s c i 2
          modHlt s fun h => { h with tests := h.tests ++ [{ cls := c, inst := sp, spare := none, acc := none, blame := some i }] }
        else s
      match t.acc with
      | some a => complete s a stOK 0 (det8 (b2n t.diff))
      | none => s

/-- Converters that a failed plausibility check has marked are tested again (R129). -/
def retests (s : State) : State :=
  let l := s.hlt.retest
  if l = [] then s
  else
    let s := modHlt s fun h => { h with retest := [] }
    l.foldl (fun s n => if testable s 1 n then testStart s 1 n none else s) s

/-! ### The descriptors of the health manager (R449, R450) -/

/-- The class and instance that a payload names. -/
def hltName (d : Desc) : Option Nat × Nat := (classOfTy (pf d 16 2), pf d 18 2)

/-- HLT_TEST's own rules. -/
def hltTestCheck (s : State) (a : Acc) : Option Refuse :=
  let d := a.d
  match hltName d with
  | (none, _) => if a.req ≠ 32 then some rDENIED else some rRANGE
  | (some c, i) =>
    firstRefuse [
      (decide (a.req ≠ 32), rDENIED),
      (!(onlyBytes d [(16, 4)]) || decide (instances c ≤ i) || retired s c i, rRANGE),
      (decide ((instAt s c i).code ≠ 1) && decide (sparesReady s c = []), rNORES),
      (s.hlt.tests.any (fun t => decide (t.cls = c) && decide (t.inst = i)) || spareBusy s c i, (stBUSY, 0)),
      (decide ((instAt s c i).code ≠ 1) && shadowBarred s c i, rMODE)]

/-- HLT_TEST starts a single test. -/
def hltTest (s : State) (a : Acc) : State :=
  match hltName a.d with
  | (some c, i) => testStart s c i (some a)
  | _ => s

/-- HLT_DARN's own rules. -/
def hltDarnCheck (s : State) (a : Acc) : Option Refuse :=
  let d := a.d
  match hltName d with
  | (none, _) => if a.req ≠ 32 then some rDENIED else if s.md.mode = .dormant then some rMODE else some rRANGE
  | (some c, i) =>
    let queued := s.hlt.queue.any fun r => decide (r.cls = c) && decide (r.worn = i)
    firstRefuse [
      (decide (a.req ≠ 32), rDENIED),
      (decide (s.md.mode = .dormant), rMODE),
      (!(onlyBytes d [(16, 4)]) || decide (c = 0) || decide (instances c ≤ i) || !(serves s c i), rRANGE),
      (!queued && (decide (16 ≤ s.hlt.queue.length) || decide (darnSpares s c = [])), rNORES)]

/-- HLT_DARN queues a request, which completes when its darn closes. -/
def hltDarn (s : State) (a : Acc) : State :=
  match hltName a.d with
  | (some c, i) => darnQueue s c i (instAt s c i).failed (some a)
  | _ => s

/-! ### The darn (R451 to R453) -/

/-- The grain of a class's darn: 0 frame, 1 servo tick, 2 plan tick (R442). -/
def darnGrain (c : Nat) : Nat := if c = 4 then 1 else if c = 5 then 2 else 0

/-- The request at the head leaves the queue; its descriptors complete. -/
def darnClose (s : State) (status detail : Nat) : State :=
  match s.hlt.queue with
  | [] => s
  | r :: t =>
    let s := modHlt s fun h => { h with queue := t }
    r.accs.foldl (fun s a => complete s a status 0 detail) s

/-- DARN_START (R451): slot 1 is FREE and a request waits. A spare that is tested because its results differed in this request's
last press is not taken again before the test ends (R453). The device has settled in a mode other than DORMANT (R453). -/
def darnStart (s : State) : State :=
  match s.hlt.queue with
  | [] => s
  | r :: _ =>
    if (pressAt s 1).phase ≠ .free ∨ darnOpen s = true ∨ s.md.mode = .dormant ∨ s.md.mode = .boot ∨
       s.time.frame ≤ s.md.changeFrame then s
    else if serves s r.cls r.worn = false then darnClose s stNORES 0
    else
      let s := ledgerMark s
      let all := darnSpares s r.cls
      let spares := all.filter fun sp => !(s.hlt.tests.any fun t => decide (t.cls = r.cls) && decide (t.inst = sp) && decide (t.bar = some r.worn))
      let spare := match r.spare with
        | some sp => if spares.contains sp then some sp else spares.head?
        | none => spares.head?
      match spare with
      | none => if all = [] then noSpareReact (darnClose s stNORES 0) r.cls r.worn r.failed else s
      | some sp =>
        let s := (s.hlt.tests.filter fun t => decide (t.cls = r.cls) && (decide (t.inst = sp) || decide (t.spare = some sp))).foldl testDrop s
        let cold := servesNothing s r.cls r.worn
        let need := if cold then 0 else shadowNeed s r.cls r.worn
        let s := modHlt s fun h => { h with darn := some (r, sp, 0, need, if cold then 2 else 1), prog := [] }
        let s := if cold then s else shadowStart s r.cls sp r.worn
        let s := modPress s 1 fun p =>
          { phase := .armed, owner := 25, kind := 0, members := [.darn r.cls r.worn sp], axis := 0, grain := darnGrain r.cls,
            armFrame := s.time.frame, armElapsed := s.time.elapsed, lastCommitted := p.lastCommitted, lastReason := p.lastReason,
            lastFrame := p.lastFrame }
        raise s .hltDarnStarted 0 (origin (tyOf r.cls) r.worn + origin (tyOf r.cls) sp * 4294967296) (origin (tyOf r.cls) r.worn)

/-- The open darn's shadow requirement is met (R442), and neither of its parts is HALTED (R453, R533). -/
def darnReady (s : State) : Bool :=
  match s.hlt.darn with
  | some (r, sp, met, need, ph) =>
    decide (ph ≠ 4) && decide (need ≤ met) && !partHalted s r.cls r.worn && !partHalted s r.cls sp
  | none => false

/-- The darn press has become READY: the pending record (R455). -/
def darnPending (s : State) : State :=
  ledgerWrite (modHlt s fun h => { h with darn := h.darn.map fun e => (e.1, e.2.1, e.2.2.1, e.2.2.2.1, 2) })

/-- The spare takes the worn instance's place (R179, R206, R285, R452). -/
def takeover (s : State) (c worn spare : Nat) : State :=
  match c with
  | 1 =>
    let v := convAt s worn
    let s := modConv (convSettings s spare worn) spare fun x => { v with calReq := x.calReq, calBusy := x.calBusy, calSince := x.calSince, calAccs := x.calAccs, corr := x.corr }
    let s := v.calAccs.foldl (fun s a => complete s a stBUSY 0 0) s
    let s := modCnv s fun x => { x with convs := mdel x.convs worn }
    match logConv s worn with
    | some n => modHlt s fun h => { h with cnvMap := setBits h.cnvMap (4 * n) 4 spare }
    | none => s
  | 2 =>
    let slot := ((List.range 520).find? fun k => decide (physPair s k = worn)).getD worn
    modCnv s fun x => { x with pairMap := mput x.pairMap slot spare }
  | 3 => swTakeover s worn spare
  | 4 => setReg (drvTakeover s worn spare) (0x100004 + 0x4000 * spare) (reg s (0x100004 + 0x4000 * worn))
  | _ => laneTakeover s worn spare

/-- The staged members that name a darned core by DRV_SWAP, DRV_BIND or DRV_PARAM act on the core that serves in its place (R459). -/
def movesCore (s : State) (worn spare : Nat) : State :=
  { s with presses := s.presses.map fun e => (e.1, { e.2 with members := e.2.members.map fun m =>
      match m with
      | .desc a h =>
        if [0x0701, 0x0702, 0x0703].contains a.op ∧ pf a.d 16 1 = worn then
          .desc { a with d := { a.d with payload := BitVec.ofNat 384 (setBits a.d.payload.toNat 0 8 spare) } } h
        else .desc a h
      | x => x }) }

/-- The darn press commits (R451): takeover, states, counters, events, the end of the request; the commit mark of the ledger follows
(R455). -/
def darnCommit (s : State) (c worn spare : Nat) : State :=
  let ow := origin (tyOf c) worn
  let os := origin (tyOf c) spare
  let s := takeover s c worn spare
  let s := modInst (modInst s c worn fun x => { x with code := 3 }) c spare fun x => { x with code := 2 }
  let s := modHlt (logAdd s 1 0 ow os (instAt s c worn).wear) fun h =>
    { h with darn := h.darn.map fun e => (e.1, e.2.1, e.2.2.1, e.2.2.2.1, 3) }
  let s := bump (bump s 0x250014) (0x25010C + 0x10 * c)
  let s := if c = 4 then movesCore s worn spare else s
  let s := raise s .hltDarned 0 (ow + os * 4294967296) ow
  let s := if darnSpares s c = [] then raise s .spareExhausted 0 (os + tyOf c * 4294967296) os else s
  darnClose s stOK (os + s.time.frame % 4294967296 * 4294967296)

/-- The darn press aborts (R453): a mismatch tests the spare and tries the next one, three drop the request; MODE and WAIT try the
same spare again; any other reason drops it. -/
def darnAborted (s : State) (reason : Nat) : State :=
  match s.hlt.darn, s.hlt.queue with
  | some (r, sp, _), q :: t =>
    let o := origin (tyOf r.cls) r.worn
    let s := modHlt (shadowStop s r.cls sp) fun h => { h with darn := none, prog := [] }
    let s := logAdd s 2 reason o (origin (tyOf r.cls) sp) (instAt s r.cls r.worn).wear
    let n := if reason = 12 then q.aborts + 1 else q.aborts
    let detail := o + (reason + 256 * n) * 4294967296
    let s := if reason = 12 then
        let t : TestRun := { cls := r.cls, inst := sp, spare := none, acc := none, bar := if n < 3 then some r.worn else none }
        modHlt s fun h => { h with tests := h.tests ++ [t] }
      else s
    if (reason = 12 ∧ n < 3) ∨ reason = 9 ∨ reason = 10 then
      let s := modHlt s fun h => { h with queue := { q with aborts := n, spare := if reason = 12 then none else some sp } :: t }
      raise s .hltDarnAborted 0 detail o
    else
      darnClose (report s { rep .hltDarnAborted 0 detail o with cls := 2 }) 7 (reason * 4294967296)
  | _, _ => modHlt s fun h => { h with darn := none, prog := [] }

/-! ### Boot (R456) -/

/-- The instances take the states of the ledger's good copy, or their reset states when neither copy is good. -/
def ledgerApply (s : State) : State :=
  if s.hlt.ledger.bad then
    raise s .hltLedgerErr 0 (oHLT + 4294967296) oHLT
  else
    let l := s.hlt.ledger
    let s := modHlt s fun h => { h with insts := l.insts, cnvMap := l.cnvMap }
    let s := l.thresh.foldl (fun s e => setReg s (0x250104 + 0x10 * e.1) e.2) s
    let s := modCnv (modSol s fun x => { x with lmap := l.lmap }) fun x => { x with pairMap := l.pairMap }
    (List.range 32).foldl (fun s i => if retired s 0 i then modLane s (i / 2) (decide (i % 2 = 1)) fun x => { x with retired := true } else s) s

end Sys2Proof.Machine
end

