-- ==== Sys2Proof/Machine/Care.lean ====
section
/-!
DEFINITION. The Care Label (R418 to R428): its header, records, instance state maps, limits and head table as a function of the
state, and its updates. The places of the maps and of the head table behind the records are a DESIGN CHOICE: the header and the
records name them.
-/
namespace Sys2Proof.Machine

/-- A record of R422: TYPE, BASE, WINDOW, STRIDE, INSTANCES, PARENT, DIVISOR, VF. -/
structure CareRow where
  ty : Nat
  base : Nat
  window : Nat
  stride : Nat
  count : Nat
  parent : Nat
  divisor : Nat
  vf : Bool
deriving DecidableEq, Repr

/-- No register block. -/
def careNone : Nat := 0xFFFFFFFF

/-- The records of R422 in order, LIMITS apart. -/
def careRows : List CareRow :=
  [ ⟨0x01, careNone, careNone, 0, 1, 0xFFFF, 0, false⟩
  , ⟨0x02, 0, 0, 0, 1, 1, 0, true⟩
  , ⟨0x03, 0x10000, 0x10000, 0, 1, 1, 0, false⟩
  , ⟨0x04, 0x20000, 0x20000, 0, 1, 1, 0, false⟩
  , ⟨0x05, 0x30000, 0x30100, 0x40, 16, 1, 0, true⟩
  , ⟨0x06, 0x40000, 0x40000, 0, 1, 1, 0, false⟩
  , ⟨0x07, careNone, 0x50000, 0x1000, 4, 6, 0, false⟩
  , ⟨0x08, careNone, 0x60000, 0x1000, 16, 1, 0, false⟩
  , ⟨0x09, careNone, careNone, 0, 32, 8, 2, false⟩
  , ⟨0x0A, careNone, careNone, 0, 128, 8, 8, false⟩
  , ⟨0x0B, 0x80000, 0x80100, 0x40, 9, 1, 0, false⟩
  , ⟨0x0C, 0x90000, 0x91000, 0x10, 552, 1, 0, false⟩
  , ⟨0x0D, 0xA0000, 0xA1000, 0x40, 136, 1, 0, false⟩
  , ⟨0x0E, 0xC0000, 0xC1000, 0x100, 144, 1, 0, false⟩
  , ⟨0x0F, careNone, 0x100000, 0x4000, 18, 1, 0, false⟩ ] ++
  [ ⟨0x10, 0x180000, 0x181000, 0x40, 256, 1, 0, false⟩
  , ⟨0x11, 0x1A0000, 0x1B0000, 0x400, 208, 1, 0, false⟩
  , ⟨0x12, 0x200000, 0x200400, 0x40, 16, 1, 0, false⟩
  , ⟨0x13, 0x210000, 0x210000, 0, 1, 1, 0, false⟩
  , ⟨0x14, careNone, careNone, 0, 64, 0x13, 0, false⟩
  , ⟨0x15, 0x220000, 0x220100, 0x40, 16, 1, 0, false⟩
  , ⟨0x16, 0x230000, 0x230000, 0, 1, 1, 0, false⟩
  , ⟨0x17, 0x240000, 0x240000, 0, 1, 1, 0, false⟩
  , ⟨0x18, 0x250000, 0x250000, 0, 1, 1, 0, false⟩
  , ⟨0x19, 0x260000, 0x260000, 0, 1, 1, 0, false⟩
  , ⟨0x1A, 0x270000, 0x270000, 0, 1, 1, 0, false⟩
  , ⟨0x1B, careNone, careNone, 0, 4, 1, 0, false⟩
  , ⟨0x1C, careNone, careNone, 0, 8, 0x16, 0, false⟩ ]

/-- The TYPEs that carry an instance state map, in record order (R422). -/
def careMapped : List Nat := [0x09, 0x0A, 0x0B, 0x0C, 0x0E, 0x0F, 0x11]

/-- The state code of an instance (R421): a lost head reads 0b11. -/
def careCode (s : State) (ty i : Nat) : Nat :=
  if ty = 0x0A then (if (headAt s (i / 8) (i % 8 + 1)).lost then 3 else 0)
  else
    match classOfTy ty with
    | some c => (instAt s c i).code
    | none => 0

/-- The bytes of an instance state map: 2 bits for each instance, padded to whole words (R421). -/
def careMap (s : State) (ty n : Nat) : List Byte :=
  leBytes (4 * ceilDiv (2 * n) 32) ((List.range n).foldl (fun a i => a + careCode s ty i * 4 ^ i) 0)

/-- Offset of the first map: after the header, the records and LIMITS. -/
def careMapsAt : Nat := 64 + 32 * (careRows.length + 1)

/-- Bytes of a TYPE's map. -/
def careMapLen (r : CareRow) : Nat := if careMapped.contains r.ty then 4 * ceilDiv (2 * r.count) 32 else 0

/-- Offset of a TYPE's map, 0 for none. -/
def careMapOff (ty : Nat) : Nat :=
  if careMapped.contains ty then
    careMapsAt + ((careRows.filter fun r => decide (r.ty < ty)).map careMapLen).foldl (· + ·) 0
  else 0

/-- Offset of the head table. -/
def careHeadsAt : Nat := careMapsAt + (careRows.map careMapLen).foldl (· + ·) 0

/-- LENGTH: the head table's end. -/
def careLength : Nat := careHeadsAt + 8 * 128

/-- A record's 32 bytes (R420). -/
def careRecord (s : State) (r : CareRow) : List Byte :=
  let mapped := careMapped.contains r.ty
  let codes := if mapped then (List.range r.count).map (careCode s r.ty) else []
  let served := if mapped then (codes.filter fun k => decide (k = 0) || decide (k = 2)).length else r.count
  let spares := (codes.filter fun k => decide (k = 1)).length
  leBytes 2 r.ty ++ leBytes 2 (Config.blockVersion r.ty) ++ leBytes 2 r.count ++ leBytes 2 served ++ leBytes 2 spares ++
    leBytes 2 r.parent ++ leBytes 2 r.divisor ++ leBytes 2 (b2n r.vf) ++ leBytes 4 r.base ++ leBytes 4 r.window ++
    leBytes 4 r.stride ++ leBytes 4 (careMapOff r.ty)

/-- Branches placed by the placement in force (R424). -/
def branchesPlaced (s : State) : Nat :=
  ((ladderBranches s s.pln.level).filter fun (e : Nat × Nat × Nat) => (probAt s e.2.2).bound.isSome).length

/-- Logical lanes in gangs of a role. -/
def lanesOfRole (s : State) (role : Nat) : Nat := ((gangsOf s role).map fun l => (gangAt s l).size).foldl (· + ·) 0

/-- How many instances of a class serve. -/
def servingCount (s : State) (c : Nat) : Nat := ((List.range (instances c)).filter fun i => serves s c i).length

/-- The LIMITS record (R424, R425). -/
def careLimits (s : State) : List Byte :=
  leBytes 2 0x0100 ++ leBytes 2 0x0100 ++ leBytes 2 (192 - lanesLost s) ++ leBytes 2 (lanesOfRole s 2) ++
    leBytes 2 (lanesOfRole s 1) ++ leBytes 1 s.pln.level ++ leBytes 1 (if s.pln.level ≤ 2 then 8 else 2) ++
    leBytes 2 (branchesPlaced s) ++ leBytes 1 (servingCount s 4) ++ leBytes 1 (servingCount s 1) ++
    leBytes 2 (servingCount s 3) ++ leBytes 2 (servingCount s 2) ++ leBytes 4 careHeadsAt ++ leBytes 2 128 ++ leBytes 2 8 ++
    leBytes 4 0

/-- The prediction span of a head when every cell arrives valid on a lane (R167, R426): the newest cell usable at a boundary. -/
def laneSpan (x : RPort) (h : Head) (b : Bool) : Int :=
  let age := (laneOf x b).lap + 1636000000
  let n := -(Int.fdiv (-age) 1600000000)
  64 * (n + 1) - 8 * (if b then h.sB else h.sA)

/-- An entry of the head table (R426). -/
def careHead (s : State) (i : Nat) : List Byte :=
  let p := i / 8
  let c := i % 8 + 1
  let x := portAt s p
  let h := headAt s p c
  if x.present.contains c && h.timed then
    let ra := laneReaches x c false
    let rb := laneReaches x c true
    let age (b : Bool) : Nat := satU 16 (roundDiv (cellAge x h c b * 16) slotQ).toNat
    let span := if ra && rb then (let a := laneSpan x h false; let b := laneSpan x h true; if b < a then b else a)
      else if ra then laneSpan x h false else if rb then laneSpan x h true else 0
    leBytes 2 (if ra then age false else 0) ++ leBytes 2 (if rb then age true else 0) ++ leBytes 2 (satU 16 span.toNat) ++
      leBytes 1 (1 + 2 * b2n (primaryLane x c) + 4 * b2n ra + 8 * b2n rb) ++ [0]
  else List.replicate 8 0

/-- The Care Label's bytes as PF0 sees them, with 0 in its CRC field (R418). -/
def careTable (s : State) : List Byte :=
  leBytes 4 0x45524143 ++ leBytes 2 0x0100 ++ leBytes 2 64 ++ leBytes 4 careLength ++ leBytes 4 0 ++ leBytes 4 s.care.gen ++
    leBytes 4 (0x4B16 + 65536 * (Config.stepping % 256)) ++ leBytes 4 Config.firmwareVersion ++ leBytes 2 Config.klib ++
    [0, 0] ++ leBytes 2 (careRows.length + 1) ++ leBytes 2 64 ++ List.replicate 28 0 ++
    (careRows.flatMap (careRecord s)) ++ careLimits s ++
    ((careRows.filter fun r => careMapped.contains r.ty).flatMap fun r => careMap s r.ty r.count) ++
    ((List.range 128).flatMap (careHead s))

/-- A word of the Care Label as a function reads it, which differs from PF0's in FUNCTION and CRC alone (R428): 0 beyond LENGTH and while
the table is not built (R418, R419). -/
def careWord (s : State) (fn off : Nat) : Nat :=
  if s.care.built = false ∨ careLength ≤ off then 0
  else
    let t := s.care.image.set 30 (BitVec.ofNat 8 fn)
    if off = 12 then crc32 t else leNat (takeBytes t off 4)

/-! ### Updates (R427) -/

/-- What the updates follow. -/
def careSigOf (s : State) : CareSig :=
  { insts := s.hlt.insts.map fun (e : Nat × Inst) => (e.1, e.2.code),
    lost := mkeys s.sol.lmap fun _ x => x.2,
    gangs := s.sol.gangs.filterMap fun (e : Nat × Gang) =>
      if e.2.role = 1 ∨ e.2.role = 2 then some (e.1, e.2.role, e.2.size) else none,
    level := s.pln.level, placed := s.pln.placed,
    ports := (List.range 16).map fun p =>
      let x := portAt s p
      (decide (x.st = 5), x.breakSeg, [x.a.up, x.b.up], [x.a.retired, x.b.retired], mkeys x.heads fun _ h => h.lost),
    rings := (List.range 16).map fun p => ((portAt s p).broken, (portAt s p).present) }

/-- The TYPEs whose records change between two states of what R427 names; a change that only moves limits or head entries counts
as LIMITS. -/
def careChanged (old new : CareSig) : List Nat :=
  let code (l : List (Nat × Nat)) (k : Nat) : Option Nat := (l.find? fun e => decide (e.1 = k)).map fun e => e.2
  let moved := (new.insts.filter fun e => match code old.insts e.1 with
    | some v => decide (v ≠ e.2)
    | none => decide (e.2 ≠ (if firstSpare ((classOfTy (e.1 / 65536)).getD 0) ≤ e.1 % 65536 then 1 else 0))).map fun e => e.1 / 65536
  let heads := (old.ports.zip new.ports).any fun e => decide (e.1.2.2.2.2 ≠ e.2.2.2.2.2)
  let ports := (old.ports.zip new.ports).any fun e =>
    (!e.1.1 && e.2.1) || decide (e.1.2.1 ≠ e.2.2.1) || decide (e.1.2.2.2.1 ≠ e.2.2.2.2.1) ||
      ((e.1.2.2.1.zip e.2.2.2.1).any fun u => u.1 && !u.2)
  let rings := ((old.rings.zip new.rings).zip (old.ports.zip new.ports)).any fun e =>
    decide (e.1.1.1 ≠ e.1.2.1) || (e.2.1.1 && e.2.2.1 && decide (e.1.1.2 ≠ e.1.2.2))
  let other := rings || decide (old.lost ≠ new.lost) || decide (old.gangs ≠ new.gangs) || decide (old.level ≠ new.level) ||
    decide (old.placed ≠ new.placed)
  moved ++ (if heads then [0x0A] else []) ++ (if ports || other then [0x100] else [])

/-- The table is written anew, under a GEN. -/
def careWrite (s : State) (gen : Nat) : State :=
  let s := { s with care := { s.care with gen := gen } }
  { s with care := { s.care with image := careTable s } }

/-- The update of the frame, when it ends (R427): GEN passes an odd value to the next even one, and one event names it. -/
def careUpdate (s : State) : State :=
  let now := careSigOf s
  if s.care.built = false ∨ s.care.sig = now then s
  else
    let l := sortBy (fun a b => decide (a < b)) (careChanged s.care.sig now)
    let s := { s with care := { s.care with sig := now } }
    match l with
    | [] => s
    | t :: _ =>
      let gen := (s.care.gen + 2) % 4294967296
      raise (careWrite s gen) .careUpdated 0 (gen + t * 4294967296) (blockOrigin 0x02)

/-- Firmware builds the table (R419, R504): it is valid from now on. -/
def careBuild (s : State) : State := careWrite { s with care := { s.care with built := true, sig := careSigOf s } } s.care.gen

end Sys2Proof.Machine
end

