-- ==== Sys2Proof/Machine/Mailbox.lean ====
section
/-!
DEFINITION. Mailboxes (R429 to R435), lock registers (R436 to R438), and what meets in one cycle (R439).
-/
namespace Sys2Proof.Machine

/-- MBX and LCK origin (R471). -/
def oMBX : Nat := blockOrigin 0x17

/-- The requester reaches the window (R429). -/
def mbxReach (req : Nat) : Bool := decide (19 ≤ req ∧ req ≤ 25) || decide (req = 32)

/-- A signal reaches a requester (R433): an interrupt of a supervisor core, an event record of PF0, nothing for another. -/
def signal (s : State) (req kind box : Nat) (e : Event) (detail : Nat) : State :=
  if 19 ≤ req ∧ req ≤ 22 then
    modFlt s fun f =>
      let c := mgetD f.sup (req - 19) {}
      { f with sup := mput f.sup (req - 19) { c with signals := c.signals + 1, lastSignal := (kind, box) } }
  else if req = 32 then raise s e (handleOf s cMBOX box) detail oMBX
  else s

def boxAt (s : State) (n : Nat) : Mbox := mgetD s.mbx.boxes n { shared := false, receiver := 0, sender := 0, arrive := false }
def modBox (s : State) (n : Nat) (f : Mbox → Mbox) : State := modMbx s fun m => { m with boxes := mmod m.boxes n f }

/-- Sets a requester's MBX_TXSTAT. -/
def txstat (s : State) (req st box : Nat) : State := modMbx s fun m => { m with txstat := mput m.txstat req (st, box) }

/-- The mailbox admits the requester (R431). -/
def admits (b : Mbox) (req : Nat) : Bool := if b.shared then mbxReach req else decide (b.sender = req)

/-- Copies a message into an empty slot: stamps the sender and WALL32, and signals an arrival (R431, R430 ARRIVE). -/
def deliverMsg (s : State) (n req : Nat) (words : List Nat) (notify : Bool) : State :=
  let w := wall32 s
  let s := modBox s n fun b => { b with full := true, words := words, from_ := req, stamp := w, notify := notify }
  let s := txstat s req 1 n
  let b := boxAt s n
  if b.arrive then signal s b.receiver 1 n .mbxArrived (req + w * 4294967296) else s

/-- The eight words a requester has staged. -/
def stagedWords (s : State) (req : Nat) : List Nat := (List.range 8).map fun w => regAt s (0x240010 + 4 * w) req

/-- The waiting sends on a mailbox, oldest first. -/
def waitersOf (s : State) (n : Nat) : List Waiting := s.mbx.waits.filter fun w => decide (w.mbox = n)

/-- Order of waiting sends: the older first, sends of one cycle by requester ID from the lowest (R432, R437). -/
def oldestWaiter (s : State) (n : Nat) : Option Waiting :=
  (waitersOf s n).foldl (fun b w => match b with
    | none => some w
    | some x => if w.since < x.since ∨ (w.since = x.since ∧ w.req < x.req) then some w else some x) none

/-- Two mailboxes are crossed (R435): both full, each receiver holding the oldest wait of the other. The instant from which they
are crossed is the start of the later wait. -/
def crossedSince (s : State) (a b : Nat) : Option Nat :=
  let x := boxAt s a
  let y := boxAt s b
  match oldestWaiter s a, oldestWaiter s b with
  | some wa, some wb =>
    if a ≠ b ∧ x.full = true ∧ y.full = true ∧ wa.req = y.receiver ∧ wb.req = x.receiver then some (Nat.max wa.since wb.since) else none
  | _, _ => none

/-- The mailbox is one of two that are crossed (R435). -/
def crossedNow (s : State) (n : Nat) : Bool := s.mbx.boxes.any fun e => (crossedSince s n e.1).isSome

/-- The requester reads a value. -/
def readBack (s : State) (req v : Nat) : State := modHost s fun h => { h with readBack := mput h.readBack req v }

/-- A send becomes the requester's waiting send (R431). -/
def waitSend (s : State) (req n : Nat) (words : List Nat) (notify : Bool) : State :=
  txstat (modMbx s fun m =>
    { m with waits := m.waits ++ [{ req := req, mbox := n, words := words, notify := notify, since := s.time.elapsed }] }) req 2 n

/-- A send finds the mailbox full (R431). -/
def sendFull (s : State) (req n : Nat) (words : List Nat) (wait notify : Bool) : State :=
  if wait then waitSend s req n words notify else txstat s req 3 n

/-- The message of a later requester, sent to the empty mailbox in this cycle, yields its place to a sender before it (R437, R439). The
arrival has been signalled already. -/
def displace (s : State) (req n : Nat) (words : List Nat) (wait notify : Bool) (b : Mbox) (wasWait : Bool) : State :=
  let s := modBox s n fun b => { b with words := words, from_ := req, notify := notify, sentAt := some (instant s, wait) }
  sendFull (txstat s req 1 n) b.from_ n b.words wasWait b.notify

/-- A send in the cycle in which the message is taken finds the mailbox full; a waiting one hears that FULL clears, and is delivered in the
next cycle when no other waits (R432, R439). -/
def sendAtTake (s : State) (req n : Nat) (words : List Nat) (wait notify : Bool) : State :=
  let s := sendFull s req n words wait notify
  if wait then
    signal (modBox s n fun b => { b with deliverDue := some (b.deliverDue.getD (instant s)) }) req 3 n .mbxEmpty 2
  else s

/-- MBX_SEND (R431, R437, R439). -/
def mbxSend (s : State) (req n word : Nat) : State :=
  if !(mbxReach req) then s
  else if s.mbx.waits.any fun w => decide (w.req = req) then txstat s req 5 n
  else
    match mget s.mbx.boxes n with
    | none => txstat s req 4 n
    | some b =>
      if 3 < word ∨ admits b req = false then txstat s req 4 n
      else
        let words := stagedWords s req
        let wait := bit word 0
        let notify := bit word 1
        if b.full then
          match b.sentAt with
          | some (t, w) => if t = instant s ∧ req < b.from_ then displace s req n words wait notify b w else sendFull s req n words wait notify
          | none => sendFull s req n words wait notify
        else if b.takenAt = some (instant s) then sendAtTake s req n words wait notify
        else if b.deliverDue.isSome then sendFull s req n words wait notify
        else modBox (deliverMsg s n req words notify) n fun b => { b with sentAt := some (instant s, wait) }

/-- MBX_TXCANCEL (R431). The withdrawal of a mailbox's oldest waiting send ends a crossing of it (R435), that of its last one a delivery
that was due. -/
def mbxCancel (s : State) (req : Nat) : State :=
  match s.mbx.waits.find? fun w => decide (w.req = req) with
  | some w =>
    let t := if oldestWaiter s w.mbox = some w then modBox s w.mbox fun b => { b with crossed := none } else s
    let t := modMbx t fun m => { m with waits := m.waits.filter fun x => decide (x.req ≠ req) }
    txstat (if waitersOf t w.mbox = [] then modBox t w.mbox fun b => { b with deliverDue := none } else t) req 6 w.mbox
  | none => s

/-- The receiver's read of RX7 takes the message: FULL clears, the empty signals go, and the oldest waiting send is delivered in
the next cycle (R432). The read returns word 7 and clears it (R5, R440); another requester reads 0 and takes nothing. -/
def mbxTake (s : State) (req n : Nat) : State :=
  let b := boxAt s n
  if mbxReach req ∧ mhas s.mbx.boxes n = true ∧ b.receiver = req ∧ b.full = true then
    let s := readBack s req (b.words.getD 7 0)
    let ws := waitersOf s n
    let due := if ws.isEmpty then none else some (instant s)
    let s := modBox s n fun b =>
      { b with full := false, words := b.words.set 7 0, takenAt := some (instant s), deliverDue := due, crossed := none }
    let s := if b.notify then signal s b.from_ 2 n .mbxEmpty 1 else s
    ws.foldl (fun s w => signal s w.req 3 n .mbxEmpty 2) s
  else readBack s req (if mbxReach req ∧ b.receiver = req then b.words.getD 7 0 else 0)

/-- The oldest waiting send of a mailbox is delivered, in the cycle after FULL cleared (R432). -/
def mbxDeliver (s : State) (n : Nat) : State :=
  let s := modBox s n fun b => { b with deliverDue := none, sentAt := none }
  match oldestWaiter s n with
  | some w =>
    let s := modMbx s fun m => { m with waits := m.waits.filter fun x => decide (x.req ≠ w.req) }
    deliverMsg s n w.req w.words w.notify
  | none => s

/-- The mailboxes whose delivery was due in the cycle after one that has passed. -/
def deliveriesDue (s : State) : List Nat := mkeys s.mbx.boxes fun _ b => b.deliverDue.any (· < instant s)

/-- Deliveries whose cycle has come (R432). -/
def mbxPump (s : State) : State := (deliveriesDue s).foldl mbxDeliver s

/-- Control cycles pass: waiting sends are delivered in the first of them (R432). -/
def passTo (s : State) (n : Nat) : State :=
  if 0 < n ∧ (s.mbx.boxes.any fun e => e.2.deliverDue.isSome) = true then passCycles (mbxPump (passCycles s 1)) (n - 1) else passCycles s n

/-- MBX_WAITING_DELIVERY: the cycle after the mailbox empties, when it lies in the same frame (R432). -/
def mbxNext (s : State) (n : Nat) : State :=
  if (boxAt s n).deliverDue = some (instant s) ∧ s.time.cycle < 63 ∧ clockRuns s = true then passTo s 1 else s

/-- MBX_CROSS_EXPIRY (R435). -/
def mbxCross (s : State) (a b : Nat) : State :=
  match crossedSince s a b with
  | some t =>
    if t + 4 * usU ≤ s.time.elapsed ∧ ¬((boxAt s a).crossed = some b ∧ (boxAt s b).crossed = some a) then
      let s := modBox (modBox s a fun x => { x with crossed := some b }) b fun x => { x with crossed := some a }
      let s := bump s 0x240004
      let s := signal s (boxAt s a).receiver 4 a .mbxCross (handleOf s cMBOX b * 4294967296)
      signal s (boxAt s b).receiver 4 b .mbxCross (handleOf s cMBOX a * 4294967296)
    else s
  | none => s

/-- MBOX_CREATE's own rules (R430). -/
def mboxCheck (s : State) (a : Acc) : Option Refuse :=
  let d := a.d
  let k := pf d 16 1
  let r := pf d 17 1
  let x := pf d 18 1
  let okRx := decide (19 ≤ r ∧ r ≤ 22) || decide (r = 32)
  let okTx := if k = 1 then (decide (19 ≤ x ∧ x ≤ 25) || decide (x = 32)) && decide (x ≠ r) else decide (x = 0)
  firstRefuse [
    (decide (32 < a.req), rDENIED),
    (decide (k ≠ 1 ∧ k ≠ 2) || !okRx || !okTx || decide (1 < pf d 19 1) || !(onlyBytes d [(16, 4)]), rRANGE),
    (!(hasFree s cMBOX), rNORES)]

/-- The record of a new mailbox. -/
def mboxOf (d : Desc) : Mbox :=
  { shared := decide (pf d 16 1 = 2), receiver := pf d 17 1, sender := pf d 18 1, arrive := decide (pf d 19 1 = 1) }

/-! ### Locks -/

def lockAt (s : State) (n : Nat) : Nat := mgetD s.mbx.locks n 0
def setLock (s : State) (n v : Nat) : State := modMbx s fun m => { m with locks := mput m.locks n v }

/-- The owner's freeing write fell in this control cycle (R436). -/
def freedNow (s : State) (n : Nat) : Option Nat :=
  (s.mbx.freed.find? fun f => decide (f.1 = n ∧ f.2.2 = instant s)).map fun f => f.2.1

/-- The value held: an owner's freeing write frees the lock from the next cycle on (R436). -/
def lockHeld (s : State) (n : Nat) : Nat := (freedNow s n).getD (lockAt s n)

/-- The first reader at or after the pointer, counting from 1 to 47 and wrapping (R437). -/
def grantOf (readers : List Nat) (ptr : Nat) : Option Nat :=
  ((List.range 47).map fun k => (ptr - 1 + k) % 47 + 1).find? fun i => readers.contains i

/-- Every reader of the set gets a value; one outside the window reads 0 (R429). -/
def answerAll (s : State) (readers : List Nat) (v : Nat → Nat) : State :=
  readers.foldl (fun s r => readBack s r (if mbxReach r then v r else 0)) s

/-- A lock that was free when the cycle began goes to one of its readers: that one reads 0 and every other the winner's ID, and the pointer
moves past the winner when several have read (R437). -/
def lockGrant (s : State) (n : Nat) (readers : List Nat) (ptr w : Nat) : State :=
  let s := modMbx (setLock s n w) fun m =>
    { m with rot := if 1 < readers.length then mput m.rot n (if w = 47 then 1 else w + 1) else m.rot,
             turns := (n, instant s, readers, ptr) :: m.turns.filter fun t => decide (t.1 ≠ n) && decide (t.2.1 = instant s) }
  answerAll s readers fun r => if r = w then 0 else w

/-- The readers so far of a lock that was free when this cycle began, and its pointer then. -/
def turnOf (s : State) (n : Nat) : Option (List Nat × Nat) :=
  (s.mbx.turns.find? fun t => decide (t.1 = n ∧ t.2.1 = instant s)).map fun t => t.2.2

/-- LCK_READ: `req` and the requesters of the set read lock `n` in one cycle. Reads of a cycle decide together, whatever their commands
(R436, R437). -/
def lockRead (s : State) (req others n : Nat) : State :=
  let all := dedup (req :: maskList others 64)
  let readers := all.filter mbxReach
  match freedNow s n with
  | some o => answerAll s all fun _ => o
  | none =>
    let free := match turnOf s n with
      | some (rs, ptr) => some (dedup (rs ++ readers), ptr)
      | none => if lockAt s n = 0 then some (readers, mgetD s.mbx.rot n 1) else none
    match free with
    | none => answerAll s all fun _ => lockAt s n
    | some (rs, ptr) =>
      match grantOf rs ptr with
      | none => answerAll s all fun _ => 0
      | some w => lockGrant (answerAll s all fun _ => 0) n rs ptr w

/-- LCK_WRITE (R436). -/
def lockWrite (s : State) (req n v : Nat) : State :=
  if !(mbxReach req) then s
  else if v = 0 ∧ lockHeld s n = req then
    modMbx (setLock s n 0) fun m => { m with freed := (n, req, instant s) :: m.freed.filter fun f => decide (f.2.2 = instant s) }
  else bump s 0x248204

/-- LCK_BREAK by PF0 (R438, R439). -/
def lockBreak (s : State) (req n : Nat) : State :=
  if req = 32 then
    raise (setLock s n 0) .lckBroken 0 (n + lockHeld s n * 256) oMBX
  else s

/-- Every lock a requester holds is freed (R438). -/
def freeLocksOf (s : State) (req : Nat) : State :=
  modMbx s fun m => { m with locks := m.locks.map fun e => if e.2 = req then (e.1, 0) else e }

/-- A requester's waiting send is withdrawn without a change of its MBX_TXSTAT's mailbox (R438). -/
def withdrawSend (s : State) (req : Nat) : State := mbxCancel s req

end Sys2Proof.Machine
end

