-- ==== Sys2Proof/Machine/Descs.lean ====
section
/-!
DEFINITION. What each descriptor that takes effect at a frame boundary checks and does (R30, R402, R403): its own rules, the
index a create takes, its effect; the destroy of every class (R29, R33); arms, joints, rings, routes, trace channels.
-/
namespace Sys2Proof.Machine

/-! ### Arms and joints (R12 to R17, R32, R403) -/

/-- ARM and JOINT objects come and go only in EMPTY, SAFE_OFF or SERVICE (R32). -/
def cellEdits (s : State) (r : Nat) : Bool :=
  match regionSt s r with
  | .empty => true
  | .safeOff => true
  | .service => true
  | _ => false

/-- ARM_CREATE's own rules, in order. -/
def armChecks (s : State) (a : Acc) : List (Bool × Refuse) :=
  let d := a.d
  [
    (decide (pf d 16 1 ≠ 1 ∧ pf d 16 1 ≠ 2) || decide (15 < pf d 17 1) || !(onlyBytes d [(16, 2)]), rRANGE),
    (!(cellEdits s (pf d 17 1)), rMODE),
    (!(hasFree s cARM), rNORES)]

/-- The first of them that refuses. -/
def armCheck (s : State) (a : Acc) : Option Refuse := firstRefuse (armChecks s a)

/-- R151 allows a full scale of 0 on the feedback channel: a serial type of 32 bits. -/
def zeroScale (s : State) (fb : Option Nat) : Bool :=
  match fb with
  | none => false
  | some f => serialType (fbAt s f).cfg.type && decide ((fbAt s f).cfg.stBits = 32)

/-- The scale record of a descriptor that carries one obeys R16, as it is checked when the descriptor is accepted. -/
def scaleAccepted (s : State) (a : Acc) : Bool :=
  let n := pf a.d 32 32
  match a.op with
  | 0x0400 => scaleOk n [1, 2] false
  | 0x0401 => scaleOk n [1, 2] false
  | 0x0004 => scaleOk n [3] (zeroScale s (if pf a.d 24 4 = 0 then none else some (hIdx (pf a.d 24 4))))
  | 0x0005 => scaleOk n [3] (zeroScale s ((mget s.joints (tIdx a.d)).bind fun j => j.fbch))
  | _ => true

/-- A joint may stand on the feedback channel with this scale record (R151, R156). -/
def scaleFits (s : State) (fb : Option Nat) (n : Nat) : Bool :=
  match fb with
  | none => scaleOk n [3] false
  | some f =>
    let c := (fbAt s f).cfg
    let sc := scaleOf n
    scaleOk n [3] (zeroScale s fb) &&
      (if serialType c.type then decide (sc.fullScale = 2 ^ c.stBits % 4294967296) else true) &&
      (if c.type = 2 then decide (sc.polePairs ≠ 0) else true)

/-- The joint at a head position (R14). -/
def jointAt (s : State) (port pos : Nat) : Option Nat :=
  (mkeys s.joints fun _ j => decide (j.port = port) && decide (j.pos = pos)).head?

/-- JOINT_CREATE's own rules, in order. -/
def jointChecks (s : State) (a : Acc) : List (Bool × Refuse) :=
  let d := a.d
  let arm := hIdx (pf d 16 4)
  let fb := if pf d 24 4 = 0 then none else some (hIdx (pf d 24 4))
  let holder := jointAt s (pf d 21 1) (pf d 22 1)
  let served := fb.bind (fbchJoint s)
  [
    (!(onlyBytes d [(16, 7), (24, 4), (32, 32)]) || decide (pf d 20 1 ≠ 1 ∧ pf d 20 1 ≠ 2) || decide (15 < pf d 21 1) ||
      decide (pf d 22 1 < 1 ∨ 8 < pf d 22 1) || !(scaleFits s fb (pf d 32 32)) ||
      decide (headChans s (pf d 21 1) (pf d 22 1) = []), rRANGE),
    (!((armRegion s arm).map (cellEdits s)).getD false, rMODE),
    (holder.isSome, rBUSY (handleOf? s cJOINT holder)),
    (served.isSome, rBUSY (handleOf? s cJOINT served)),
    (decide (16 ≤ (armJoints s arm).length) || (freeSwch s []).isNone || !(hasFree s cJOINT), rNORES)]

/-- The first of them that refuses. -/
def jointCheck (s : State) (a : Acc) : Option Refuse := firstRefuse (jointChecks s a)

/-- JOINT_SCALE_SET's own rules. -/
def scaleSetCheck (s : State) (a : Acc) : Option Refuse :=
  let fb := (mget s.joints (tIdx a.d)).bind fun j => j.fbch
  firstRefuse [(!(onlyBytes a.d [(32, 32)]) || !(scaleFits s fb (pf a.d 32 32)), rRANGE)]

/-- An arm is created; the first of its region takes the region to SAFE_OFF (R22). -/
def armNew (s : State) (d : Desc) (i : Nat) : State :=
  let r := pf d 17 1
  let s := { s with arms := mput s.arms i { aux := decide (pf d 16 1 = 2), region := r } }
  modRegion s r fun x => { x with st := if x.st = .empty then .safeOff else x.st, emptyDue := false }

/-- A joint is created: it joins its arm and takes a switching channel (R13, R15, R162). -/
def jointNew (s : State) (d : Desc) (i : Nat) : State :=
  let arm := hIdx (pf d 16 4)
  let c := (freeSwch s []).getD 0
  let step := decide (pf d 20 1 = 2)
  let j : Joint :=
    { arm := arm, stepper := step, port := pf d 21 1, pos := pf d 22 1,
      fbch := if pf d 24 4 = 0 then none else some (hIdx (pf d 24 4)), scale := scaleOf (pf d 32 32), swch := c }
  let s := { s with joints := mput s.joints i j, arms := mmod s.arms arm fun x => { x with joints := x.joints ++ [i] } }
  swBind s c i j.port j.pos step

/-- A joint's scale record is replaced whole (R17). -/
def scaleSet (s : State) (d : Desc) : State :=
  { s with joints := mmod s.joints (tIdx d) fun j => { j with scale := scaleOf (pf d 32 32) } }

/-- A region with no arm left becomes EMPTY, unless another cause has moved it in this frame (R22, R23). -/
def regionEmpties (s : State) (r : Nat) : State :=
  if s.arms.any fun e => decide (e.2.region = r) then s
  else if (regionAt s r).causeRank.isNone && (decide (regionSt s r = .safeOff) || decide (regionSt s r = .service)) then
    advanceGen (modRegion s r fun x => { x with st := .empty, emptyDue := false }) cREGION r
  else if regionSt s r = .empty then s else modRegion s r fun x => { x with emptyDue := true }

/-! ### Trace channels -/

/-- TRACE_TRIGGER's own rules (R491, R493). -/
def traceTriggerCheck (s : State) (a : Acc) : Option Refuse :=
  firstRefuse [
    (decide (1 < pf a.d 16 1) || !(onlyBytes a.d [(16, 1)]), rRANGE),
    (decide (pf a.d 16 1 = 1) && decide ((traceAt s (tIdx a.d)).st ≠ 4), (stBUSY, 0))]

/-- TRACE_TRIGGER takes effect. -/
def traceTrigger (s : State) (d : Desc) : State :=
  if pf d 16 1 = 1 then traceRearm s (tIdx d)
  else modTrace s (tIdx d) fun t => if t.trig = 0 then t else { t with cond := true }

/-! ### Rings and routes (R404, R410) -/

/-- Key of the free list of pairs or of event rings. -/
def ringClass (event : Bool) : Nat := if event then 101 else 100
/-- The next free index of a kind of ring (R29, R410). -/
def ringFree (s : State) (event : Bool) : Option (Nat × FreeList) :=
  let f := freeList s (ringClass event)
  let lim := if event then 64 else 240
  if f.fresh < lim then some (f.fresh + (if event then 256 else 16), { f with fresh := f.fresh + 1 })
  else match f.back with
    | [] => none
    | i :: t => some (i, { f with back := t })

/-- How many pairs (the admin pair apart) or event rings a function owns. -/
def ringsOwned (s : State) (f : Nat) (event : Bool) : Nat :=
  (s.host.rings.filter fun e => decide (e.2.st ≠ .down) && decide (e.2.owner = f) &&
    (if event then decide (256 ≤ e.1) else decide (16 ≤ e.1 ∧ e.1 < 256))).length

/-- RING_CREATE's own rules (R410). -/
def ringCreateCheck (s : State) (a : Acc) : Option Refuse :=
  let d := a.d
  let f := fnOf a.req
  let ev := decide (pf d 16 1 = 2)
  let quota := reg s (0x30120 + 0x40 * f)
  let q := if ev then bits quota 8 8 else bits quota 0 8
  firstRefuse [
    (decide (pf d 16 1 ≠ 1 ∧ pf d 16 1 ≠ 2) || !(onlyBytes d [(16, 24)]) || decide (pf d 24 8 % 4096 ≠ 0) ||
      decide ((if f = 0 then 63 else 15) < pf d 19 1) ||
      (if ev then decide (pf d 17 1 < 6 ∨ 16 < pf d 17 1) || decide (pf d 18 1 ≠ 0) || decide (pf d 20 1 ≠ 0) || decide (pf d 32 8 ≠ 0)
       else decide (pf d 17 1 < 4 ∨ 12 < pf d 17 1) || decide (pf d 18 1 < 4 ∨ 14 < pf d 18 1) || decide (16 < pf d 20 1) ||
         decide (pf d 32 8 % 4096 ≠ 0)), rRANGE),
    (decide (q ≤ ringsOwned s f ev) || (ringFree s ev).isNone, rNORES)]

/-- RING_CREATE takes effect: the ring comes UP, and its handle is returned. -/
def ringCreate (s : State) (a : Acc) : State × Nat :=
  let d := a.d
  let ev := decide (pf d 16 1 = 2)
  match ringFree s ev with
  | none => (s, 0)
  | some (i, f) =>
    let s := { s with frees := mput s.frees (ringClass ev) f }
    let x : Ring :=
      { st := .up, owner := fnOf a.req, vector := pf d 19 1, weight := if pf d 20 1 = 0 then 4 else pf d 20 1,
        coalCount := if pf d 21 1 = 0 then 1 else pf d 21 1, coalTimeUs := pf d 22 2, baseA := pf d 24 8, baseC := pf d 32 8,
        log2a := pf d 17 1, log2c := if ev then 4 else pf d 18 1, dbErr := (ringAt s i).dbErr }
    (modRing s i fun _ => x, handleOf s cRING i)

/-- EVENT_ROUTE's own rules (R404). -/
def routeCheck (_s : State) (a : Acc) : Option Refuse :=
  let d := a.d
  firstRefuse [
    (decide (7 < pf d 16 1) || decide (1 < pf d 17 1) || !(onlyBytes d [(16, 10)]), rRANGE),
    (decide (pf d 17 1 = 0) && decide (pf d 18 8 ≠ 0), rRANGE),
    (decide (511 < pf d 20 2) || decide (pf d 20 2 < pf d 18 2) || decide (5 < pf d 22 1) || decide (1 < pf d 23 1), rRANGE)]

/-- EVENT_ROUTE takes effect. -/
def routeSet (s : State) (d : Desc) : State :=
  modRing s (tIdx d) fun x =>
    { x with routes := if pf d 17 1 = 0 then mdel x.routes (pf d 16 1)
        else mput x.routes (pf d 16 1) { lo := pf d 18 2, hi := pf d 20 2, minClass := pf d 22 1, cell := decide (pf d 23 1 = 1),
                                         regions := pf d 24 2 } }

/-- A ring goes DOWN (R411, R412): its generation advances and the index joins the free list of its kind. -/
def ringDown (s : State) (i : Nat) : State :=
  let s := advanceGen s cRING i
  let ev := decide (256 ≤ i)
  let f := freeList s (ringClass ev)
  let s := if i < 16 then s else { s with frees := mput s.frees (ringClass ev) { f with back := f.back ++ [i] } }
  let x := ringAt s i
  modRing s i fun _ => { owner := x.owner, vector := x.vector, cq := x.cq, ev := x.ev, dbErr := x.dbErr }

/-- The SUBMIT node that names a pair, or the press opened from it and still open: the holding handle (R411). -/
def pairHolder (s : State) (i : Nat) : Option Nat :=
  match (s.gsc.nodes.find? fun e => decide (e.2.op = 5) && decide (bits e.2.args 160 32 = handleOf s cRING i)) with
  | some (n, _) => some (handleOf s cNODE n)
  | none =>
    match (s.presses.find? fun e => decide (e.2.phase ≠ .free) && decide (e.2.pair = i)) with
    | some (p, _) => some (handleOf s cPRESS p)
    | none => none

/-! ### Destroys (R29, R33) -/

/-- A live object that refers to this one: its handle, and more detail for a loop slot (R33). DESIGN CHOICE (log 57): of several, the first
in this order, and of one kind that of the lowest index. -/
def referrer (s : State) (cls i : Nat) : Option Nat :=
  let tr := (s.mem.traces.find? fun e => decide (hCls e.2.object = cls) && decide (hIdx e.2.object = i)).map
    fun e => handleOf s cTRACE e.1
  let first (l : List (Option Nat)) : Option Nat := (l.filterMap id).head?
  let h (c : Nat) (o : Option Nat) : Option Nat := o.map (handleOf s c)
  let slot := s.drv.findSome? fun (c : Nat × DCore) => (c.2.slots.find? fun (k : Nat × DSlot) => decide (k.2.joint = some i)).map
    fun k => det13 0 c.1 k.1
  match cls with
  | 2 => first [h cJOINT (armJoints s i).head?, tr]
  | 3 => first [h cPROFILE (jointProfile s i), slot, tr]
  | 4 => first [h cJOINT (cchanJoint s i), tr]
  | 5 => first [h cJOINT (fbchJoint s i), h cLINESRC (mkeys s.srcs fun _ x => !x.pub && decide (x.fbch = i)).head?,
      h cGEAR (mkeys s.gears fun _ g => decide (g.kind = 3) && decide (g.master = i)).head?, tr]
  | 6 => first [h cGEAR (mkeys s.gears fun _ g => decide (g.follower = i) || (decide (g.kind = 2) && decide (g.master = i))).head?, tr]
  | 8 => first [h cNODE (mkeys s.gsc.nodes fun n x => decide (n ≠ i) && x.edges.any fun e => decide (e.dst = i)).head?,
      h cDELAY (mkeys s.gsc.delays fun _ x => decide (x.node = i)).head?]
  | 9 => h cNODE (mkeys s.gsc.nodes fun _ x => decide (x.flow = some i)).head?
  | 10 => first [h cARM ((problemUser s i).map Prod.fst),
      h cNODE (mkeys s.gsc.nodes fun _ x =>
        (decide (x.op = 2) && decide (hIdx (bits x.args 0 32) = i)) ||
        (decide (x.op = 3) && ((decide (bits x.args 0 8 = 4) && decide (hIdx (bits x.args 64 32) = i)) ||
          (decide (bits x.args 8 8 = 5) && decide (hIdx (bits x.args 128 32) = i)))) ||
        (decide (x.op = 5) && decide (bits x.args 128 32 ≠ 0) && decide (hIdx (bits x.args 128 32) = i))).head?]
  | 18 => if s.line.desig = some i then some 0 else none
  | _ => none

/-- DESTROY's own rules, in order (R32, R33, R41, R409, R411, R434). -/
def destroyChecks (s : State) (a : Acc) : List (Bool × Refuse) :=
  let cls := hCls (tgt a.d)
  let i := tIdx a.d
  let waiter := (s.mbx.waits.find? fun w => decide (w.mbox = i)).map fun w => w.req
  [
    (decide (a.d.payload ≠ 0), rRANGE),
    ((decide (cls = cARM) || decide (cls = cJOINT)) && !((objRegion s cls i).map (cellEdits s)).getD true, rMODE),
    (decide (cls = cRING) && decide (i < 16), rDENIED),
    (decide (cls = cRING) && decide (i < 256) && (pairHolder s i).isSome, rBUSY ((pairHolder s i).getD 0)),
    (decide (cls = cMBOX) && waiter.isSome, (stBUSY, waiter.getD 0)),
    ((referrer s cls i).isSome, (stBUSY, (referrer s cls i).getD 0))]

/-- The first of them that refuses. -/
def destroyCheck (s : State) (a : Acc) : Option Refuse := firstRefuse (destroyChecks s a)

/-- The record of an object goes, with what it held; rings apart (R29). -/
def objGone (s : State) (cls i : Nat) : State :=
  match cls with
  | 2 =>
    let r := (armRegion s i).getD 0
    let s := { s with arms := mdel s.arms i, pln := { s.pln with arms := mdel s.pln.arms i },
                      grd := { s.grd with arms := mdel s.grd.arms i } }
    regionEmpties (markUsers s) r
  | 3 =>
    match mget s.joints i with
    | some j =>
      let s := swFree s j.swch
      { s with joints := mdel s.joints i, arms := mmod s.arms j.arm fun x => { x with joints := x.joints.filter (· ≠ i) } }
    | none => s
  | 4 => cchanGone s i
  | 5 => { s with fbchs := mdel s.fbchs i }
  | 6 => { s with profiles := mdel s.profiles i }
  | 7 =>
    let f := (gearAt s i).follower
    let s := if gearLive (gearAt s i) then modPrf s f fun x => { x with a := 0, mot := if x.v = 0 then .idle else .stop, steady := false }
      else s
    { s with gears := mdel s.gears i }
  | 8 => nodeGone s i
  | 9 => modGsc s fun g => { g with flows := mdel g.flows i }
  | 10 => { (unbindProblem s i) with problems := mdel (unbindProblem s i).problems i }
  | 11 => modGrd s fun x => { x with tracks := mdel x.tracks i }
  | 12 => modGrd s fun x => { x with zones := mdel x.zones i }
  | 15 => modMbx s fun m => { m with boxes := mdel m.boxes i }
  | 16 => modMem s fun m => { m with traces := mdel m.traces i, queue := m.queue.filter fun r => decide (r.ch ≠ i) }
  | 17 => modGsc s fun g => { g with delays := mdel g.delays i }
  | 18 => { s with srcs := mdel s.srcs i }
  | _ => s

/-- A DESTROY of an object that is no ring takes effect. -/
def destroyObj (s : State) (d : Desc) : State := freeObj (objGone s (hCls (tgt d)) (tIdx d)) (hCls (tgt d)) (tIdx d)

/-! ### The dispatch -/

/-- The class whose index a create takes from its free list. -/
def createClass (op : Nat) : Option Nat :=
  match op with
  | 0x0003 => some cARM
  | 0x0004 => some cJOINT
  | 0x0200 => some cLINESRC
  | 0x0400 => some cCCHAN
  | 0x0500 => some cFBCH
  | 0x0800 => some cPROFILE
  | 0x0805 => some cGEAR
  | 0x0A03 => some cTRACK
  | 0x0A04 => some cZONE
  | 0x0C00 => some cNODE
  | 0x0C03 => some cFLOW
  | 0x0C04 => some cDELAY
  | 0x0E00 => some cTRACE
  | 0x0F00 => some cMBOX
  | _ => none

/-- Creates and destroys are refused in DORMANT (R32). -/
def dormantRefuses (s : State) (op : Nat) : Bool :=
  decide (s.md.mode = .dormant) && ((createClass op).isSome || [0x0002, 0x0901, 0x0D00].contains op)

/-- A problem whose block has been kept becomes an object at a frame boundary (R30, R32, R275). -/
def problemMade (s : State) (m : Acc × Problem) : State :=
  if dormantRefuses s 0x0901 then complete s m.1 stMODE 0 0
  else
    match allocObj s cPROBLEM (fnOf m.1.req) none with
    | none => complete s m.1 stNORES 0 0
    | some (i, s) =>
      let s := { s with problems := mput s.problems i m.2 }
      complete s m.1 stOK (handleOf s cPROBLEM i) (m.2.cycles % 4294967296)

/-- The problems that wait for the boundary become objects, oldest first. -/
def problemsMade (s : State) : State := s.sol.made.foldl problemMade (modSol s fun x => { x with made := [] })

/-- The own rules of a descriptor that acts at a boundary (R398 step 5). `view`: judged where the members of every open press
have already been applied. -/
def ownRules (s : State) (a : Acc) (view : Bool) : Option Refuse :=
  match a.op with
  | 0x0002 => destroyCheck s a
  | 0x0003 => armCheck s a
  | 0x0004 => jointCheck s a
  | 0x0005 => scaleSetCheck s a
  | 0x0200 => lineSrcCheck s a
  | 0x0201 => designateCheck s a
  | 0x0400 => cchanCheck s a none
  | 0x0401 => cchanCheck s a (some (tIdx a.d))
  | 0x0500 => fbchCheck s a none
  | 0x0501 => fbchCheck s a (some (tIdx a.d))
  | 0x0502 => setPosCheck s a
  | 0x0600 => sweCheck s a
  | 0x0701 => drvSwapCheck s a view
  | 0x0702 => drvBindCheck s a
  | 0x0703 => drvParamCheck s a
  | 0x0800 => prfCreateCheck s a
  | 0x0801 => prfSetCheck s a
  | 0x0802 => prfQueueCheck s a (if view then 0 else queueStaged s (tIdx a.d))
  | 0x0804 => prfHomeCheck s a
  | 0x0805 => gearCreateCheck s a
  | 0x0806 => gearSetCheck s a
  | 0x0900 => solGangCheck s a
  | 0x0902 => problemBindCheck s a
  | 0x0903 => problemWriteCheck s a
  | 0x0904 => branchSetCheck s a
  | 0x0A00 => kinCheck s a
  | 0x0A01 => capsuleCheck s a
  | 0x0A02 => stopCheck s a
  | 0x0A03 => trackCheck s a
  | 0x0A04 => zoneCheck s a true
  | 0x0A05 => zoneCheck s a false
  | 0x0C00 => nodeCheck s a true
  | 0x0C01 => nodeCheck s a false
  | 0x0C02 => edgeCheck s a
  | 0x0C03 => firstRefuse [(decide (a.d.payload ≠ 0), rRANGE), (!(hasFree s cFLOW), rNORES)]
  | 0x0C04 => delayCheck s a
  | 0x0C05 => delayArmCheck s a
  | 0x0C06 => tokenCheck s a
  | 0x0D00 => ringCreateCheck s a
  | 0x0D01 => routeCheck s a
  | 0x0E00 => traceCheck s a none
  | 0x0E01 => traceCheck s a (some (tIdx a.d))
  | 0x0E02 => traceTriggerCheck s a
  | 0x0F00 => mboxCheck s a
  | _ => none

/-- A descriptor's own check: the mode first (R32). -/
def ownCheck (s : State) (a : Acc) (view : Bool) : Option Refuse :=
  if dormantRefuses s a.op then some rMODE else ownRules s a view

/-- A refusal that depends on the state at the commit frame, and is left to the checks of R348 (R342). -/
def commitRule (op st : Nat) : Bool :=
  decide (st = stMODE) || (decide (st = stBUSY) && [0x0002, 0x0801, 0x0804, 0x0806, 0x0C06].contains op)

/-- The checks made at staging: the first refusal that does not depend on the commit frame, behind whatever depends on it (R342). -/
def stageRules (v : State) (a : Acc) : Option Refuse :=
  let later (l : List (Bool × Refuse)) : Option Refuse := firstRefuse (l.filter fun x => !(commitRule a.op x.2.1))
  match a.op with
  | 0x0002 => later (destroyChecks v a)
  | 0x0003 => later (armChecks v a)
  | 0x0004 => later (jointChecks v a)
  | 0x0801 => later (prfSetChecks v a)
  | 0x0802 => later (prfQueueChecks v a 0)
  | 0x0804 => later (prfHomeChecks v a)
  | 0x0806 => later (gearSetChecks v a)
  | 0x0904 => later (branchSetChecks v a)
  | 0x0A01 => later (capsuleChecks v a)
  | _ => match ownRules v a true with
    | some (st, x) => if commitRule a.op st then none else some (st, x)
    | none => none

/-- The effect of a descriptor, with the index `i` that its create has taken (R30). -/
def ownApply (s : State) (a : Acc) (i : Nat) : State :=
  let d := a.d
  match a.op with
  | 0x0002 => destroyObj s d
  | 0x0003 => armNew s d i
  | 0x0004 => jointNew s d i
  | 0x0005 => scaleSet s d
  | 0x0200 => { s with srcs := mput s.srcs i (lineSrcNew s d) }
  | 0x0201 => designate s d
  | 0x0400 => cchanPlace s i d
  | 0x0401 => cchanPlace s (tIdx d) d
  | 0x0500 => { s with fbchs := mput s.fbchs i { cfg := fbCfgOf d, born := s.time.frame } }
  | 0x0501 => homedClear (fbchSet s (tIdx d) d) (tIdx d)
  | 0x0502 => homedClear (setPos s d) (tIdx d)
  | 0x0600 => sweSet s d
  | 0x0701 => drvSwap s d
  | 0x0702 => drvBind s d
  | 0x0703 => drvParam s d
  | 0x0800 => { s with profiles := mput s.profiles i (prfNew s d) }
  | 0x0801 => prfSet s d
  | 0x0802 => prfQueue s d
  | 0x0804 => prfHome s d
  | 0x0805 => { s with gears := mput s.gears i (gearNew s d) }
  | 0x0806 => gearSet s d
  | 0x0900 => solGang s d
  | 0x0902 => problemBind s d
  | 0x0903 => problemWrite s d
  | 0x0904 => branchSet s d
  | 0x0A00 => kinSet s d
  | 0x0A01 => capsuleSet s d
  | 0x0A02 => stopSet s d
  | 0x0A03 => modGrd s fun x => { x with tracks := mput x.tracks i { stream := pf d 16 1, slot := pf d 17 1 } }
  | 0x0A04 => modGrd s fun x => { x with zones := mput x.zones i (zoneOf d) }
  | 0x0A05 => modGrd s fun x => { x with zones := mput x.zones (tIdx d) (zoneOf d) }
  | 0x0C00 => modGsc s fun g => { g with nodes := mput g.nodes i (nodeOf d a.req) }
  | 0x0C01 => nodeSet s (tIdx d) d
  | 0x0C02 => edgeSet s d
  | 0x0C03 => modGsc s fun g => { g with flows := mput g.flows i {} }
  | 0x0C04 => modGsc s fun g => { g with delays := mput g.delays i (delayOf d) }
  | 0x0C05 => delayArm s d
  | 0x0C06 => (addToken s (tIdx d) (pf d 16 1)).getD s
  | 0x0D01 => routeSet s d
  | 0x0E00 => modMem s fun m => { m with traces := mput m.traces i (traceOf s d ((traceBase s d none).getD 0)) }
  | 0x0E01 => modTrace s (tIdx d) fun t => traceOf s d ((traceBase s d (some (tIdx d))).getD t.base)
  | 0x0E02 => traceTrigger s d
  | 0x0F00 => modMbx s fun m => { m with boxes := mput m.boxes i (mboxOf d) }
  | _ => s

/-- The budgets that a descriptor's effect bears on, in the state that results (R201, R276, R331). -/
def budgetRefuse (s : State) (a : Acc) : Option Refuse :=
  match a.op with
  | 0x0701 => if drvBudgetOk s (pf a.d 16 1) then none else some rNORES
  | 0x0702 => if pf a.d 20 4 = 0 ∨ drvBudgetOk s (pf a.d 16 1) = true then none else some rNORES
  | 0x0902 => if pf a.d 16 2 = 0xFFFF ∨ gangBudgetOk s (pf a.d 16 2) = true then none else some rNORES
  | 0x0A01 => if bit (pf a.d 18 1) 0 then capacityRefuse s else none
  | 0x0A03 => capacityRefuse s
  | 0x0A04 => capacityRefuse s
  | _ => none

/-! ### Parts gated in P1 (R537, R538) -/

/-- P1 gating acts: PWR_CTRL.P1_EN in a mode that belongs to P0 or P1 (R498). -/
def p1On (s : State) : Bool :=
  bit (reg s 0x10804) 0 && [Mode.run, .hold, .safeOff, .service].contains s.md.mode

/-- A physical lane is idle: of role 0 and without a bound problem, or a spare between tests and darns. -/
def laneIdle (s : State) (q : Nat) : Bool :=
  match logicalOf s q with
  | some n => decide ((gangAt s (gangOf s n)).role = 0) && !(gangBound (gangAt s (gangOf s n)))
  | none => serves s 5 q = false && !(retired s 5 q) && !(spareBusy s 5 q)

/-- A Draver core is idle: no bound loop and named in no node's CORE_MASK, or a spare between tests and darns. -/
def coreIdle (s : State) (n : Nat) : Bool :=
  if serves s 4 n then
    (boundSlots (drvAt s n)).isEmpty && s.gsc.nodes.all fun e => decide (e.2.op ≠ 1) || !(bit e.2.args n)
  else !(retired s 4 n) && !(spareBusy s 4 n)

/-- The parts gated in P1 that a descriptor needs. -/
def gatedParts (s : State) (a : Acc) : List Nat :=
  let d := a.d
  let lane (q : Nat) : List Nat := if laneIdle s q then [q] else []
  let core (n : Nat) : List Nat := if coreIdle s n then [256 + n] else []
  if p1On s = false then []
  else match a.op with
    | 0x0900 => (List.range (pf d 18 1)).flatMap fun i => lane (lmapAt s (pf d 16 2 + i)).1
    | 0x0701 => core (pf d 16 1)
    | 0x0702 => if pf d 20 4 = 0 then [] else core (pf d 16 1)
    | 0x1001 =>
      match classOfTy (pf d 16 2) with
      | some 5 => lane (pf d 18 2)
      | some 4 => core (pf d 18 2)
      | some c => if serves s c (pf d 18 2) || spareBusy s c (pf d 18 2) then [] else [1024 + origin (tyOf c) (pf d 18 2)]
      | none => []
    | _ => []

/-- A part that the descriptor needs has not woken. -/
def partsAsleep (s : State) (a : Acc) : Bool := (gatedParts s a).any fun p => mgetD s.pins.wake p 0 = 0

/-- The parts that a descriptor needs begin to wake. -/
def wakeParts (s : State) (a : Acc) : State :=
  (gatedParts s a).foldl (fun s p => if mhas s.pins.wake p then s else modPins s fun x => { x with wake := mput x.wake p 0 }) s

/-- The descriptor has taken effect or failed: the parts it woke are gated again unless something uses them. -/
def restParts (s : State) (a : Acc) : State :=
  (gatedParts s a).foldl (fun s p => modPins s fun x => { x with wake := mdel x.wake p }) s

/-! ### Handles (R28, R31) -/

/-- The handle checks of R28 over the handles that a descriptor names: for each handle in turn BAD_CLASS first, then STALE_HANDLE, with
the handle in the detail (that a handle is checked whole before the next one: DESIGN CHOICE, log 58). `ok` says which handles name an object here (R31). -/
def handleRefuse (hs : List (Nat × Nat × Bool)) (ok : Nat → Bool) : Option Refuse :=
  match hs with
  | [] => none
  | (h, c, null) :: t =>
    if null && decide (h = 0) then handleRefuse t ok
    else if (c ≠ 0 ∧ hCls h ≠ c) ∨ (c = 0 ∧ (hCls h < 2 ∨ 18 < hCls h ∨ hCls h = cPRESS)) then some (stBADCLASS, h)
    else if ok h then handleRefuse t ok
    else some (stSTALE, h)

/-- The opcodes whose TARGET must be 0 (R402). -/
def targetless (op : Nat) : Bool :=
  [0x0001, 0x0003, 0x0004, 0x0110, 0x0200, 0x0202, 0x0300, 0x0301, 0x0400, 0x0402, 0x0500, 0x0700, 0x0701, 0x0702, 0x0703, 0x0800,
   0x0805, 0x0900, 0x0901, 0x0905, 0x0A03, 0x0A04, 0x0B00, 0x0C00, 0x0C03, 0x0C04, 0x0D00, 0x0E00, 0x0F00, 0x1000, 0x1001, 0x1101,
   0x1200, 0x1201, 0x1202].contains op

/-- R398 step 4 for a descriptor: a TARGET where none is taken, then the handles it names; an EVENT_ROUTE names an event ring
(R404). -/
def handlesRefuse (s : State) (a : Acc) (ok : Nat → Bool) : Option Refuse :=
  if targetless a.op && decide (tgt a.d ≠ 0) then some (stBADCLASS, tgt a.d)
  else
    match handleRefuse (opHandles a.op a.d) ok with
    | some r => some r
    | none => if a.op = 0x0D01 ∧ tIdx a.d < 256 ∧ liveHandle s (tgt a.d) = true then some (stBADCLASS, tgt a.d) else none

end Sys2Proof.Machine
end

