-- ==== Sys2Proof/Machine/Warm.lean ====
section
/-!
DEFINITION. Coordinated warm starts (R473 to R476, R570): the quarantine of a supervisor core or a DMA engine, the dealing of
regions, the recovery press and the reset of a region, FLT_CLEAR and FLT_ACK (R476, R477).
-/
namespace Sys2Proof.Machine

/-- Origin of collector events (R471). -/
def oFLT : Nat := blockOrigin 0x19
/-- FLT_CTRL.AUTO_WARM. -/
def autoWarm (s : State) : Bool := bit (reg s 0x260000) 0

/-! ### Supervisor cores and dealing -/

def supAt (s : State) (n : Nat) : SupCore := mgetD s.flt.sup n {}
def modSup (s : State) (n : Nat) (f : SupCore → SupCore) : State := modFlt s fun x => { x with sup := mput x.sup n (f (supAt s n)) }

/-- Supervisor cores in service and not quarantined, ascending. -/
def supsServing (s : State) : List Nat := (List.range 4).filter fun n => !(supAt s n).quarantined

/-- Regions are re-hosted by dealing, in ascending region index (R473). -/
def deal (s : State) (regions : List Nat) : State :=
  let cores := supsServing s
  (((List.range 16).filter fun r => regions.contains r).zipIdx).foldl (fun s e =>
    match cores[e.2 % Nat.max 1 cores.length]? with
    | some n => modRegion s e.1 fun x => { x with hosted := n }
    | none => s) s

/-! ### The recovery press (R474) -/

/-- A reset member of region `r` holds its nodes. -/
def holdRegionNodes (s : State) (r : Nat) : State :=
  modGsc s fun g => { g with nodes := g.nodes.map fun e =>
    if e.2.region = r ∧ !(e.2.holders.contains 2) then (e.1, { e.2 with holders := e.2.holders ++ [2] }) else e }

/-- The press slot holds no node any more. -/
def releaseNodes (s : State) (slot : Nat) : State :=
  modGsc s fun g => { g with nodes := g.nodes.map fun e => (e.1, { e.2 with holders := e.2.holders.filter (· ≠ slot) }) }

/-- Regions join the recovery press, each with one reset member. -/
def addResets (s : State) (rs : List Nat) : State :=
  rs.foldl (fun s r =>
    let s := if (pressAt s 2).members.contains (.reset r) then s
      else modPress s 2 fun p => { p with members := p.members ++ [.reset r] }
    holdRegionNodes s r) s

/-- The recovery press opens, armed ASAP with GRAIN plan tick. -/
def openRecovery (s : State) : State :=
  modPress s 2 fun p =>
    { phase := .armed, owner := 19, kind := 0, axis := 0, grain := 2, armFrame := s.time.frame, armElapsed := s.time.elapsed,
      lastCommitted := p.lastCommitted, lastReason := p.lastReason, lastFrame := p.lastFrame }

/-- A warm start joins the recovery press, opens it, or waits until it closes. -/
def warmJoin (s : State) (w : WarmReq) : State :=
  match (pressAt s 2).phase with
  | .ready => modFlt s fun x => { x with warmWait := x.warmWait ++ [w] }
  | .free => addResets (openRecovery (modFlt s fun x => { x with warmNow := x.warmNow ++ [w] })) w.regions
  | _ => addResets (modFlt s fun x => { x with warmNow := x.warmNow ++ [w] }) w.regions

/-- A warm start begins: its registers, FLT_WARM_START, the recovery press (R474). -/
def warmStart (s : State) (w : WarmReq) : State :=
  let s := modFlt s fun x => { x with wsCause := w.handle, wsOrigin := w.origin, wsRegions := listMask w.regions }
  let s := raiseIn s .fltWarmStart w.handle (w.origin + listMask w.regions * 4294967296) w.origin w.regions
  warmJoin s w

/-- The record of a warm start's cause waits to be handled. -/
def undecided (s : State) (w : WarmReq) : Bool :=
  s.flt.queues.any fun q => q.2.any fun (e : EventRec) =>
    decide (e.code = w.code) && decide (e.handle = w.src) && decide (e.detail % 4294967296 = w.detail)

/-- Firmware decides a warm start as it handles the record of its cause (R470); a cause whose report has no record in a queue waits for
nothing. -/
def warmPump (s : State) : State :=
  let ws := s.flt.warmReqs
  (ws.filter fun w => !undecided s w).foldl warmStart (modFlt s fun x => { x with warmReqs := ws.filter (undecided s) })

/-- While the recovery press is open its reset members hold every node of their regions, and no other (R474). -/
def holdResets (s : State) : State :=
  let p := pressAt s 2
  if p.phase = .free then s
  else modGsc s fun g => { g with nodes := g.nodes.map fun e =>
    let others := e.2.holders.filter (· ≠ 2)
    (e.1, { e.2 with holders := if p.members.contains (.reset e.2.region) then others ++ [2] else others }) }

/-- The dependent regions of a warm start that a press carries or carried. -/
def warmRegions (ws : List WarmReq) : List Nat := (List.range 16).filter fun r => ws.any fun w => w.regions.contains r

/-- A node of the region is prefetched or in flight on a worker that is not quarantined (R474, R475). -/
def regionBusy (s : State) (r : Nat) : Bool :=
  s.gsc.nodes.any fun e => decide (e.2.region = r) && (decide (e.2.st = .prefetched) || decide (e.2.st = .inFlight)) &&
    !(workerAt s e.2.worker).quarantined

/-- A node prefetched or in flight on a quarantined worker is abandoned: its inputs are consumed, it fires nothing. -/
def abandonNode (s : State) (i : Nat) : State :=
  let s := deliver s i fun _ => false
  let n := nodeAt s i
  let s := modWorker s n.worker fun w =>
    { w with prefetch := w.prefetch.filter (· ≠ i), running := if w.running = some i then none else w.running }
  modNode s i fun n => { n with st := .idle, met := false, taken := [] }

/-- The queues of the flows with a node in `r` whose nodes all lie in the regions of the press are emptied. -/
def emptyFlows (s : State) (rs : List Nat) (r : Nat) : State :=
  let hit (f : Nat) : Bool := (flowRegions s f).contains r && (flowRegions s f).all fun q => rs.contains q
  modGsc s fun g => { g with flows := g.flows.map fun e => if hit e.1 then (e.1, { e.2 with queue := [] }) else e }

/-- The reset of one region at the commit of the recovery press (R475). -/
def regionReset (s : State) (rs : List Nat) (r : Nat) : State :=
  let ids := mkeys s.gsc.nodes fun _ n => decide (n.region = r)
  let busy := ids.filter fun i => decide ((nodeAt s i).st = .prefetched) || decide ((nodeAt s i).st = .inFlight)
  let s := busy.foldl abandonNode s
  let s := ids.foldl (fun s i =>
    endWaits (modNode (unlist s i) i fun n => { n with tokens := [], reserved := [], st := .idle, met := false, taken := [] }) i
      (fun _ => some (stBUSY, det12 0 2)) id) s
  let s := modGsc s fun g => { g with nodes := g.nodes.map fun e =>
    (e.1, { e.2 with held := e.2.held.filter fun x => !(ids.contains x.dst) }) }
  let s := emptyFlows s rs r
  modRegion s r fun x => { x with warmHeld := true }

/-- The recovery press commits: every region is reset, the regions of supervisor quarantines are dealt, a flow's quarantine ends (R473, R475). -/
def warmCommit (s : State) : State :=
  let ws := s.flt.warmNow
  let rs := warmRegions ws
  let s := rs.foldl (fun s r => regionReset s rs r) s
  let s := deal s (warmRegions (ws.filter fun w => decide (w.origin / 65536 = 0x1B)))
  let flows := (ws.filter fun w => decide (hCls w.handle = cFLOW)).map fun w => w.handle
  let s := flows.foldl (fun s h => modFlow s (hIdx h) fun f => { f with queue := [], quarantined := false }) s
  let s := modFlt s fun x =>
    { x with wsCount := (x.wsCount + 1) % 4294967296, warmNow := [],
             quarantines := x.quarantines.filter fun q => !(decide (q.kind = 3) && flows.contains q.handle) }
  let s := raise s .fltWarmDone s.flt.wsCause (s.time.frame % 4294967296 + listMask rs * 4294967296) oFLT
  ws.foldl (fun s w => match w.acc with
    | some a => complete s a stOK 0 0
    | none => s) s

/-- The recovery press aborts: with MODE its warm starts open it again, with any other reason they have failed (R474, R477). -/
def warmAborted (s : State) (handle reason : Nat) : State :=
  let ws := s.flt.warmNow
  let s := modFlt s fun x => { x with warmNow := [] }
  if reason = 9 then modFlt s fun x => { x with warmReopen := x.warmReopen ++ ws }
  else
    let rs := warmRegions ws
    let s := raiseIn s .fltWarmFail s.flt.wsCause (reason + listMask rs * 4294967296) oFLT rs
    ws.foldl (fun s w => match w.acc with
      | some a => complete s a 7 0 (det12 handle reason)
      | none => s) s

/-- Each frame: a press that aborted with MODE opens again one frame after the mode has settled, and warm starts that wait for the
press to close begin. -/
def warmFrame (s : State) : State :=
  if (pressAt s 2).phase = .free then
    let settled := decide (s.md.mode ≠ .dormant) && decide (s.md.mode ≠ .boot) && decide (s.md.changeFrame < s.time.frame)
    let again := if settled then s.flt.warmReopen else []
    let ws := again ++ s.flt.warmWait
    ws.foldl warmJoin (modFlt s fun x => { x with warmReopen := if settled then [] else x.warmReopen, warmWait := [] })
  else s

/-! ### Quarantines (R473, R570) -/

/-- A supervisor core fails: `cause` 1 watchdog, 2 memory. -/
def supervisorFault (s : State) (n cause : Nat) : State :=
  if (supAt s n).quarantined then s
  else
    let o := origin 0x1B n
    let s := raise s .fltSupervisor 0 (o + cause * 4294967296) o
    if autoWarm s = false then s
    else if (supsServing s).length < 3 then raise s .fltFatal 0 2 oFLT
    else
      let hosted := (List.range 16).filter fun r => decide ((regionAt s r).hosted = n)
      let live := hosted.filter fun r => decide (regionSt s r ≠ .empty)
      let s := modSup s n fun x => { x with quarantined := true, test := 1 }
      let s := modFlt s fun x => { x with quarantines := x.quarantines ++ [{ origin := o, handle := 0, kind := 1 }] }
      let s := deal s (hosted.filter fun r => decide (regionSt s r = .empty))
      let s := freeLocksOf s (19 + n)
      if live = [] then s
      else modFlt s fun x => { x with warmReqs := x.warmReqs ++ [{ handle := 0, origin := o, regions := live,
                                                                    code := eventCode .fltSupervisor, src := 0, detail := o }] }

/-- An uncorrectable memory error of a supervisor core: of its own memories, or of firmware data in DRAM, when a line there is
poisoned (R473, R484). -/
def firmwareError (s : State) (n : Nat) : State :=
  match s.mem.poisoned.find? fun l => decide (l < 0x800000) with
  | some l => supervisorFault (uncorrectable s l) n 2
  | none => supervisorFault s n 2

/-- SUPERVISOR_SELFTEST_DONE (R570). -/
def selfTest (s : State) (n : Nat) (pass : Bool) : State :=
  let x := supAt s n
  if x.quarantined && decide (x.test = 1) then
    modSup s n fun x => { x with test := if pass then 2 else 3, lastPass := pass, lastFail := !pass }
  else s

/-- An uncorrectable error in DMA engine `e` (R473). -/
def dmaFault (s : State) (e : Nat) : State :=
  let o := origin 0x1C e
  if (workerAt s (18 + e)).quarantined then s
  else
    let s := raise s .fltDma 0 o o
    if autoWarm s = false then s
    else
      let rs := dedup ((s.gsc.nodes.filter fun x => decide (x.2.worker = 18 + e) && decide (x.2.region ≠ 0xFF) &&
        (decide (x.2.st = .prefetched) || decide (x.2.st = .inFlight))).map fun x => x.2.region)
      let s := modWorker s (18 + e) fun w => { w with quarantined := true }
      let s := modFlt s fun x => { x with quarantines := x.quarantines ++ [{ origin := o, handle := 0, kind := 2 }] }
      if rs = [] then s
      else modFlt s fun x => { x with warmReqs := x.warmReqs ++ [{ handle := 0, origin := o, regions := rs,
                                                                    code := eventCode .fltDma, src := 0, detail := o }] }

/-! ### FLT_ACK and FLT_CLEAR (R476, R477) -/

/-- FLT_ACK takes effect. -/
def fltAck (s : State) (a : Acc) : State :=
  let r := tIdx a.d
  if a.d.payload ≠ 0 then complete s a stRANGE 0 0
  else if (regionAt s r).warmHeld = false then complete s a stMODE 0 0
  else
    let s := modRegion s r fun x => { x with warmHeld := false }
    complete (raise s .fltAcked 0 r oFLT) a stOK 0 0

/-- The SAFE_OFF-class cause that stands for a region: its event code (R465, R466). -/
def standingSafeOff (s : State) (r : Nat) : Option Nat :=
  (s.flt.standing.find? fun e => decide (e.1 = 0x16C) && decide (e.2 = r)).map fun e => e.1

/-- The HOLD-class causes that stand for a region (R465): their event codes. -/
def standingHold (s : State) (r : Nat) : List Nat :=
  let lost := s.md.expired && (decide (s.md.mode = .run) || decide (s.md.mode = .hold) || decide (s.md.mode = .service))
  if regionSt s r = .empty then []
  else (if lost then [0x012] else []) ++ (if regionStreamLost s r then [0x16B] else []) ++
    (if s.flt.standing.contains (0x169, r) then [0x169] else [])

/-- The regions, of those named, in which FLT_CLEAR ACTION 1 clears a latched fault: one whose cause does not stand. -/
def clearable (s : State) (rs : List Nat) : List Nat :=
  rs.filter fun r => (regionAt s r).latched.any fun c => decide (standingSafeOff s r ≠ some c)

/-- FLT_CLEAR ACTION 1: FLT_CLEARED names the regions of which it has cleared a latched fault. -/
def clearLatched (s : State) (a : Acc) : State :=
  let rs := maskList (pf a.d 18 2) 16
  let stands := rs.filterMap fun r => (standingSafeOff s r).map fun c => (r, c)
  let gone := clearable s rs
  let s := rs.foldl (fun s r => modRegion s r fun x => { x with latched := x.latched.filter fun c => standingSafeOff s r = some c }) s
  let s := if gone = [] then s else raise s .fltCleared 0 (listMask gone * 4294967296) oFLT
  match stands with
  | (r, c) :: _ => complete s a stBUSY 0 (c + r * 65536)
  | [] => complete s a stOK 0 0

/-- FLT_CLEAR ACTION 2: a supervisor core returns hosting no region; those that it still hosts are dealt to the others (R570). -/
def clearQuarantine (s : State) (a : Acc) : State :=
  let o := pf a.d 20 4
  match s.flt.quarantines.find? fun q => decide (q.origin = o) with
  | none => complete s a stRANGE 0 0
  | some q =>
    let n := o % 65536
    let x := supAt s n
    if q.kind = 1 ∧ x.test = 1 then complete s a stBUSY 0 (det12 0 1)
    else if q.kind = 1 ∧ x.test = 3 then complete s a stBUSY 0 (det12 0 2)
    else if 3 ≤ q.kind then complete s a stBUSY 0 (det12 0 3)
    else
      let s := modFlt s fun x => { x with quarantines := x.quarantines.filter fun y => decide (y.origin ≠ o) }
      let s := if q.kind = 1 then
          let s := deal s ((List.range 16).filter fun r => decide ((regionAt s r).hosted = n))
          modSup s n fun x => { x with quarantined := false, test := 0 }
        else modWorker s (18 + n) fun w => { w with quarantined := false }
      complete (raise s .fltCleared 0 o o) a stOK 0 0

/-- FLT_CLEAR takes effect. -/
def fltClear (s : State) (a : Acc) : State :=
  let d := a.d
  let act := pf d 16 1
  if decide (act < 1 ∨ 3 < act) || !(onlyBytes d [(16, 1), (18, 6)]) || (decide (act = 2) && decide (pf d 18 2 ≠ 0)) ||
     (decide (act ≠ 2) && decide (pf d 20 4 ≠ 0)) then complete s a stRANGE 0 0
  else if act = 2 ∧ a.req ≠ 32 then complete s a stDENIED 0 0
  else if act = 1 then clearLatched s a
  else if act = 2 then clearQuarantine s a
  else if s.md.mode = .dormant ∨ s.md.mode = .prepare then complete s a stMODE 0 0
  else
    let rs := (maskList (pf d 18 2) 16).filter fun r => decide (regionSt s r ≠ .empty)
    warmStart s { handle := 0, origin := oFLT, regions := rs, acc := some a }

end Sys2Proof.Machine
end

