-- ==== Sys2Proof/Machine/Press.lean ====
section
/-!
DEFINITION. The press unit (R338 to R362): opening, staging, holds, the patch scope, arming, validation, waits, the guard veto, the
commit and the aborts; the plan, darn and recovery presses in their slots.
-/
namespace Sys2Proof.Machine

/-- The origin of a slot's events (R471). -/
def oPRS (slot : Nat) : Nat := origin 0x15 slot
/-- The handle of the press open in a slot. -/
def pressHandle (s : State) (slot : Nat) : Nat := handleOf s cPRESS slot

/-! ### What a member names and holds -/

/-- The descriptors that are never members (R344). -/
def neverMember (op : Nat) (d : Desc) : Bool :=
  [0x0B00, 0x0B01, 0x0B02, 0x0100, 0x0101, 0x0102, 0x0103, 0x0104, 0x0803, 0x0202, 0x0700, 0x0901, 0x0300, 0x0301, 0x0601, 0x0402,
   0x0E00, 0x0E01, 0x0E02, 0x0110, 0x0905, 0x0001, 0x0C07, 0x0D00, 0x0D01, 0x1100, 0x1101, 0x1000, 0x1001, 0x1200, 0x1201,
   0x1202].contains op ||
  (decide (op = 0x0002) && (decide (hCls (tgt d) = cTRACE) || decide (hCls (tgt d) = cRING)))

/-- The handles that a descriptor names. -/
def namedHandles (a : Acc) : List Nat := ((opHandles a.op a.d).map fun x => x.1).filter (· ≠ 0)

/-- A member holds the object of a handle (R345, R454). -/
def memberHolds (s : State) (h : Nat) (m : Member) : Bool :=
  match m with
  | .desc a _ => (namedHandles a).contains h
  | .darn c w _ => (darnHolds s c w).contains (hCls h, hIdx h)
  | _ => false

/-- The darn press holds the core that it darns: a DRV_LOAD, DRV_SWAP or DRV_BIND that names it by its index (R454). -/
def coreHeld (s : State) (a : Acc) : Option Nat :=
  if [0x0700, 0x0701, 0x0702].contains a.op && ((pressAt s 1).members.any fun m => match m with
      | .darn 4 w _ => decide (pf a.d 16 1 = w)
      | _ => false) then some (pressHandle s 1) else none

/-- The darn press holds a handle that a descriptor names, or its core (R454). -/
def darnHeld (s : State) (a : Acc) : Option Nat :=
  match coreHeld s a with
  | some h => some h
  | none =>
    if (namedHandles a).any fun h => (pressAt s 1).members.any (memberHolds s h) then some (pressHandle s 1) else none

/-- The press that holds an object, other than one slot and the plan press: its handle (R345). -/
def holderOf (s : State) (h : Nat) (but : Option Nat) : Option Nat :=
  (s.presses.find? fun e => decide (e.1 ≠ 0) && decide (some e.1 ≠ but) && decide (e.2.phase ≠ .free) &&
    e.2.members.any (memberHolds s h)).map fun e => pressHandle s e.1

/-- A member takes effect on a state: the index of a create has been reserved (R31, R353). -/
def applyMember (s : State) (m : Member) : State :=
  match m with
  | .desc a h =>
    let s := match createClass a.op with
      | some c => reviveObj s c (hIdx h)
      | none => s
    ownApply s a (hIdx h)
  | _ => s

/-- The state that the members staged so far would make: those of the other open presses, destroys apart, then those of this slot.
What they would take is what they have reserved (R342). -/
def viewOf (s : State) (slot : Option Nat) : State :=
  let others := (s.presses.filter fun e => decide (some e.1 ≠ slot) && decide (3 ≤ e.1) && decide (e.2.phase ≠ .free)).flatMap
    fun e => e.2.members.filter fun m => match m with
      | .desc a _ => decide (a.op ≠ 0x0002)
      | _ => false
  let own := match slot with
    | some p => (pressAt s p).members
    | none => []
  (others ++ own).foldl applyMember s

/-- The members that are graph edits hold the node they name: their target, or a DELAY's destination (R382). -/
def editNode (s : State) (a : Acc) : Option Nat :=
  let delay (i : Nat) : Option Nat := (mget s.gsc.delays i).map fun x => x.node
  match a.op with
  | 0x0C01 => some (tIdx a.d)
  | 0x0C02 => some (tIdx a.d)
  | 0x0C06 => some (tIdx a.d)
  | 0x0C04 => some (hIdx (pf a.d 20 4))
  | 0x0C05 => delay (tIdx a.d)
  | 0x0002 => if hCls (tgt a.d) = cNODE then some (tIdx a.d) else if hCls (tgt a.d) = cDELAY then delay (tIdx a.d) else none
  | _ => none

/-- A member waits (R346, R382, R451, R474, R538). -/
def memberWaits (s : State) (m : Member) : Bool :=
  match m with
  | .desc a _ =>
    if partsAsleep s a then true
    else if a.op = 0x0701 then !(drvAt s (pf a.d 16 1)).staged && (drvAt s (pf a.d 16 1)).load.isSome
    else match editNode s a with
      | some n => decide ((nodeAt s n).st = .prefetched) || decide ((nodeAt s n).st = .inFlight)
      | none => false
  | .darn _ _ _ => !(darnReady s)
  | .reset r => regionBusy s r
  | .plan _ => true

/-- A PATCH with HOLD waits until the profiles of its regions in MENDING are at rest (R360). -/
def patchWaits (s : State) (p : Press) : Bool :=
  p.hold && (maskList p.regions 16).any fun r => decide (regionSt s r = .mending) && !(regionAtRest s r)

/-- The index of the first waiting member, 0xFF for none. -/
def firstWaiting (s : State) (slot : Nat) : Nat :=
  (((pressAt s slot).members.zipIdx.find? fun e => memberWaits s e.1).map fun e => e.2).getD 0xFF

/-- The members that wait. -/
def waitingMembers (s : State) (slot : Nat) : List Nat :=
  ((pressAt s slot).members.zipIdx.filter fun e => memberWaits s e.1).map fun e => e.2

/-- A wait holds the press back. -/
def pressWaits (s : State) (slot : Nat) : Bool := decide (firstWaiting s slot ≠ 0xFF) || patchWaits s (pressAt s slot)

/-! ### Staging (R340 to R345, R360, R458) -/

/-- A member needs the hold (R458). -/
def needsHold (s : State) (a : Acc) : Bool :=
  let d := a.d
  let c := drvAt s (pf d 16 1)
  let slotJoint := (mget c.slots (pf d 17 1)).bind fun x => x.joint
  match a.op with
  | 0x0701 =>
    let b := bankOf c (1 - c.active)
    (boundSlots c).any fun k => ((mget b.loops k).map fun l => l.reinit).getD false
  | 0x0702 => slotJoint.isSome && decide (slotJoint ≠ if pf d 20 4 = 0 then none else some (hIdx (pf d 20 4)))
  | 0x0501 => (fbchJoint s (tIdx d)).isSome
  | 0x0902 => decide (pf d 16 2 = 0xFFFF) && (problemUser s (tIdx d)).isSome
  | 0x0002 =>
    (decide (hCls (tgt d) = cFBCH) && (fbchJoint s (tIdx d)).isSome) ||
      (decide (hCls (tgt d) = cGEAR) && decide ((gearAt s (tIdx d)).ratio ≠ 0))
  | _ => false

/-- The regions of the objects that a member acts on, none for a cell-wide one: before and after it acts (R360, R383). -/
def actRegions (s s' : State) (a : Acc) (i : Nat) : List (Option Nat) :=
  let d := a.d
  let lim (r : Nat) : Option Nat := if r < 16 then some r else none
  let flow (f : Nat) : List (Option Nat) := (flowRegions s f).map lim
  let delay (st : State) (k : Nat) : List (Option Nat) := [(mget st.gsc.delays k).bind fun x => objRegion st cNODE x.node]
  let core := (boundSlots (drvAt s (pf d 16 1))).map fun k =>
    ((mget (drvAt s (pf d 16 1)).slots k).bind fun x => x.joint).bind (jointRegion s)
  match a.op with
  | 0x0701 => core
  | 0x0703 => core
  | 0x0702 => core ++ (if pf d 20 4 = 0 then [] else [jointRegion s (hIdx (pf d 20 4))])
  | 0x0900 => [none]
  | 0x0C01 => [objRegion s cNODE (tIdx d), objRegion s' cNODE (tIdx d)]
  | 0x0C03 => []
  | 0x0C04 => delay s' i
  | 0x0C05 => delay s (tIdx d)
  | 0x0002 =>
    if hCls (tgt d) = cFLOW then flow (tIdx d) else if hCls (tgt d) = cDELAY then delay s (tIdx d) else [handleRegion s (tgt d)]
  | op => match createClass op with
    | some c => [objRegion s' c i]
    | none => [handleRegion s (tgt d)]

/-- The hold is there for a member that needs it, or every region that it acts on is SAFE_OFF or SERVICE (R458). -/
def holdOk (s : State) (p : Press) (a : Acc) : Bool :=
  let rs := (actRegions s s a (tIdx a.d)).filterMap id
  !(needsHold s a) || (p.patch && p.hold && rs.all fun r => bit p.regions r) ||
    rs.all fun r => decide (regionSt s r = .safeOff) || decide (regionSt s r = .service)

/-- The checks that the press unit makes at staging, in order. -/
def stageRefuse (s : State) (a : Acc) (slot : Nat) : Option Refuse :=
  let p := pressAt s slot
  let held := match coreHeld s a with
    | some h => some h
    | none => (namedHandles a).findSome? fun h => holderOf s h (some slot)
  if p.phase ≠ .open_ then some (rBUSY (pressHandle s slot))
  else if 64 ≤ p.members.length then some rNORES
  else match held with
    | some h => some (rBUSY h)
    | none =>
      if holdOk s p a = false then some rMODE
      else
        let v := viewOf s (some slot)
        match stageRules v a with
        | some r => some r
        | none =>
          if p.patch = false then none
          else
            let alloc := (createClass a.op).bind fun c => allocObj v c (fnOf a.req) none
            let i := (alloc.map fun x => x.1).getD (tIdx a.d)
            let v0 := (alloc.map fun x => x.2).getD v
            if (actRegions v (ownApply v0 a i) a i).all fun r => match r with
                | some r => bit p.regions r
                | none => false then none
            else some rDENIED

/-- A refusal at staging poisons a STRICT press of the descriptor's sender (R343). -/
def poison (s : State) (a : Acc) (slot : Nat) : State :=
  modPress s slot fun p => if p.strict ∧ p.owner = a.req ∧ p.phase ≠ .free then { p with poisoned := true } else p

/-- A descriptor is staged in an open press, or refused (R341 to R345). -/
def stageMember (s : State) (a : Acc) (slot : Nat) : State :=
  let p := pressAt s slot
  if slot < 3 ∨ p.owner ≠ a.req then refuseStaged s a stDENIED 0 0
  else
    let s := copyRead s a
    match stageRefuse s a slot with
    | some (st, x) => refuseStaged (poison s a slot) a st 0 x
    | none =>
      match createClass a.op with
      | none => completeStaged (modPress s slot fun p => { p with members := p.members ++ [.desc a 0] }) a 0 0
      | some c =>
        match allocObj s c (fnOf a.req) (some slot) with
        | none => refuseStaged (poison s a slot) a stNORES 0 0
        | some (i, s) =>
          let h := handleOf s c i
          completeStaged (modPress s slot fun p => { p with members := p.members ++ [.desc a h] }) a h 0

/-! ### Closing (R339, R355, R360) -/

/-- The regions that a patch held leave MENDING (R22, R25, R360). -/
def patchEnds (s : State) (slot : Nat) : State :=
  (List.range 16).foldl (fun s r =>
    let x := regionAt s r
    if x.mendingBy = some slot then
      if x.st = .mending then
        modRegion s r fun x =>
          if s.md.mode = .service then { x with st := .service, cap := s.md.cap, mendingBy := none, stillSince := none, v0 := 0 }
          else { x with st := .hold, mendingBy := none }
      else modRegion s r fun x => { x with mendingBy := none }
    else s) s

/-- The slot closes: its generation advances, its holds end (R339). -/
def pressClose (s : State) (slot : Nat) (committed : Bool) (reason : Nat) : State :=
  let s := patchEnds (releaseNodes s slot) slot
  let s := modPress s slot fun p =>
    { lastCommitted := committed, lastReason := reason, lastFrame := if committed then s.time.frame else p.commit.getD p.lastFrame }
  let s := advanceGen s cPRESS slot
  -- the recovery press no longer allows the timeouts of waits (R381)
  if slot = 2 then cancelTimeouts s else s

/-- A member's reservation goes: the index of a staged create is destroyed (R31, R355). -/
def releaseMember (s : State) (m : Member) : State :=
  match m with
  | .desc a h => match createClass a.op with
    | some c => freeObj s c (hIdx h)
    | none => s
  | _ => s

/-- A press aborts (R355): `idx` is the first failing member, 0xFF for none. -/
def pressAbort (s : State) (slot reason idx : Nat) : State :=
  let p := pressAt s slot
  if p.phase = .free then s
  else
    let h := pressHandle s slot
    let s := p.members.foldl releaseMember s
    let s := bump s 0x220014
    let s := if reason = 2 then bump s 0x220018 else s
    let s := if slot = 0 then raise s .prsPlanAborted h (reason + p.plan * 4294967296) (oPRS slot)
      else if 3 ≤ slot then raise s .prsAborted h (reason + 256 * idx) (oPRS slot) else s
    let s := pressClose s slot false reason
    let s := match p.armAcc with
      | some a => complete s a 7 0 (det13 0 reason idx)
      | none => s
    let s := p.members.zipIdx.foldl (fun s e => match e.1 with
      | .desc a _ => completeFinal s a (if reason = 7 ∧ e.2 = idx then stREGREJ else 7) 0 (det12 h reason)
      | _ => s) s
    if slot = 1 then darnAborted s reason else if slot = 2 then warmAborted s h reason else s

/-- Every open press aborts with reason MODE (R357). -/
def abortAll (s : State) : State := (List.range 16).foldl (fun s p => pressAbort s p 9 0xFF) s

/-- The open presses of an owner abort with reason HOST (R412, R508). -/
def abortOwned (s : State) (req : Nat) : State :=
  (List.range 16).foldl (fun s p => if 3 ≤ p ∧ (pressAt s p).owner = req then pressAbort s p 1 0xFF else s) s

/-! ### Validation (R348 to R350) -/

/-- A create's index is already reserved: its class does not count as full. -/
def withIndex (s : State) (op : Nat) : State :=
  match createClass op with
  | some c => { s with frees := mput s.frees c { freeList s c with back := 0 :: (freeList s c).back } }
  | none => s

/-- A refusal that R352 judges again: region state, device mode, liveness of handles. -/
def recheckRule (op st : Nat) : Bool :=
  decide (st = stMODE) || decide (st = stSTALE) || decide (st = stBADCLASS) || (decide (st = stBUSY) && decide (op = 0x0002))

/-- A DRV_BIND that a bank swap still waiting precedes is judged once the bank is staged. -/
def bindWaits (s : State) (a : Acc) : Bool :=
  decide (a.op = 0x0702) && (drvAt s (pf a.d 16 1)).load.isSome && (drvAt s (pf a.d 16 1)).swapDue

/-- One member against its row of R346. -/
def memberFails (s : State) (slot : Nat) (again : Bool) (m : Member) : Bool :=
  match m with
  | .desc a _ =>
    let r := match handlesRefuse s a fun h => liveHandle s h || stagedHandle s (some slot) h with
      | some r => some r
      | none => if bindWaits s a then none else ownCheck (withIndex s a.op) a true
    match r with
    | some (st, _) => if again then recheckRule a.op st else true
    | none => false
  | _ => false

/-- The members of some indices are checked in staging order, each in the state that those before it make: the first that fails, and
the state that results from all. -/
def checkWhere (s : State) (slot : Nat) (again : Bool) (which : Nat → Bool) : Option Nat × State :=
  (pressAt s slot).members.zipIdx.foldl (fun acc e =>
    match acc with
    | (some i, s) => (some i, s)
    | (none, s) => if which e.2 && memberFails s slot again e.1 then (some e.2, s) else (none, applyMember s e.1)) (none, s)

/-- Every member is checked. -/
def checkMembers (s : State) (slot : Nat) (again : Bool) : Option Nat × State := checkWhere s slot again fun _ => true

/-- The budgets of R201, R276 and R331 in a state. -/
def budgetsOk (s : State) : Bool :=
  ((List.range 18).all fun n => drvBudgetOk s n) && (s.sol.gangs.all fun e => gangBudgetOk s e.1) &&
    decide (capacityFail s (grdGangs s) (grdEnd s) = 0)

/-- The result policy of R350: the reason and the member. -/
def resultFails (p : Press) : Option (Nat × Nat) :=
  p.members.zipIdx.findSome? fun e => match e.1 with
    | .desc a _ => match a.result with
      | some (st, n) =>
        if 2 ≤ st then some (6, e.2)
        else if st = 1 ∧ p.maxPivots ≠ 255 ∧ p.maxPivots < n then some (7, e.2) else none
      | none => none
    | _ => none

/-- The first frame from `f` on that starts a period of GRAIN (R347). -/
def grainFrame (grain f : Nat) : Nat :=
  let n := if grain = 0 then 1 else if grain = 1 then 160 else 1280
  ceilDiv f n * n

/-- The press becomes READY; an ASAP press gets its commit frame (R347). -/
def pressReady (s : State) (slot : Nat) : State :=
  let s := modPress s slot fun p =>
    { p with phase := .ready,
             commit := if p.axis = 0 ∧ p.commit = none then some (grainFrame p.grain (s.time.frame + 1)) else p.commit }
  if slot = 1 then darnPending s else s

/-- The checks of R348 on a press: it aborts, waits, or becomes READY. -/
def pressChecks (s : State) (slot : Nat) : State :=
  let p := pressAt s slot
  let (fail, s') := checkMembers s slot false
  match fail with
  | some i => pressAbort s slot 4 i
  | none =>
    if budgetsOk s' = false then pressAbort s slot 5 0xFF
    else match resultFails p with
      | some (r, i) => pressAbort s slot r i
      | none =>
        let s := p.members.foldl (fun s m => match m with
          | .desc a _ => wakeParts s a
          | _ => s) s
        let s := modPress s slot fun p => { p with checked := true, waited := waitingMembers s slot }
        if pressWaits s slot then s else pressReady s slot

/-- PRESS_VALIDATION_DONE: the checks of an ARMED press are complete (R348). -/
def validationDone (s : State) (slot : Nat) : State :=
  let p := pressAt s slot
  if p.phase = .armed ∧ p.checked = false ∧ slot ≠ 0 then
    let n := s.time.frame - p.armFrame
    pressChecks (setReg s 0x22001C (Nat.max (reg s 0x22001C) (Nat.min 255 n))) slot
  else s

/-- PRESS_MEMBER_READY: the last wait of a press has ended. The members that waited are checked now, and the budgets again (R346,
R349). -/
def memberReady (s : State) (slot : Nat) : State :=
  let p := pressAt s slot
  if p.phase = .armed ∧ p.checked = true ∧ pressWaits s slot = false then
    match checkWhere s slot false fun i => p.waited.contains i with
    | (some i, _) => pressAbort s slot 4 i
    | (none, s') => if budgetsOk s' = false then pressAbort s slot 5 0xFF else pressReady s slot
  else s

/-- The results of the spare in the open darn have differed (R453). -/
def darnDiffers (s : State) : Bool :=
  match s.hlt.darn with
  | some (_, _, _, _, ph) => decide (ph = 4)
  | none => false

/-- A darn press whose spare's results differ aborts with reason SHADOW (R355, R453). -/
def darnMismatch (s : State) : State := if darnDiffers s then pressAbort s 1 12 0 else s

/-- PRESS_WAIT_EXPIRY: an ASAP press has not become READY within PRS_WAIT_MAX (R349). -/
def waitExpiry (s : State) (slot : Nat) : State :=
  let p := pressAt s slot
  if slot = 1 ∧ darnDiffers s = true then darnMismatch s
  else if p.phase = .armed ∧ p.axis = 0 ∧ slot ≠ 0 ∧ p.armElapsed + reg s 0x220004 * msU ≤ s.time.elapsed then
    pressAbort s slot 10 (firstWaiting s slot)
  else s

/-! ### Commit frames and the switch (R347, R351 to R354) -/

/-- A key of the press that the boundary has reached or passed fires now (R347). -/
def keyFires (s : State) (p : Press) : Bool :=
  match p.axis with
  | 1 => wallFires s p.full p.armFrame p.behind
  | 2 => lineFires s p.key p.armFrame p.behind
  | _ => false

/-- A press that closes in the frame that begins: its commit frame begins, so that it commits or aborts (R349, R351, R352). -/
def closesNow (s : State) (slot : Nat) : Bool :=
  let p := pressAt s slot
  let commit := match p.commit with
    | some f => some f
    | none => if keyFires s p then some (grainFrame p.grain s.time.frame) else none
  (decide (p.phase = .armed) || decide (p.phase = .ready)) && decide (commit = some s.time.frame)

/-- The key of one press: one that fires at this boundary gives the press its commit frame; a press whose commit frame begins and is
not READY aborts with LATE (R347, R349). -/
def pressKey (s : State) (slot : Nat) : State :=
  let p := pressAt s slot
  let s := if (p.phase = .armed ∨ p.phase = .ready) ∧ p.commit = none ∧ keyFires s p = true then
      modPress s slot fun p => { p with commit := some (grainFrame p.grain s.time.frame) } else s
  let p := pressAt s slot
  if p.phase = .armed ∧ p.commit = some s.time.frame then pressAbort s slot 2 (firstWaiting s slot) else s

/-- The keys of every press at the boundary. -/
def pressKeys (s : State) : State := (List.range 16).foldl pressKey s

/-- The READY presses whose commit frame has begun, in ascending slot (R354). -/
def pressesDue (s : State) : List Nat :=
  (List.range 16).filter fun slot => decide ((pressAt s slot).phase = .ready) && decide ((pressAt s slot).commit = some s.time.frame)

/-- The regions of the joints that a profile's motion moves: its own, and those of the followers geared to it (R351). -/
def movedBy (s : State) (p : Nat) : List Nat := dedup ((p :: chainFrom s p).filterMap (prfRegion s))

/-- The regions whose joints a motion member moves (R346, R351). -/
def motionRegions (s : State) (m : Member) : List Nat :=
  match m with
  | .desc a _ =>
    match a.op with
    | 0x0801 => movedBy s (tIdx a.d)
    | 0x0802 => movedBy s (tIdx a.d)
    | 0x0804 => movedBy s (tIdx a.d)
    | 0x0806 => if pf a.d 16 8 = 0 then [] else movedBy s (gearAt s (tIdx a.d)).follower
    | 0x0201 =>
      if pf a.d 16 1 = 1 then dedup ((s.gears.filter fun g => decide (g.2.kind = 1)).flatMap fun g => movedBy s g.2.follower) else []
    | _ => []
  | _ => []

/-- The guard veto: the first motion member whose regions held a condition at the last live check (R351). DEDUCED (log 58): what a
member moves is read where every member of the press has taken effect, so that a gear that the press makes counts. -/
def guardVeto (s : State) (p : Press) : Option Nat :=
  let v := p.members.foldl applyMember s
  (p.members.zipIdx.find? fun e => (motionRegions v e.1).any fun r => s.grd.causes.any fun c => decide (c.region = r)).map
    fun e => e.2

/-- Every member takes effect, and the press closes committed (R353). -/
def pressSwitch (s : State) (slot : Nat) : State :=
  let p := pressAt s slot
  let h := pressHandle s slot
  let s := p.members.foldl (fun s m => match m with
    | .desc _ _ => applyMember s m
    | .darn c w sp =>
      let s := darnCommit s c w sp
      if c = 5 then
        modFlt s fun x => { x with quarantines := x.quarantines.filter fun q => !(decide (q.kind = 4) && decide (q.origin = origin 0x11 w)) }
      else s
    | .plan a => planCommit s a p.maxPivots
    | .reset _ => s) s
  let s := if slot = 2 then warmCommit s else s
  let s := if slot = 0 then s else bump s 0x220010
  let s := if p.event then raise s .prsCommitted h (s.time.frame % 4294967296) (oPRS slot) else s
  let s := pressClose s slot true 0
  let s := match p.armAcc with
    | some a => complete s a stOK 0 (s.time.frame % 4294967296)
    | none => s
  p.members.foldl (fun s m => match m with
    | .desc a _ => completeFinal s a stOK 0 h
    | _ => s) s

/-- A press whose commit frame has begun commits, or aborts with GUARD, STATE or BUDGET (R351, R352). The plan press commits while
PLN_CTRL.EN is 1 (R306); with EN 0 it aborts, DESIGN CHOICE with reason LATE (log 50). -/
def pressCommit (s : State) (slot : Nat) : State :=
  let p := pressAt s slot
  if p.phase ≠ .ready ∨ p.commit ≠ some s.time.frame then s
  else if slot = 1 ∧ darnDiffers s = true then darnMismatch s
  else if slot = 0 then (if plnOn s then pressSwitch s slot else pressAbort s slot 2 0xFF)
  else
    match guardVeto s p with
    | some i => pressAbort s slot 8 i
    | none =>
      let (fail, s') := checkMembers s slot true
      match fail with
      | some i => pressAbort s slot 3 i
      | none => if budgetsOk s' then pressSwitch s slot else pressAbort s slot 5 0xFF

/-- A designation took effect in this frame: the line keys that the axis then stands at or has passed fire in it, and their presses
commit in ascending slot (R40, R41, R354). -/
def joinPresses (s : State) : State :=
  if s.line.joined = false then s else (List.range 16).foldl (fun s slot => pressCommit (pressKey s slot) slot) s

/-! ### The press descriptors (R340, R347, R356) -/

/-- PRESS_OPEN's own rules, but for the regions' move to MENDING. -/
def pressOpenCheck (s : State) (a : Acc) : Option Refuse :=
  let d := a.d
  let k := pf d 16 1
  let hold := bit (pf d 17 1) 1
  let mending := (maskList (pf d 20 2) 16).find? fun r => decide (regionSt s r = .mending) && (regionAt s r).mendingBy.isSome
  let holder := (mending.bind fun r => (regionAt s r).mendingBy).map (pressHandle s)
  firstRefuse [
    (decide (k ≠ 1 ∧ k ≠ 2) || decide (7 < pf d 17 1) || (hold && decide (k ≠ 2)) || !(onlyBytes d [(16, 3), (20, 2)]) ||
      decide ((k = 2) ≠ (pf d 20 2 ≠ 0)), rRANGE),
    (hold && mending.isSome, rBUSY (holder.getD 0)),
    ((List.range 13).all fun i => decide ((pressAt s (3 + i)).phase ≠ .free), rNORES)]

/-- PRESS_OPEN opens the lowest free host slot. -/
def pressOpen (s : State) (a : Acc) : State × Nat :=
  let d := a.d
  let slot := 3 + ((List.range 13).find? fun i => decide ((pressAt s (3 + i)).phase = .free)).getD 0
  let s := modPress s slot fun p =>
    { phase := .open_, owner := a.req, patch := decide (pf d 16 1 = 2), kind := pf d 16 1, strict := bit (pf d 17 1) 0,
      hold := bit (pf d 17 1) 1, event := bit (pf d 17 1) 2, maxPivots := pf d 18 1, regions := pf d 20 2, pair := a.pair,
      lastCommitted := p.lastCommitted, lastReason := p.lastReason, lastFrame := p.lastFrame }
  (s, slot)

/-- A PRESS_OPEN of a patch with HOLD (R360). -/
def opensHeld (a : Acc) : Bool := decide (a.op = 0x0B00) && decide (pf a.d 16 1 = 2) && bit (pf a.d 17 1) 1

/-- R22 has the transition, for a cause other than a host descriptor. -/
def causeMoves (st t : RegionState) : Bool :=
  match t with
  | .safeOff => decide (st ≠ .safeOff) && decide (st ≠ .empty)
  | .hold => decide (st = .active)
  | .service => decide (st = .active) || decide (st = .hold)
  | .mending => decide (st = .active) || decide (st = .hold) || decide (st = .service)
  | _ => false

/-- A region takes a state: the instant of a stop, the cap, the rank of the cause (R23, R332, R571). -/
def setRegionState (s : State) (r : Nat) (t : RegionState) (cap : Nat) : State :=
  let stopped (x : RegionState) : Bool := decide (x = .hold) || decide (x = .mending)
  modRegion s r fun x =>
    { x with st := t, cap := if t = .service then cap else x.cap, causeRank := if t = x.st then x.causeRank else some (regionRank t),
             stillSince := if !stopped t then none else if stopped x.st then x.stillSince else some s.time.elapsed,
             v0 := if !stopped t then 0 else if stopped x.st then x.v0 else mgetD s.grd.speeds r 0 }

/-- PRESS_OPEN takes effect, after the presses of the frame (R354): the regions of a held patch that the region step has taken to
MENDING for it, and those that a press has released in this frame, are its own. -/
def pressOpenNow (s : State) (a : Acc) : State :=
  match pressOpenCheck s a with
  | some (st, x) => complete s a st 0 x
  | none =>
    let (s, slot) := pressOpen s a
    let rs := if opensHeld a then maskList (pf a.d 20 2) 16 else []
    let s := rs.foldl (fun s r =>
      let x := regionAt s r
      if x.st = .mending ∨ causeMoves x.st .mending = true then
        modRegion (if x.st = .mending then s else setRegionState s r .mending 250) r fun x => { x with mendingBy := some slot }
      else s) s
    complete s a stOK (pressHandle s slot) 0

/-- The nodes that a press's graph edits name are held from ARMED on (R382). -/
def holdNodes (s : State) (slot : Nat) : State :=
  (pressAt s slot).members.foldl (fun s m => match m with
    | .desc a _ => match editNode s a with
      | some n => modNode s n fun x => if x.holders.contains slot then x else { x with holders := x.holders ++ [slot] }
      | none => s
    | _ => s) s

/-- PRESS_ARM takes effect (R347). -/
def pressArm (s : State) (a : Acc) : State :=
  let d := a.d
  let slot := tIdx d
  let p := pressAt s slot
  let axis := pf d 16 1
  if slot < 3 ∨ p.owner ≠ a.req then complete s a stDENIED 0 0
  else if decide (2 < axis) || decide (2 < pf d 17 1) || !(onlyBytes d [(16, 2), (24, 8)]) || (decide (axis = 0) && decide (pf d 24 8 ≠ 0)) ||
          (decide (axis = 1) && decide (pf d 28 4 ≠ 0)) then complete s a stRANGE 0 0
  else if p.phase ≠ .open_ then complete s a stBUSY 0 (tgt d)
  else
    let key := pf d 24 8
    let s := modPress s slot fun p =>
      { p with phase := .armed, axis := axis, grain := pf d 17 1, key := key, full := keyTime s key, armAcc := some a, armFrame := s.time.frame,
               armElapsed := s.time.elapsed,
               behind := if axis = 1 then wallReached s key else if axis = 2 then lineBehind s key else false }
    if p.poisoned then pressAbort s slot 13 0xFF else holdNodes s slot

/-- PRESS_ABORT takes effect (R356). -/
def pressAbortDesc (s : State) (a : Acc) : State :=
  let slot := tIdx a.d
  if slot < 3 ∨ (pressAt s slot).owner ≠ a.req then complete s a stDENIED 0 0
  else if a.d.payload ≠ 0 then complete s a stRANGE 0 0
  else complete (pressAbort s slot 1 0xFF) a stOK 0 0

/-! ### The plan press (R358) -/

/-- PLAN_PRESS_OPEN at frame 16 of a plan tick: the press of plan k, for the tick before, with commit frame 0 of the next. -/
def planPressOpen (s : State) : State :=
  if tickFrame s = 16 ∧ plnOn s = true ∧ (pressAt s 0).phase = .free ∧ 0 < planTick s then
    modPress s 0 fun p =>
      { phase := .armed, owner := 23, kind := 0, maxPivots := bits (reg s 0x220008) 0 8, members := (stagedArms s).map .plan,
        axis := 0, grain := 2, armFrame := s.time.frame, armElapsed := s.time.elapsed, checked := true,
        commit := some ((planTick s + 1) * 1280), plan := (planTick s - 1) % 4294967296, lastCommitted := p.lastCommitted,
        lastReason := p.lastReason, lastFrame := p.lastFrame }
  else s

/-- GUARD_FINAL_VERDICT: the guard delivers its final verdicts, and the plan press is READY (R326, R358). -/
def finalVerdict (s : State) : State :=
  let had := s.grd.cycle.isSome
  let s := guardFinal s
  if had ∧ s.grd.cycle = none ∧ (pressAt s 0).phase = .armed then modPress s 0 fun p => { p with phase := .ready } else s

/-! ### Registers (R361) -/

/-- PRS_P_STAT. -/
def pressStat (p : Press) : Nat :=
  (match p.phase with
   | .free => 0
   | .open_ => 1
   | .armed => 2
   | .ready => 3) + 8 * b2n p.lastCommitted + 16 * p.lastReason + 256 * p.members.length + 32768 * b2n p.poisoned + 65536 * p.axis +
    262144 * p.grain

/-- The PRS registers that follow the state. -/
def pressReg (s : State) (off : Nat) : Nat :=
  let slots (f : Press → Bool) : Nat := listMask ((List.range 16).filter fun i => f (pressAt s i))
  if off = 0 then slots (fun p => decide (p.phase ≠ .free)) + 65536 * slots fun p => decide (p.phase = .ready)
  else if off = 0x0C then (if (pressAt s 0).phase = .free then 0 else pressHandle s 0)
  else if off = 0x1C then reg s 0x22001C
  else if 0x100 ≤ off ∧ off < 0x500 then
    let i := (off - 0x100) / 0x40
    let p := pressAt s i
    let frame := p.commit.getD p.lastFrame
    match (off - 0x100) % 0x40 with
    | 0x00 => pressStat p
    | 0x04 => if p.phase = .free then 0 else pressHandle s i
    | 0x08 => p.owner
    | 0x0C => p.kind + 4 * b2n p.strict + 8 * b2n p.hold + 16 * b2n p.event + 256 * p.maxPivots + 65536 * p.regions
    | 0x10 => p.key % 4294967296
    | 0x14 => p.key / 4294967296
    | 0x18 => frame % 4294967296
    | 0x1C => frame / 4294967296
    | 0x20 => if p.checked && decide (p.phase = .armed) then firstWaiting s i else 0xFF
    | _ => 0
  else 0

end Sys2Proof.Machine
end

