-- ==== Sys2Proof/Machine/Modes.lean ====
section
/-!
DEFINITION. The device mode and the region states at a frame boundary (R20 to R26, R462 to R466, R498 to R502, R571): MODE_SET, the
region descriptors, class actions, standing causes, and the end of a debug session (R532).
-/
namespace Sys2Proof.Machine

/-- MOD and PWR origin (R471). -/
def oMOD : Nat := blockOrigin 3

/-! ### Debug sessions end (R532) -/

/-- A session closes: every core and lane it halted resumes, its breakpoints go. `cause` 1 DBG_CLOSE, 2 TAP reset, 3 FLR or PERST,
4 lifetime, 5 DORMANT. -/
def closeSession (s : State) (ses cause : Nat) : State :=
  if mhas s.sec.sessions ses then
    let s := modSec s fun x => { x with sessions := mdel x.sessions ses, breaks := x.breaks.filter fun b => decide (b.2.2 ≠ ses) }
    let s := (List.range 18).foldl (fun s n => if (drvAt s n).halted.contains ses then resumeCore s n ses else s) s
    let s := (List.range 208).foldl (fun s q => if (laneAt s q).halted.contains ses then resumeLane s q ses else s) s
    raise s .dbgClosed 0 (ses + cause * 256) oSEC
  else s

/-! ### Entering a mode -/

/-- A SAFE_OFF pin is accepted (R92). -/
def pinAccepted (s : State) : Bool := s.md.pinA || s.md.pinB

/-- The modes in which motion can run: RUN, HOLD and SERVICE. -/
def motionMode (m : Mode) : Bool := decide (m = .run) || decide (m = .hold) || decide (m = .service)

/-- The power state (R498, R537): P2 in DORMANT, P1 while its gating acts, else P0. -/
def powerNow (s : State) : Nat := if s.md.mode = .dormant then 2 else b2n (p1On s)

/-- PWR_CHANGED when the power state moves (R543). -/
def setPower (s : State) : State :=
  if s.pins.powerState = powerNow s then s
  else raise (modPins s fun x => { x with powerState := powerNow s, wake := [] }) .pwrChanged 0 (powerNow s) oMOD

/-- Entry to DORMANT (R502). -/
def enterDormant (s : State) : State :=
  let s := closeSession (closeSession s 0 5) 1 5
  let s := guardStop (refOnWrite s false)
  (List.range 16).foldl (fun s p => if bit (rylCtrl s p) 0 then enWrite s p false else s) s

/-- MOD_HOST_LOST is reported when its cause begins to stand (R465, R511). -/
def hostLost (s : State) : State := raise s .modHostLost 0 (bits (reg s 0x10018) 0 16) oMOD

/-- The device enters a mode: `cause` 1 MODE_SET, 2 SAFE_OFF pin, 3 FATAL, 4 boot complete. The regions move in the region step. -/
def enterMode (s : State) (m : Mode) (cause cap : Nat) : State :=
  let old := s.md.mode
  let s := modMd s fun x =>
    { x with mode := m, prev := modeCode old, cause := cause, changeFrame := s.time.frame, cap := if m = .service then cap else x.cap }
  let s := raise s .modChanged 0 (modeCode m + modeCode old * 256 + cause * 65536) oMOD
  let s := if m = .safeOff ∨ m = .dormant ∨ m = .prepare then abortAll s else s
  let s := if m = .dormant then enterDormant s else s
  let s := cancelTimeouts (setPower s)
  if s.md.expired ∧ motionMode m = true ∧ motionMode old = false then hostLost s else s

/-! ### MODE_SET (R499 to R501) -/

/-- The mode of a MODE_SET's code. -/
def modeOf (code : Nat) : Option Mode :=
  match code with
  | 0 => some .dormant
  | 1 => some .prepare
  | 2 => some .run
  | 3 => some .hold
  | 4 => some .safeOff
  | 5 => some .service
  | _ => none

/-- The rank of a target of a change of mode (R501). -/
def modeRank (m : Mode) : Nat :=
  match m with
  | .run => 0
  | .hold => 1
  | .service => 2
  | .safeOff => 3
  | .prepare => 4
  | .dormant => 5
  | .boot => 0

/-- How a transition by MODE_SET is admitted (R499): none not in the table, 0 always, 1 without a FATAL latch, 2 under the run
conditions. -/
def modeAdmits (m t : Mode) : Option Nat :=
  match m, t with
  | .prepare, .run => some 2
  | .safeOff, .run => some 2
  | .run, .hold => some 1
  | .run, .service => some 1
  | .hold, .run => some 2
  | .hold, .service => some 1
  | .service, .run => some 2
  | .service, .hold => some 2
  | .run, .safeOff => some 0
  | .hold, .safeOff => some 0
  | .service, .safeOff => some 0
  | .safeOff, .prepare => some 1
  | .safeOff, .dormant => some 1
  | .prepare, .dormant => some 0
  | .dormant, .prepare => some 0
  | _, _ => none

/-- The reason of R500 for which a MODE_SET to `t` is refused, 0 for none. -/
def modeReason (s : State) (t : Mode) : Nat :=
  match modeAdmits s.md.mode t with
  | none => 1
  | some 0 => 0
  | some k =>
    if s.flt.fatal ≠ 0 then 2
    else if k < 2 then 0
    else if pinAccepted s then 3
    else if !s.grd.running && !(liveRegions s).isEmpty then 4 else 0

/-- The payload of a MODE_SET obeys R500. -/
def modeSetForm (d : Desc) : Bool :=
  (modeOf (pf d 16 1)).isSome && onlyBytes d [(16, 1), (18, 2)] && decide (pf d 18 2 ≤ 250) &&
    (decide (pf d 16 1 = 5) || decide (pf d 18 2 = 0))

/-- A MODE_SET's target. -/
def modeSetTo (a : Acc) : Mode := (modeOf (pf a.d 16 1)).getD .run

/-- A MODE_SET completes with MODE and its reason. -/
def modeSetFails (s : State) (a : Acc) (reason : Nat) : State := complete s a stMODE 0 (det8 reason)

/-- A MODE_SET completes with OK: the previous mode, the frame count's low 32 bits. -/
def modeSetOk (s : State) (prev : Nat) (a : Acc) : State :=
  complete s a stOK 0 (prev + (s.time.frame % 4294967296) * 4294967296)

/-- The CAP of a MODE_SET to SERVICE: the lowest of those that take effect together. -/
def modeSetCap (as : List Acc) : Nat :=
  as.foldl (fun c a => Nat.min c (if pf a.d 18 2 = 0 then 250 else pf a.d 18 2)) 250

/-- The causes other than MODE_SET that act on the mode: FATAL, or a pin accepted in RUN, HOLD or SERVICE (R499): its CAUSE. -/
def modeForced (s : State) (pin : Bool) : Nat :=
  if s.flt.fatal ≠ 0 ∧ s.md.mode ≠ .safeOff ∧ s.md.mode ≠ .boot then 3
  else if pin ∧ motionMode s.md.mode = true then 2 else 0

/-- The MODE_SETs whose effect is due leave the immediate queue. -/
def takeImm (s : State) (ops : List Nat) : List Acc × State :=
  (s.host.imm.filter (fun a => ops.contains a.op), modHost s fun h => { h with imm := h.imm.filter fun a => !(ops.contains a.op) })

/-- MODE_SETs against R500 and R499: those that could take effect; the others complete. -/
def modeSetsValid (s : State) (as : List Acc) : List Acc × State :=
  as.foldl (fun x a =>
    if modeSetForm a.d = false then (x.1, complete x.2 a stRANGE 0 0)
    else
      let k := modeReason s (modeSetTo a)
      if k = 0 then (x.1 ++ [a], x.2) else (x.1, modeSetFails x.2 a k)) ([], s)

/-- The mode step of a boundary (R499 to R501). -/
def modeStep (s : State) : State :=
  let s := match s.flt.fatalDue with
    | some c => modFlt s fun x => { x with fatal := if x.fatal = 0 then Nat.max 1 c else x.fatal, fatalDue := none }
    | none => s
  let pin := s.md.pinDue
  let s := modMd s fun x => { x with pinDue := false }
  let (sets, s) := takeImm s [0x0110]
  let (valid, s) := modeSetsValid s sets
  let woken := if s.md.wakeDue then s.md.waking else []
  let forced := modeForced s pin
  if forced ≠ 0 then
    let s := (valid ++ s.md.waking).foldl (fun s a => modeSetFails s a 5) s
    enterMode (modMd s fun x => { x with waking := [], wakeDue := false }) .safeOff forced 250
  else
    let top := (valid ++ woken).foldl (fun m a => Nat.max m (modeRank (modeSetTo a))) 0
    let win := (valid ++ woken).filter fun a => decide (modeRank (modeSetTo a) = top)
    let s := (valid.filter fun a => decide (modeRank (modeSetTo a) ≠ top)).foldl (fun s a => modeSetFails s a 5) s
    match win with
    | [] => s
    | a :: _ =>
      if s.md.mode = .dormant ∧ s.md.wakeDue = false then modMd s fun x => { x with waking := x.waking ++ win }
      else
        let prev := modeCode s.md.mode
        let s := enterMode (modMd s fun x => { x with waking := [], wakeDue := false }) (modeSetTo a) 1 (modeSetCap win)
        win.foldl (fun s a => modeSetOk s prev a) s

/-! ### Causes on regions (R22 to R25, R464, R465) -/

/-- A cause that acts on a region in this frame: its target, the host descriptor that asks for it, the cap it brings to SERVICE. -/
structure RegionCause where
  target : RegionState
  acc : Option Acc := none
  cap : Nat := 250
deriving DecidableEq, Repr

/-- The causes that class actions and standing causes bring to a region: HOLD and SAFE_OFF. -/
def faultCauses (s : State) (acts : List Action) (r : Nat) : List RegionCause :=
  let mine := acts.filter fun a => a.regions.contains r
  (if mine.any (fun a => a.safeOff) || (standingSafeOff s r).isSome then [{ target := .safeOff }] else []) ++
    (if mine.any (fun a => !a.safeOff) || !(standingHold s r).isEmpty then [{ target := .hold }] else [])

/-- The cause that the device mode brings to a region whose state it does not allow (R24). -/
def modeCause (s : State) (r : Nat) : List RegionCause :=
  let st := regionSt s r
  match s.md.mode with
  | .run => []
  | .boot => []
  | .hold => if st = .active then [{ target := .hold }] else []
  | .service => if st = .active ∨ st = .hold then [{ target := .service, cap := s.md.cap }] else []
  | _ => if st = .safeOff then [] else [{ target := .safeOff }]

/-- The opcodes of the region descriptors. -/
def regionOps : List Nat := [0x0100, 0x0101, 0x0102, 0x0103, 0x0104]

/-- The payload of a region descriptor obeys its row of R403. -/
def regionForm (a : Acc) : Bool :=
  if a.op = 0x0103 then onlyBytes a.d [(16, 2)] && decide (pf a.d 16 2 ≤ 250) else decide (a.d.payload = 0)

/-- What a region descriptor asks for, when R22 and the rules that it names admit it in the present state. -/
def regionAsks (s : State) (a : Acc) : Option RegionCause :=
  let r := tIdx a.d
  let st := regionSt s r
  let x := regionAt s r
  let runHold := decide (s.md.mode = .run) || decide (s.md.mode = .hold)
  let ok (b : Bool) (t : RegionState) (cap : Nat) : Option RegionCause :=
    if b then some { target := t, acc := some a, cap := cap } else none
  match a.op with
  | 0x0100 => ok (decide (st = .safeOff) && runHold && !pinAccepted s && x.latched.isEmpty && (standingSafeOff s r).isNone &&
      (standingHold s r).isEmpty && !debugHolds s r) .hold 250
  | 0x0101 => ok (decide (st = .hold) && decide (s.md.mode = .run) && guardPassesStop s r && !x.warmHeld && !debugHolds s r &&
      !factoryOnly s) .active 250
  | 0x0102 => ok (decide (st = .active)) .hold 250
  | 0x0103 =>
    let c := if pf a.d 16 2 = 0 then 250 else pf a.d 16 2
    ok (decide (st = .hold) || decide (st = .service)) .service (if factoryOnly s ∧ st = .service then Nat.min c x.cap else c)
  | _ => ok (decide (st = .service) && runHold && !debugHolds s r) .hold 250

/-- The regions, rising. -/
def allRegions : List Nat := List.range 16

/-- The SAFE_OFF faults of this frame latch in the regions of their scope (R462, R463). -/
def latchFaults (s : State) (acts : List Action) : State :=
  allRegions.foldl (fun s r =>
    if regionSt s r = .empty then s
    else
      let codes := ((acts.filter fun a => a.safeOff && a.regions.contains r).map fun a => a.code)
      modRegion s r fun x => { x with latched := x.latched ++ ((dedup codes).filter fun c => !(x.latched.contains c)) }) s

/-- Region descriptors against R28 once more, R402 and R22: those that could take effect; the others complete. An FLT_ACK among them
acts in its turn (R34). -/
def regionDescs (s : State) (as : List Acc) : List (Nat × RegionCause) × State :=
  as.foldl (fun x a =>
    match handlesRefuse x.2 a (liveHandle x.2) with
    | some (st, det) => (x.1, complete x.2 a st 0 det)
    | none =>
      if a.op = 0x1100 then (x.1, fltAck x.2 a)
      else if regionForm a = false then (x.1, complete x.2 a stRANGE 0 0)
      else match regionAsks x.2 a with
        | some c => (x.1 ++ [(tIdx a.d, c)], x.2)
        | none => (x.1, complete x.2 a stMODE 0 0)) ([], s)

/-- The descriptors of the region step in the order of their acceptance, and the immediate ones that remain: an FLT_ACK belongs to the
step where a region descriptor accepted after it names the same region (R34). -/
def regionTurns (l : List Acc) : List Acc × List Acc :=
  match l with
  | [] => ([], [])
  | a :: t =>
    let (mine, rest) := regionTurns t
    if regionOps.contains a.op || (decide (a.op = 0x1100) && mine.any fun b => decide (tgt b.d = tgt a.d)) then (a :: mine, rest)
    else (mine, a :: rest)

/-- The state as the presses of the frame will leave its slots and the regions that they hold: those that close in it are closed
(R354). -/
def afterPresses (s : State) : State :=
  (List.range 13).foldl (fun v i =>
    let slot := 3 + i
    if closesNow s slot then
      let v := modPress v slot fun _ => {}
      allRegions.foldl (fun v r => modRegion v r fun x =>
        if x.mendingBy = some slot then { x with st := if x.st = .mending then .hold else x.st, mendingBy := none } else x) v
    else v) s

/-- What the PRESS_OPENs that are due will do after the presses of the frame (R354), in the order of acceptance: the regions that
held patches take to MENDING now, and the descriptors that lose to a cause of higher rank (R23, R340, R360). `v` is the state
as those before it leave the slots. -/
def opensDue (causes : List (Nat × RegionCause)) (v : State) (l : List Acc) : List Nat × List Acc :=
  match l with
  | [] => ([], [])
  | a :: t =>
    match pressOpenCheck v a with
    | some _ => opensDue causes v t
    | none =>
      let takes := if opensHeld a then (maskList (pf a.d 20 2) 16).filter fun r => causeMoves (regionSt v r) .mending else []
      if takes.any fun r => causes.any fun c => decide (c.1 = r) && decide (1 < regionRank c.2.target) then
        let (rs, ls) := opensDue causes v t
        (rs, a :: ls)
      else
        let (u, slot) := pressOpen v a
        let u := takes.foldl (fun u r => modRegion u r fun x => { x with st := .mending, mendingBy := some slot }) u
        let (rs, ls) := opensDue causes u t
        (takes ++ rs, ls)

/-- The CAP that the causes which take a region to SERVICE bring (R571): that of the REGION_SERVICE accepted last, and that of the
device's own move to SERVICE. Where both meet in one frame the lower one holds (DESIGN CHOICE, log 73: R571 does not say which). -/
def serviceCap (wins : List RegionCause) : Nat :=
  let desc := (wins.filter fun c => c.acc.isSome).getLast?
  let mode := (wins.filter fun c => c.acc.isNone).head?
  match desc, mode with
  | some a, some b => Nat.min a.cap b.cap
  | some a, none => a.cap
  | none, some b => b.cap
  | none, none => 250

/-- The causes of one region are settled (R23): the highest-ranked target takes place; host descriptors that lose complete with
MODE. -/
def settleRegion (s : State) (r : Nat) (st0 : RegionState) (cs : List RegionCause) : State :=
  let mending := decide (regionSt s r = .mending) && decide (st0 ≠ .mending)
  let rank (c : RegionCause) : Nat := if c.target = .empty then 0 else regionRank c.target
  let top := cs.foldl (fun m c => Nat.max m (rank c)) (if mending then 1 else 0)
  let wins := cs.filter fun c => decide (rank c = top) && (c.acc.isSome || causeMoves st0 c.target)
  let s := match wins with
    | [] => s
    | w :: _ =>
      if mending ∧ top ≤ 1 then s
      else
        let by_ := (regionAt s r).mendingBy
        let s := setRegionState s r w.target (serviceCap wins)
        match by_ with
        | some slot =>
          if w.target = .safeOff ∧ st0 = .mending then pressAbort s slot 11 0xFF else s
        | none => s
  cs.foldl (fun s c => match c.acc with
    | some a => if rank c = top then complete s a stOK 0 0 else complete s a stMODE 0 0
    | none => s) s

/-- A transition to EMPTY that has yielded is taken in the first frame in which no cause moves the region (R23). -/
def takeEmpty (s : State) (r : Nat) : State :=
  let x := regionAt s r
  if x.emptyDue ∧ x.causeRank = none ∧ (x.st = .safeOff ∨ x.st = .service) ∧ (s.arms.all fun e => decide (e.2.region ≠ r)) = true then
    advanceGen (modRegion s r fun x => { x with st := .empty, emptyDue := false }) cREGION r
  else s

/-- The region step of a boundary: every cause of the frame acts (R22 to R25, R462 to R465). -/
def regionStep (s : State) (acts : List Action) : State :=
  let s := allRegions.foldl (fun s r => modRegion s r fun x => { x with causeRank := none }) s
  let s := latchFaults s acts
  let (descs, rest) := regionTurns s.host.imm
  let (asks, s) := regionDescs (modHost s fun h => { h with imm := rest }) descs
  let causes := asks ++ allRegions.flatMap fun r =>
    if regionSt s r = .empty then [] else ((modeCause s r ++ faultCauses s acts r).map fun c => (r, c))
  let (takes, lost) := opensDue causes (afterPresses s) (s.host.imm.filter fun a => decide (a.op = 0x0B00))
  let before := allRegions.map (regionSt s)
  let s := lost.foldl (fun s a => complete s a stMODE 0 0) (modHost s fun h => { h with imm := h.imm.filter fun a => !(lost.contains a) })
  let s := takes.foldl (fun s r => if causeMoves (regionSt s r) .mending then setRegionState s r .mending 250 else s) s
  let s := allRegions.foldl (fun s r =>
    settleRegion s r (before.getD r .empty) ((causes.filter fun c => decide (c.1 = r)).map fun c => c.2)) s
  allRegions.foldl takeEmpty s

/-- The mode and region steps of a boundary, over the class actions that were due at it. -/
def modesAndRegions (s : State) : State :=
  let acts := s.flt.actions
  let s := modeStep (modFlt s fun x => { x with actions := [] })
  regionStep s acts

/-- A region state that the device mode allows (R24). -/
def modeAllows (m : Mode) (st : RegionState) : Bool :=
  match m, st with
  | _, .empty => true
  | _, .safeOff => true
  | .run, _ => true
  | .hold, .active => false
  | .hold, _ => true
  | .service, .service => true
  | .service, .mending => true
  | _, _ => false

/-- Every region's state is one that the device mode allows: a region that an operation between boundaries has left in another
state goes where R24 takes it. -/
def boundRegions (s : State) : State :=
  { s with regions := s.regions.map fun e =>
      if modeAllows s.md.mode e.2.st then e
      else
        let t : RegionState := match s.md.mode with
          | .hold => .hold
          | .service => .service
          | _ => .safeOff
        (e.1, { e.2 with st := t, cap := if t = .service then s.md.cap else e.2.cap }) }

end Sys2Proof.Machine
end

