-- ==== Sys2Proof/Machine/Keeper.lean ====
section
/-!
DEFINITION. The keeper: the SAFE_OFF pins (R92), the DIN filters and the outputs (R512, R547, R551 to R553), temperature and supplies
(R510, R562), the resets (R507 to R509), boot (R503 to R506, R523, R524), the function resets (R409, R412), the host watchdog
(R511), power (R537 to R539), the TAP (R532, R535).
-/
namespace Sys2Proof.Machine

/-! ### SAFE_OFF pins -/

/-- The accepted states of the pins change: an episode of disagreement begins or ends (R92). -/
def pinStates (s : State) (a b : Bool) : State :=
  modMd s fun x =>
    { x with pinA := a, pinB := b, pinSince := if x.pinA || x.pinB then x.pinSince else s.time.elapsed,
             discrep := if a = b then none else if x.discrep.isSome then x.discrep else some s.time.elapsed,
             discrepRaised := if a = b then false else x.discrepRaised }

/-- SAFE_OFF_PIN_ACCEPT (R92, R499). -/
def pinAccept (s : State) (pin : Nat) : State :=
  let a := s.md.pinA || decide (pin = 0)
  let b := s.md.pinB || decide (pin = 1)
  modMd (pinStates s a b) fun x => { x with pinDue := true }

/-- SAFE_OFF_PIN_RELEASE. -/
def pinRelease (s : State) (pin : Nat) : State :=
  pinStates s (s.md.pinA && decide (pin ≠ 0)) (s.md.pinB && decide (pin ≠ 1))

/-- KILL_DISCREPANCY: the pins have disagreed for more than 5 ms (R92). -/
def killDiscrepancy (s : State) : State :=
  match s.md.discrep with
  | some t =>
    if t + 5 * msU < s.time.elapsed ∧ s.md.discrepRaised = false then
      raise (modMd s fun x => { x with discrepRaised := true }) .rylKillDiscrepancy 0
        (255 + (b2n s.md.pinA + 2 * b2n s.md.pinB) * 65536) (blockOrigin 8)
    else s
  | none => s

/-! ### Digital inputs (R547, R551) -/

def dinAt (s : State) (n : Nat) : Din := mgetD s.pins.dins n {}
def modDin (s : State) (n : Nat) (f : Din → Din) : State := modPins s fun p => { p with dins := mput p.dins n (f (dinAt s n)) }
/-- MOD_DIN_CFGn. -/
def dinCfg (s : State) (n : Nat) : Nat := reg s (0x11100 + 4 * n)
/-- The bank of a DIN pin. -/
def dinBank (n : Nat) : Nat := if n < 32 then 2 else 3
/-- An I/O bank is powered. -/
def bankOn (s : State) (b : Nat) : Bool := bit s.pins.banks b
/-- The pin's level after INVERT; a pin of an unpowered bank reads 0. -/
def dinIn (s : State) (n : Nat) (level : Bool) : Bool := bankOn s (dinBank n) && (level != bit (dinCfg s n) 18)

/-- The raw level changes: the debounce window restarts, homing sequences see it (R551, R552). -/
def dinRawSet (s : State) (n : Nat) (raw : Bool) (ts : Nat) : State :=
  if (dinAt s n).raw = raw then s
  else
    let win := bits (dinCfg s n) 8 10
    let s := modDin s n fun d =>
      { d with raw := raw, rawTs := ts, level := if win = 0 then raw else d.level,
               ends := if win = 0 then none else some (s.time.elapsed + win * 10 * usU) }
    homeDinChange s n

/-- Both stages start from the pin's present level. -/
def dinStart (s : State) (n : Nat) : State :=
  let v := dinIn s n (dinAt s n).pin
  let old := (dinAt s n).raw
  let s := modDin s n fun d => { d with raw := v, rawTs := wall32 s, level := v, ends := none }
  if old = v then s else homeDinChange s n

/-- DIN_CHANGE: the pin has held a level for GLITCH + 1 cycles, the last of them this one (R551). -/
def dinChange (s : State) (n : Nat) (level : Bool) : State :=
  let s := modDin s n fun d => { d with pin := level }
  if s.md.held || !(bankOn s (dinBank n)) then s
  else dinRawSet s n (dinIn s n level) (un 32 (floorDiv (s.time.ptp - bits (dinCfg s n) 0 8 * cycleU s) nsU))

/-- DIN_DEBOUNCE_EXPIRY. -/
def dinExpiry (s : State) (n : Nat) : State :=
  match (dinAt s n).ends with
  | some t => if t ≤ s.time.elapsed then modDin s n fun d => { d with level := d.raw, ends := none } else s
  | none => s

/-- DIN_CFG_WRITE: PF0 writes a filter configuration (R551, R564). -/
def dinCfgWrite (s : State) (req n v : Nat) : State :=
  if req ≠ 32 ∨ 1000 < bits v 8 10 then s
  else
    let old := dinCfg s n
    let s := setReg s (0x11100 + 4 * n) (v % 524288)
    if v % 262144 ≠ old % 262144 then dinStart s n else dinRawSet s n (dinIn s n (dinAt s n).pin) (wall32 s)

/-- BANK_POWER_CHANGE: a bank's pins and filters follow its supply (R547, R551); without bank 0 the device is in reset. -/
def bankPower (s : State) (b : Nat) (on : Bool) (levels : Nat) : State :=
  let s := modPins s fun p => { p with banks := setBit p.banks b on }
  ((List.range 64).filter fun n => decide (dinBank n = b)).foldl (fun s n =>
    let s := if on then modDin s n fun d => { d with pin := bit levels n } else s
    if s.md.held then s else dinStart s n) s

/-- The field pins that a powered bank shows: ENC on bank 1, MDAT and MCLK on bank 5 (R544, R547). -/
def fieldPins (s : State) (i : FrameIn) : FrameIn :=
  let i := if bankOn s 1 then i else { i with encA := 0, encB := 0, encZ := 0 }
  if bankOn s 5 then i else { i with mdat := 0, mclk := 0 }

/-! ### Outputs (R512, R513, R553) -/

/-- DOUT levels and drives at a frame boundary. -/
def doutFrame (s : State) : State :=
  let mask := reg s 0x10024
  let safe := reg s 0x10020
  let lv := reg s 0x11004
  let oe := reg s 0x11008
  let all := 4294967295
  let pick (m a b : Nat) : Nat := (a &&& m) ||| (b &&& (all - m))
  match s.md.mode with
  | .dormant => modPins s fun p => { p with dout := pick mask safe p.dout, oe := pick mask all p.oe }
  | .safeOff => modPins s fun p => { p with dout := pick mask safe lv, oe := pick mask all oe }
  | .boot => modPins s fun p => { p with dout := 0, oe := 0 }
  | _ => modPins s fun p => { p with dout := lv, oe := oe }

/-- What the outputs show in the present phase (R512); the pins of an unpowered bank are high-impedance (R547). -/
def outputsOf (s : State) : Outputs :=
  if s.md.held then {}
  else
    let pin := pinAccepted s
    let oe := if bankOn s 4 then s.pins.oe else 0
    let clk (k : Nat) : Nat := if bankOn s 1 then k else 0
    let enc := if bankOn s 1 then s.pins.encDrives else []
    match s.md.mode with
    | .boot => { safeState := 1, ethLink := decide (6 ≤ s.md.stage) }
    | .dormant => { dout := s.pins.dout, drive := oe, safeState := 2, link := 0, ethLink := true, encClock := clk 1,
                    encLevels := enc.map fun e => (e.1, 255) }
    | .prepare => { dout := s.pins.dout, drive := oe, safeState := 2, link := 1, ethLink := true, encClock := clk 2, encLevels := enc }
    | .safeOff => { dout := s.pins.dout, drive := oe, safeState := 2, link := 1, ethLink := true, encClock := clk 2, encLevels := enc }
    | _ => { dout := s.pins.dout, drive := oe, safeState := if pin then 2 else 1, link := if pin then 1 else 2, ethLink := true, encClock := clk 2,
             encLevels := enc }

/-! ### Temperature and supplies -/

/-- Firmware sets the core rail at a reading of the temperature, one a millisecond (R540, R562): by a free step of at most 10 mV, and
within 700 to 800 mV. The first setting starts from the middle of that range (DESIGN CHOICE, log 75). -/
def vcoreStep (s : State) : State :=
  let (i, s) := draw s
  modPins s fun p =>
    { p with vcoreSet := Nat.max 700 (Nat.min 800 ((if p.vcoreSet = 0 then 750 else p.vcoreSet) + Config.freeNat i % 21 - 10)) }

/-- TEMPERATURE_READING (R510, R540, R562): `t` is PWR_TJ, signed Q8.8. -/
def temperature (s : State) (t : Nat) : State :=
  let s := vcoreStep s
  let v := sx 16 t
  let was := s.pins.hot
  let n := if 120 * 256 < v then s.pins.hotCount + 1 else 0
  let s := modPins s fun p =>
    { p with tj := v, hot := if 110 * 256 < v then true else if v < 105 * 256 then false else p.hot, hotCount := n }
  let s := if 110 * 256 < v ∧ was = false then raise s .modThermal 0 (t % 65536) oMOD else s
  -- two readings 1 ms apart span 1 ms above 120 °C
  if n = 2 then raise s .fltFatal 0 4 oFLT else s

/-- The recommended range of a rail in mV (R545): that of the core rail is its set point ± 20 mV, and before the first setting the
0.75 V at which the board brings it up (R546; log 75). -/
def railRange (s : State) (rail : Nat) : Nat × Nat :=
  let v := if s.pins.vcoreSet = 0 then 750 else s.pins.vcoreSet
  match rail with
  | 0 => (v - 20, v + 20)
  | 1 => (1710, 1890)
  | 2 => (810, 890)
  | 3 => (1140, 1260)
  | _ => (1650, 3630)

/-- SUPPLY_READING (R510, R545): a rail's reading in mV, and whether it lies above that by a part of one. -/
def supplyReading (s : State) (rail : Nat) (more : Bool) (mv : Nat) : State :=
  let (lo, hi) := railRange s rail
  let s := if rail = 0 then modPins s fun p => { p with vcore := mv } else s
  if mv < lo ∨ hi < mv ∨ (mv = hi ∧ more = true) then raise s .modSupply 0 rail oMOD else s

/-- SYSREF_LOSS (R480, R558). -/
def sysrefLoss (s : State) : State :=
  if s.pins.sysref then raise (modPins s fun p => { p with sysref := false }) .fltFatal 0 3 oFLT else s

/-! ### The host watchdog (R511) -/

/-- MOD_HOSTWD's TIMEOUT in ms. -/
def hostwdMs (s : State) : Nat := bits (reg s 0x10018) 0 16

/-- MOD_HOSTWD_WRITE. -/
def hostwdWrite (s : State) (req v : Nat) : State :=
  let t := v % 65536
  if req ≠ 32 ∨ (t ≠ 0 ∧ (t < 10 ∨ 60000 < t)) then s
  else modMd (setReg s 0x10018 t) fun x => { x with hostwd := if t = 0 then none else some s.time.elapsed, expired := false }

/-- MOD_HOSTWD_KICK. -/
def hostwdKick (s : State) (req : Nat) : State :=
  if req ≠ 32 ∨ s.md.hostwd = none then s else modMd s fun x => { x with hostwd := some s.time.elapsed, expired := false }

/-- HOST_WATCHDOG_EXPIRY. -/
def hostwdExpiry (s : State) : State :=
  match s.md.hostwd with
  | some t =>
    if t + hostwdMs s * msU ≤ s.time.elapsed ∧ s.md.expired = false then
      let s := modMd s fun x => { x with expired := true }
      if motionMode s.md.mode then hostLost s else s
    else s
  | none => s

/-! ### Cold reset (R507 to R509) -/

/-- A cold reset: every part but the MRAM ledger, which also keeps the page remap table (R486), and the boot flash returns to its reset
state; the lifecycle that the fuses hold governs (R508, R516). `cause` is the bit of MOD_RESET_CAUSE, `off` whether the rails are down. -/
def coldReset (s : State) (cause : Nat) (off : Bool) : State :=
  { pending := s.pending, free := s.free,
    sec := { s.sec with lifecycle := s.sec.fused, ownerSupplied := false, fwSvn := 0, sessions := [], flags := [], breaks := [],
                        drawn := mput (mput s.sec.drawn 0 (mgetD s.sec.drawn 0 0 + 1)) 1 (mgetD s.sec.drawn 1 0 + 1),
                        tapResets := 0 },
    hlt := { ledger := s.hlt.ledger, ledgerOld := s.hlt.ledgerOld, log := s.hlt.log, logHead := s.hlt.logHead, logSeq := s.hlt.logSeq,
             hours := s.hlt.hours, bands := s.hlt.bands, writesA := s.hlt.writesA, writesB := s.hlt.writesB },
    mem := { remap := s.mem.remap },
    pins := { banks := s.pins.banks, dins := s.pins.dins.map (fun e => (e.1, { pin := e.2.pin })), sysref := s.pins.sysref },
    host := { perst := s.host.perst, linkUp := !s.host.perst && !(off || s.sec.resetHeld) },
    md := { held := off || s.sec.resetHeld, off := off, resetCause := cause, pinA := s.md.pinA, pinB := s.md.pinB,
            discrep := if s.md.pinA = s.md.pinB then none else some 0 } }

/-- Cold reset is released: the link begins training unless PERST_N is low (R505, R512), both stages of every DIN pin start, boot runs
from stage 1. -/
def releaseReset (s : State) : State :=
  (List.range 64).foldl dinStart (modHost (modMd s fun x => { x with held := false }) fun h => { h with linkUp := !h.perst })

/-- A cold reset whose sources have ended starts boot. -/
def coldStart (s : State) (cause : Nat) : State :=
  let s := coldReset s cause false
  if s.md.held then s else releaseReset s

/-- POWER_ON: the banks powered, and the levels of the DIN pins. -/
def powerOn (s : State) (banks levels : Nat) : State :=
  let s := modPins s fun p => { p with banks := banks, dins := (List.range 64).map fun n => (n, { pin := bit levels n }) }
  coldStart s 1

/-- RESET_N_ACCEPT. -/
def resetAccept (s : State) : State := coldReset (modSec s fun x => { x with resetHeld := true }) 2 s.md.off

/-- RESET_N_RELEASE (R535): a boundary-scan instruction gives way to BYPASS, and boot starts. -/
def resetRelease (s : State) : State :=
  let held := s.sec.resetHeld
  let s := modSec s fun x => { x with resetHeld := false, tap := if x.tap = 3 then 0 else x.tap }
  if held ∧ s.md.off = false then releaseReset s else s

/-- BROWN_OUT. -/
def brownOut (s : State) : State := if s.md.off then s else coldStart s 4

/-- MOD_RESET_WRITE. -/
def modReset (s : State) (req v : Nat) : State := if req = 32 ∧ v = 0x0000C01D then coldStart s 8 else s

/-- PWR_OFF: in DORMANT the regulators go off, and the device enters P3 (R538). -/
def pwrOff (s : State) (req : Nat) : State := if req = 32 ∧ s.md.mode = .dormant then coldReset s 0 true else s

/-- The loss of bank 0 holds the device in reset (R507, R546, R547). -/
def bankChange (s : State) (b : Nat) (on : Bool) (levels : Nat) : State :=
  let s := bankPower s b on levels
  if b = 0 ∧ on = false then coldReset s s.md.resetCause true else s

/-! ### Boot (R503 to R506, R523, R524) -/

/-- Boot fails at the present stage. -/
def bootFail (s : State) (cause : Nat) : State :=
  modHost (modMd s fun x => { x with fail := cause }) fun h => { h with crs := false }

/-- The next stage begins. -/
def bootNext (s : State) : State := modMd s fun x => { x with stage := x.stage + 1 }

/-- The firmware that runs: its SVN, and whether it sets COMMIT_SVN. -/
def runImage (s : State) (img : List Byte) : State :=
  modMd (modSec s fun x => { x with fwSvn := sigSvn img (envelopeSig img) })
    fun x => { x with commitSvn := bit (leNat (takeBytes img 7 1)) 1 }

/-- Stage 3: image A, then image B (R523); each one that fails is reported (R522). -/
def bootVerify (s : State) (b : BootFacts) : State :=
  let ca := envelopeCheck s 1 b.imageA
  let cb := envelopeCheck s 1 b.imageB
  if b.floorsBad then bootFail s 5
  else if ca = 0 then bootNext (runImage s b.imageA)
  else
    let s := rejectImage s 1 ca
    if b.imageB.isEmpty then bootFail s (if ca = 3 then 6 else 5)
    else if cb = 0 then bootNext (modMd (runImage s b.imageB) fun x => { x with imageB := true })
    else bootFail (rejectImage s 1 cb) (if ca = 3 ∧ cb = 3 then 6 else 5)

/-- Stage 5: the good copy with the higher sequence is applied (R456). -/
def bootLedger (s : State) (b : BootFacts) : State :=
  let newIsA := decide (s.hlt.ledger.seq % 2 = 1)
  let newGood := if newIsA then b.copyA else b.copyB
  let oldGood := if newIsA then b.copyB else b.copyA
  let l := if newGood then s.hlt.ledger else s.hlt.ledgerOld
  let s := modHlt s fun h => { h with ledger := { l with bad := !newGood && !oldGood },
                                      copyA := b.copyA, copyB := b.copyB }
  bootNext (ledgerApply s)

/-- Stage 7: the device enters PREPARE; the firmware floor follows COMMIT_SVN (R504, R524). -/
def bootDone (s : State) (us : Nat) : State :=
  let s := careBuild s
  let s := modSec s fun x => { x with fwFloor := if s.md.commitSvn then Nat.max x.fwFloor x.fwSvn else x.fwFloor }
  let s := modHost (modMd (bootNext s) fun x => { x with bootTime := satU 32 us }) fun h => { h with crs := false }
  let s := enterMode s .prepare 4 250
  raise s .modBooted 0 (s.md.resetCause + 256 * b2n s.md.perstSeen + s.md.bootTime * 4294967296) oMOD

/-- BOOT_STAGE_DONE: the present stage completes, or fails with a cause of R504. Stage 3 is judged on what the flash holds, and stage
5 does not fail. -/
def bootStage (s : State) (ok : Bool) (cause us : Nat) (b : BootFacts) : State :=
  if s.md.held ∨ s.md.mode ≠ .boot ∨ s.md.fail ≠ 0 then s
  else
    let fails (lo : Nat) : State := bootFail s (if cause = lo + 1 then lo + 1 else lo)
    match s.md.stage with
    | 1 => if ok then bootNext s else fails 1
    | 2 => if ok then bootNext (modSec s fun x => { x with rangeA := b.rangeA, rangeB := b.rangeB }) else fails 3
    | 3 => bootVerify s b
    | 4 => if ok then bootNext s else fails 7
    | 5 => bootLedger s b
    | 6 => if ok then bootDone s us else bootFail s 9
    | _ => s

/-- MOD_RCV_GO: after a boot failure at stage 2 or 3 the recovery image is fetched (R506). -/
def rcvGo (s : State) (req : Nat) : State :=
  if req = 32 ∧ s.md.mode = .boot ∧ s.md.fail ≠ 0 ∧ (s.md.stage = 2 ∨ s.md.stage = 3) then modMd s fun x => { x with rcvBusy := true } else s

/-- RECOVERY_IMAGE_DONE: the image is verified; boot goes on at stage 4, or the image is reported and the failure stands with cause 5
(R506, R522). -/
def rcvDone (s : State) (img : List Byte) : State :=
  if s.md.rcvBusy = false then s
  else
    let s := modMd s fun x => { x with rcvBusy := false }
    let cause := if img.length = reg s 0x10030 then envelopeCheck s 1 img else 1
    if cause = 0 then modMd (runImage s img) fun x => { x with stage := 4, fail := 0, recovery := true }
    else modMd (rejectImage s 1 cause) fun x => { x with fail := 5 }

/-! ### Host and function resets (R409, R412, R505, R508) -/

/-- The rings that a function owns and that are not DOWN. -/
def fnRings (s : State) (f : Nat) : List Nat := mkeys s.host.rings fun _ r => decide (r.owner = f) && decide (r.st ≠ .down)

/-- Offset of a function's register block. -/
def fnBlock (f : Nat) : Nat := 0x30100 + 0x40 * f

/-- A SUBMIT node goes into ERROR, as for a template memory error (R379, R412). -/
def submitError (s : State) (n : Nat) : State :=
  let s := modWorker (unlist s n) 27 fun w => { w with prefetch := w.prefetch.filter (· ≠ n) }
  if (nodeAt s n).st = .error then s else nodeFault s n 4

/-- The function's rings go DOWN without completions, and none that it has asked for comes UP any more (DEDUCED, log 64); its presses
abort, its transfers and waits end. -/
def fnDown (s : State) (f : Nat) : State :=
  let s := modRing ((fnRings s f).foldl ringDown s) f fun x => { x with upDue := false, downDue := false }
  let s := setReg s (fnBlock f + 0x14) 0
  let s := modHost s fun h =>
    { h with busMaster := mdel h.busMaster f, downRefused := h.downRefused.filter (· ≠ f),
             pba := h.pba.filter fun k => decide (k / 64 ≠ f),
             imm := h.imm.filter fun a => !(decide (a.op = 0x0D00) && decide (a.req = 32 + f)) }
  let s := abortOwned s (32 + f)
  let s := problemCreateAbort (drvLoadAbort s (32 + f)) (32 + f)
  modGsc s fun g => { g with waits := g.waits.filter fun w => decide (w.acc.req ≠ 32 + f) }

/-- R412: `cause` 3 FLR, 4 bus master disabled, 5 VF Enable cleared. -/
def fnReset (s : State) (f cause : Nat) : State :=
  let hs := (fnRings s f).map fun r => handleOf s cRING r
  let s := fnDown s f
  let subs := mkeys s.gsc.nodes fun _ n => decide (n.op = 5) && decide (n.owner = 32 + f)
  let s := subs.foldl submitError s
  hs.foldl (fun s h => raise s .hstRingDown h cause (origin 5 f)) s

/-- FLR of a function: its HST_F registers return to their reset values but for QUOTA, REGIONS and GROUPS; with that of PF0 its locks
are freed, its waiting send is withdrawn and session 1 closes (R412, R438, R532). -/
def flr (s : State) (f : Nat) : State :=
  let s := fnReset s f 3
  let keep (k : Nat) : Bool := decide (k < fnBlock f) || decide (fnBlock f + 0x40 ≤ k) || [0x20, 0x24, 0x28].contains (k - fnBlock f)
  let s := { s with regs := s.regs.filter fun e => keep (e.1 % 16777216) }
  let s := modHost s fun h => { h with unmasked := h.unmasked.filter (fun k => decide (k / 64 ≠ f)), aer := h.aer.filter (· ≠ f),
                                       msixTable := h.msixTable.filter fun e => decide (e.1 / 256 ≠ f) }
  let s := raise s .hstFlr 0 f (origin 5 f)
  if f = 0 then closeSession (withdrawSend (freeLocksOf s 32) 32) 1 3 else s

/-- BUS_MASTER_SET: fetching, writes and messages start in the frame after (R409). A VF that masters the bus is enabled: no command
of its own enables VFs (DESIGN CHOICE). -/
def busMasterSet (s : State) (f : Nat) : State :=
  if mhas s.host.busMaster f then s
  else modHost s fun h => { h with busMaster := mput h.busMaster f (s.time.frame + 1), numVf := Nat.max h.numVf f }

/-- BUS_MASTER_CLEAR. -/
def busMasterClear (s : State) (f : Nat) : State := if mhas s.host.busMaster f then fnReset s f 4 else s

/-- VF_ENABLE_CLEAR. -/
def vfClear (s : State) : State :=
  modHost (((List.range 15).map (· + 1)).foldl (fun s f => fnReset s f 5) s) fun h => { h with numVf := 0 }

/-- PERST_N_ASSERT: the host reset (R508). -/
def perstAssert (s : State) : State :=
  let s := modHost s fun h => { h with perst := true, linkUp := false, crs := true }
  if s.md.held then s
  else
    let s := (List.range 16).foldl fnDown s
    let s := { s with regs := s.regs.filter fun e => decide (e.1 % 16777216 < 0x30000) || decide (0x40000 ≤ e.1 % 16777216) }
    let s := modHost s fun h => { h with busMaster := [], downRefused := [], numVf := 0, unmasked := [], pba := [], msixTable := [], aer := [],
                                         rings := h.rings.map fun e => (e.1, { e.2 with dbErr := false }),
                                         hiLatch := h.hiLatch.filter fun e => decide (e.1 / 16777216 < 32) || decide (48 ≤ e.1 / 16777216),
                                         loHeld := h.loHeld.filter fun e => decide (e.1 / 16777216 < 32) || decide (48 ≤ e.1 / 16777216) }
    closeSession (modMd s fun x => { x with perstSeen := true }) 1 3

/-- PERST_N_RELEASE: link training begins unless a cold reset holds the device (R512); configuration requests are answered with retry until stage 6 completes or boot fails. -/
def perstRelease (s : State) : State :=
  modHost s fun h => { h with perst := false, linkUp := !s.md.held, crs := decide (s.md.mode = .boot) && decide (s.md.fail = 0) }

/-! ### Power (R499, R537 to R539) -/

/-- P0_RESTORED: the change from DORMANT to PREPARE takes effect at the next boundary. -/
def p0Restored (s : State) : State := if s.md.waking = [] then s else modMd s fun x => { x with wakeDue := true }

/-- PART_WAKE: the parts that descriptors need are awake, and those descriptors take effect at the next boundary. -/
def partWake (s : State) : State :=
  let s := modPins s fun p => { p with wake := p.wake.map fun e => (e.1, 1) }
  modHost s fun h => { h with imm := h.asleep ++ h.imm, asleep := [] }

/-- New spread depths take effect at a plan-tick boundary (R539). -/
def spreadTick (s : State) : State := modPins s fun p => { p with spread := reg s 0x10808 }

/-! ### Debug sessions and the TAP (R530, R532, R535) -/

/-- DBG_SESSION_EXPIRY. -/
def sessionExpiry (s : State) (ses : Nat) : State :=
  match (mget s.sec.sessions ses).bind fun x => x.ends with
  | some t => if t ≤ s.time.elapsed then closeSession s ses 4 else s
  | none => s

/-- JTAG_DBGACC_TOKEN: a session is asked for through DBGACC (R530). -/
def jtagToken (s : State) (level regions : Nat) (token : List Byte) : State :=
  if s.sec.tap = 2 ∧ 1 ≤ level ∧ s.md.mode ≠ .boot then (attemptSession s 0 level (if level = 2 then regions else 0) token).1 else s

/-- TAP_RESET: the second one since session 0 opened closes it. -/
def tapReset (s : State) : State :=
  let s := modSec s fun x => { x with tap := 1 }
  if mhas s.sec.sessions 0 then
    if 1 ≤ s.sec.tapResets then closeSession (modSec s fun x => { x with tapResets := 0 }) 0 2
    else modSec s fun x => { x with tapResets := x.tapResets + 1 }
  else s

end Sys2Proof.Machine
end

