-- ==== Sys2Proof/Machine/GraphRun.lean ====
section
/-!
DEFINITION. Nodes at work (R365, R366, R368, R370 to R372, R378, R379): placement, the start of a worker's next node, and the end of
each operation.
-/
namespace Sys2Proof.Machine

/-! ### Starting (R370) -/

/-- A DRAVER node starts its graph operation: at its ENTRY, G1 := ARG, G2 := the node's handle (R365). -/
def graphStart (s : State) (w i : Nat) : State :=
  let n := nodeAt s i
  modDrv s w fun c =>
    let x := startAt c.graph (bits n.args 32 16)
    { c with graph := { x with g := (x.g.set 1 (bits n.args 64 32)).set 2 (handleOf s cNODE i) } }

/-- A worker that runs nothing starts the next node in its slots; a Draver core does so outside its loops. -/
def pumpWorker (s : State) (w : Nat) : State :=
  let x := workerAt s w
  if x.prefetch.isEmpty || x.quarantined then s
  else if w < 18 then
    let c := drvAt s w
    if x.running.isSome || !c.queue.isEmpty || !c.halted.isEmpty || c.stopped then s
    else
      let s := startNext s w false
      match (workerAt s w).running with
      | some i => graphStart s w i
      | none => s
  else startNext s w false

/-- Every worker starts what it can, and HOUSE gangs take up the problem of the node that runs. -/
def pumpWorkers (s : State) : State :=
  let ws := mkeys s.gsc.workers fun _ x => !x.prefetch.isEmpty || x.running.isSome
  ws.foldl (fun s w =>
    let s := pumpWorker s w
    if 64 ≤ w then houseDispatch s (w - 64) else s) s

/-! ### Placement (R371, R372) -/

/-- NODE_PLACEMENT: ready nodes that find no eligible worker are reported; the highest-priority ready node that has a worker with a free slot is placed; a JOIN completes at once. -/
def placeNode (s : State) : State :=
  let s := judgeNodes s
  if placing s = false then s
  else
    let s := reportNoWorker s
    match placeable s with
    | none => s
    | some (i, w) =>
      let s := bump (takeInputs s i w) 0x230010
      if w = 28 then nodeDone (noteStart s i) i fun _ => true
      else modWorker s w fun x => { x with prefetch := x.prefetch ++ [i] }

/-! ### DMA and GUARD nodes (R365, R366) -/

/-- A number as words' bytes, and bytes as words. -/
def wordsBytes (ws : List Nat) : List Byte := ws.flatMap fun w => leBytes 4 w
def bytesWords (bs : List Byte) : List Nat := (List.range (bs.length / 4)).map fun i => leNat (takeBytes bs (4 * i) 4)

/-- Entries of the tagged result queue are taken, oldest first. -/
def popEntries (n : Nat) (s : State) : List Nat × State :=
  match n with
  | 0 => ([], s)
  | k + 1 =>
    match tqTake s with
    | (some e, s) =>
      let (l, s) := popEntries k s
      (e.1 :: e.2 :: l, s)
    | (none, s) => ([], s)

/-- What a DMA source gives: the bytes, and whether it met an uncorrectable error. -/
def dmaRead (s : State) (kind src len : Nat) : Option (List Byte) × State :=
  match kind with
  | 1 => memFetch s src len
  | 2 =>
    let c := drvAt s (bits src 16 8)
    (some (wordsBytes ((List.range (len / 4)).map fun i => dataAt c (bits src 0 16 + i))), s)
  | 3 =>
    let (l, s) := popEntries ((len - 4) / 8) s
    (some (wordsBytes (l.length / 2 :: l)), s)
  | _ =>
    let p := probAt s (hIdx (bits src 0 32))
    (some (wordsBytes ((List.range (len / 4)).map fun i => p.result.getD (bits src 32 16 + i) 0)), s)

/-- The bytes go to a DMA destination. -/
def dmaWrite (s : State) (kind dst : Nat) (bs : List Byte) : State :=
  match kind with
  | 1 => memStore s dst bs
  | 2 =>
    modDrv s (bits dst 16 8) fun c =>
      { c with data := ((bytesWords bs).zipIdx (bits dst 0 16)).foldl (fun m e => mput m e.2 e.1) c.data }
  | _ => writeProblem s (hIdx (bits dst 0 32)) (bits dst 32 16) (bytesWords bs)

/-- A problem that a DMA node writes runs on its HOUSE gang: the write waits (R278, R366). -/
def dmaBlocked (s : State) (n : Node) : Bool :=
  decide (bits n.args 8 8 = 5) &&
    match (probAt s (hIdx (bits n.args 128 32))).bound with
    | some l => decide ((gangAt s l).role = 3) &&
        ((gangAt s l).run.map fun r => decide (r.problem = hIdx (bits n.args 128 32))).getD false
    | none => false

/-- A DMA node copies (R366); an uncorrectable error is a fault (R379). -/
def dmaDone (s : State) (i : Nat) : State :=
  let n := nodeAt s i
  let a := n.args
  if dmaBlocked s n then s
  else match dmaRead s (bits a 0 8) (bits a 64 64) (bits a 32 32) with
    | (some bs, s) => nodeDone (dmaWrite s (bits a 8 8) (bits a 128 64) bs) i fun _ => true
    | (none, s) => nodeFault s i 3

/-- The words that a GUARD node writes: `what` of R365, of the last completed guard cycle, in handle-index order. DESIGN CHOICE
(log 61): one word or two for every handle index, 16 arms or 128 tracks, an index without an object giving what its registers read. -/
def guardWords (s : State) (what : Nat) : List Nat :=
  let s := modGrd s fun x => { x with arms := x.doneArms, tracks := x.doneTracks }
  match what with
  | 1 => (List.range 16).map fun a => grdArmReg s a 0x08
  | 2 => (List.range 128).flatMap fun t => [grdTrackReg s t 0, grdTrackReg s t 8]
  | _ => (List.range 16).map fun a => grdArmReg s a 0x0C

/-! ### The end of an operation (R368, R379) -/

/-- A core issues instructions of its graph operation until it ends, at most `fuel` of them, or until an uncorrectable error stops it
(R206). -/
def runGraph (fuel : Nat) (s : State) (w i : Nat) (err : Option (Nat × Nat × Nat)) : State :=
  match fuel with
  | 0 => s
  | k + 1 =>
    let c := drvAt s w
    if (workerAt s w).running ≠ some i ∨ c.graph.ended = true then s
    else
      let ins := drvDecode (codeAt c c.graph.pc)
      match errHere err ins with
      | some (e, mem) => if e = 2 then drvMemError s w 2 mem else runGraph k (drvRow (drvMemError s w 1 mem) w true ins) w i none
      | none => runGraph k (drvRow s w true ins) w i (errNext err)

/-- A DRAVER node's operation runs to its EXIT: the outputs of G3[3:0] fire. -/
def draverDone (s : State) (i : Nat) (err : Option (Nat × Nat × Nat)) : State :=
  let w := (nodeAt s i).worker
  let c := drvAt s w
  if c.halted.isEmpty && !c.stopped then
    let s := runGraph 65536 s w i err
    let c := drvAt s w
    if (workerAt s w).running = some i ∧ c.graph.ended = true then
      let (d, x) := drain c c.graph
      let fired := gAt x 3
      nodeDone (modDrv s w fun _ => { d with graph := x }) i (bit fired)
    else s
  else s

/-- A HOUSE node's problem ends; on a gang that cannot run it is LATE (R281, R379). -/
def houseNodeDone (s : State) (i : Nat) : State :=
  let l := (nodeAt s i).worker - 64
  if gangServes s l then (if (gangAt s l).run.isSome then problemEnd s l 0 0 0 else nodeFault s i 2)
  else match (gangAt s l).run with
    | some r =>
      let (used, s) := cyclesUsed s r.problem
      let s := raise (bump s 0x1A0014) .solLate (handleOf s cPROBLEM r.problem) (4294967296 * used) (oSOL ((gangPhys s l).headD 0))
      endProblem s l r 3 used
    | none => nodeFault s i 2

/-- NODE_COMPLETION: the operation of a node in flight ends. `engine`: its DMA engine meets an uncorrectable error of its own
(R473), and the node stays in flight until it is abandoned. `err`: the memory error that a core meets in the operation. -/
def nodeCompletion (s : State) (i : Nat) (engine : Bool) (err : Option (Nat × Nat × Nat)) : State :=
  let n := nodeAt s i
  if n.st ≠ .inFlight then s
  else match n.op with
    | 1 => draverDone s i err
    | 2 => houseNodeDone s i
    | 3 => if (workerAt s n.worker).quarantined then s else if engine then dmaFault s (n.worker - 18) else dmaDone s i
    | 4 => nodeDone (memStore s (bits n.args 64 64) (wordsBytes (guardWords s (bits n.args 0 8)))) i fun _ => true
    | 5 => if n.ended then nodeDone s i fun _ => true else s
    | _ => nodeDone s i fun _ => true

end Sys2Proof.Machine
end

