-- ==== Sys2Proof/Machine/Accept.lean ====
section
/-!
DEFINITION. The host ring engine (R388 to R413): doorbells, fetching, acceptance in turn, the checks of R398, what acts at
acceptance and what acts at the next boundary, rings coming up and going down; the templates of SUBMIT nodes (R368).
-/
namespace Sys2Proof.Machine

/-- Origin of a function's host events (R471). -/
def oHST (f : Nat) : Nat := origin 5 f

/-! ### The checks of R398 -/

/-- The opcodes of R402. -/
def opcodes : List Nat :=
  [0x0001, 0x0002, 0x0003, 0x0004, 0x0005, 0x0100, 0x0101, 0x0102, 0x0103, 0x0104, 0x0110, 0x0200, 0x0201, 0x0202, 0x0300, 0x0301,
   0x0400, 0x0401, 0x0402, 0x0500, 0x0501, 0x0502, 0x0600, 0x0601, 0x0700, 0x0701, 0x0702, 0x0703, 0x0800, 0x0801, 0x0802, 0x0803,
   0x0804, 0x0805, 0x0806, 0x0900, 0x0901, 0x0902, 0x0903, 0x0904, 0x0905, 0x0A00, 0x0A01, 0x0A02, 0x0A03, 0x0A04, 0x0A05, 0x0B00,
   0x0B01, 0x0B02, 0x0C00, 0x0C01, 0x0C02, 0x0C03, 0x0C04, 0x0C05, 0x0C06, 0x0C07, 0x0D00, 0x0D01, 0x0E00, 0x0E01, 0x0E02, 0x0F00,
   0x1000, 0x1001, 0x1100, 0x1101, 0x1200, 0x1201, 0x1202]

/-- Ring checks, step 1: the cause, and the expected SEQUENCE in byte 9. -/
def ringRefuse (op : Nat) (d : Desc) (seq pos : Nat) (submitted : Bool) : Option Nat :=
  let det (c : Nat) : Nat := c + 256 * (pos % 256)
  if !(opcodes.contains op) then some (det 1)
  else if d.flags.toNat / 4 ≠ 0 then some (det 2)
  else if submitted = false ∧ seq ≠ pos % 256 then some (det 3)
  else none

/-- The region mask or field that a payload names, as a mask (R390). -/
def payloadRegions (op : Nat) (d : Desc) : Nat :=
  let one (r : Nat) : Nat := if r < 16 then 2 ^ r else 0
  match op with
  | 0x0003 => one (pf d 17 1)
  | 0x0C00 => one (pf d 18 1)
  | 0x0C01 => one (pf d 18 1)
  | 0x0A04 => pf d 50 2
  | 0x0A05 => pf d 50 2
  | 0x0B00 => pf d 20 2
  | 0x0D01 => pf d 24 2
  | 0x1101 => pf d 18 2
  | _ => 0

/-- The function whose descriptor has created a cell-wide object; 16 where none has, as for an admin pair. -/
def creatorOf (s : State) (cls i : Nat) : Nat :=
  if cls = 14 then (if i < 16 then 16 else (ringAt s i).owner)
  else if cls = 13 then fnOf (pressAt s i).owner
  else ((objHead s cls i).map fun h => h.creator).getD 16

/-- Function scope, step 2 (R390): the descriptor of a VF is denied. -/
def scopeDenies (s : State) (a : Acc) : Bool :=
  let f := fnOf a.req
  if f = 0 then false
  else
    let rs := fnRegions s f
    let hs := (a.d.press.toNat :: namedHandles a).filter fun h => liveHandle s h
    !(bit (fnGroups s f) (a.op / 256) && decide (a.op / 256 < 19)) ||
      [0x0110, 0x0202, 0x0900, 0x0905].contains a.op || decide (a.op / 256 = 0x12) ||
      (hs.any fun h => match handleRegion s h with
        | some r => !(bit rs r)
        | none => decide (creatorOf s (hCls h) (hIdx h) ≠ f)) ||
      decide (payloadRegions a.op a.d &&& rs ≠ payloadRegions a.op a.d)

/-- The PRESS handle, checked after TARGET and before the handles of the payload (R28). -/
def pressRefuse (s : State) (d : Desc) : Option Refuse :=
  if prs d = 0 then none
  else if hCls (prs d) ≠ cPRESS then some (stBADCLASS, prs d)
  else if liveHandle s (prs d) then none
  else some (stSTALE, prs d)

/-- An immediate descriptor whose target a press holds (R345), or that names what the darn press holds (R454). -/
def targetHeld (s : State) (a : Acc) : Option Nat :=
  match (if tgt a.d = 0 then none else holderOf s (tgt a.d) none) with
  | some h => some h
  | none => darnHeld s a

/-- The descriptors whose resources staged members may have reserved (R342). -/
def takesResources (op : Nat) : Bool := (createClass op).isSome || [0x0401, 0x0501, 0x0702, 0x0900, 0x0902].contains op

/-- An immediate descriptor's own rules at its effect, and what staged members have reserved. DESIGN CHOICE (log 57): the BUSY of a press that
holds the target comes before the other rules. -/
def immCheck (s : State) (a : Acc) : Option Refuse :=
  match targetHeld s a with
  | some h => some (rBUSY h)
  | none => match ownCheck s a false with
    | some r => some r
    | none =>
      if takesResources a.op then
        match ownCheck (viewOf s none) a true with
        | some (st, x) => if st = stNORES ∨ st = stBUSY then some (st, x) else none
        | none => none
      else none

/-! ### Descriptors that act at acceptance -/

/-- A check, then an effect that completes for itself later, or an effect followed by OK. -/
def guarded (s : State) (a : Acc) (chk : Option Refuse) (k : State → State) : State :=
  match chk with
  | some (st, x) => complete s a st 0 x
  | none => k s

/-- DBG_CLOSE (R530). -/
def dbgClose (s : State) (a : Acc) : State :=
  if !(onlyBytes a.d [(16, 1)]) || decide (1 < pf a.d 16 1) then complete s a stRANGE 0 0
  else complete (closeSession s (pf a.d 16 1) 1) a stOK 0 0

/-- CNV_CALIBRATE's own rules (R128, R403). -/
def calCheck (a : Acc) : Option Refuse :=
  firstRefuse [(!(onlyBytes a.d [(16, 1)]) || decide (8 < pf a.d 16 1), rRANGE), (decide (pf a.d 16 1 = 8), rDENIED)]

/-- The descriptors that act at acceptance: none for those that act at the next frame boundary (R30). -/
def actNow (s : State) (a : Acc) : Option State :=
  let chk (c : Option Refuse) : Option Refuse := match targetHeld s a with
    | some h => some (rBUSY h)
    | none => c
  let zero : Option Refuse := if a.d.payload ≠ 0 then some rRANGE else none
  match a.op with
  | 0x0001 => some (guarded s a zero fun s => complete s a stOK 0 (wall32 s))
  | 0x0202 => some (stepAuth s a)
  | 0x0300 => some (guarded s a (cyclicCheck s a) fun s => cyclicSet s a)
  | 0x0301 => some (guarded s a (accessCheck s a) fun s => accessStart s a)
  | 0x0402 => some (guarded s a (calCheck a) fun s => calRequest s (physConv s (pf a.d 16 1)) (some a))
  | 0x0601 => some (guarded s a (chk (headCalCheck s a)) fun s => headCal s a)
  | 0x0700 => some (guarded s a (drvLoadCheck s a) fun s => drvLoadStart s a)
  | 0x0803 => some (guarded s a (chk zero) fun s => complete (prfStop s a.d) a stOK 0 0)
  | 0x0901 => some (guarded s a (if dormantRefuses s a.op then some rMODE else problemCreateCheck s a) fun s => problemCreateStart s a)
  | 0x0905 => some (guarded s a (replanCheck s a) fun s => replan s a)
  | 0x0C07 => some (guarded s a (chk none) fun s => waitAccept s a)
  | 0x1000 => some (guarded s a (hltDarnCheck s a) fun s => hltDarn s a)
  | 0x1001 =>
    if (hltTestCheck s a).isNone && partsAsleep s a then
      some (modHost (wakeParts s a) fun h => { h with asleep := h.asleep ++ [a] })
    else some (guarded s a (hltTestCheck s a) fun s => hltTest s a)
  | 0x1200 => some (secImage s a)
  | 0x1201 => some (dbgOpen s a)
  | 0x1202 => some (dbgClose s a)
  | _ => none

/-- A pair drains: nothing more is fetched, its waits are removed without completion (R411). -/
def drainPair (s : State) (p : Nat) (by_ : Option Acc) : State :=
  let ws := s.gsc.waits.filter fun w => decide (w.acc.pair = p)
  let s := modGsc s fun g => { g with waits := g.waits.filter fun w => decide (w.acc.pair ≠ p) }
  modRing s p fun x =>
    { x with st := .draining, drainBy := by_, waiting := [], fetching := false, downDue := false, resv := x.resv - 2 * ws.length,
             open_ := x.open_ - ws.length }

/-! ### Immediate descriptors at a frame boundary (R30, R34) -/

/-- The detail of a descriptor that completes with OK: a trace channel's BAR4 offset (R487). -/
def okDetail (s : State) (a : Acc) (i : Nat) : Nat :=
  match a.op with
  | 0x0E00 => (traceAt s i).base
  | 0x0E01 => (traceAt s (tIdx a.d)).base
  | _ => 0

/-- A descriptor takes effect at its boundary, unless the budgets of the state that results refuse it; a create takes its index. -/
def immApply (s : State) (a : Acc) : State :=
  match createClass a.op with
  | some c =>
    match allocObj s c (fnOf a.req) none with
    | none => complete s a stNORES 0 0
    | some (i, s1) =>
      let s' := ownApply s1 a i
      match budgetRefuse s' a with
      | some (st, x) => complete s a st 0 x
      | none => complete s' a stOK (handleOf s' c i) (okDetail s' a i)
  | none =>
    let s' := ownApply s a (tIdx a.d)
    match budgetRefuse s' a with
    | some (st, x) => complete s a st 0 x
    | none => complete s' a stOK 0 (okDetail s' a (tIdx a.d))

/-- A DESTROY of a ring (R411). -/
def destroyRing (s : State) (a : Acc) : State :=
  let i := tIdx a.d
  if i < 256 then drainPair s i (some a)
  else
    let h := handleOf s cRING i
    let f := (ringAt s i).owner
    complete (raise (ringDown s i) .hstRingDown h 1 (oHST f)) a stOK 0 0

/-- One immediate descriptor at its boundary: handles again (R34), then its effect; one that would have acted at acceptance, had no
other before it named the same handle, acts now. -/
def immEffect (s : State) (a : Acc) : State :=
  match handlesRefuse s a (liveHandle s) with
  | some (st, x) => complete s a st 0 x
  | none =>
    match a.op with
    | 0x0B00 => pressOpenNow s a
    | 0x0B01 => pressArm s a
    | 0x0B02 => pressAbortDesc s a
    | 0x1001 => restParts (guarded s a (hltTestCheck s a) fun s => hltTest s a) a
    | 0x1100 => fltAck s a
    | 0x1101 => fltClear s a
    | _ =>
      match actNow s a with
      | some s' => s'
      | none =>
      if partsAsleep s a then modHost (wakeParts s a) fun h => { h with asleep := h.asleep ++ [a] }
      else
        let s := copyRead s a
        let s' := match immCheck s a with
          | some (st, x) => complete s a st 0 x
          | none =>
            if a.op = 0x0002 ∧ hCls (tgt a.d) = cRING then destroyRing s a
            else if a.op = 0x0D00 then let (s, h) := ringCreate s a; complete s a stOK h 0
            else immApply s a
        (gatedParts s a).foldl (fun s p => modPins s fun x => { x with wake := mdel x.wake p }) s'

/-- The immediate descriptors that are due take effect in the order of their acceptance. -/
def immFrame (s : State) : State :=
  let l := s.host.imm
  l.foldl immEffect (modHost (problemsMade s) fun h => { h with imm := [] })

/-! ### Acceptance (R398) -/

/-- The object of the handle will be gone when the next boundary's descriptors have taken effect, by a DESTROY accepted earlier (R34).
DEDUCED (log 57): the descriptors that wait are judged in the state of this frame. -/
def destroyDue (s : State) (h : Nat) : Bool :=
  s.host.imm.any (fun b => decide (b.op = 0x0002) && decide (tgt b.d = h)) &&
    !(liveHandle ((s.host.imm.filter fun b => !(regionOps.contains b.op) && decide (b.op ≠ 0x0110)).foldl immEffect s) h)

/-- Handles, step 4 (R28, R31); an object whose DESTROY was accepted before is stale (R34). -/
def acceptHandles (s : State) (a : Acc) : Option Refuse :=
  let slot := slotOf a.d
  let ok (h : Nat) : Bool := (liveHandle s h && !(destroyDue s h)) || stagedHandle s slot h
  let hs := opHandles a.op a.d
  let k := if targetless a.op then 0 else 1
  if targetless a.op && decide (tgt a.d ≠ 0) then some (stBADCLASS, tgt a.d)
  else match handleRefuse (hs.take k) ok with
    | some r => some r
    | none => match pressRefuse s a.d with
      | some r => some r
      | none => handlesRefuse s a ok

/-- A descriptor that waits for the next boundary names a handle that this one names too (R34). -/
def sharesHandle (s : State) (a : Acc) : Bool := s.host.imm.any fun b => (namedHandles b).any fun h => (namedHandles a).contains h

/-- The keeper's descriptors and others of PF0 alone come from no submitted press; an accepted descriptor of steps 1 to 4 acts now,
is staged, or waits for the boundary: so does one that would act now, behind a descriptor that names the same handle (R34). A scale
record is checked now (R16). -/
def dispatch (s : State) (a : Acc) : State :=
  match slotOf a.d with
  | some slot => stageMember s a slot
  | none => match (if sharesHandle s a then none else actNow s a) with
    | some s => s
    | none =>
      if dormantRefuses s a.op = false ∧ scaleAccepted s a = false then complete s a stRANGE 0 0
      else modHost s fun h => { h with imm := h.imm ++ [a] }

/-- A refusal of steps 2 to 4: a staging completion when the descriptor names a press, whose STRICT owner's press it poisons
(R342, R343). -/
def refuseEarly (s : State) (a : Acc) (r : Refuse) : State :=
  match slotOf a.d with
  | some slot =>
    let s := if hCls (prs a.d) = cPRESS ∧ liveHandle s (prs a.d) = true then poison s a slot else s
    refuseStaged s a r.1 0 r.2
  | none => complete s a r.1 0 r.2

/-- A descriptor is accepted: two entries of its CQ are reserved, and the checks of R398 run in order (R396, R398, R399). -/
def acceptDesc (s : State) (a : Acc) (seq : Nat) : State :=
  let s := modRing s a.pair fun x => { x with resv := x.resv + 2, open_ := x.open_ + 1 }
  let s := bump (modHost s fun h => { h with accepted := h.accepted + 1 }) 0x30008
  match ringRefuse a.op a.d seq a.pos a.submitted with
  | some det => completeRingCheck s a det
  | none =>
    if scopeDenies s a then refuseEarly s a rDENIED
    else if prs a.d ≠ 0 ∧ neverMember a.op a.d = true then refuseEarly s a rDENIED
    else match acceptHandles s a with
      | some r => refuseEarly s a r
      | none => dispatch s a

/-! ### Acceptance in turn (R396, R399, R400) -/

/-- The pairs. -/
def pairsUp (s : State) : List Nat := mkeys s.host.rings fun k r => decide (k < 256) && decide (r.st = .up)

/-- The front descriptor of a pair can be accepted: room in the CQ, and a FENCE has nothing before it. -/
def frontReady (r : Ring) : Bool :=
  decide (r.st = .up) && cqRoom r &&
    match r.waiting with
    | f :: _ => !(f.d.flags.getLsbD 0) || decide (r.open_ = 0)
    | [] => false

/-- What is accepted of a descriptor that waits in a pair: a template carries its node's owner and the result of its problem (R368). -/
def accFor (s : State) (p : Nat) (f : Fetched) : Acc :=
  let a : Acc := { op := f.op, d := f.d, pair := p, gen := genOf s cRING p, pos := f.pos, req := 32 + (ringAt s p).owner, wall := wall32 s,
                   frame := s.time.frame }
  match f.node with
  | none => a
  | some i =>
    let n := nodeAt s i
    let res := bits n.args 128 32
    let pr := probAt s (hIdx res)
    { a with req := n.owner, submitted := true, node := some i,
             result := if res = 0 then none else some (pr.status, pr.result.getD 1 0 / 65536) }

/-- The front descriptor of a pair is accepted. -/
def acceptFront (s : State) (p : Nat) : State :=
  match (ringAt s p).waiting with
  | f :: t => acceptDesc (modRing s p fun x => { x with waiting := t, turn := x.turn - 1 }) (accFor s p f) f.seq
  | [] => s

/-- Pairs are served round-robin, each up to its WEIGHT in a turn, at most 8 descriptors in a frame. -/
def pump (fuel : Nat) (s : State) : State :=
  match fuel with
  | 0 => s
  | k + 1 =>
    if 8 ≤ s.host.accepted then s
    else
      let ready := (pairsUp s).filter fun p => frontReady (ringAt s p)
      let cur := s.host.rr
      if ready.contains cur ∧ 0 < (ringAt s cur).turn then pump k (acceptFront s cur)
      else
        let next := match ready.find? fun p => decide (cur < p) with
          | some p => some p
          | none => ready.head?
        match next with
        | none => s
        | some p =>
          let s := modHost (modRing s p fun x => { x with turn := x.weight }) fun h => { h with rr := p }
          pump k (acceptFront s p)

/-- Descriptors fetched are accepted as the frame and the CQs admit. -/
def acceptAll (s : State) : State := pump 16 s

/-! ### Fetching and doorbells (R392 to R394) -/

/-- A descriptor joins those that wait for acceptance. -/
def fetched (s : State) (p op seq : Nat) (d : Desc) : State :=
  modRing s p fun x =>
    { x with waiting := x.waiting ++ [{ op := op, seq := seq, d := d, pos := x.pos }], pos := (x.pos + 1) % 65536,
             sqHead := if sqAvail x = 0 then x.sqHead else (x.sqHead + 1) % sizeA x }

/-- A descriptor as 64 bytes. -/
def descOf (p : Fin 256) (r : RawDesc) : Nat × Nat × Desc :=
  (bits r.raw.toNat 0 16, bits r.raw.toNat 24 8,
   { ring := p, flags := BitVec.ofNat 8 (bits r.raw.toNat 16 8), target := BitVec.ofNat 32 (bits r.raw.toNat 32 32),
     press := BitVec.ofNat 32 (bits r.raw.toNat 64 32), payload := BitVec.ofNat 384 (r.raw.toNat / 2 ^ 128), data := r.data })

/-- SQ_FETCH_DONE: a read returns up to 8 available descriptors, which are copied and accepted in turn. -/
def fetchDone (s : State) (p : Fin 256) (ds : List RawDesc) : State :=
  let r := ringAt s p
  if r.st = .up ∧ r.fetching = true ∧ busMasterOn s r.owner = true ∧ cqRoom r = true ∧ ds.length ≤ Nat.min 8 (sqAvail r) then
    let s := ds.foldl (fun s x => let (op, seq, d) := descOf p x; fetched s p op seq d) s
    acceptAll (modRing s p fun x => { x with fetching := decide (sqAvail x ≠ 0) })
  else s

/-- The front descriptor of a pair, on which nothing waited before it, can be accepted at once: no other pair waits for a turn,
unless the frame has accepted 8 already (R400). -/
def acceptsNow (s : State) (p : Nat) : Bool :=
  decide ((ringAt s p).waiting.length = 1) && frontReady (ringAt s p) && decide (s.host.accepted < 8)

/-- A descriptor row: a descriptor of this opcode arrives for acceptance on an UP pair, with the SEQUENCE that its position asks
for; the engine fetches while the CQ has room (R399). -/
def arriveDesc (s : State) (op : Nat) (d : Desc) : State :=
  let p : Nat := d.ring
  let r := ringAt s p
  if r.st = .up ∧ busMasterOn s r.owner = true ∧ cqRoom r = true then
    let s := fetched s p op (r.pos % 256) d
    if acceptsNow s p then acceptFront s p else acceptAll s
  else s

/-- FENCE_RELEASE: the earlier descriptors of the ring have completed, and the FENCE descriptor is accepted. -/
def fenceRelease (s : State) (p : Nat) : State :=
  if (ringAt s p).open_ = 0 then acceptAll s else s

/-- A discarded doorbell (R393): counted, and raised once until a write of the ring is accepted. -/
def doorbellDropped (s : State) (f r off v : Nat) : State :=
  let x := ringAt s r
  let s := bump s (fnBlock f + 0x2C)
  let s := modRing s r fun x => { x with dbErr := true }
  if x.dbErr then s
  else raise s .hstDbErr (if x.st = .down then 0 else handleOf s cRING r) (f + (off / 4) * 65536 + v * 4294967296) (oHST f)

/-- A doorbell value is accepted: below the size, [31:16] zero, on an UP ring of the function. -/
def doorbellOk (s : State) (f r v size : Nat) : Bool :=
  let x := ringAt s r
  decide (v < size) && decide (v < 65536) && decide (x.st = .up) && decide (x.owner = f)

/-- SQ_TAIL_DOORBELL. -/
def tailDoorbell (s : State) (f p v : Nat) : State :=
  if doorbellOk s f p v (sizeA (ringAt s p)) then
    modRing s p fun x => let x := { x with sqTail := v, dbErr := false }; { x with fetching := x.fetching || decide (sqAvail x ≠ 0) }
  else doorbellDropped s f p (16 * p) v

/-- CQ_HEAD_DOORBELL. -/
def headDoorbell (s : State) (f p v : Nat) : State :=
  if doorbellOk s f p v (sizeC (ringAt s p)) then acceptAll (modRing s p fun x => { x with head := v, dbErr := false })
  else doorbellDropped s f p (16 * p + 4) v

/-- EVENT_HEAD_DOORBELL: an entry freed ends a loss episode (R406). -/
def eventDoorbell (s : State) (f e v : Nat) : State :=
  let r := 256 + e
  if doorbellOk s f r v (sizeA (ringAt s r)) then
    modRing s r fun x => { x with head := v, dbErr := false, lossEpisode := x.lossEpisode && decide (v = x.head) }
  else doorbellDropped s f r (0x1000 + 16 * e) v

/-! ### MSI-X (R407) -/

/-- MSIX_COAL_TIMER: COAL_TIME has passed since the oldest pending entry. -/
def coalTimer (s : State) (r : Nat) : State :=
  let x := ringAt s r
  if x.st ≠ .down ∧ x.pend ≠ 0 ∧ x.coalTimeUs ≠ 0 ∧ x.pendSince + x.coalTimeUs * usU ≤ s.time.elapsed then ringMessage s r else s

/-- MSIX_VECTOR_UNMASK: a pending vector sends its message, which returns the pending counts of the rings that waited for it to 0. -/
def vectorUnmask (s : State) (f v : Nat) : State :=
  let k := 64 * f + v
  if (if f = 0 then 64 else 16) ≤ v then s
  else
    let pend := s.host.pba.contains k
    let s := modHost s fun h =>
      { h with unmasked := if h.unmasked.contains k then h.unmasked else h.unmasked ++ [k], pba := h.pba.filter (· ≠ k) }
    if pend then
      let mine := mkeys s.host.rings fun _ r => r.msgDue && decide (r.owner = f) && decide (r.vector = v)
      sendMsix (mine.foldl (fun s r => modRing s r fun x => { x with pend := 0, msgDue := false }) s) f v
    else s

/-! ### Rings come up and go down (R409, R411) -/

/-- ADMIN_PAIR_ENABLE: the configuration is in range, and the pair comes UP at the next boundary. -/
def adminEnable (s : State) (f : Nat) : State :=
  let c := reg s (fnBlock f + 0x10)
  let ok := decide (4 ≤ bits c 0 4 ∧ bits c 0 4 ≤ 12) && decide (4 ≤ bits c 4 4 ∧ bits c 4 4 ≤ 14) &&
    decide (bits c 8 6 < (if f = 0 then 64 else 16))
  if bit (reg s (fnBlock f + 0x14)) 0 || !ok then s
  else
    let s := modHost (setReg s (fnBlock f + 0x14) 1) fun h => { h with downRefused := h.downRefused.filter (· ≠ f) }
    modRing s f fun x => { x with upDue := true, owner := f }

/-- ADMIN_PAIR_DISABLE: the pair goes down under R411, or the write is refused. -/
def adminDisable (s : State) (f : Nat) : State :=
  if bit (reg s (fnBlock f + 0x14)) 0 = false then s
  else if (pairHolder s f).isSome then modHost s fun h => { h with downRefused := if h.downRefused.contains f then h.downRefused else h.downRefused ++ [f] }
  else
    let s := modHost (setReg s (fnBlock f + 0x14) 0) fun h => { h with downRefused := h.downRefused.filter (· ≠ f) }
    if (ringAt s f).st = .up then modRing s f fun x => { x with downDue := true } else modRing s f fun x => { x with upDue := false }

/-- The entries reserved for the DESTROY that drains the pair, when it came from the pair itself. -/
def ownDrain (p : Nat) (r : Ring) : Nat :=
  match r.drainBy with
  | some a => if a.pair = p then 2 else 0
  | none => 0

/-- RING_DRAIN_DONE: no entry is reserved any more, the pair goes DOWN and its DESTROY completes (R411). -/
def drainDone (s : State) (p : Nat) : State :=
  let r := ringAt s p
  if r.st = .draining ∧ r.resv = ownDrain p r then
    let h := handleOf s cRING p
    let s := match r.drainBy with
      | some a => complete s a stOK 0 0
      | none => s
    let s := ringDown s p
    let s := modRing s p fun x => { x with upDue := r.upDue }
    raise s .hstRingDown h (if r.drainBy.isSome then 1 else 2) (oHST r.owner)
  else s

/-- Admin pairs whose registers ask for it come UP or go down at a frame boundary (R409). -/
def adminFrame (s : State) : State :=
  (List.range 16).foldl (fun s f =>
    let r := ringAt s f
    let s := if r.downDue && decide (r.st = .up) then drainPair s f none else s
    let r := ringAt s f
    if r.upDue && decide (r.st = .down) then
      let c := reg s (fnBlock f + 0x10)
      modRing s f fun x =>
        { st := .up, owner := f, vector := bits c 8 6, weight := 4, coalCount := Nat.max 1 (bits c 16 8), coalTimeUs := 4 * bits c 24 8,
          baseA := reg64 s (fnBlock f), baseC := reg64 s (fnBlock f + 8), log2a := bits c 0 4, log2c := bits c 4 4, cq := x.cq, dbErr := x.dbErr }
    else s) s

/-! ### SUBMIT nodes (R368) -/

/-- SUBMIT_TEMPLATE: the template of a SUBMIT node in flight is read, and waits in its RING for the RING's turn (R368, R400). -/
def submitTemplate (s : State) (i : Nat) (data : List Byte) : State :=
  let n := nodeAt s i
  let p := hIdx (bits n.args 160 32)
  let x := ringAt s p
  if n.st ≠ .inFlight ∨ n.op ≠ 5 ∨ n.ended = true ∨ n.sent = true ∨ liveHandle s (bits n.args 160 32) = false ∨ x.st ≠ .up ∨
     busMasterOn s x.owner = false then s
  else
    let (raw, s) := memFetch s (bits n.args 64 64) 64
    match raw with
    | none => nodeFault s i 4
    | some l =>
      if h : p < 256 then
        let (op, seq, d) := descOf ⟨p, h⟩ { raw := BitVec.ofNat 512 (leNat l), data := data }
        let s := modNode s i fun n => { n with sent := true }
        let s := modRing s p fun x => { x with waiting := x.waiting ++ [{ op := op, seq := seq, d := d, pos := seq, node := some i }] }
        if acceptsNow s p then acceptFront s p else acceptAll s
      else s

end Sys2Proof.Machine
end

