-- ==== Sys2Proof/Machine/Debug.lean ====
section
/-!
DEFINITION. Debug access (R527, R531, R533, R536, R541): DBG_MDATA and the operations of DBG_CMD, within the level and the reach of
a session. Session 0 is the TAP's, with requester number 63 in the model; session 1 is PF0's.
-/
namespace Sys2Proof.Machine

/-- The requester under which a session's own registers are held. -/
def sesReq (ses : Nat) : Nat := if ses = 0 then 63 else 32

/-- A session's level: 0 while none is open (R527). -/
def sesLevel (s : State) (ses : Nat) : Nat := ((mget s.sec.sessions ses).map fun x => x.level).getD 0

/-- The session holds the region (R531). -/
def sesHolds (s : State) (ses r : Nat) : Bool :=
  match mget s.sec.sessions ses with
  | some x => decide (x.level = 2) && bit x.regions r
  | none => false

/-- DENIED of a session (R531). -/
def sesDenied (s : State) (ses : Nat) : State :=
  modSec s fun x => { x with flags := mput x.flags ses (setBit (mgetD x.flags ses 0) 0 true) }

/-- A core within the reach: every loop bound on it serves a joint of a held region (R531). -/
def coreReach (s : State) (ses n : Nat) : Bool :=
  decide (sesLevel s ses = 2) && decide (n < 18) &&
    (drvAt s n).slots.all fun e =>
      match e.2.joint with
      | some j => ((jointRegion s j).map fun r => sesHolds s ses r).getD false
      | none => true

/-- A physical lane within the reach: its gang has role PLAN or HOUSE and binds only problems of branches of arms of held regions
(R531). No GUARD gang is ever in reach (R536). -/
def laneReach (s : State) (ses q : Nat) : Bool :=
  decide (sesLevel s ses = 2) &&
    match logicalOf s q with
    | none => false
    | some n =>
      let g := gangAt s (gangOf s n)
      (decide (g.role = 1) || decide (g.role = 3)) &&
        g.order.all fun p => (((probAt s p).arm.bind (armRegion s)).map fun r => sesHolds s ses r).getD false

/-! ### DBG_MDATA (R541) -/

/-- The word of a space. Instruction and coefficient addresses cover bank A and then bank B; a DRAM word is 4 bytes. -/
def dbgWord (s : State) (space unit a : Nat) : Nat :=
  match space with
  | 1 => if unit < 18 then mgetD (bankOf (drvAt s unit) (a / 8192)).code (a % 8192) 0 else 0
  | 2 => if unit < 18 ∧ dataAddr a = true then dataAt (drvAt s unit) a else 0
  | 3 => if unit < 18 then mgetD (bankOf (drvAt s unit) (a / 2048)).coef (a % 2048) 0 else 0
  | 4 => mgetD (laneAt s unit).mem a 0
  | 5 => leNat (memRead s (4 * a) 4)
  | _ => 0

/-- The address lies in the space. -/
def dbgIn (space unit a : Nat) : Bool :=
  match space with
  | 1 => decide (unit < 18) && decide (a < 16384)
  | 2 => decide (unit < 18) && dataAddr a
  | 3 => decide (unit < 18) && decide (a < 4096)
  | 4 => decide (unit < 208) && decide (a < 24576)
  | 5 => decide (4 * a < 0x3E0000000)
  | _ => false

/-- Sets the word of a space of the Draver cores or the lanes. -/
def dbgPut (s : State) (space unit a v : Nat) : State :=
  match space with
  | 1 => modDrv s unit fun c => modBank c (a / 8192) fun b => { b with code := mput b.code (a % 8192) v }
  | 2 => if inputAddr a then s else modDrv s unit fun c => { c with data := mput c.data (dataKey c.active a) v }
  | 3 => modDrv s unit fun c => modBank c (a / 2048) fun b => { b with coef := mput b.coef (a % 2048) v }
  | 4 => modSolLane s unit fun x => { x with mem := putWord x.mem a v }
  | _ => s

/-- The space and unit lie within the session's reach; device DRAM is in no reach (R531, R536). -/
def dbgReach (s : State) (ses space unit : Nat) : Bool :=
  match space with
  | 1 => coreReach s ses unit
  | 2 => coreReach s ses unit
  | 3 => coreReach s ses unit
  | 4 => laneReach s ses unit
  | _ => false

/-- DBG_MADDR. -/
def dbgAddr (s : State) (ses : Nat) : Nat :=
  regAt s 0x20064 (sesReq ses) + regAt s 0x20068 (sesReq ses) * 4294967296
/-- DBG_MADDR advances by 1. -/
def dbgAdvance (s : State) (ses : Nat) : State :=
  let a := dbgAddr s ses + 1
  setRegAt (setRegAt s 0x20064 (sesReq ses) a) 0x20068 (sesReq ses) (a / 4294967296)

/-- DBG_MDATA: a read shows the word at level D1 or D2; a write outside the reach is discarded and sets DENIED (R527, R531, R541). -/
def dbgMdata (s : State) (ses : Nat) (w : Option Nat) : State :=
  let sel := regAt s 0x20060 (sesReq ses)
  let space := bits sel 0 3
  let unit := bits sel 8 8
  let a := dbgAddr s ses
  match w with
  | none =>
    let shown := decide (sesLevel s ses ≠ 0) && dbgIn space unit a
    let v := if shown then dbgWord s space unit a else 0
    let s := if shown && decide (space = 5) then eccRead s (linesOf (4 * a) 4) else s
    dbgAdvance (readBack s (sesReq ses) v) ses
  | some v =>
    if dbgReach s ses space unit then
      dbgAdvance (if dbgIn space unit a then dbgPut s space unit a (v % 4294967296) else s) ses
    else sesDenied s ses

/-! ### DBG_CMD (R541) -/

/-- An operation on a core within reach; outside, DENIED. -/
def dbgCore (s : State) (ses n : Nat) (f : State → State) : State := if coreReach s ses n then f s else sesDenied s ses

/-- OP 1 and 2: halt and resume a core. -/
def dbgHaltCore (s : State) (ses n : Nat) : State := dbgCore s ses n fun s => haltCore s n ses
def dbgResumeCore (s : State) (ses n : Nat) : State := dbgCore s ses n fun s => resumeCore s n ses
/-- OP 3: a halted core executes one instruction. -/
def dbgStepCore (s : State) (ses n : Nat) : State :=
  dbgCore s ses n fun s => if (drvAt s n).halted = [] then s else stepCore s n
/-- OP 4 and 5: halt and resume a lane. -/
def dbgHaltLane (s : State) (ses q : Nat) : State := if laneReach s ses q then haltLane s q ses else sesDenied s ses
def dbgResumeLane (s : State) (ses q : Nat) : State := if laneReach s ses q then resumeLane s q ses else sesDenied s ses
/-- OP 6: a breakpoint at DBG_MADDR; a fifth is discarded and sets DENIED. -/
def dbgBreak (s : State) (ses n : Nat) : State :=
  dbgCore s ses n fun s =>
    if 4 ≤ (s.sec.breaks.filter fun b => decide (b.1 = n)).length then sesDenied s ses
    else modSec s fun x => { x with breaks := x.breaks ++ [(n, dbgAddr s ses, ses)] }
/-- OP 7: the core's breakpoints are cleared. -/
def dbgUnbreak (s : State) (ses n : Nat) : State :=
  dbgCore s ses n fun s => modSec s fun x => { x with breaks := x.breaks.filter fun b => decide (b.1 ≠ n) }

/-- DBG_S_STAT, DBG_S_LEFT and DBG_S_HALTED. -/
def dbgSesReg (s : State) (ses off : Nat) : Nat :=
  let x := mget s.sec.sessions ses
  match off with
  | 0 =>
    (x.map fun x => x.level).getD 0 + 4 * (mgetD s.sec.flags ses 0 % 4) + 65536 * ((x.map fun x => x.regions).getD 0)
  | 4 => ((x.bind fun x => x.ends).map fun e => (e - s.time.elapsed) / (1000 * msU)).getD 0
  | 8 => listMask ((List.range 18).filter fun n => (drvAt s n).halted.contains ses)
  | _ => 0

end Sys2Proof.Machine
end

