-- ==== Sys2Proof/Machine/Frame.lean ====
section
/-!
DEFINITION. The frame (R18, R19, R30, R34, R41, R166, R192, R233, R257, R320, R354, R377): what a frame boundary does at once, the work
that it makes due, the servo-tick and plan-tick boundaries, and the frame of every other command.
-/
namespace Sys2Proof.Machine

/-- Changes the record of due work. -/
def modDue (s : State) (f : Due → Due) : State := { s with due := f s.due }

/-- P2 has gated the parts that move, measure and plan (R498, R537). -/
def gated (s : State) : Bool := decide (s.pins.powerState = 2)

/-- Folds over the ports that exist in the state. -/
def eachPort (s : State) (f : State → Nat → State) : State := (s.ryl.map Prod.fst).foldl f s

/-- Sources 5, 6 and 10 of R488 take their samples in each frame. -/
def traceFrame (s : State) : State :=
  if s.mem.traces.isEmpty then s
  else
    let w := s.time.wallF
    let s := (mkeys s.profiles fun _ _ => true).foldl (fun s p =>
      let x := prfAt s p
      traceFrom s 5 (handleOf s cPROFILE p) w 0 (fun _ => true) fun _ =>
        (un 32 (Int.fdiv (refPos x) 65536), un 32 (refVel x))) s
    let s := (mkeys s.fbchs fun _ _ => true).foldl (fun s f =>
      let x := fbAt s f
      let valid := x.cfg.isLocal || (headAt s x.cfg.unit x.cfg.pos).aValid || (headAt s x.cfg.unit x.cfg.pos).bValid
      if valid then
        traceFrom s 6 (handleOf s cFBCH f) (un 32 (ptpNs { s with time := { s.time with ptp := s.time.ptpF - s.time.elapsedF + x.stamp } }))
          (4 * b2n x.uncertain) (fun _ => true) fun _ => (un 32 x.count, x.theta)
      else s) s
    traceFrom s 10 0 w 0 (fun _ => true) fun _ => (s.line.line % 4294967296, s.line.line / 4294967296)

/-- The parts that P2 gates do their work of a frame: the local field pins of the frame that has ended, the link, feedback,
conversion, delays, profiles, the downlink and the switching pass with the steppers' set-points after it (R108, R109, R141, R158,
R166, R233, R250). -/
def workFrame (s : State) (inp : FrameIn) : State :=
  let prev := s.pins.lastIn
  let s := mdatFrame (localFrame s inp) inp prev
  let s := calEnds (silentHeads (eachPort s linkFrame))
  let s := (mkeys s.fbchs fun _ _ => true).foldl fbUpdate s
  let s := frameTriggers (decFrame s)
  let s := profilesFrame (releaseDelays s)
  let s := eachPort s sendDownlink
  let s := encClocks (stepperSetpoints (shadowFrames (swPass s)))
  darnMismatch (readiness (retests (warmFrame s)))

/-- The errors that arise in the hardware: of DRAM lines, of the collector's self-check (R480), and of the parts' own memories, which count
as wear (R444). -/
def hardErrors (s : State) (inp : FrameIn) : State :=
  let s := scrubPace (dramErrors s inp.dram)
  let s := if inp.selfCheck then raise s .fltFatal 0 1 oFLT else s
  inp.ecc.foldl (fun s e =>
    let (c, i) := (e.cls.val, e.inst.toNat)
    if 1 ≤ c ∧ i < instances c ∧ retired s c i = false then wearInput s c i (if e.uncorr then 6 else 1) else s) s

/-- The work of a boundary after its presses: immediate descriptors first (R30, R354), then every unit (R18), and the
descriptors that wait in the rings (R400). -/
def bodyWork (s : State) : State :=
  let s := modDue s fun d => { d with body := false }
  let inp := fieldPins s s.due.inp
  let s := hardErrors s inp
  let s := detectTriggers (drainTrace s)
  let s := joinPresses (immFrame (joinPresses s))
  let s := if s.time.frame % 1280 = 0 then
      let p := pressAt s 0
      planBoundary s (p.lastCommitted && decide (p.lastFrame = s.time.frame))
    else s
  let s := if gated s then releaseDelays s else workFrame s inp
  let s := doutFrame s
  let s := drainTrace (traceFrame s)
  acceptAll s

/-- The servo-tick boundary: the home shift, then the capture of every core (R192, R257). -/
def servoWork (s : State) : State :=
  let s := modDue s fun d => { d with servo := false }
  if gated s then s else darnMismatch (servoCapture (profilesServo s))

/-- The plan-tick boundary (R19, R48, R181, R279, R293, R297, R302, R305, R320, R539). -/
def planWork (s : State) : State :=
  let s := modDue s fun d => { d with plan := false }
  let s :=
    if gated s then s
    else
      let s := replanCommit (planJoin (swPlanTick s))
      let s := solverTick s
      let en := plnOn s
      let s := if en then (List.range 16).foldl priceGroup s else s
      let s := if en then planCapture s else s
      darnMismatch (stepsPlan (guardTick s))
  spreadTick (reportDrops (publishLine s))

/-- Judging starts, at frame 16 (R320). -/
def judgeWork (s : State) : State := guardJudge (modDue s fun d => { d with judge := false })

/-- A due press commits or aborts. -/
def pressWork (s : State) (slot : Nat) : State :=
  pressCommit (modDue s fun d => { d with presses := d.presses.filter fun p => decide (p ≠ slot) }) slot

/-- Every due press up to a slot, in ascending order (R354). -/
def pressesUpTo (s : State) (slot : Nat) : State := (s.due.presses.filter fun p => decide (p ≤ slot)).foldl pressWork s

/-- Judging that is due starts, and then the rest of the boundary's work runs, once no press is due. -/
def duesBody (s : State) : State :=
  if s.due.presses ≠ [] then s
  else
    let s := if s.due.judge then judgeWork s else s
    if s.due.body then bodyWork s else s

/-- Everything due before the servo tick. -/
def duesServo (s : State) : State := duesBody (pressesUpTo s 16)

/-- Everything due before the plan tick. -/
def duesPlan (s : State) : State :=
  let s := duesServo s
  if s.due.servo then servoWork s else s

/-- All due work runs: the frame's boundary is complete, and the Lint Trap has taken the reports of its cycle (R472). -/
def settle (s : State) : State :=
  let s := duesPlan s
  takeReports (if s.due.plan then planWork s else s)

/-- The EVENT_ROUTEs that are due, without those behind a descriptor that names the same ring, and the descriptors that stay. -/
def routeTurns (seen : List Nat) (l : List Acc) : List Acc × List Acc :=
  match l with
  | [] => ([], [])
  | a :: t =>
    let first := decide (a.op = 0x0D01) && !(seen.contains (tgt a.d))
    let (mine, rest) := routeTurns (if first then seen else seen ++ namedHandles a) t
    if first then (a :: mine, rest) else (mine, a :: rest)

/-- New event routes take effect before the events of their effect frame (R413). -/
def routesFirst (s : State) : State :=
  let (mine, rest) := routeTurns [] s.host.imm
  mine.foldl immEffect (modHost s fun h => { h with imm := rest })

/-- The boundary itself: the Care Label takes the changes of the frame that ends (R427); the frame count and both readings advance, a step that is due is taken (R18, R36, R64); new event
routes apply (R413); the line axis is
evaluated (R41); at frame 16 of a guard cycle the live causes act (R320); modes, class actions and region transitions take effect (R23, R464, R501); the presses whose commit frame
begins are due (R347). DEDUCED (log 35): the line axis is evaluated before the encoder samples of the frame that ends are decoded, so L(f)
holds what the frames before it have counted (R39). -/
def boundary (s : State) (inp : FrameIn) : State :=
  let s := careUpdate (passTo s (64 - s.time.cycle))
  let s := takeStep (modTime s fun t => { t with frame := t.frame + 1, cycle := 0 })
  let s := modTime s fun t => { t with ptpF := t.ptp, elapsedF := t.elapsed }
  let s := modTime s fun t => { t with wallF := wall32 s }
  let s := routesFirst (modHost s fun h => { h with accepted := 0 })
  let s := evalLine s
  let s := if decide (s.time.frame % 1280 = 16) && s.grd.running && s.grd.cycle.isSome then actCauses s else s
  let s := pressKeys (modesAndRegions s)
  let k := s.time.frame % 1280
  let s := ledgerFrame s
  adminFrame (modDue s fun _ =>
    { presses := pressesDue s, judge := decide (k = 16) && s.grd.running && s.grd.cycle.isSome, body := true, inp := inp,
      servo := decide (s.time.frame % 160 = 0), plan := decide (k = 0) })

/-- The highest class whose queue is not empty. -/
def topQueue (s : State) : Option Nat := [5, 4, 3, 2, 1, 0].find? fun c => decide (mgetD s.flt.queues c [] ≠ [])

/-- Firmware takes the oldest record of the highest-class queue; one of a higher class than the record in work suspends it (R470). -/
def handleTake (s : State) : State :=
  match topQueue s with
  | none => s
  | some c => if s.flt.handling.head?.all (· < c) then modFlt s fun f => { f with handling := c :: f.handling } else s

/-- The collector's closing work: the Lint Trap takes the cycle's reports, ledger writes are made, records are taken (R470, R472). -/
def closeReports (s : State) : State := handleTake (takeReports (ledgerPump (takeReports s)))

/-- The work that closes every command: the Lint Trap takes its reports, warm starts begin, workers take prefetched nodes, nodes are
judged, crossed instances are handled. -/
def closing (s : State) : State :=
  closeReports (handleCrossed (judgeNodes (pumpWorkers (holdResets (warmPump (takeReports s))))))

/-- What every command leaves behind: its closing work is done, the outputs show the state (R512), and no region is in a state that the
mode forbids (R24). -/
def finish (s : State) : State := boundRegions { closing s with out := outputsOf (closing s) }

/-- The state that a command leaves: the queue is that of the state before. -/
def leave (before after : State) : State := { finish after with pending := before.pending }

/-- The state in which an event from outside takes its effect: the boundary's work is complete, and the event has arrived in the
frame; the time until then has brought the deliveries of mailboxes that were due (R432). -/
def atArrival (s : State) : State :=
  let u := settle s
  if u.mbx.boxes.any fun e => e.2.deliverDue.isSome then
    let t := { u with free := u.free + 1 }
    passTo t ((arrive u).time.cycle - u.time.cycle)
  else arrive u

/-- An event from outside. -/
def event (f : State → State) (s : State) : Host.Outcome State Fault Refusal := .next (leave s (f (atArrival s)))

/-- A step of a unit's own at the instant reached: the boundary's work is complete. -/
def unitStep (f : State → State) (s : State) : Host.Outcome State Fault Refusal := .next (leave s (f (settle s)))

/-- Work of the present boundary that a command asks for by name. -/
def dueStep (f : State → State) (s : State) : Host.Outcome State Fault Refusal := .next (leave s (f s))

/-- The device is in cold reset: only what ends or changes the reset has an effect (R508, R509). -/
def unlessHeld (f : State → State) (s : State) : State := if s.md.held then s else f s

end Sys2Proof.Machine
end

