-- ==== Sys2Proof/Machine/Registers.lean ====
section
/-!
DEFINITION. The registers that are views of the state: every RO register of the register tables (R65, R66, R101, R134, R135, R160,
R183, R184, R208, R259, R288, R289, R306, R336, R361, R386, R414, R415, R417, R440, R460, R479, R496, R514, R541, R542, R564), by
its offset in BAR0; and the value that a read shows, by requester.
-/
namespace Sys2Proof.Machine

/-- The lo or hi word of a 64-bit value at the even or odd word of a pair. -/
def loHi (hi : Bool) (x : Nat) : Nat := if hi then x / 4294967296 % 4294967296 else x % 4294967296

/-- MOD, PWR and pad registers (R514, R542, R564). -/
def readMod (s : State) (o : Nat) : Nat :=
  let raw (i : Nat) : Bool := (dinAt s i).raw
  let lvl (i : Nat) : Bool := (dinAt s i).level
  let half (f : Nat → Bool) (hi : Bool) : Nat := listMask ((List.range 32).filter fun i => f (if hi then i + 32 else i))
  match o with
  | 0x000 => modeCode s.md.mode + 16 * s.md.prev + 256 * s.md.cause + 4096 * b2n s.md.pinA + 8192 * b2n s.md.pinB +
      16384 * b2n (decide (s.flt.fatal ≠ 0))
  | 0x004 => loHi false s.md.changeFrame
  | 0x008 => loHi true s.md.changeFrame
  | 0x00C => s.md.stage + 16 * s.md.fail + 256 * b2n s.md.imageB + 512 * b2n s.md.recovery
  | 0x010 => s.md.resetCause % 16 + 256 * b2n s.md.perstSeen
  | 0x038 => s.md.bootTime
  | 0x800 =>
    let p1 := p1On s
    s.pins.powerState + 4 * b2n p1 +
      65536 * (if p1 then ((List.range 208).filter fun l => laneIdle s l).length % 256 else 0) +
      16777216 * (if p1 then ((List.range 18).filter fun c => coreIdle s c).length else 0)
  | 0x80C => s.pins.vcoreSet + 65536 * s.pins.vcore
  | 0x810 => un 16 s.pins.tj
  | 0x100C => half raw false
  | 0x1010 => half raw true
  | 0x1014 => half lvl false
  | 0x1018 => half lvl true
  | 0x101C => s.pins.banks
  | _ => 0

/-- SEC and DBG registers (R541); through DBGACC DBG_CHALLENGE shows the JTAG port's challenge, that of the port in use (R528). -/
def readSec (s : State) (req o : Nat) : Nat :=
  if o = 0 then
    s.sec.lifecycle + 4 * b2n (decide (s.sec.fused ≠ s.sec.lifecycle)) + 8 * b2n s.sec.ownerDigest.isSome +
      16 * b2n s.sec.ownerImageKey.isSome + 32 * b2n s.sec.ownerSupplied
  else if o = 4 then s.sec.fwSvn
  else if o = 8 then s.sec.fwFloor
  else if o = 0xC then s.sec.usrFloor
  else if 0x10 ≤ o ∧ o < 0x20 then bits Config.serial (8 * (o - 0x10)) 32
  else if 0x40 ≤ o ∧ o < 0x60 then bits (challengeOf s (if req = 63 then 0 else 1)) (8 * (o - 0x40)) 32
  else if 0x100 ≤ o ∧ o < 0x140 then dbgSesReg s ((o - 0x100) / 0x20) ((o - 0x100) % 0x20)
  else 0

/-- HST registers (R414, R415). DESIGN CHOICE (log 83): the fields of a ring's context read 0 while it is DOWN, KIND and PHASE among them,
as the reset values of R415 have it. -/
def readHst (s : State) (o : Nat) : Nat :=
  let owned (f : Nat) (ev : Bool) : Nat :=
    (mkeys s.host.rings fun k r => decide (r.owner = f) && decide (r.st ≠ .down) && (decide (256 ≤ k) == ev)).length
  let up (ev : Bool) : Nat := (mkeys s.host.rings fun k r => decide (r.st = .up) && (decide (256 ≤ k) == ev)).length
  if o = 0 then up false + 65536 * up true
  else if o = 4 then s.host.numVf
  else if 0x100 ≤ o ∧ o < 0x500 then
    let f := (o - 0x100) / 0x40
    let r := ringAt s f
    match (o - 0x100) % 0x40 with
    | 0x14 => b2n (decide (r.st ≠ .down) || r.upDue)
    | 0x18 => b2n (decide (r.st = .up)) + 2 * b2n (s.host.downRefused.contains f) + 4 * b2n (mhas s.host.busMaster f) + 256 * owned f false +
        65536 * owned f true
    | 0x1C => if r.st = .down then 0 else handleOf s cRING f
    | _ => 0
  else if 0x1000 ≤ o ∧ o < 0x3800 then
    let i := (o - 0x1000) / 0x20
    let r := ringAt s i
    match (o - 0x1000) % 0x20 with
    | 0x00 => match r.st with
               | .down => 0
               | st => (if st = .up then 1 else 2) + 4 * b2n (decide (256 ≤ i)) + 256 * r.owner + 65536 * r.vector
    | 0x04 => if r.st = .down then 0 else handleOf s cRING i
    | 0x08 => r.sqHead + 65536 * r.sqTail
    | 0x0C => if r.st = .down then 0 else r.wr + 65536 * b2n r.phase
    | 0x10 => r.head
    | 0x14 => r.resv
    | 0x18 => r.pos % 65536
    | _ => 0
  else 0

/-- TIM registers (R65); the snapshot is the requester's own. -/
def readTim (s : State) (req o : Nat) : Nat :=
  let t := s.time
  let sn := mgetD t.snaps req { ptp := 0, elapsed := 0, frame := 0, line := 0 }
  let sns := floorDiv sn.ptp nsU
  let sec := un 48 (floorDiv sns 1000000000)
  let valid := match s.line.desig with
    | some i => !((srcAt s i).faulted || (srcAt s i).stale)
    | none => false
  match o with
  | 0x004 => (match t.servo with
              | .freerun => 0
              | .locking => 1
              | .locked => 2
              | .holdover => 3) + 8 * b2n t.stepArmed.isSome + 16 * b2n valid + 32 * s.line.state + 256 * t.activePort + 4096 * t.holdCause
  | 0x008 => wall32 s
  | 0x00C => loHi false (elapsedNs s)
  | 0x010 => loHi true (elapsedNs s)
  | 0x014 => loHi false t.frame
  | 0x018 => loHi true t.frame
  | 0x01C => loHi false s.line.line
  | 0x020 => loHi true s.line.line
  | 0x024 => un 32 (lineSpeed s)
  | 0x028 => loHi false s.line.hwm
  | 0x02C => loHi true s.line.hwm
  | 0x030 => handleOf? s cLINESRC s.line.desig
  | 0x050 => un 32 (satS 32 (offsetNs t.offset))
  | 0x054 => un 32 t.fadj
  | 0x070 => s.line.pubSeq
  | 0x084 => (sns % 1000000000).toNat
  | 0x088 => loHi false sec
  | 0x08C => loHi true sec
  | 0x090 => loHi false (sn.elapsed / nsU)
  | 0x094 => loHi true (sn.elapsed / nsU)
  | 0x098 => loHi false sn.line
  | 0x09C => loHi true sn.line
  | 0x0A0 => loHi false sn.frame
  | 0x0A4 => loHi true sn.frame
  | _ => 0

/-- ETH port registers (R66). -/
def readEth (s : State) (p o : Nat) : Nat :=
  match o with
  | 0x004 => (ethAt s p).state
  | 0x020 => loHi false (un 64 (ethAt s p).mpd)
  | 0x024 => loHi true (un 64 (ethAt s p).mpd)
  | _ => 0

/-- A delay in unsigned Q12.4 slots, saturated (R9, R101). -/
def q124 (x : Int) : Nat := satU 16 (divFree 90 x subQ).toNat

/-- RYL port registers (R101). DESIGN CHOICE (log 86): RYL_KILL_STAT[3] shows a disagreement of the two pins while it stands, also before
the 5 ms of R92. -/
def readRyl (s : State) (p o : Nat) : Nat :=
  let x := portAt s p
  if o = 0x004 then
    x.st + 8 * b2n x.a.up + 16 * b2n x.b.up + 32 * b2n x.broken + 64 * b2n x.refused + 256 * x.breakSeg + 4096 * x.failCause +
      65536 * listMask (x.present.map (· - 1))
  else if o = 0x008 then x.dEpoch
  else if o = 0x010 then q124 x.a.lap + 65536 * q124 x.b.lap
  else if o = 0x020 then
    b2n s.md.pinA + 2 * b2n s.md.pinB +
      4 * b2n (portSends x && (pinKill s || decide (s.md.mode = .safeOff) || decide (s.md.mode = .prepare))) +
      8 * b2n (s.md.pinA != s.md.pinB)
  else if 0x100 ≤ o ∧ o < 0x200 then
    let c := (o - 0x100) / 0x20 + 1
    let h := headAt s p c
    match (o - 0x100) % 0x20 with
    | 0x00 => h.id
    | 0x04 => q124 h.dA + 65536 * q124 h.uA
    | 0x08 => q124 h.dB + 65536 * q124 h.uB
    | 0x0C => un 8 h.sA + 256 * un 8 h.sB + 65536 * b2n (primaryLane x c) + 131072 * b2n h.aValid + 262144 * b2n h.bValid
    | 0x10 => h.status % 256 + 256 * b2n h.lost
    | 0x18 => h.timing
    | _ => 0
  else if 0x400 ≤ o ∧ o < 0x800 then
    let k := (o - 0x400) % 0x80
    if k < 80 then leNat (takeBytes (headAt s p ((o - 0x400) / 0x80 + 1)).block k 4) else 0
  else 0

/-- CNV registers (R134). -/
def readCnv (s : State) (o : Nat) : Nat :=
  let mask (f : Nat → Bool) : Nat := listMask ((List.range 9).filter f)
  if o = 0x004 then
    b2n s.cnv.refReady + 256 * mask (fun n => (convAt s n).calBusy) + 131072 * mask fun n => isMod s n
  else if o = 0x01C then ((s.cnv.tq.head?).map fun e => e.2).getD 0
  else if o = 0x020 then s.cnv.tq.length
  else if 0x100 ≤ o ∧ o < 0x340 ∧ (o - 0x100) % 0x40 = 8 then
    let c := convAt s ((o - 0x100) / 0x40)
    b2n c.calBusy + 2 * b2n c.calReq + 4 * b2n (regPass s ((o - 0x100) / 0x40)) +
      8 * listMask (((List.range 4).filter fun g => c.pend.contains (g + 1) || c.latched.contains (g + 1))) + 128 * b2n c.cfgRefused +
      256 * c.regEntry
  else if 0x800 ≤ o ∧ o < 0x1000 ∧ (o - 0x800) % 0x20 = 0xC then mgetD s.cnv.wcount ((o - 0x800) / 0x20) 0
  else 0

/-- The channel of source 1 or 2 whose pair slot a physical pair serves. -/
def pairChan (s : State) (p : Nat) : Option Nat :=
  (mkeys s.cchans fun i x => decide (x.cfg.source ≠ 3) && decide (physPair s x.pair = p) && isLive s cCCHAN i).head?

/-- CNV_SUM_SKIP of a channel: its joint has three current channels whose settings differ (R130). -/
def sumSkip (s : State) (c : Nat) : Bool :=
  s.joints.any fun e =>
    match sumChans s e.2 with
    | some (x, y, z) => [x, y, z].contains c && !(sumEqual s (x, y, z))
    | none => false

/-- DEC registers (R135). -/
def readDec (s : State) (o : Nat) : Nat :=
  if o = 0 then ((List.range 520).filter fun p => pairFree s p).length
  else if o = 4 then sparesLeft s 2
  else if 0x1000 ≤ o ∧ o < 0x3280 then
    let p := (o - 0x1000) / 0x10
    match pairChan s p with
    | none => if (o - 0x1000) % 0x10 = 0 then 2 * b2n (decide (520 ≤ p)) else 0
    | some c =>
      let x := chAt s c
      match (o - 0x1000) % 0x10 with
      | 0x0 => 1 + 2 * b2n (decide (520 ≤ p)) + 4 * b2n (chFIR x.cfg) + 8 * b2n (chFAST x.cfg) + 16 * b2n (sumSkip s c) + 32 * (x.cfg.osr / 8)
      | 0x4 => if x.have_ then resultWord x.value x.settle x.ovr x.inj x.cfg.tag else 0
      | 0xC => handleOf s cCCHAN c
      | _ => 0
  else 0

/-- FBK registers (R160). -/
def readFbk (s : State) (o : Nat) : Nat :=
  if o = 0 then
    (128 - (mkeys s.fbchs fun _ x => !x.cfg.isLocal).length) + 256 * (8 - (mkeys s.fbchs fun _ x => x.cfg.isLocal).length)
  else if o = 8 then encPins s
  else if 0x1000 ≤ o ∧ o < 0x3200 then
    match fbOfDecoder s ((o - 0x1000) / 0x40) with
    | none => 0
    | some f =>
      let x := fbAt s f
      match (o - 0x1000) % 0x40 with
      | 0x00 => 1 + 2 * x.cfg.type + 16 * x.speedSt + 64 * b2n x.countMode + 128 * b2n x.uncertain + 256 * b2n x.fault +
          512 * b2n x.indexRef.isSome + 1024 * b2n x.hallAligned + 2048 * (x.hall.getD 0) + 16384 * b2n x.sencHeld
      | 0x04 => fbHandle s f
      | 0x08 => loHi false (un 64 x.count)
      | 0x0C => loHi true (un 64 x.count)
      | 0x10 => un 32 (speedQ4 x)
      | 0x14 => x.theta
      | 0x18 => loHi false (un 64 x.indexCount)
      | 0x1C => loHi true (un 64 x.indexCount)
      | 0x20 => x.indexT
      | 0x28 => x.sencBits % 16 + 256 * satU 8 x.errors + 65536 * (x.startPos % 65536)
      | 0x30 => x.edgeT
      | _ => 0
  else 0

/-- SWE registers (R183, R184). -/
def readSwe (s : State) (o : Nat) : Nat :=
  if o = 0x004 then
    ((List.range 144).filter fun c => serves s 3 c && (swAt s c).joint.isNone).length + 256 * sparesLeft s 3
  else if o = 0x00C then reg s 0xC000C
  else if 0x100 ≤ o ∧ o < 0x200 then
    let g := (o - 0x100) / 0x10
    let b := busAt s g
    match (o - 0x100) % 0x10 with
    | 0x0 => un 32 b.pMean
    | 0x4 => un 32 b.pPeakOut
    | 0x8 => Nat.min 31 b.wMaxOut
    | _ => (mkeys s.swchs fun _ x => x.joint.isSome && decide (x.cfg.busGrp = g)).length
  else if 0x1000 ≤ o ∧ o < 0xA000 then
    let c := (o - 0x1000) / 0x100
    let x := swAt s c
    let bound := x.joint.isSome
    let holds := bound || x.shadowOf.isSome
    let k := (o - 0x1000) % 0x100
    match k with
    | 0x00 => (if bound then x.port + 16 * x.pos else 0) + 256 * b2n bound + 512 * b2n (decide (128 ≤ c) && !(serves s 3 c) && !(retired s 3 c)) + 1024 * b2n (retired s 3 c)
    | 0x04 => handleOf? s cJOINT x.joint
    | 0x08 => swStat x
    | 0x0C => if holds then
        x.cfg.topology % 4 + 4 * b2n (decide (x.cfg.currents = 2)) + 16 * x.cfg.busGrp + 256 * x.cfg.decay + 65536 * x.cfg.minPulse +
          16777216 * x.cfg.fastSlots else 0
    | 0x10 => x.cfg.band + 65536 * x.cfg.bandMax
    | 0x14 => x.cfg.iLimit + 65536 * x.cfg.iTrip
    | 0x18 => x.cfg.kslope
    | 0x1C => x.cfg.ramp
    | 0x20 => x.cfg.fClamp + 256 * x.cfg.ish + 2048 * x.cfg.dsh +
        65536 * (if holds then (if x.cfg.residMax = 0 then x.cfg.bandMax else x.cfg.residMax) else 0)
    | 0x24 => x.cfg.chopOn + 65536 * x.cfg.chopOff
    | 0x60 => satU 16 x.span
    | 0x70 => x.iAvail % 65536
    | _ =>
      if 0x30 ≤ k ∧ k < 0x40 then
        let l := x.legs.getD ((k - 0x30) / 4) {}
        if holds then
          l.hEff % 65536 + 65536 * (((l.edges.head?).map fun e => e.1 % 64).getD 0) + 4194304 * b2n l.on + 8388608 * b2n l.edge.isSome
        else 0
      else if 0x40 ≤ k ∧ k < 0x50 then un 32 (x.iest.getD ((k - 0x40) / 4) 0)
      else if 0x50 ≤ k ∧ k < 0x60 then un 32 (x.dh.getD ((k - 0x50) / 4) 0)
      else 0
  else 0

/-- DRV core registers (R208). -/
def readDrv (s : State) (n o : Nat) : Nat :=
  let c := drvAt s n
  match o with
  | 0x000 => drvStat s n
  | 0x008 => tickBudget
  | 0x00C => budgetUsed s n % 65536
  | 0x010 => c.tickMax
  | 0x014 => c.holdSeen % 65536
  | 0x024 => c.bankA.ident
  | 0x028 => c.bankB.ident
  | _ =>
    if 0x40 ≤ o ∧ o < 0x80 then
      let k := (o - 0x40) / 8
      if o % 8 = 0 then handleOf? s cJOINT (slotAt c k).joint else drvLoopCfg s n k
    else 0

/-- PRF registers (R259). -/
def readPrf (s : State) (o : Nat) : Nat :=
  if o = 0x000 then
    256 - (mkeys s.profiles fun p _ => isLive s cPROFILE p).length + 65536 * (128 - (mkeys s.gears fun g _ => isLive s cGEAR g).length)
  else if o = 0x004 then reg s 0x180004
  else if 0x30 ≤ o ∧ o < 0x50 then un 32 (mgetD s.stepIns ((o - 0x30) / 4) {}).count
  else if 0x1000 ≤ o ∧ o < 0x5000 then
    let p := (o - 0x1000) / 0x40
    if isLive s cPROFILE p then
      let x := prfAt s p
      match (o - 0x1000) % 0x40 with
      | 0x00 => prfStat s p
      | 0x04 => handleOf? s cJOINT x.joint
      | 0x08 => loHi false (un 64 (refPos x))
      | 0x0C => loHi true (un 64 (refPos x))
      | 0x10 => un 32 (refVel x)
      | 0x14 => un 32 (refAcc x)
      | 0x18 => un 24 x.amp
      | 0x1C => x.theta
      | 0x20 => loHi false (un 64 x.shift)
      | 0x24 => loHi true (un 64 x.shift)
      | 0x28 => loHi false (un 64 x.hcap)
      | 0x2C => loHi true (un 64 x.hcap)
      | 0x30 => x.hcapT
      | 0x38 => followErr s x
      | _ => 0
    else 0
  else if 0x5000 ≤ o ∧ o < 0x6000 then
    let g := (o - 0x5000) / 0x20
    if isLive s cGEAR g then
      let x := gearAt s g
      let r := match x.seam with
        | .run _ r1 _ _ _ => r1
        | _ => x.ratio
      let u := match x.seam with
        | .run _ _ dm we _ => if we = 0 then 0 else
            (clampI (divFree 91 (clampI dm 0 we * 65536) we) 0 65535).toNat
        | _ => 0
      match (o - 0x5000) % 0x20 with
      | 0x00 => gearStat s g
      | 0x04 => handleOf s cPROFILE x.follower
      | 0x08 => loHi false (un 64 r)
      | 0x0C => loHi true (un 64 r)
      | 0x10 => x.weLast % 4294967296
      | 0x14 => u
      | 0x18 => x.waits.length % 8
      | _ => 0
    else 0
  else 0

/-- SOL registers (R288, R289). -/
def readSol (s : State) (o : Nat) : Nat :=
  if o = 0x004 then solStatus s
  else if o = 0x008 then solBudget s % 262144
  else if o = 0x00C then Config.klib % 65536
  else if o = 0x010 then s.sol.finishMax % 2048
  else if 0x100 ≤ o ∧ o < 0x400 then solLmap s ((o - 0x100) / 4)
  else if 0x10000 ≤ o ∧ o < 0x10000 + 0x400 * 208 then
    let q := (o - 0x10000) / 0x400
    let k := (o - 0x10000) % 0x400
    if k = 4 then (if (laneAt s q).status = 5 ∧ (laneAt s q).pivotReg = 0xFFFF ∧ (laneAt s q).problem = 0 then 0 else solLaneReg s q k)
    else solLaneReg s q k
  else 0

/-- PLN registers (R306). -/
def readPln (s : State) (o : Nat) : Nat :=
  if o = 0x004 then plnStatus s
  else if o = 0x008 then s.pln.plan
  else if o = 0x00C then s.pln.joinMax % 2048
  else if 0x100 ≤ o ∧ o < 0x300 then
    let g := (o - 0x100) / 0x20
    match (o - 0x100) % 0x20 with
    | 0x00 => mgetD s.pln.price g 0
    | 0x10 => un 32 (mgetD s.pln.peak g 0)
    | _ => 0
  else if 0x400 ≤ o ∧ o < 0x800 then
    let a := (o - 0x400) / 0x40
    if isLive s cARM a then plnArmReg s a ((o - 0x400) % 0x40) else 0
  else 0

/-- GRD registers (R336). -/
def readGrd (s : State) (o : Nat) : Nat :=
  if o = 0x004 then grdStatus s
  else if o = 0x030 then 0x240
  else if o = 0x034 then pLive s
  else if o = 0x038 then ((capArms s).map (pJudge s)).sum
  else if o = 0x03C then pLive s + ((capArms s).map (xPairs s)).sum
  else if o = 0x040 then s.grd.finish + 65536 * s.grd.finishMax
  else if 0x100 ≤ o ∧ o < 0x180 then
    let x := streamAt s ((o - 0x100) / 0x10)
    match (o - 0x100) % 0x10 with
    | 0x8 => x.seqShow
    | 0xC => x.age
    | _ => 0
  else if 0x200 ≤ o ∧ o < 0x400 then grdArmReg s ((o - 0x200) / 0x20) ((o - 0x200) % 0x20)
  else if 0x600 ≤ o ∧ o < 0x800 then (if o % 0x10 = 0 then grdZoneReg s ((o - 0x600) / 0x10) else 0)
  else if 0x800 ≤ o ∧ o < 0x1000 then grdTrackReg s ((o - 0x800) / 0x10) (o % 0x10)
  else 0

/-- GSC registers (R386); GSC_N shows the requester's selected node. -/
def readGsc (s : State) (req o : Nat) : Nat :=
  let count (st : NodeState) : Nat := (s.gsc.nodes.filter fun e => decide (e.2.st = st) && isLive s cNODE e.1).length
  let pending (wall : Bool) : Nat := (s.gsc.delays.filter fun e => (e.2.wall == wall) && e.2.entry.isSome).length
  let sel := regAt s 0x230040 req
  let n := nodeAt s sel
  let live := isLive s cNODE sel
  if o = 0x004 then liveCount s cNODE + 65536 * liveCount s cFLOW
  else if o = 0x008 then listMask ((List.range 32).filter fun l => listAt s l ≠ [])
  else if o = 0x00C then pending false + 65536 * pending true
  else if o = 0x014 then count .blocked
  else if o = 0x018 then count .parked
  else if o = 0x01C then s.gsc.latMax % 65536
  else if o = 0x030 then s.gsc.waits.length
  else if o = 0x044 then (if live then handleOf s cNODE sel else 0)
  else if o = 0x048 then
    if live then
      (match n.st with
       | .idle => 1
       | .ready => 2
       | .parked => 3
       | .prefetched => 4
       | .inFlight => 5
       | .error => 6
       | .blocked => 7
       | .held => 8) + 16 * n.prio + 512 * n.inMask + 8192 * listMask (n.edges.map fun e => e.out) + 131072 * n.region + 33554432 * n.states
    else 0
  else if o = 0x04C then (if live then (List.range 4).foldl (fun a p => a + tokensAt n p * 256 ^ p) 0 else 0)
  else if o = 0x050 then (if live then n.runs % 4294967296 else 0)
  else if o = 0x054 then (if live then n.last else 0)
  else if 0x100 ≤ o ∧ o < 0x180 then (listAt s ((o - 0x100) / 4)).length
  else if 0x1000 ≤ o ∧ o < 0x2000 then
    let w := (o - 0x1000) / 0x10
    let x := workerAt s w
    let present := if w < 18 then coreServes s w else if w < 26 then !x.quarantined else if w < 29 then true
      else decide (64 ≤ w) && decide ((gangAt s (w - 64)).role = 3) && gangServes s (w - 64)
    match o % 0x10 with
    | 0x0 => (slotsOf w - freeSlots s w) % 8 + 8 * b2n x.running.isSome + 16 * b2n present
    | 0x4 => handleOf? s cNODE x.running
    | _ => 0
  else 0

/-- MBX and LCK registers (R440), for a requester with reach (R429); a mailbox's SENDER, STAMP and RX0 to RX7 for its receiver
alone (R432). -/
def readMbx (s : State) (req o : Nat) : Nat :=
  if mbxReach req = false then 0
  else if o = 0 then
    (64 - countObjs s cMBOX) + 256 * (s.mbx.boxes.filter fun e => e.2.full).length + 65536 * s.mbx.waits.length
  else if o = 0x30 then let t := mgetD s.mbx.txstat req (0, 0); t.1 + 256 * t.2
  else if 0x8100 ≤ o ∧ o < 0x8200 then lockHeld s ((o - 0x8100) / 4)
  else if 0x1000 ≤ o ∧ o < 0x2000 then
    let n := (o - 0x1000) / 0x40
    let k := (o - 0x1000) % 0x40
    if isLive s cMBOX n then
      let b := boxAt s n
      match k with
      | 0x00 => 1 + 2 * b2n b.full + 4 * b2n (crossedNow s n) + 256 * (waitersOf s n).length
      | 0x04 => handleOf s cMBOX n
      | 0x08 => (if b.shared then 2 else 1) + 4 * b2n b.arrive + 256 * b.receiver + 65536 * b.sender
      | 0x10 => if b.receiver = req then b.from_ else 0
      | 0x14 => if b.receiver = req then b.stamp else 0
      | _ => if 0x20 ≤ k ∧ b.receiver = req then b.words.getD ((k - 0x20) / 4) 0 else 0
    else 0
  else 0

/-- HLT registers (R460); the log entry and the score are those that the requester has selected. -/
def readHlt (s : State) (req o : Nat) : Nat :=
  let sel := regAt s 0x250028 req
  let lg := mget s.hlt.log (regAt s 0x250024 req)
  if o = 0x004 then
    (match s.hlt.darn with
     | some (_, _, _, _, ph) => if ph = 4 then 1 else ph
     | none => 0) + 256 * s.hlt.queue.length + 65536 * (s.hlt.tests.length % 256)
  else if o = 0x008 then ((s.hlt.darn).map fun d => origin (tyOf d.1.cls) d.1.worn).getD 0
  else if o = 0x00C then ((s.hlt.darn).map fun d => origin (tyOf d.1.cls) d.2.1).getD 0
  else if o = 0x010 then ((s.hlt.darn).map fun d => d.2.2.1 % 65536 + 65536 * (d.2.2.2.1 % 65536)).getD 0
  else if o = 0x01C then b2n s.hlt.copyA + 2 * b2n s.hlt.copyB + 256 * Nat.min 4096 s.hlt.logSeq
  else if o = 0x020 then s.hlt.logHead
  else if o = 0x02C then
    match classOfTy (sel / 65536) with
    | some c => let i := instAt s c (sel % 65536); i.wear + 65536 * i.code + 16777216 * i.row
    | none => 0
  else if o = 0x030 then s.hlt.cnvMap
  else if 0x40 ≤ o ∧ o < 0x80 then
    match lg with
    | none => 0
    | some e =>
      match (o - 0x40) / 4 with
      | 0 => e.seq % 4294967296
      | 1 => e.kind + 256 * e.reason
      | 2 => e.worn
      | 3 => e.spare
      | 4 => loHi false e.sec
      | 5 => loHi true e.sec
      | 6 => e.ns
      | 7 => e.wear
      | 8 => e.frame
      | _ => 0
  else if 0x100 ≤ o ∧ o < 0x160 then
    let c := (o - 0x100) / 0x10
    match o % 0x10 with
    | 0x0 => tyOf c
    | 0x8 =>
      let th := reg s (0x250104 + 0x10 * c)
      let is := (List.range (instances c)).map fun i => instAt s c i
      (sparesReady s c).length +
        256 * ((is.filter fun x => (decide (x.code = 0) || decide (x.code = 2)) && (decide (th ≤ x.wear) || x.failed)).length % 256) +
        65536 * ((is.filter fun x => decide (x.code = 3)).length % 256)
    | _ => 0
  else 0

/-- A word of an event record (R569), PHASE apart. -/
def recWord (e : EventRec) (w : Nat) : Nat :=
  match w with
  | 0 => e.wall
  | 1 => e.code % 65536 + 65536 * e.cls + 16777216 * e.flags
  | 2 => e.handle
  | 3 => loHi false e.line
  | 4 => loHi true e.line
  | 5 => e.count
  | 6 => loHi false e.detail
  | _ => loHi true e.detail

/-- FLT registers (R479); the record is the one that the requester has selected. HANDLING is the class
of the record in work. -/
def readFlt (s : State) (req o : Nat) : Nat :=
  let queue (c : Nat) : List EventRec := mgetD s.flt.queues c []
  let regions (f : Nat → Bool) : Nat := listMask ((List.range 16).filter f)
  let sups (f : SupCore → Bool) : Nat := listMask ((List.range 4).filter fun n => f (supAt s n))
  if o = 0x004 then
    listMask ((List.range 6).filter fun c => queue c ≠ []) + 64 * s.flt.handling.headD 7 + 512 * b2n (decide (s.flt.fatal ≠ 0)) +
      65536 * s.flt.lint.length
  else if 0x10 ≤ o ∧ o < 0x28 then (queue ((o - 0x10) / 4)).length
  else if o = 0x40 then regions fun r => decide ((regionAt s r).latched ≠ [])
  else if o = 0x44 then regions (fun r => decide (standingHold s r ≠ [])) + 65536 * regions fun r => (standingSafeOff s r).isSome
  else if o = 0x48 then regions fun r => (regionAt s r).warmHeld
  else if o = 0x4C then s.flt.wsCount % 4294967296
  else if o = 0x50 then s.flt.wsCause
  else if o = 0x54 then s.flt.wsOrigin
  else if o = 0x58 then s.flt.wsRegions + 65536 * b2n (decide ((pressAt s 2).phase ≠ .free))
  else if o = 0x5C then s.flt.quarantines.length % 256
  else if o = 0x60 then (List.range 16).foldl (fun a r => a + (regionAt s r).hosted * 4 ^ r) 0
  else if o = 0x64 then s.flt.fatal
  else if o = 0x68 then sups (fun x => decide (x.test = 1)) + 16 * sups (fun x => x.lastPass) + 256 * sups fun x => x.lastFail
  else if 0x84 ≤ o ∧ o < 0xA4 then
    let sel := regAt s 0x260080 req
    match (queue (bits sel 0 3))[bits sel 8 6]? with
    | some e => recWord e ((o - 0x84) / 4)
    | none => 0
  else if 0x1000 ≤ o ∧ o < 0x2000 then
    match mget s.flt.lint ((o - 0x1000) / 0x10) with
    | none => 0
    | some l =>
      match o % 0x10 with
      | 0x0 => l.origin
      | 0x4 => l.code + 512 * l.cls + 4096 + 8192 * b2n l.lifted
      | 0x8 => satU 32 l.count
      | _ => l.last.wall
  else 0

/-- The largest free run of the Hamper in bytes: from its start, or from a buffer's end, to the next buffer or its end. -/
def hamperLargest (s : State) : Nat :=
  let used := hamperUsed s none
  nmax ((0 :: used.map fun u => u.1 + u.2).map fun b =>
    (used.filter fun u => decide (b ≤ u.1)).foldl (fun m u => Nat.min m (u.1 - b))
      (if used.any fun u => decide (u.1 ≤ b) && decide (b < u.1 + u.2) then 0 else 1073741824 - b))

/-- TRC and MEM registers (R496); MEM_STATUS holds its reset value until the device has booted (DEDUCED, log 88). -/
def readTrc (s : State) (o : Nat) : Nat :=
  if o = 0x000 then countObjs s cTRACE + 65536 * s.mem.queue.length
  else if o = 0x004 then hamperLargest s / 65536
  else if 0x1000 ≤ o ∧ o < 0x2000 then
    let i := (o - 0x1000) / 0x40
    if isLive s cTRACE i then
      let t := traceAt s i
      match (o - 0x1000) % 0x40 with
      | 0x00 => t.st + 256 * t.source
      | 0x04 => handleOf s cTRACE i
      | 0x08 => t.base
      | 0x0C => t.wptr
      | 0x10 => t.trigIdx
      | 0x14 => t.trigWall
      | _ => 0
    else 0
  else if o = 0x8000 then
    if s.md.mode = .boot then 0
    else 4096 - sparesUsed s + 65536 * b2n (bit (reg s 0x278004) 0 && decide (s.pins.powerState ≠ 2))
  else if o = 0x8008 then loHi false s.mem.scrubPos
  else if o = 0x800C then loHi true s.mem.scrubPos
  else if o = 0x8020 then loHi false s.mem.last
  else if o = 0x8024 then loHi true s.mem.last
  else 0

/-- The value of a read-only register, by its offset in BAR0 (R417); the Care Label follows the function. -/
def readView (s : State) (req off : Nat) : Nat :=
  let win := off / 65536
  if win = 0 then careWord s (if 32 ≤ req then req - 32 else 0) off
  else if win = 1 then readMod s (off % 65536)
  else if win = 2 then readSec s req (off % 65536)
  else if win = 3 then readHst s (off % 65536)
  else if win = 4 then readTim s req (off % 65536)
  else if win = 5 then (if off < 0x54000 then readEth s ((off - 0x50000) / 4096) (off % 4096) else 0)
  else if win = 6 then readRyl s ((off - 0x60000) / 4096) (off % 4096)
  else if win = 8 then readCnv s (off % 65536)
  else if win = 9 then readDec s (off % 65536)
  else if win = 0xA then readFbk s (off % 65536)
  else if win = 0xC then readSwe s (off % 65536)
  else if 0x100000 ≤ off ∧ off < 0x148000 then readDrv s ((off - 0x100000) / 0x4000) (off % 0x4000)
  else if 0x180000 ≤ off ∧ off < 0x1A0000 then readPrf s (off - 0x180000)
  else if 0x1A0000 ≤ off ∧ off < 0x200000 then readSol s (off - 0x1A0000)
  else if win = 0x20 then readPln s (off % 65536)
  else if win = 0x21 then readGrd s (off % 65536)
  else if win = 0x22 then pressReg s (off % 65536)
  else if win = 0x23 then readGsc s req (off % 65536)
  else if win = 0x24 then readMbx s req (off % 65536)
  else if win = 0x25 then readHlt s req (off % 65536)
  else if win = 0x26 then readFlt s req (off % 65536)
  else if win = 0x27 then readTrc s (off % 65536)
  else 0

/-- The lo words of the 64-bit pairs that are read (R6): the writable pairs of the register table and the pairs of the views. -/
def pairLo (off : Nat) : Bool :=
  let o := off % 65536
  (match regRow off with
   | some r => decide (r.pair = 1)
   | none => false) ||
  (match off / 65536 with
   | 1 => [0x004, 0x100C, 0x1014].contains o
   | 4 => [0x00C, 0x014, 0x01C, 0x028, 0x088, 0x090, 0x098, 0x0A0].contains o
   | 5 => decide (o % 4096 = 0x20)
   | 0xA => decide (0x1000 ≤ o ∧ o < 0x3200) && [0x08, 0x18].contains ((o - 0x1000) % 0x40)
   | 0x18 => (decide (0x1000 ≤ o ∧ o < 0x5000) && [0x08, 0x20, 0x28].contains ((o - 0x1000) % 0x40)) ||
       (decide (0x5000 ≤ o ∧ o < 0x6000) && decide ((o - 0x5000) % 0x20 = 8))
   | 0x22 => decide (0x100 ≤ o ∧ o < 0x500) && [0x10, 0x18].contains ((o - 0x100) % 0x40)
   | 0x27 => [0x8008, 0x8020].contains o
   | _ => false)

end Sys2Proof.Machine
end

