-- ==== Sys2Proof/Machine/Regs.lean ====
section
/-!
DEFINITION. Register accesses (R4 to R6, R389, R392, R414, R429, R568): who reaches a register, what a write does, what a read returns
and changes.
-/
namespace Sys2Proof.Machine

/-! ### Reach (R389, R429, R505, R541) -/

/-- The link answers the host's memory requests (R505, R508). -/
def hostLink (s : State) : Bool := !s.md.held && s.host.linkUp && !s.host.perst && !s.host.crs

/-- A requester reaches an offset of BAR0. After a boot failure only the MOD window and the Care Label header respond (R505); a VF
reaches the Care Label, its own function block and the contexts of its own rings (R389); requester 63 stands for debug
session 0, through DBGACC (R541). -/
def reqReach (s : State) (req off : Nat) : Bool :=
  if 32 ≤ req ∧ req < 48 then
    hostLink s && (decide (s.md.mode ≠ .boot) || decide (off / 65536 ≤ 1)) &&
      (decide (req = 32) || decide (off < 65536) ||
        (decide (fnBlock (req - 32) ≤ off) && decide (off < fnBlock (req - 32) + 0x40)) ||
        (decide (0x31000 ≤ off) && decide (off < 0x33800) && decide ((ringAt s ((off - 0x31000) / 0x20)).owner = req - 32) &&
          decide ((ringAt s ((off - 0x31000) / 0x20)).st ≠ .down)))
  else if req = 63 then decide (s.sec.tap = 2) && !s.md.held && decide (0x20000 ≤ off) && decide (off < 0x30000)
  else decide (1 ≤ req ∧ req ≤ 25) && decide (s.md.mode ≠ .boot) && !s.md.held

/-- The access rule of a register's row (R414, R440, R514, R541, R564). -/
def mayWrite (req off : Nat) (r : RegRow) : Bool :=
  if off / 65536 = 0x24 then mbxReach req
  else
    match r.who with
    | 0 => true
    | 1 => decide (req = 32)
    | 2 => decide (req = 32 + (off - 0x30100) / 0x40)
    | _ => decide (req = 32) || decide (req = 63)

/-! ### Writes -/

/-- The fields of a row take the values of a write, each one that lies in its range (R568). -/
def fieldsWrite (r : RegRow) (old v : Nat) : Nat :=
  r.fields.foldl (fun x f =>
    let y := bits v f.lo f.w
    let n : Int := if f.min < 0 then sx f.w y else y
    if f.min ≤ n ∧ n ≤ f.max then setBits x f.lo f.w y else x) old

/-- The key of a requester's copy of a register. -/
def reqOf (r : RegRow) (req : Nat) : Nat := if r.perReq then req else 0

/-- Every field of a write lies in its range: the condition of a register whose description ignores any other write whole (R568). -/
def fieldsOk (r : RegRow) (v : Nat) : Bool :=
  r.fields.all fun f =>
    let y := bits v f.lo f.w
    let n : Int := if f.min < 0 then sx f.w y else y
    decide (f.min ≤ n ∧ n ≤ f.max)

/-- CNV_DMA_SIZE and MEM_SCRUB: a write outside the range of their field is ignored (R134, R496, R568). -/
def wholeOnly (off : Nat) : Bool :=
  decide (off = 0x278004) || (decide (0x80800 ≤ off ∧ off < 0x81000) && decide (off % 0x20 = 8))

/-- A register takes a write by its fields. -/
def plainWrite (s : State) (req off v : Nat) (r : RegRow) : State :=
  setRegAt s off (reqOf r req) (fieldsWrite r (regAt s off (reqOf r req)) v)

/-- A pair at its hi write: a CNV_DMA_BASE whose buffer lies outside the general range is not taken (R482), nor a correction of a
PTP port outside its range, in nanoseconds × 2^16 (R57). -/
def pairAdmits (s : State) (off lo hi : Nat) : Bool :=
  if 0x80800 ≤ off ∧ off < 0x81000 then
    let lg := bits (reg s (0x80808 + (off - 0x80800) / 0x20 * 0x20)) 0 5
    dramGeneral (lo + hi * 4294967296) (if lg = 0 then 1 else 2 ^ lg)
  else if 0x50000 ≤ off ∧ off < 0x54000 ∧ (off % 4096 = 0x08 ∨ off % 4096 = 0x10) then
    decide (lo + hi * 4294967296 ≤ 65536000000)
  else if 0x50000 ≤ off ∧ off < 0x54000 ∧ off % 4096 = 0x18 then decide ((sx 64 (lo + hi * 4294967296)).natAbs ≤ 65536000000)
  else true

/-- A write of one half of a writable pair: the lo half waits, the hi half applies both (R6). -/
def pairWrite (s : State) (req off v : Nat) (r : RegRow) : State :=
  if r.pair = 1 then modHost s fun h => { h with loHeld := mput h.loHeld (regKey off req) v }
  else
    let lo := off - 4
    match regRow lo with
    | none => s
    | some q =>
      let held := mget s.host.loHeld (regKey lo req)
      let nlo := match held with
        | some x => fieldsWrite q (regAt s lo (reqOf q req)) x
        | none => regAt s lo (reqOf q req)
      let nhi := fieldsWrite r (regAt s off (reqOf r req)) v
      let s := modHost s fun h => { h with loHeld := mdel h.loHeld (regKey lo req) }
      if pairAdmits s lo nlo nhi then setRegAt (setRegAt s lo (reqOf q req) nlo) off (reqOf r req) nhi else s

/-- TIM_SERVO_EN_WRITE (R62). -/
def servoEnWrite (s : State) (en : Bool) : State := forcedHoldover (setReg s 0x40000 (setBit (reg s 0x40000) 0 en))
/-- TIM_HOLDOVER_FORCE_WRITE (R62). -/
def holdoverForceWrite (s : State) (force : Bool) : State := forcedHoldover (setReg s 0x40000 (setBit (reg s 0x40000) 2 force))

/-- TIM_JUMPTH: a write outside its range is ignored; a threshold below TIM_LOCKTH lowers that too (R65). -/
def jumpWrite (s : State) (v : Nat) : State :=
  if v < 100 ∨ 1000000 < v then s
  else
    let s := setReg s 0x40040 v
    if v < reg s 0x40044 then setReg s 0x40044 v else s

/-- SOL_CTRL: a write outside its ranges is ignored, and so is any write while a PLAN problem is bound (R280, R288). DEDUCED (log 15):
DEADLINE is held against the START of the same write (R568). -/
def solCtrlWrite (s : State) (v : Nat) : State :=
  let a := bits v 0 11
  let d := bits v 16 11
  if a < 2 ∨ 64 < a ∨ d < a + 64 ∨ 1272 < d ∨ (gangsOf s 1).any (fun l => gangBound (gangAt s l)) = true then s
  else setReg s 0x1A0000 (a + d * 65536)

/-- GRD_GANG and GRD_END: GRD_GANG is written in PREPARE alone, a FIRST that is no multiple of 4 keeps its value (R568), and neither may
break R331 (R328, R334). -/
def grdWrite (s : State) (off v : Nat) (r : RegRow) : State :=
  let v := if off = 0x210008 ∧ bits v 0 8 % 4 ≠ 0 then v - bits v 0 8 + bits (reg s off) 0 8 else v
  let s' := plainWrite s 0 off v r
  if capacityFail s' (grdGangs s') (grdEnd s') ≠ 0 ∨ (off = 0x210008 ∧ s.md.mode ≠ .prepare) then s else s'

/-- DBG_CMD: the operation on a core or lane (R541). -/
def dbgCmd (s : State) (ses v : Nat) : State :=
  let n := bits v 8 8
  match bits v 0 4 with
  | 1 => dbgHaltCore s ses n
  | 2 => dbgResumeCore s ses n
  | 3 => dbgStepCore s ses n
  | 4 => dbgHaltLane s ses n
  | 5 => dbgResumeLane s ses n
  | 6 => dbgBreak s ses n
  | 7 => dbgUnbreak s ses n
  | _ => s

/-- RYL_CTRL: its fields, then EN, then TRAIN (R101). -/
def rylCtrlWrite (s : State) (p v : Nat) (r : RegRow) : State :=
  let off := 0x60000 + 0x1000 * p
  let old := bit (rylCtrl s p) 0
  let s := setReg s off (setBit (fieldsWrite r (rylCtrl s p) v) 0 old)
  let s := if bit v 0 ≠ old then enWrite s p (bit v 0) else s
  if bit v 1 then train s p else s

/-- CNV_n_SWTRIG: the groups whose bits are set (R123, R124). -/
def swtrigWrite (s : State) (n v : Nat) : State := (maskList v 5).foldl (fun s g => softTrigger s n g) s

/-- The registers without a value of their own that act on a write: WO registers and W1C bits. `none` where the offset is no such
register. -/
def actionWrite (s : State) (req off v : Nat) : Option State :=
  let o := off % 65536
  match off / 65536 with
  | 1 =>
    if o = 0x010 then some (if req = 32 ∧ bit v 8 = true then modMd s fun x => { x with perstSeen := false } else s)
    else if o = 0x014 then some (modReset s req v)
    else if o = 0x018 then some (hostwdWrite s req v)
    else if o = 0x01C then some (hostwdKick s req)
    else if o = 0x034 then some (if bit v 0 then rcvGo s req else s)
    else if 0x1100 ≤ o ∧ o < 0x1200 then some (dinCfgWrite s req ((o - 0x1100) / 4) v)
    else none
  | 2 =>
    let ses := if req = 63 then 0 else 1
    if o = 0x06C then some (if req = 32 ∨ req = 63 then dbgMdata s ses (some v) else s)
    else if o = 0x070 then some (if req = 32 ∨ req = 63 then dbgCmd s ses v else s)
    else none
  | 3 =>
    if 0x100 ≤ o ∧ o < 0x500 ∧ (o - 0x100) % 0x40 = 0x14 then
      let f := (o - 0x100) / 0x40
      some (if req ≠ 32 + f then s else if bit v 0 then adminEnable s f else adminDisable s f)
    else none
  | 4 => if o = 0x080 then some (if bit v 0 then takeSnap s req else s) else if o = 0x040 then some (jumpWrite s v) else none
  | 8 =>
    if o = 0x000 then some (refOnWrite s (bit v 0))
    else if 0x100 ≤ o ∧ o < 0x340 then
      let n := (o - 0x100) / 0x40
      match (o - 0x100) % 0x40 with
      | 0x00 => some (convCfgWrite s n v)
      | 0x04 => some (if bit v 0 then calWrite s n else s)
      | 0x20 => some (swtrigWrite s n v)
      | _ => none
    else none
  | 0x1A => if o = 0 then some (solCtrlWrite s v) else none
  | 0x21 => if o = 0 then some (grdEnWrite s (bit v 0)) else none
  | 0x24 =>
    if o = 0x034 then some (if bit v 0 && mbxReach req then mbxCancel s req else s)
    else if 0x1000 ≤ o ∧ o < 0x2000 ∧ (o - 0x1000) % 0x40 = 0x0C then some (mbxSend s req ((o - 0x1000) / 0x40) v)
    else if 0x8000 ≤ o ∧ o < 0x8100 then some (lockWrite s req ((o - 0x8000) / 4) v)
    else if o = 0x8200 then some (lockBreak s req (v % 64))
    else none
  | 0x27 => if o = 0x8014 then some (if v < 0x3E0000 then retirePage s v else s) else none
  | _ => none

/-- The register lies in the block of a retired converter, which takes no write and reads 0 (R118). -/
def convGone (s : State) (off : Nat) : Bool :=
  decide (0x80100 ≤ off ∧ off < 0x80340) && retired s 1 ((off - 0x80100) / 0x40)

/-- A write to a register with a row: its own reaction where its description states one, else by its fields. -/
def rowWrite (s : State) (req off v : Nat) (r : RegRow) : State :=
  if r.rc then s
  else if 0x30100 ≤ off ∧ off < 0x30500 ∧ (off - 0x30100) % 0x40 < 0x14 ∧
      bit (reg s (fnBlock ((off - 0x30100) / 0x40) + 0x14)) 0 = true then s
  else if convGone s off then s
  else if r.pair ≠ 0 then pairWrite s req off v r
  else if off = 0x10804 then pwrOff' (setPower (plainWrite s req off v r)) req v
  else if off = 0x10808 ∧ (8 < bits v 0 4 ∨ 8 < bits v 8 4) then s
  else if 0x90010 ≤ off ∧ off < 0x90030 then mdatRestart (plainWrite s req off v r) (reg s off) ((off - 0x90010) / 4)
  else if off = 0x40000 then forcedHoldover (plainWrite s req off v r)
  else if off = 0x40044 ∧ reg s 0x40040 < v then s
  else if 0x50000 ≤ off ∧ off < 0x54000 ∧ off % 4096 = 0 then ptpCfgChanged (plainWrite s req off v r) ((off - 0x50000) / 4096)
  else if 0x50000 ≤ off ∧ off < 0x54000 ∧ off % 4096 = 0x200 then
    let s := plainWrite s req off v r
    if bit v 9 then gclApply s ((off - 0x50000) / 4096) else s
  else if 0x60000 ≤ off ∧ off < 0x70000 ∧ off % 4096 = 0 then rylCtrlWrite s ((off - 0x60000) / 4096) v r
  else if 0x100000 ≤ off ∧ off < 0x148000 ∧ (boundSlots (drvAt s ((off - 0x100000) / 0x4000))) ≠ [] then s
  else if off = 0x210008 ∨ off = 0x21000C then grdWrite s off v r
  else if wholeOnly off && !(fieldsOk r v) then s
  else if off = 0x210018 ∧ v < reg s 0x210014 then s
  else if 0x210100 ≤ off ∧ off < 0x210180 ∧ off % 0x10 = 0 then
    let on := bit (reg s off) 0
    let s := plainWrite s req off v r
    if !on && bit v 0 then streamEnable s ((off - 0x210100) / 0x10) else s
  else plainWrite s req off v r
where
  /-- PWR_CTRL.OFF (R538). -/
  pwrOff' (s : State) (req v : Nat) : State := if bit v 1 then pwrOff s req else s

/-- A write to BAR0. -/
def bar0Write (s : State) (req off v : Nat) : State :=
  if !(reqReach s req off) then s
  else
    match actionWrite s req off v with
    | some s' => s'
    | none =>
      match regRow off with
      | some r => if mayWrite req off r then rowWrite s req off v r else s
      | none => s

/-- The MSI-X vectors of a function (R388). -/
def vectorsOf (f : Nat) : Nat := if f = 0 then 64 else 16

/-- A write to BAR2 of a function: doorbells, and the MSI-X table: address, data and mask bit of each entry (R392, R407). -/
def bar2Write (s : State) (f off v : Nat) : State :=
  if off < 0x1000 ∧ off % 0x10 = 0 then tailDoorbell s f (off / 0x10) v
  else if off < 0x1000 ∧ off % 0x10 = 4 then headDoorbell s f (off / 0x10) v
  else if 0x1000 ≤ off ∧ off < 0x1400 ∧ off % 0x10 = 0 then eventDoorbell s f ((off - 0x1000) / 0x10) v
  else if 0xC000 ≤ off ∧ off < 0xC000 + 0x10 * vectorsOf f then
    let k := (off - 0xC000) / 0x10
    if off % 0x10 < 12 then modHost s fun h => { h with msixTable := mput h.msixTable (4 * (64 * f + k) + off % 0x10 / 4) v }
    else if bit v 0 then modHost s fun h => { h with unmasked := h.unmasked.filter fun x => decide (x ≠ 64 * f + k) }
    else vectorUnmask s f k
  else s

/-- A read of BAR2 of a function: the MSI-X table and its pending bits; doorbells read 0 (R392). -/
def bar2Value (s : State) (f off : Nat) : Nat :=
  if 0xC000 ≤ off ∧ off < 0xC000 + 0x10 * vectorsOf f then
    let k := (off - 0xC000) / 0x10
    if off % 0x10 < 12 then mgetD s.host.msixTable (4 * (64 * f + k) + off % 0x10 / 4) 0
    else b2n (!(s.host.unmasked.contains (64 * f + k)))
  else if 0xE000 ≤ off ∧ off < 0xE000 + vectorsOf f / 8 then
    listMask ((List.range 32).filter fun b => s.host.pba.contains (64 * f + 8 * (off - 0xE000) + b))
  else 0

/-- REGISTER_WRITE: an aligned 32-bit word alone is taken (R4); BAR 0 is BAR0, 1 is BAR2, 2 is BAR4, whose writes are discarded
(R495). -/
def registerWrite (s : State) (req bar off width v : Nat) : State :=
  if width ≠ 4 ∨ off % 4 ≠ 0 then s
  else
    match bar with
    | 0 => bar0Write s req off v
    | 1 => if 32 ≤ req ∧ req < 48 ∧ hostLink s = true ∧ s.md.mode ≠ .boot then bar2Write s (req - 32) off v else s
    | _ => s

/-! ### Reads -/

/-- A read by a requester is answered with the register's value, not with 0: the requester reaches it (R389, R429, R505). -/
def answers (s : State) (req off : Nat) : Bool :=
  reqReach s req off && (decide (s.md.mode ≠ .boot) || decide (off / 65536 ≤ 1)) && (decide (off / 65536 ≠ 0x24) || mbxReach req)

/-- The value of the register at an offset as a requester reads it, without the effects of the read. -/
def regValue (s : State) (req off : Nat) : Nat :=
  if answers s req off = false ∨ convGone s off = true then 0
  else
    match regRow off with
    | some r => regAt s off (reqOf r req)
    | none => readView s req off

/-- CNV_TQ_POP: a read of CNV_TQ_LO pops the oldest entry and latches its upper half; an empty queue reads 0 in both (R133). -/
def tqPop (s : State) (req : Nat) : State :=
  let (e, s) := tqTake s
  let (w, t) := e.getD (0, 0)
  readBack (modHost s fun h => { h with hiLatch := mput h.hiLatch (regKey 0x8001C req) t }) req w

/-- A read of a register: a lo word latches its hi word, the next read of that hi word returns it (R6); an RC register is cleared
(R5). -/
def regRead (s : State) (req off : Nat) : State :=
  match mget s.host.hiLatch (regKey off req) with
  | some h => readBack (modHost s fun x => { x with hiLatch := mdel x.hiLatch (regKey off req) }) req h
  | none =>
    let s' := readBack s req (regValue s req off)
    if pairLo off then modHost s' fun h => { h with hiLatch := mput h.hiLatch (regKey (off + 4) req) (regValue s req (off + 4)) }
    else
      match regRow off with
      | some r => if r.rc && answers s req off then setRegAt s' off (reqOf r req) 0 else s'
      | none => s'

/-- A read of BAR0: one of another width or alignment returns 0 and does nothing (R4); else it has the effects that particular
registers give it: CNV_TQ_LO, DBG_MDATA, MBX_n_RX7, LCK_n; else it is a plain read. -/
def bar0Read (s : State) (req off width : Nat) : State :=
  if width ≠ 4 ∨ off % 4 ≠ 0 ∨ reqReach s req off = false then readBack s req 0
  else if off = 0x80018 then tqPop s req
  else if off = 0x2006C ∧ (req = 32 ∨ req = 63) then dbgMdata s (if req = 63 then 0 else 1) none
  else if 0x241000 ≤ off ∧ off < 0x242000 ∧ (off - 0x241000) % 0x40 = 0x3C then mbxTake s req ((off - 0x241000) / 0x40)
  else if 0x248000 ≤ off ∧ off < 0x248100 then lockRead s req 0 ((off - 0x248000) / 4)
  else regRead s req off

/-- A read of BAR4: the Hamper's bytes; poisoned data returns all ones with the EP bit set, and AER reports it (R484, R495). -/
def bar4Read (s : State) (req off : Nat) : State :=
  let (data, s) := memFetch s (hamperBase + off) 4
  match data with
  | some l => readBack s req (leNat l)
  | none =>
    readBack (modHost s fun h => { h with poisonedRead := true, aer := if h.aer.contains (req - 32) then h.aer else h.aer ++ [req - 32] })
      req 0xFFFFFFFF

/-- A read by a requester of one of its BARs (R389). BAR2 and BAR4 are the host's, BAR4 that of PF0. -/
def barRead (s : State) (req bar off width : Nat) : State :=
  let s := modHost s fun h => { h with poisonedRead := false }
  if bar = 0 then (if off < 16777216 then bar0Read s req off width else readBack s req 0)
  else if width ≠ 4 ∨ off % 4 ≠ 0 ∨ req < 32 ∨ 47 < req ∨ hostLink s = false ∨ s.md.mode = .boot then readBack s req 0
  else if bar = 1 then readBack s req (bar2Value s (req - 32) off)
  else if req = 32 then bar4Read s req off
  else readBack s req 0

/-! ### The configuration space's identity (R388) -/

/-- Class code of every function. -/
def pciClassCode : Nat := 0x088000
/-- Device ID of a function. -/
def pciDeviceId (f : Nat) : Nat := if f = 0 then 0x4B16 else 0x4B17
/-- Revision ID of a stepping: 0 for A0, 1 for A1, and so on. -/
def pciRevisionId (stepping : Nat) : Nat := stepping

end Sys2Proof.Machine
end

