-- ==== Sys2Proof/Machine/Collector.lean ====
section
/-!
DEFINITION. The fault collector's own steps: the handling of records (R469, R470) and the ends of the Lint Trap's windows (R472).
-/
namespace Sys2Proof.Machine

/-- FLT_RECORD_HANDLING: the handling of the record in work ends. It leaves its queue, and a queue that falls below 32 records ends its
episode; the handling of a record of the health manager writes the ledger; the warm start of its cause is decided (`warmPump`); a
suspended handling resumes (R469, R470). -/
def handleRecord (s : State) : State :=
  let s := handleTake s
  match s.flt.handling with
  | [] => s
  | c :: below =>
    let q := mgetD s.flt.queues c []
    let t := q.drop 1
    let s := modFlt s fun f =>
      { f with handling := below, queues := if t = [] then mdel f.queues c else mput f.queues c t,
               fullEpisode := if t.length < 32 then f.fullEpisode.filter (· ≠ c) else f.fullEpisode }
    if (q.head?.any hltRecord) = true ∧ s.hlt.toWrite = true then ledgerWrite (modHlt s fun h => { h with toWrite := false }) else s

/-- The summary of a window (R472): the last report's handle, times and detail, class NOTICE, SUMMARY, CREDITED, REPORT_CLASS, and
the count of the window. -/
def lintSummary (l : Lint) : EventRec :=
  { l.last with code := l.code, cls := 0, flags := 1 + 2 * b2n (l.lifted || l.credited) + 8 * l.cls, count := l.window }

/-- LINT_WINDOW_END: an entry whose window has ended writes its summary and starts another, or is freed when it counted nothing
(R472). -/
def lintWindowEnd (s : State) (e : Nat) : State :=
  match mget s.flt.lint e with
  | none => s
  | some l =>
    if s.time.elapsed < l.ends then s
    else if l.window = 0 then modFlt s fun f => { f with lint := mdel f.lint e }
    else
      writeRecord (modLint s e fun l => { l with window := 0, ends := l.ends + reg s 0x260008 * usU }) (lintSummary l)

end Sys2Proof.Machine
end

