-- ==== Sys2Proof/WellFormed.lean ====
section
/-!
DEFINITION. The operands that the hardware can be sent: what the types of Instr do not say.
-/
namespace Sys2Proof

/-- An uplink frame carries 119 characters after its marker (R78). -/
def uplinkOk (chars : List Byte) : Bool := decide (chars.length = 119)
/-- A ring read returns 1 to 8 descriptors (R394). -/
def fetchOk (descs : List RawDesc) : Bool := decide (1 ≤ descs.length ∧ descs.length ≤ 8)
/-- A REPEAT repeats 1 to 511 records (R270). -/
def repeatBodyOk (body : List KRec) : Bool := decide (1 ≤ body.length ∧ body.length ≤ 511)

/-- A command whose operands the hardware can be sent. -/
def wellFormed (i : Instr) : Bool :=
  match i with
  | .rylUplinkFrame _ _ _ chars => uplinkOk chars
  | .sqFetchDone _ descs => fetchOk descs
  | .repeatRecs _ _ body => repeatBodyOk body
  | _ => true

end Sys2Proof
end

