-- ==== Sys2Proof/Machine/Senders.lean ====
section
/-!
DEFINITION. What the rows of the table share: when a command reaches the device at all (R389, R505, R508, R509, R541), the frame
boundary as one command (R18), and the fields that a row's name fixes.
-/
namespace Sys2Proof.Machine

/-- The rails are up: pins and the TAP are seen also while RESET_N holds the device (R507, R535). -/
def unlessOff (f : State → State) (s : State) : State := if s.md.off then s else f s

/-- A configuration write of the host reaches a function: the link is up (R505, R508). -/
def onLink (f : State → State) (s : State) : State := if hostLink s then f s else s

/-- A BAR2 access or a ring read: the link is up, and boot is complete (R392, R505). -/
def onRings (f : State → State) (s : State) : State := if hostLink s && decide (s.md.mode ≠ .boot) then f s else s

/-- A read of a register: a requester that does not reach it reads 0 (R389, R429). -/
def onRead (req off : Nat) (f : State → State) (s : State) : State := if reqReach s req off then f s else readBack s req 0

/-- An access to a register by a requester that reaches it. -/
def onReg (req off : Nat) (f : State → State) (s : State) : State := if reqReach s req off then f s else s

/-- A debug access of a session's port: DBGACC for session 0, PF0 for session 1 (R530, R541). -/
def onDebug (ses : Nat) (f : State → State) (s : State) : State := onReg (if ses = 0 then 63 else 32) 0x20070 f s

/-- A core that can issue: out of reset and boot, neither halted nor stopped (R206, R533). -/
def coreIssues (s : State) (n : Nat) : Bool :=
  !s.md.held && decide (s.md.mode ≠ .boot) && (drvAt s n).halted.isEmpty && !(drvAt s n).stopped

/-- An instruction of a core that can issue. -/
def onCore (n : Nat) (f : State → State) (s : State) : State := if coreIssues s n then f s else s

/-- FRAME_BOUNDARY: the work of the boundary before is complete, the frame begins, and the rest of its work runs at once unless a
press or the start of judging is due first (R18, R320, R354). -/
def frameBoundary (inp : FrameIn) (s : State) : State :=
  let s := settle s
  if clockRuns s then
    let s := boundary s inp
    if s.due.judge then s else duesBody s
  else s

/-- A descriptor with byte 16, which names the operation of its row. -/
def withByte16 (v : Nat) (d : Desc) : Desc := { d with payload := BitVec.ofNat 384 (d.payload.toNat / 256 * 256 + v) }

/-- A record of the kernel of its row. -/
def withKernel (k : BitVec 8) (r : KRec) : KRec := { r with kernel := k }

end Sys2Proof.Machine
end

