-- ==== Sys2Proof/Machine/DescRows.lean ====
section
/-!
DEFINITION. The meanings of the commands of the descriptors of R402: one definition for each row of the table.
-/
namespace Sys2Proof.Machine

/-- NOP (R402): The NOP descriptor completes OK with the WALL32 at acceptance. -/
def execNop (d : Desc) (s : State) : Host.Outcome State Fault Refusal :=
  event (unlessHeld fun s => arriveDesc s 0x0001 d) s

/-- DESTROY (R29): An object is destroyed and its generation advances, or the destroy is refused. -/
def execDestroy (d : Desc) (s : State) : Host.Outcome State Fault Refusal :=
  event (unlessHeld fun s => arriveDesc s 0x0002 d) s

/-- ARM_CREATE (R403): Creates an arm of kind CHAIN or AUX in a region. -/
def execArmCreate (d : Desc) (s : State) : Host.Outcome State Fault Refusal :=
  event (unlessHeld fun s => arriveDesc s 0x0003 d) s

/-- JOINT_CREATE (R403): Creates a joint on a head position, bound to its channels and a switching channel. -/
def execJointCreate (d : Desc) (s : State) : Host.Outcome State Fault Refusal :=
  event (unlessHeld fun s => arriveDesc s 0x0004 d) s

/-- JOINT_SCALE_SET (R17): Replaces a joint's scale record. -/
def execJointScaleSet (d : Desc) (s : State) : Host.Outcome State Fault Refusal :=
  event (unlessHeld fun s => arriveDesc s 0x0005 d) s

/-- REGION_RELEASE (R22): Requests a region's transition from SAFE_OFF to HOLD. -/
def execRegionRelease (d : Desc) (s : State) : Host.Outcome State Fault Refusal :=
  event (unlessHeld fun s => arriveDesc s 0x0100 d) s

/-- REGION_RESUME (R327): Requests a region's transition from HOLD to ACTIVE. -/
def execRegionResume (d : Desc) (s : State) : Host.Outcome State Fault Refusal :=
  event (unlessHeld fun s => arriveDesc s 0x0101 d) s

/-- REGION_HOLD (R22): Requests a region's transition from ACTIVE to HOLD. -/
def execRegionHold (d : Desc) (s : State) : Host.Outcome State Fault Refusal :=
  event (unlessHeld fun s => arriveDesc s 0x0102 d) s

/-- REGION_SERVICE (R571): Requests a region's entry to SERVICE with a speed cap. -/
def execRegionService (d : Desc) (s : State) : Host.Outcome State Fault Refusal :=
  event (unlessHeld fun s => arriveDesc s 0x0103 d) s

/-- REGION_LEAVE_SERVICE (R22): Requests a region's transition from SERVICE to HOLD. -/
def execRegionLeaveService (d : Desc) (s : State) : Host.Outcome State Fault Refusal :=
  event (unlessHeld fun s => arriveDesc s 0x0104 d) s

/-- MODE_SET (R500): Requests a device mode transition. -/
def execModeSet (d : Desc) (s : State) : Host.Outcome State Fault Refusal :=
  event (unlessHeld fun s => arriveDesc s 0x0110 d) s

/-- LINESRC_CREATE (R38): Creates a local or publication line source. -/
def execLinesrcCreate (d : Desc) (s : State) : Host.Outcome State Fault Refusal :=
  event (unlessHeld fun s => arriveDesc s 0x0200 d) s

/-- LINE_DESIGNATE (R40): Designates the line source that the line axis follows. -/
def execLineDesignate (d : Desc) (s : State) : Host.Outcome State Fault Refusal :=
  event (unlessHeld fun s => arriveDesc s 0x0201 d) s

/-- TIME_STEP_AUTH (R63): Arms or cancels one authorised PTP step. -/
def execTimeStepAuth (d : Desc) (s : State) : Host.Outcome State Fault Refusal :=
  event (unlessHeld fun s => arriveDesc s 0x0202 d) s

/-- RYL_HEAD_CYCLIC (R77): Sets words of a head's cyclic parameter table. -/
def execRylHeadCyclic (d : Desc) (s : State) : Host.Outcome State Fault Refusal :=
  event (unlessHeld fun s => arriveDesc s 0x0300 d) s

/-- RYL_HEAD_ACCESS (R403): Reads or writes a head register through service traffic. -/
def execRylHeadAccess (d : Desc) (s : State) : Host.Outcome State Fault Refusal :=
  event (unlessHeld fun s => arriveDesc s 0x0301 d) s

/-- CCHAN_CREATE (R103): Creates a conversion channel. -/
def execCchanCreate (d : Desc) (s : State) : Host.Outcome State Fault Refusal :=
  event (unlessHeld fun s => arriveDesc s 0x0400 d) s

/-- CCHAN_SET (R104): Replaces a conversion channel's configuration and scale record. -/
def execCchanSet (d : Desc) (s : State) : Host.Outcome State Fault Refusal :=
  event (unlessHeld fun s => arriveDesc s 0x0401 d) s

/-- CNV_CALIBRATE (R128): Requests calibration of a logical converter. -/
def execCnvCalibrate (d : Desc) (s : State) : Host.Outcome State Fault Refusal :=
  event (unlessHeld fun s => arriveDesc s 0x0402 d) s

/-- FBCH_CREATE (R138): Creates a feedback channel on a decoder. -/
def execFbchCreate (d : Desc) (s : State) : Host.Outcome State Fault Refusal :=
  event (unlessHeld fun s => arriveDesc s 0x0500 d) s

/-- FBCH_SET (R138): Replaces a feedback channel's configuration and restarts it. -/
def execFbchSet (d : Desc) (s : State) : Host.Outcome State Fault Refusal :=
  event (unlessHeld fun s => arriveDesc s 0x0501 d) s

/-- FBCH_SET_POS (R147): Sets a feedback channel's count and clears UNCERTAIN and FAULT. -/
def execFbchSetPos (d : Desc) (s : State) : Host.Outcome State Fault Refusal :=
  event (unlessHeld fun s => arriveDesc s 0x0502 d) s

/-- SWE_SET (R164): Sets a switching channel's parameters. -/
def execSweSet (d : Desc) (s : State) : Host.Outcome State Fault Refusal :=
  event (unlessHeld fun s => arriveDesc s 0x0600 d) s

/-- SWE_HEAD_CAL (R175): Requests a head CAL sequence on an OFF channel in SERVICE. -/
def execSweHeadCal (d : Desc) (s : State) : Host.Outcome State Fault Refusal :=
  event (unlessHeld fun s => arriveDesc s 0x0601 d) s

/-- DRV_LOAD (R202): Loads an image into a core's inactive bank. -/
def execDrvLoad (d : Desc) (s : State) : Host.Outcome State Fault Refusal :=
  event (unlessHeld fun s => arriveDesc s 0x0700 d) s

/-- DRV_SWAP (R203): Makes a core's staged bank active from the next servo tick. -/
def execDrvSwap (d : Desc) (s : State) : Host.Outcome State Fault Refusal :=
  event (unlessHeld fun s => arriveDesc s 0x0701 d) s

/-- DRV_BIND (R204): Binds or unbinds a loop slot to a joint. -/
def execDrvBind (d : Desc) (s : State) : Host.Outcome State Fault Refusal :=
  event (unlessHeld fun s => arriveDesc s 0x0702 d) s

/-- DRV_PARAM (R204): Writes PARAM words of a loop slot. -/
def execDrvParam (d : Desc) (s : State) : Host.Outcome State Fault Refusal :=
  event (unlessHeld fun s => arriveDesc s 0x0703 d) s

/-- PRF_CREATE (R231): Creates a profile. -/
def execPrfCreate (d : Desc) (s : State) : Host.Outcome State Fault Refusal :=
  event (unlessHeld fun s => arriveDesc s 0x0800 d) s

/-- PRF_SET (R231): Replaces a profile's configuration. -/
def execPrfSet (d : Desc) (s : State) : Host.Outcome State Fault Refusal :=
  event (unlessHeld fun s => arriveDesc s 0x0801 d) s

/-- PRF_QUEUE (R235): Appends a SEG, MOVE or JOG entry to a profile queue. -/
def execPrfQueue (d : Desc) (s : State) : Host.Outcome State Fault Refusal :=
  event (unlessHeld fun s => arriveDesc s 0x0802 d) s

/-- PRF_STOP (R240): Discards the queue, releases the gear and starts a profile stop. -/
def execPrfStop (d : Desc) (s : State) : Host.Outcome State Fault Refusal :=
  event (unlessHeld fun s => arriveDesc s 0x0803 d) s

/-- PRF_HOME (R254): Starts a homing sequence. -/
def execPrfHome (d : Desc) (s : State) : Host.Outcome State Fault Refusal :=
  event (unlessHeld fun s => arriveDesc s 0x0804 d) s

/-- GEAR_CREATE (R242): Creates a gear for a follower profile. -/
def execGearCreate (d : Desc) (s : State) : Host.Outcome State Fault Refusal :=
  event (unlessHeld fun s => arriveDesc s 0x0805 d) s

/-- GEAR_SET (R244): Changes a gear's ratio through a seam. -/
def execGearSet (d : Desc) (s : State) : Host.Outcome State Fault Refusal :=
  event (unlessHeld fun s => arriveDesc s 0x0806 d) s

/-- SOL_GANG (R264): Forms solver gangs with a role. -/
def execSolGang (d : Desc) (s : State) : Host.Outcome State Fault Refusal :=
  event (unlessHeld fun s => arriveDesc s 0x0900 d) s

/-- PROBLEM_CREATE (R275): Creates a problem from a block in host memory. -/
def execProblemCreate (d : Desc) (s : State) : Host.Outcome State Fault Refusal :=
  event (unlessHeld fun s => arriveDesc s 0x0901 d) s

/-- PROBLEM_BIND (R276): Binds or unbinds a problem to a gang. -/
def execProblemBind (d : Desc) (s : State) : Host.Outcome State Fault Refusal :=
  event (unlessHeld fun s => arriveDesc s 0x0902 d) s

/-- PROBLEM_WRITE (R277): Writes words into a problem's data section. -/
def execProblemWrite (d : Desc) (s : State) : Host.Outcome State Fault Refusal :=
  event (unlessHeld fun s => arriveDesc s 0x0903 d) s

/-- PLN_BRANCH_SET (R292): Sets or removes a branch of an arm. -/
def execPlnBranchSet (d : Desc) (s : State) : Host.Outcome State Fault Refusal :=
  event (unlessHeld fun s => arriveDesc s 0x0904 d) s

/-- PLN_REPLAN (R305): Places all branches anew from derating level 0. -/
def execPlnReplan (d : Desc) (s : State) : Host.Outcome State Fault Refusal :=
  event (unlessHeld fun s => arriveDesc s 0x0905 d) s

/-- GRD_KIN_SET (R308): Sets a link of an arm's kinematic chain. -/
def execGrdKinSet (d : Desc) (s : State) : Host.Outcome State Fault Refusal :=
  event (unlessHeld fun s => arriveDesc s 0x0A00 d) s

/-- GRD_CAPSULE_SET (R309): Sets or removes a robot capsule. -/
def execGrdCapsuleSet (d : Desc) (s : State) : Host.Outcome State Fault Refusal :=
  event (unlessHeld fun s => arriveDesc s 0x0A01 d) s

/-- GRD_STOP_SET (R312): Sets an arm's stopping table. -/
def execGrdStopSet (d : Desc) (s : State) : Host.Outcome State Fault Refusal :=
  event (unlessHeld fun s => arriveDesc s 0x0A02 d) s

/-- TRACK_CREATE (R313): Binds a TRACK to a stream slot. -/
def execTrackCreate (d : Desc) (s : State) : Host.Outcome State Fault Refusal :=
  event (unlessHeld fun s => arriveDesc s 0x0A03 d) s

/-- ZONE_CREATE (R317): Creates a guard zone. -/
def execZoneCreate (d : Desc) (s : State) : Host.Outcome State Fault Refusal :=
  event (unlessHeld fun s => arriveDesc s 0x0A04 d) s

/-- GRD_ZONE_SET (R317): Replaces a zone's configuration. -/
def execGrdZoneSet (d : Desc) (s : State) : Host.Outcome State Fault Refusal :=
  event (unlessHeld fun s => arriveDesc s 0x0A05 d) s

/-- PRESS_OPEN (R340): Opens a host press in the lowest free host slot. -/
def execPressOpen (d : Desc) (s : State) : Host.Outcome State Fault Refusal :=
  event (unlessHeld fun s => arriveDesc s 0x0B00 d) s

/-- PRESS_ARM (R347): Arms a press with its commit point and starts validation. -/
def execPressArm (d : Desc) (s : State) : Host.Outcome State Fault Refusal :=
  event (unlessHeld fun s => arriveDesc s 0x0B01 d) s

/-- PRESS_ABORT (R356): Aborts an open press with reason HOST. -/
def execPressAbort (d : Desc) (s : State) : Host.Outcome State Fault Refusal :=
  event (unlessHeld fun s => arriveDesc s 0x0B02 d) s

/-- NODE_CREATE (R364): Creates a graph node. -/
def execNodeCreate (d : Desc) (s : State) : Host.Outcome State Fault Refusal :=
  event (unlessHeld fun s => arriveDesc s 0x0C00 d) s

/-- NODE_SET (R364): Replaces a node's configuration and clears ERROR. -/
def execNodeSet (d : Desc) (s : State) : Host.Outcome State Fault Refusal :=
  event (unlessHeld fun s => arriveDesc s 0x0C01 d) s

/-- EDGE_SET (R367): Connects or removes edges of a node's output port. -/
def execEdgeSet (d : Desc) (s : State) : Host.Outcome State Fault Refusal :=
  event (unlessHeld fun s => arriveDesc s 0x0C02 d) s

/-- FLOW_CREATE (R374): Creates a flow. -/
def execFlowCreate (d : Desc) (s : State) : Host.Outcome State Fault Refusal :=
  event (unlessHeld fun s => arriveDesc s 0x0C03 d) s

/-- DELAY_CREATE (R375): Creates a DELAY on the line or wall axis. -/
def execDelayCreate (d : Desc) (s : State) : Host.Outcome State Fault Refusal :=
  event (unlessHeld fun s => arriveDesc s 0x0C04 d) s

/-- DELAY_ARM (R376): Inserts, replaces or cancels a delay entry. -/
def execDelayArm (d : Desc) (s : State) : Host.Outcome State Fault Refusal :=
  event (unlessHeld fun s => arriveDesc s 0x0C05 d) s

/-- GSC_TOKEN (R369): Adds one token to a node's input port. -/
def execGscToken (d : Desc) (s : State) : Host.Outcome State Fault Refusal :=
  event (unlessHeld fun s => arriveDesc s 0x0C06 d) s

/-- GSC_WAIT (R381): Waits for a node to complete COUNT times. -/
def execGscWait (d : Desc) (s : State) : Host.Outcome State Fault Refusal :=
  event (unlessHeld fun s => arriveDesc s 0x0C07 d) s

/-- RING_CREATE (R410): Brings up a ring pair or event ring. -/
def execRingCreate (d : Desc) (s : State) : Host.Outcome State Fault Refusal :=
  event (unlessHeld fun s => arriveDesc s 0x0D00 d) s

/-- EVENT_ROUTE (R404): Sets or removes a route of an event ring. -/
def execEventRoute (d : Desc) (s : State) : Host.Outcome State Fault Refusal :=
  event (unlessHeld fun s => arriveDesc s 0x0D01 d) s

/-- TRACE_CREATE (R487): Creates a trace channel with its Hamper buffer. -/
def execTraceCreate (d : Desc) (s : State) : Host.Outcome State Fault Refusal :=
  event (unlessHeld fun s => arriveDesc s 0x0E00 d) s

/-- TRACE_SET (R487): Replaces a trace channel's configuration and restarts capture. -/
def execTraceSet (d : Desc) (s : State) : Host.Outcome State Fault Refusal :=
  event (unlessHeld fun s => arriveDesc s 0x0E01 d) s

/-- TRACE_TRIGGER (R491): Triggers a trace channel from the host. -/
def execTraceTrigger (d : Desc) (s : State) : Host.Outcome State Fault Refusal :=
  event (unlessHeld fun s => arriveDesc s 0x0E02 (withByte16 0 d)) s

/-- TRACE_REARM (R493): Returns a DONE trace channel to FILLING. -/
def execTraceRearm (d : Desc) (s : State) : Host.Outcome State Fault Refusal :=
  event (unlessHeld fun s => arriveDesc s 0x0E02 (withByte16 1 d)) s

/-- MBOX_CREATE (R430): Creates a private or shared mailbox. -/
def execMboxCreate (d : Desc) (s : State) : Host.Outcome State Fault Refusal :=
  event (unlessHeld fun s => arriveDesc s 0x0F00 d) s

/-- HLT_DARN (R450): Queues a darn request for an instance. -/
def execHltDarn (d : Desc) (s : State) : Host.Outcome State Fault Refusal :=
  event (unlessHeld fun s => arriveDesc s 0x1000 d) s

/-- HLT_TEST (R449): Starts a single self-test or shadow test. -/
def execHltTest (d : Desc) (s : State) : Host.Outcome State Fault Refusal :=
  event (unlessHeld fun s => arriveDesc s 0x1001 d) s

/-- FLT_ACK (R476): Clears a region's warm-start hold. -/
def execFltAck (d : Desc) (s : State) : Host.Outcome State Fault Refusal :=
  event (unlessHeld fun s => arriveDesc s 0x1100 d) s

/-- FLT_CLEAR_FAULTS (R477): FLT_CLEAR ACTION 1 clears latched SAFE_OFF faults of named regions. -/
def execFltClearFaults (d : Desc) (s : State) : Host.Outcome State Fault Refusal :=
  event (unlessHeld fun s => arriveDesc s 0x1101 (withByte16 1 d)) s

/-- FLT_CLEAR_QUARANTINE (R477): FLT_CLEAR ACTION 2 ends the quarantine of an origin. -/
def execFltClearQuarantine (d : Desc) (s : State) : Host.Outcome State Fault Refusal :=
  event (unlessHeld fun s => arriveDesc s 0x1101 (withByte16 2 d)) s

/-- FLT_CLEAR_WARM_START (R477): FLT_CLEAR ACTION 3 warm-starts named regions. -/
def execFltClearWarmStart (d : Desc) (s : State) : Host.Outcome State Fault Refusal :=
  event (unlessHeld fun s => arriveDesc s 0x1101 (withByte16 3 d)) s

/-- SEC_IMAGE_STAGE_FW (R526): Checks a firmware image and writes it to a flash slot. -/
def execSecImageStageFw (d : Desc) (s : State) : Host.Outcome State Fault Refusal :=
  event (unlessHeld fun s => arriveDesc s 0x1200 (withByte16 1 d)) s

/-- SEC_IMAGE_RAISE_FLOOR (R524): Raises the firmware or user rollback floor. -/
def execSecImageRaiseFloor (d : Desc) (s : State) : Host.Outcome State Fault Refusal :=
  event (unlessHeld fun s => arriveDesc s 0x1200 (withByte16 2 d)) s

/-- SEC_IMAGE_PROVISION (R517): Moves the lifecycle from BLANK to OWNED and fuses the owner key digest. -/
def execSecImageProvision (d : Desc) (s : State) : Host.Outcome State Fault Refusal :=
  event (unlessHeld fun s => arriveDesc s 0x1200 (withByte16 3 d)) s

/-- SEC_IMAGE_FIELD (R516): Moves the lifecycle from OWNED to FIELD. -/
def execSecImageField (d : Desc) (s : State) : Host.Outcome State Fault Refusal :=
  event (unlessHeld fun s => arriveDesc s 0x1200 (withByte16 4 d)) s

/-- SEC_IMAGE_RETURN (R517): Moves the lifecycle to RETURNED against an owner token. -/
def execSecImageReturn (d : Desc) (s : State) : Host.Outcome State Fault Refusal :=
  event (unlessHeld fun s => arriveDesc s 0x1200 (withByte16 5 d)) s

/-- SEC_IMAGE_READ_CERT (R526): Writes the device certificate chain to host memory. -/
def execSecImageReadCert (d : Desc) (s : State) : Host.Outcome State Fault Refusal :=
  event (unlessHeld fun s => arriveDesc s 0x1200 (withByte16 6 d)) s

/-- SEC_IMAGE_OWNER_KEY (R521): Supplies the owner public key for signature checks. -/
def execSecImageOwnerKey (d : Desc) (s : State) : Host.Outcome State Fault Refusal :=
  event (unlessHeld fun s => arriveDesc s 0x1200 (withByte16 7 d)) s

/-- DBG_OPEN (R530): Opens a host-port debug session against a token. -/
def execDbgOpen (d : Desc) (s : State) : Host.Outcome State Fault Refusal :=
  event (unlessHeld fun s => arriveDesc s 0x1201 d) s

/-- DBG_CLOSE (R532): Closes a debug session and resumes what it halted. -/
def execDbgClose (d : Desc) (s : State) : Host.Outcome State Fault Refusal :=
  event (unlessHeld fun s => arriveDesc s 0x1202 d) s

end Sys2Proof.Machine
end

