-- ==== Sys2Proof/Machine/DraverRows.lean ====
section
/-!
DEFINITION. The meanings of the commands of the Draver instructions (R215 to R229): one definition for each row of the table.
-/
namespace Sys2Proof.Machine

/-- DRAVER_NOP (R215): Draver no-operation. -/
def execDraverNop (core : Fin 18) (graph : Bool) (s : State) : Host.Outcome State Fault Refusal :=
  dueStep (onCore core fun s => drvRow s core graph (.nop)) s

/-- ADD (R216): Gd := Ga + Gb with flags. -/
def execAdd (core : Fin 18) (graph : Bool) (d a b : Fin 32) (s : State) : Host.Outcome State Fault Refusal :=
  dueStep (onCore core fun s => drvRow s core graph (.alu 0x01 d a b)) s

/-- SUB (R216): Gd := Ga − Gb with flags. -/
def execSub (core : Fin 18) (graph : Bool) (d a b : Fin 32) (s : State) : Host.Outcome State Fault Refusal :=
  dueStep (onCore core fun s => drvRow s core graph (.alu 0x02 d a b)) s

/-- ADDC (R216): Add with carry. -/
def execAddc (core : Fin 18) (graph : Bool) (d a b : Fin 32) (s : State) : Host.Outcome State Fault Refusal :=
  dueStep (onCore core fun s => drvRow s core graph (.alu 0x03 d a b)) s

/-- SUBC (R216): Subtract with borrow. -/
def execSubc (core : Fin 18) (graph : Bool) (d a b : Fin 32) (s : State) : Host.Outcome State Fault Refusal :=
  dueStep (onCore core fun s => drvRow s core graph (.alu 0x04 d a b)) s

/-- ADDS (R216): Saturating add. -/
def execAdds (core : Fin 18) (graph : Bool) (d a b : Fin 32) (s : State) : Host.Outcome State Fault Refusal :=
  dueStep (onCore core fun s => drvRow s core graph (.alu 0x05 d a b)) s

/-- SUBS (R216): Saturating subtract. -/
def execSubs (core : Fin 18) (graph : Bool) (d a b : Fin 32) (s : State) : Host.Outcome State Fault Refusal :=
  dueStep (onCore core fun s => drvRow s core graph (.alu 0x06 d a b)) s

/-- AND (R216): Bitwise AND. -/
def execAnd (core : Fin 18) (graph : Bool) (d a b : Fin 32) (s : State) : Host.Outcome State Fault Refusal :=
  dueStep (onCore core fun s => drvRow s core graph (.alu 0x07 d a b)) s

/-- OR (R216): Bitwise OR. -/
def execOr (core : Fin 18) (graph : Bool) (d a b : Fin 32) (s : State) : Host.Outcome State Fault Refusal :=
  dueStep (onCore core fun s => drvRow s core graph (.alu 0x08 d a b)) s

/-- XOR (R216): Bitwise XOR. -/
def execXor (core : Fin 18) (graph : Bool) (d a b : Fin 32) (s : State) : Host.Outcome State Fault Refusal :=
  dueStep (onCore core fun s => drvRow s core graph (.alu 0x09 d a b)) s

/-- MIN (R216): Signed minimum. -/
def execMin (core : Fin 18) (graph : Bool) (d a b : Fin 32) (s : State) : Host.Outcome State Fault Refusal :=
  dueStep (onCore core fun s => drvRow s core graph (.alu 0x0A d a b)) s

/-- MAX (R216): Signed maximum. -/
def execMax (core : Fin 18) (graph : Bool) (d a b : Fin 32) (s : State) : Host.Outcome State Fault Refusal :=
  dueStep (onCore core fun s => drvRow s core graph (.alu 0x0B d a b)) s

/-- ABS (R216): Saturating absolute value. -/
def execAbs (core : Fin 18) (graph : Bool) (d a : Fin 32) (s : State) : Host.Outcome State Fault Refusal :=
  dueStep (onCore core fun s => drvRow s core graph (.alu 0x0C d a 0)) s

/-- SHL (R216): Saturating left shift by register. -/
def execShl (core : Fin 18) (graph : Bool) (d a b : Fin 32) (s : State) : Host.Outcome State Fault Refusal :=
  dueStep (onCore core fun s => drvRow s core graph (.alu 0x0D d a b)) s

/-- SHR (R216): Arithmetic right shift by register. -/
def execShr (core : Fin 18) (graph : Bool) (d a b : Fin 32) (s : State) : Host.Outcome State Fault Refusal :=
  dueStep (onCore core fun s => drvRow s core graph (.alu 0x0E d a b)) s

/-- SHRL (R216): Logical right shift by register. -/
def execShrl (core : Fin 18) (graph : Bool) (d a b : Fin 32) (s : State) : Host.Outcome State Fault Refusal :=
  dueStep (onCore core fun s => drvRow s core graph (.alu 0x0F d a b)) s

/-- CMP (R216): Sets flags from Ga − Gb. -/
def execCmp (core : Fin 18) (graph : Bool) (a b : Fin 32) (s : State) : Host.Outcome State Fault Refusal :=
  dueStep (onCore core fun s => drvRow s core graph (.alu 0x10 0 a b)) s

/-- ADDI (R216): Add sign-extended immediate. -/
def execAddi (core : Fin 18) (graph : Bool) (d a : Fin 32) (imm : BitVec 16) (s : State) : Host.Outcome State Fault Refusal :=
  dueStep (onCore core fun s => drvRow s core graph (.alui 0x11 d a imm.toNat)) s

/-- ANDI (R216): AND with zero-extended immediate. -/
def execAndi (core : Fin 18) (graph : Bool) (d a : Fin 32) (imm : BitVec 16) (s : State) : Host.Outcome State Fault Refusal :=
  dueStep (onCore core fun s => drvRow s core graph (.alui 0x12 d a imm.toNat)) s

/-- ORI (R216): OR with zero-extended immediate. -/
def execOri (core : Fin 18) (graph : Bool) (d a : Fin 32) (imm : BitVec 16) (s : State) : Host.Outcome State Fault Refusal :=
  dueStep (onCore core fun s => drvRow s core graph (.alui 0x13 d a imm.toNat)) s

/-- SHLI (R216): Saturating left shift by immediate. -/
def execShli (core : Fin 18) (graph : Bool) (d a : Fin 32) (imm : BitVec 6) (s : State) : Host.Outcome State Fault Refusal :=
  dueStep (onCore core fun s => drvRow s core graph (.alui 0x14 d a imm.toNat)) s

/-- SHRI (R216): Arithmetic right shift by immediate. -/
def execShri (core : Fin 18) (graph : Bool) (d a : Fin 32) (imm : BitVec 6) (s : State) : Host.Outcome State Fault Refusal :=
  dueStep (onCore core fun s => drvRow s core graph (.alui 0x15 d a imm.toNat)) s

/-- MOVLO (R216): Load sign-extended immediate. -/
def execMovlo (core : Fin 18) (graph : Bool) (d : Fin 32) (imm : BitVec 16) (s : State) : Host.Outcome State Fault Refusal :=
  dueStep (onCore core fun s => drvRow s core graph (.alui 0x16 d 0 imm.toNat)) s

/-- MOVHI (R216): Load immediate into the high half. -/
def execMovhi (core : Fin 18) (graph : Bool) (d a : Fin 32) (imm : BitVec 16) (s : State) : Host.Outcome State Fault Refusal :=
  dueStep (onCore core fun s => drvRow s core graph (.alui 0x17 d a imm.toNat)) s

/-- CMPI (R216): Sets flags from Ga − immediate. -/
def execCmpi (core : Fin 18) (graph : Bool) (a : Fin 32) (imm : BitVec 16) (s : State) : Host.Outcome State Fault Refusal :=
  dueStep (onCore core fun s => drvRow s core graph (.alui 0x18 0 a imm.toNat)) s

/-- MUL (R219): Accumulator := product. -/
def execMul (core : Fin 18) (graph : Bool) (aa : Fin 4) (ga gb : Fin 32) (s : State) : Host.Outcome State Fault Refusal :=
  dueStep (onCore core fun s => drvRow s core graph (.mul 0x20 aa ga gb)) s

/-- MAC (R219): Accumulator += product. -/
def execMac (core : Fin 18) (graph : Bool) (aa : Fin 4) (ga gb : Fin 32) (s : State) : Host.Outcome State Fault Refusal :=
  dueStep (onCore core fun s => drvRow s core graph (.mul 0x21 aa ga gb)) s

/-- MSU (R219): Accumulator −= product. -/
def execMsu (core : Fin 18) (graph : Bool) (aa : Fin 4) (ga gb : Fin 32) (s : State) : Host.Outcome State Fault Refusal :=
  dueStep (onCore core fun s => drvRow s core graph (.mul 0x22 aa ga gb)) s

/-- CLRA (R216): Clear accumulator. -/
def execClra (core : Fin 18) (graph : Bool) (aa : Fin 4) (s : State) : Host.Outcome State Fault Refusal :=
  dueStep (onCore core fun s => drvRow s core graph (.clra aa)) s

/-- MVGA (R218): Move shifted G register into accumulator. -/
def execMvga (core : Fin 18) (graph : Bool) (aa : Fin 4) (gb : Fin 32) (shift : BitVec 7) (s : State) : Host.Outcome State Fault Refusal :=
  dueStep (onCore core fun s => drvRow s core graph (.mvga aa gb shift.toInt)) s

/-- MVGP (R218): Move shifted G register pair into accumulator. -/
def execMvgp (core : Fin 18) (graph : Bool) (aa : Fin 4) (ga gb : Fin 32) (shift : BitVec 7) (s : State) : Host.Outcome State Fault Refusal :=
  dueStep (onCore core fun s => drvRow s core graph (.mvgp aa ga gb shift.toInt)) s

/-- ADDA (R216): Add accumulators. -/
def execAdda (core : Fin 18) (graph : Bool) (aa ab : Fin 4) (s : State) : Host.Outcome State Fault Refusal :=
  dueStep (onCore core fun s => drvRow s core graph (.adda aa ab)) s

/-- SHA (R218): Shift accumulator. -/
def execSha (core : Fin 18) (graph : Bool) (aa : Fin 4) (shift : BitVec 7) (s : State) : Host.Outcome State Fault Refusal :=
  dueStep (onCore core fun s => drvRow s core graph (.sha aa shift.toInt)) s

/-- RND (R218): Round, shift and saturate accumulator into G. -/
def execRnd (core : Fin 18) (graph : Bool) (d : Fin 32) (aa : Fin 4) (shift : BitVec 6) (s : State) : Host.Outcome State Fault Refusal :=
  dueStep (onCore core fun s => drvRow s core graph (.rnd d aa shift.toNat)) s

/-- EXT (R218): Extract 32 bits of accumulator into G. -/
def execExt (core : Fin 18) (graph : Bool) (d : Fin 32) (aa : Fin 4) (shift : BitVec 6) (s : State) : Host.Outcome State Fault Refusal :=
  dueStep (onCore core fun s => drvRow s core graph (.ext d aa shift.toNat)) s

/-- RPT (R226): Starts a zero-overhead repeat of a body. -/
def execRpt (core : Fin 18) (graph : Bool) (body : Fin 64) (csrc : Bool) (ga : Fin 32) (count : Fin 4096) (s : State) : Host.Outcome State Fault Refusal :=
  dueStep (onCore core fun s => drvRow s core graph (.rpt (body + 1) csrc (if csrc then ga else 0) (if csrc then 0 else count + 1))) s

/-- LD (R220): Load a data word with addressing and post-modify. -/
def execLd (core : Fin 18) (graph : Bool) (d : Fin 32) (p : Fin 8) (u : Bool) (m : BitVec 16) (ecc : Fin 7) (s : State) : Host.Outcome State Fault Refusal :=
  dueStep (onCore core fun s => drvMemRow s core graph (.ld d p u m.toInt) ecc) s

/-- ST (R220): Store a data word with addressing and post-modify. -/
def execSt (core : Fin 18) (graph : Bool) (d : Fin 32) (p : Fin 8) (u : Bool) (m : BitVec 16) (s : State) : Host.Outcome State Fault Refusal :=
  dueStep (onCore core fun s => drvRow s core graph (.st d p u m.toInt)) s

/-- LDC (R221): Load a coefficient word. -/
def execLdc (core : Fin 18) (graph : Bool) (d : Fin 32) (p : Fin 8) (u : Bool) (m : BitVec 16) (ecc : Fin 7) (s : State) : Host.Outcome State Fault Refusal :=
  dueStep (onCore core fun s => drvMemRow s core graph (.ldc d p u m.toInt) ecc) s

/-- FTM (R222): Filter tap multiply-accumulate with tap move. -/
def execFtm (core : Fin 18) (graph : Bool) (aa : Fin 4) (pd pc : Fin 8) (neg mov : Bool) (md mc : BitVec 8) (ecc : Fin 7) (s : State) : Host.Outcome State Fault Refusal :=
  dueStep (onCore core fun s => drvMemRow s core graph (.ftm aa pd pc neg mov md.toInt mc.toInt) ecc) s

/-- MVPA (R216): Set an address register's address. -/
def execMvpa (core : Fin 18) (graph : Bool) (p : Fin 8) (imm : BitVec 16) (s : State) : Host.Outcome State Fault Refusal :=
  dueStep (onCore core fun s => drvRow s core graph (.mvpa p imm.toNat)) s

/-- MVPL (R216): Set an address register's length and mode. -/
def execMvpl (core : Fin 18) (graph : Bool) (p : Fin 8) (imm : BitVec 14) (s : State) : Host.Outcome State Fault Refusal :=
  dueStep (onCore core fun s => drvRow s core graph (.mvpl p imm.toNat)) s

/-- MVSG (R214): Copy a special register to G. -/
def execMvsg (core : Fin 18) (graph : Bool) (d : Fin 32) (sr : Fin 16) (s : State) : Host.Outcome State Fault Refusal :=
  dueStep (onCore core fun s => drvRow s core graph (.mvsg d sr)) s

/-- MVGS (R214): Copy G to a special register. -/
def execMvgs (core : Fin 18) (graph : Bool) (sr : Fin 16) (a : Fin 32) (s : State) : Host.Outcome State Fault Refusal :=
  dueStep (onCore core fun s => drvRow s core graph (.mvgs sr a)) s

/-- B (R223): Conditional branch with two delay slots. -/
def execB (core : Fin 18) (graph : Bool) (cond : Fin 16) (target : BitVec 13) (s : State) : Host.Outcome State Fault Refusal :=
  dueStep (onCore core fun s => drvRow s core graph (.b cond target.toNat)) s

/-- BL (R224): Branch and link into G31. -/
def execBl (core : Fin 18) (graph : Bool) (target : BitVec 13) (s : State) : Host.Outcome State Fault Refusal :=
  dueStep (onCore core fun s => drvRow s core graph (.bl target.toNat)) s

/-- J (R224): Conditional jump to a register address. -/
def execJ (core : Fin 18) (graph : Bool) (cond : Fin 16) (ga : Fin 32) (s : State) : Host.Outcome State Fault Refusal :=
  dueStep (onCore core fun s => drvRow s core graph (.j cond ga)) s

/-- EXIT (R225): Ends the loop entry or graph operation after its delay slots. -/
def execExit (core : Fin 18) (graph : Bool) (s : State) : Host.Outcome State Fault Refusal :=
  dueStep (onCore core fun s => drvRow s core graph (.exit)) s

end Sys2Proof.Machine
end

