-- ==== Sys2Proof/Machine/FieldRows.lean ====
section
/-!
DEFINITION. The meanings of the commands of feedback, conversion, homing and the Draver loops: one definition for each row of the table.
-/
namespace Sys2Proof.Machine

/-- FBK_STANDSTILL (R152): No edge for STANDSTILL sets a channel's speed state to STOPPED. -/
def execFbkStandstill (fbch : Fin 256) (s : State) : Host.Outcome State Fault Refusal :=
  unitStep (unlessHeld fun s => standstill s fbch) s

/-- STEPPER_REDUCE_START (R251): After STANDSTILL_DELAY at rest a stepper amplitude starts falling to HOLD_AMP. -/
def execStepperReduceStart (profile : Fin 256) (s : State) : Host.Outcome State Fault Refusal :=
  unitStep (unlessHeld fun s => reduceStart s profile) s

/-- HOME_DEBOUNCE_EXPIRY (R255): A homing reference debounce window ends and the edge is accepted or discarded. -/
def execHomeDebounceExpiry (profile : Fin 256) (s : State) : Host.Outcome State Fault Refusal :=
  event (unlessHeld fun s => homeExpiry s profile) s

/-- CNV_RESULT (R115): A converter result leaves the pipeline or decimator and is delivered. -/
def execCnvResult (conv : Fin 9) (nv : Int) (mods : List Bool) (s : State) : Host.Outcome State Fault Refusal :=
  event (unlessHeld fun s => convResult s conv nv mods) s

/-- CNV_CAL_DONE (R128): A converter calibration ends, latched groups run and the regular group restarts. -/
def execCnvCalDone (conv : Fin 9) (inRange : Bool) (s : State) : Host.Outcome State Fault Refusal :=
  event (unlessHeld fun s => calDone s conv inRange) s

/-- CNV_REF_READY (R126): 3 ms after ON the reference buffer becomes ready. -/
def execCnvRefReady (s : State) : Host.Outcome State Fault Refusal :=
  event (unlessHeld fun s => refReady s) s

/-- CNV_PLAUS_CHECK (R129): Every 2^PERIOD plan ticks a converter and its partner convert AIN_CHK for the check. -/
def execCnvPlausCheck (nv1 : Int) (nv2 : Int) (s : State) : Host.Outcome State Fault Refusal :=
  event (unlessHeld fun s => plausCheck s nv1 nv2) s

/-- DRV_LOOPS_START (R198): After capture and the next preemption point a core switches to LOOP context and runs its
loops. -/
def execDrvLoopsStart (core : Fin 18) (run : LoopsRun) (s : State) : Host.Outcome State Fault Refusal :=
  unitStep (unlessHeld fun s => loopsStart s core run.issued.toNat (memErr run.ecc run.errAt.toNat)) s

/-- DRV_LOOP_PUBLISH (R200): At a slot's publish frame its output record is released or the loop counts late. -/
def execDrvLoopPublish (core : Fin 18) (slot : Fin 8) (s : State) : Host.Outcome State Fault Refusal :=
  unitStep (unlessHeld fun s => loopPublish s core slot) s

/-- CNV_REF_ON_WRITE (R126): CNV_REF_ON.ON starts the reference buffer or clears REF_READY. -/
def execCnvRefOnWrite (req : Fin 64) (on : Bool) (s : State) : Host.Outcome State Fault Refusal :=
  event (unlessHeld fun s => onReg req 0x80000 (fun s => refOnWrite s on) s) s

/-- CNV_CAL (R128): CNV_n_CTRL.CAL requests a converter calibration. -/
def execCnvCal (req : Fin 64) (conv : Fin 9) (s : State) : Host.Outcome State Fault Refusal :=
  event (unlessHeld fun s => onReg req (0x80104 + 0x40 * conv) (fun s => calWrite s conv) s) s

/-- CNV_CFG_WRITE (R121): A converter configuration write is accepted or refused, and a personality change starts
calibration. -/
def execCnvCfgWrite (req : Fin 64) (conv : Fin 9) (value : Word) (s : State) : Host.Outcome State Fault Refusal :=
  event (unlessHeld fun s => onReg req (0x80100 + 0x40 * conv) (fun s => convCfgWrite s conv value.toNat) s) s

/-- CNV_SWTRIG_REGULAR (R123): A software trigger runs a pass of the regular group. -/
def execCnvSwtrigRegular (req : Fin 64) (conv : Fin 9) (s : State) : Host.Outcome State Fault Refusal :=
  event (unlessHeld fun s => onReg req (0x80120 + 0x40 * conv) (fun s => softTrigger s conv 0) s) s

/-- CNV_SWTRIG_INJECTED (R124): A software trigger makes an injected group pending. -/
def execCnvSwtrigInjected (req : Fin 64) (conv : Fin 9) (group : Fin 4) (s : State) : Host.Outcome State Fault Refusal :=
  event (unlessHeld fun s => onReg req (0x80120 + 0x40 * conv) (fun s => softTrigger s conv (group + 1)) s) s

/-- CNV_TQ_POP (R133): A read of CNV_TQ_LO pops the oldest tagged-queue entry. -/
def execCnvTqPop (req : Fin 64) (s : State) : Host.Outcome State Fault Refusal :=
  event (unlessHeld fun s => onRead req 0x80018 (fun s => tqPop s req) s) s

/-- GRD_EN_WRITE (R328): GRD_CTRL.EN forms the GUARD gangs and runs the guard, or is refused. -/
def execGrdEnWrite (req : Fin 64) (en : Bool) (s : State) : Host.Outcome State Fault Refusal :=
  event (unlessHeld fun s => onReg req 0x210000 (fun s => grdEnWrite s en) s) s

/-- MDAT_MCLK_OUTPUT (R109): A precise output of an MDAT pair clocked by an input MCLK falls due at the MCLK rate
divided by OSR. -/
def execMdatMclkOutput (mdat : Fin 8) (s : State) : Host.Outcome State Fault Refusal :=
  unitStep (unlessHeld fun s => mclkOutput s mdat) s

end Sys2Proof.Machine
end

