-- ==== Sys2Proof/Machine/FrameRows.lean ====
section
/-!
DEFINITION. The meanings of the commands of the frame, the plan tick and what runs on it: one definition for each row of the table.
-/
namespace Sys2Proof.Machine

/-- FRAME_BOUNDARY (R18): The frame count advances every 200 ns and the per-frame work of every unit runs. -/
def execFrameBoundary (inp : FrameIn) (s : State) : Host.Outcome State Fault Refusal :=
  dueStep (unlessHeld fun s => frameBoundary inp s) s

/-- SERVO_TICK_BOUNDARY (R192): Every 160 frames the servo capture takes every bound loop slot's input record. -/
def execServoTickBoundary (s : State) : Host.Outcome State Fault Refusal :=
  dueStep (unlessHeld fun s => duesPlan s) s

/-- PLAN_TICK_BOUNDARY (R19): Every 1280 frames the plan pipeline advances one tick. -/
def execPlanTickBoundary (s : State) : Host.Outcome State Fault Refusal :=
  dueStep (unlessHeld fun s => settle s) s

/-- GUARD_JUDGING_START (R320): At frame 16, whose boundary has let the live causes act, judging of the plan begins, arm by arm. -/
def execGuardJudgingStart (s : State) : Host.Outcome State Fault Refusal :=
  dueStep (unlessHeld fun s => duesServo s) s

/-- PLAN_PRESS_OPEN (R358): At frame 16 planning control opens the plan press and stages one member per planned arm. -/
def execPlanPressOpen (s : State) : Host.Outcome State Fault Refusal :=
  unitStep (unlessHeld fun s => planPressOpen s) s

/-- GUARD_FINAL_VERDICT (R326): At frame 1272 the cross-check is compared and final verdicts go to planning and the
press unit. -/
def execGuardFinalVerdict (s : State) : Host.Outcome State Fault Refusal :=
  unitStep (unlessHeld fun s => finalVerdict s) s

/-- SOLVER_START (R279): At frame START each PLAN gang loads VINIT and starts its first problem. -/
def execSolverStart (s : State) : Host.Outcome State Fault Refusal :=
  unitStep (unlessHeld fun s => solverStart s) s

/-- SOLVER_PROBLEM_END (R284): A solver problem ends, writes its result header and is copied out; the next problem
starts. -/
def execSolverProblemEnd (lane : Fin 192) (err : Fin 3) (errLane : Fin 4) (word : BitVec 16) (s : State) : Host.Outcome State Fault Refusal :=
  event (unlessHeld fun s => problemEnd s lane err errLane word.toNat) s

/-- SOLVER_DEADLINE (R279): At frame DEADLINE running problems stop LATE and the rest are NOT_RUN. -/
def execSolverDeadline (s : State) : Host.Outcome State Fault Refusal :=
  unitStep (unlessHeld fun s => solverDeadline s) s

/-- DERATE_APPLY (R304): The derating placement after a lane loss is applied in one press two plan ticks later. -/
def execDerateApply (s : State) : Host.Outcome State Fault Refusal :=
  dueStep (unlessHeld fun s => derateApply (duesPlan s)) s

end Sys2Proof.Machine
end

