-- ==== Sys2Proof/Machine/HealthRows.lean ====
section
/-!
DEFINITION. The meanings of the commands of the fault collector, the health manager and memory: one definition for each row of the table.
-/
namespace Sys2Proof.Machine

/-- FLT_RECORD_HANDLING (R470): Firmware takes the oldest record of the highest-class queue and handles it. -/
def execFltRecordHandling (s : State) : Host.Outcome State Fault Refusal :=
  event (unlessHeld fun s => handleRecord s) s

/-- LINT_WINDOW_END (R472): A Lint Trap hold-off window ends with a summary or frees the entry. -/
def execLintWindowEnd (entry : Fin 256) (s : State) : Host.Outcome State Fault Refusal :=
  event (unlessHeld fun s => lintWindowEnd s entry) s

/-- SUPERVISOR_WATCHDOG_EXPIRY (R473): A supervisor core watchdog expires and the core is quarantined. -/
def execSupervisorWatchdogExpiry (core : Fin 4) (s : State) : Host.Outcome State Fault Refusal :=
  event (unlessHeld fun s => supervisorFault s core 1) s

/-- SUPERVISOR_SELFTEST_DONE (R570): A quarantined supervisor core's self-test ends with pass or fail. -/
def execSupervisorSelftestDone (core : Fin 4) (pass : Bool) (s : State) : Host.Outcome State Fault Refusal :=
  event (unlessHeld fun s => selfTest s core pass) s

/-- HOST_WATCHDOG_EXPIRY (R511): The host watchdog expires and MOD_HOST_LOST stands in RUN, HOLD or SERVICE. -/
def execHostWatchdogExpiry (s : State) : Host.Outcome State Fault Refusal :=
  event (unlessHeld fun s => hostwdExpiry s) s

/-- WEAR_DECAY (R444): Each hour every non-zero wear score decays. -/
def execWearDecay (s : State) : Host.Outcome State Fault Refusal :=
  event (unlessHeld fun s => wearHour s) s

/-- BACKGROUND_TEST_START (R447): Every 2^TEST_PERIOD s the health manager starts a self-test or shadow test. -/
def execBackgroundTestStart (s : State) : Host.Outcome State Fault Refusal :=
  event (unlessHeld fun s => backgroundTest s) s

/-- SELF_TEST_DONE (R447): A spare's self-test ends with pass or failure. -/
def execSelfTestDone (cls : Fin 6) (inst : BitVec 16) (pass : Bool) (s : State) : Host.Outcome State Fault Refusal :=
  event (unlessHeld fun s => selfTestDone s cls inst.toNat pass) s

/-- SHADOW_TEST_DONE (R448): A shadow test meets its requirement and returns the spare, attributing any mismatch. -/
def execShadowTestDone (cls : Fin 6) (inst : BitVec 16) (s : State) : Host.Outcome State Fault Refusal :=
  event (unlessHeld fun s => shadowTestDone s cls inst.toNat) s

/-- DARN_START (R451): With slot 1 free the health manager opens a darn press for the queue head. -/
def execDarnStart (s : State) : Host.Outcome State Fault Refusal :=
  event (unlessHeld fun s => darnStart s) s

/-- NO_SPARE_RETIRE (R457): When joints stop or HLT_STOP_LIMIT passes, a worn part with no spare is retired. -/
def execNoSpareRetire (cls : Fin 6) (inst : BitVec 16) (s : State) : Host.Outcome State Fault Refusal :=
  event (unlessHeld fun s => noSpareRetire s cls inst.toNat) s

/-- LEDGER_STATE_WRITE (R455): The state record is written to the MRAM ledger at least hourly or on retry. -/
def execLedgerStateWrite (ok : Bool) (s : State) : Host.Outcome State Fault Refusal :=
  event (unlessHeld fun s => ledgerDue s ok) s

/-- PATROL_SCRUB_READ (R485): The patrol scrub reads the next DRAM line and handles its errors. -/
def execPatrolScrubRead (errors : Fin 3) (s : State) : Host.Outcome State Fault Refusal :=
  event (unlessHeld fun s => scrubRead s errors) s

/-- PAGE_RETIRE_DONE (R486): A retired page's copy ends and its address is remapped to a spare page. -/
def execPageRetireDone (page : BitVec 22) (s : State) : Host.Outcome State Fault Refusal :=
  event (unlessHeld fun s => pageRetired s page.toNat) s

/-- SUPERVISOR_MEMORY_ERROR (R473): An uncorrectable memory error in a supervisor core raises FLT_SUPERVISOR cause 2 and
quarantines the core. -/
def execSupervisorMemoryError (core : Fin 4) (s : State) : Host.Outcome State Fault Refusal :=
  event (unlessHeld fun s => firmwareError s core) s

/-- MEM_RETIRE_PAGE (R486): Writing a page address starts retirement of that DRAM page. -/
def execMemRetirePage (req : Fin 64) (page : Word) (s : State) : Host.Outcome State Fault Refusal :=
  event (unlessHeld fun s => onReg req 0x278014 (fun s => if page.toNat < 0x3E0000 then retirePage s page.toNat else s) s) s

end Sys2Proof.Machine
end

