-- ==== Sys2Proof/Machine/LinkRows.lean ====
section
/-!
DEFINITION. The meanings of the commands of the Ryris link: one definition for each row of the table.
-/
namespace Sys2Proof.Machine

/-- RYL_UPLINK_FRAME (R96): An uplink frame arrives on a lane and its cells are checked, joined and consumed. -/
def execRylUplinkFrame (port : Fin 16) (lane : Fin 2) (arrival : BitVec 16) (chars : List Byte) (s : State) : Host.Outcome State Fault Refusal :=
  if uplinkOk chars then event (unlessHeld fun s => uplink s port (decide (lane = 1)) arrival.toNat chars) s else .refused .illFormed

/-- RYL_DETECT_TIMEOUT (R85): Training leaves DETECT for FAIL after 2 ms without enough valid frames. -/
def execRylDetectTimeout (port : Fin 16) (s : State) : Host.Outcome State Fault Refusal :=
  event (unlessHeld fun s => detectTimeout s port) s

/-- RYL_HEAD_LOST (R96): After 2 frames with no valid cell a head is lost and sent OFF and KILL. -/
def execRylHeadLost (port : Fin 16) (pos : Fin 8) (s : State) : Host.Outcome State Fault Refusal :=
  unitStep (unlessHeld fun s => headLost s port (pos + 1)) s

/-- RYL_LANE_DOWN (R97): After 4 frames without a valid uplink frame a lane is down. -/
def execRylLaneDown (port : Fin 16) (lane : Fin 2) (s : State) : Host.Outcome State Fault Refusal :=
  unitStep (unlessHeld fun s => laneDown s port (decide (lane = 1))) s

/-- RYL_SVC_TIMEOUT (R90): A missing or bad service reply is retried, and after 3 retries timed out. -/
def execRylSvcTimeout (port : Fin 16) (j : Fin 10) (s : State) : Host.Outcome State Fault Refusal :=
  unitStep (unlessHeld fun s => svcTimeout s port j) s

/-- RYL_HEAD_CYCLIC_DONE (R77): Cyclic words sent unchanged for two servo ticks complete their RYL_HEAD_CYCLIC. -/
def execRylHeadCyclicDone (port : Fin 16) (pos : Fin 8) (s : State) : Host.Outcome State Fault Refusal :=
  unitStep (unlessHeld fun s => cyclicDone s port (pos + 1)) s

/-- RYL_TRAIN (R86): RYL_CTRL.TRAIN written 1 starts port training or is refused. -/
def execRylTrain (req : Fin 64) (port : Fin 16) (s : State) : Host.Outcome State Fault Refusal :=
  event (unlessHeld fun s => onReg req (0x60000 + 0x1000 * port) (fun s => train s port) s) s

/-- RYL_EN_WRITE (R101): RYL_CTRL.EN enables a port or returns it to OFF. -/
def execRylEnWrite (req : Fin 64) (port : Fin 16) (en : Bool) (s : State) : Host.Outcome State Fault Refusal :=
  event (unlessHeld fun s => onReg req (0x60000 + 0x1000 * port) (fun s => enWrite s port en) s) s

end Sys2Proof.Machine
end

