-- ==== Sys2Proof/Machine/PinRows.lean ====
section
/-!
DEFINITION. The meanings of the commands of pins, resets, boot and the supplies: one definition for each row of the table.
-/
namespace Sys2Proof.Machine

/-- SAFE_OFF_PIN_ACCEPT (R92): A SAFE_OFF pin held low 40 ns is accepted and the kill forcing and device SAFE_OFF
follow. -/
def execSafeOffPinAccept (pin : Fin 2) (s : State) : Host.Outcome State Fault Refusal :=
  event (unlessOff fun s => pinAccept s pin) s

/-- SAFE_OFF_PIN_RELEASE (R92): A SAFE_OFF pin leaves its accepted state, ending forcing or a discrepancy episode. -/
def execSafeOffPinRelease (pin : Fin 2) (s : State) : Host.Outcome State Fault Refusal :=
  event (unlessOff fun s => pinRelease s pin) s

/-- KILL_DISCREPANCY (R92): Pins that disagree for over 5 ms raise RYL_KILL_DISCREPANCY once per episode. -/
def execKillDiscrepancy (s : State) : Host.Outcome State Fault Refusal :=
  event (unlessHeld fun s => killDiscrepancy s) s

/-- POWER_ON (R507): The monitored rails rise through their thresholds and a cold reset starts boot. -/
def execPowerOn (banks : BitVec 6) (pins : BitVec 64) (s : State) : Host.Outcome State Fault Refusal :=
  event (fun s => powerOn s banks.toNat pins.toNat) s

/-- RESET_N_ACCEPT (R509): RESET_N held low for 1 µs triggers a cold reset and stops the Ryris transmitters. -/
def execResetNAccept (s : State) : Host.Outcome State Fault Refusal :=
  event (fun s => resetAccept s) s

/-- BROWN_OUT (R507): A core or analog rail low for 2 µs triggers a cold reset. -/
def execBrownOut (s : State) : Host.Outcome State Fault Refusal :=
  event (fun s => brownOut s) s

/-- PERST_N_ASSERT (R508): PERST_N held low performs a host reset of the PCI Express side. -/
def execPerstNAssert (s : State) : Host.Outcome State Fault Refusal :=
  event (fun s => perstAssert s) s

/-- FLR (R412): A function level reset takes the function's rings down and aborts its presses. -/
def execFlr (fn : Fin 16) (s : State) : Host.Outcome State Fault Refusal :=
  event (unlessHeld fun s => onLink (fun s => flr s fn) s) s

/-- BUS_MASTER_CLEAR (R412): Clearing Bus Master Enable stops the function's memory traffic and downs its rings. -/
def execBusMasterClear (fn : Fin 16) (s : State) : Host.Outcome State Fault Refusal :=
  event (unlessHeld fun s => onLink (fun s => busMasterClear s fn) s) s

/-- BUS_MASTER_SET (R409): Setting Bus Master Enable lets fetching, writes and messages start in the next frame. -/
def execBusMasterSet (fn : Fin 16) (s : State) : Host.Outcome State Fault Refusal :=
  event (unlessHeld fun s => onLink (fun s => busMasterSet s fn) s) s

/-- VF_ENABLE_CLEAR (R412): Clearing VF Enable acts as a function teardown on every VF. -/
def execVfEnableClear (s : State) : Host.Outcome State Fault Refusal :=
  event (unlessHeld fun s => onLink vfClear s) s

/-- BOOT_STAGE_DONE (R504): A boot stage completes or fails and the next stage begins. -/
def execBootStageDone (ok : Bool) (cause : Fin 10) (elapsedUs : BitVec 32) (boot : BootFacts) (s : State) : Host.Outcome State Fault Refusal :=
  event (unlessHeld fun s => bootStage s ok cause elapsedUs.toNat boot) s

/-- RECOVERY_IMAGE_DONE (R506): A recovery image fetched by DMA is verified and boot continues or fails. -/
def execRecoveryImageDone (image : List Byte) (s : State) : Host.Outcome State Fault Refusal :=
  event (unlessHeld fun s => rcvDone s image) s

/-- P0_RESTORED (R499): Once P0 is restored the accepted change from DORMANT to PREPARE takes effect. -/
def execP0Restored (s : State) : Host.Outcome State Fault Refusal :=
  event (unlessHeld fun s => p0Restored s) s

/-- PART_WAKE (R538): A gated part wakes and the work that needed it takes effect. -/
def execPartWake (s : State) : Host.Outcome State Fault Refusal :=
  event (unlessHeld fun s => partWake s) s

/-- SYSREF_LOSS (R558): Loss of SYSREF is loss of the control clock and raises FLT_FATAL. -/
def execSysrefLoss (s : State) : Host.Outcome State Fault Refusal :=
  event (unlessHeld fun s => sysrefLoss s) s

/-- TEMPERATURE_READING (R562): The junction temperature is read every 1 ms and thermal events are raised. -/
def execTemperatureReading (tj : BitVec 16) (s : State) : Host.Outcome State Fault Refusal :=
  event (unlessHeld fun s => temperature s tj.toNat) s

/-- SUPPLY_READING (R510): A rail read over PMBus outside its range raises MOD_SUPPLY. -/
def execSupplyReading (rail : Fin 10) (more : Bool) (mv : BitVec 16) (s : State) : Host.Outcome State Fault Refusal :=
  event (unlessHeld fun s => supplyReading s rail more mv.toNat) s

/-- BANK_POWER_CHANGE (R547): An I/O bank becomes powered or unpowered and its pins and filters change. -/
def execBankPowerChange (bank : Fin 6) (on : Bool) (pins : BitVec 64) (s : State) : Host.Outcome State Fault Refusal :=
  event (fun s => bankChange s bank on pins.toNat) s

/-- TRG_EDGE (R125): An accepted TRGn edge triggers converter groups. -/
def execTrgEdge (pin : Fin 8) (rising : Bool) (s : State) : Host.Outcome State Fault Refusal :=
  event (unlessHeld fun s => trgEdge s pin rising) s

/-- STEP_EDGE (R248): An accepted STEPn edge counts a step with its direction. -/
def execStepEdge (input : Fin 8) (dir : Bool) (s : State) : Host.Outcome State Fault Refusal :=
  event (unlessHeld fun s => stepEdge s input dir) s

/-- DIN_CHANGE (R551): A DIN pin changes and its glitch filter passes a new raw level. -/
def execDinChange (pin : Fin 64) (level : Bool) (s : State) : Host.Outcome State Fault Refusal :=
  event (unlessOff fun s => dinChange s pin level) s

/-- DIN_DEBOUNCE_EXPIRY (R551): A raw DIN level held for the debounce window becomes the filtered level. -/
def execDinDebounceExpiry (pin : Fin 64) (s : State) : Host.Outcome State Fault Refusal :=
  event (unlessHeld fun s => dinExpiry s pin) s

/-- PERST_N_RELEASE (R505): PERST_N is deasserted and the endpoint begins link training, answering with CRS until boot
stage 6. -/
def execPerstNRelease (s : State) : Host.Outcome State Fault Refusal :=
  event (fun s => perstRelease s) s

/-- RESET_N_RELEASE (R535): RESET_N is released, ending the held cold reset, loading BYPASS over any boundary-scan
instruction and starting boot. -/
def execResetNRelease (s : State) : Host.Outcome State Fault Refusal :=
  event (fun s => resetRelease s) s

end Sys2Proof.Machine
end

