-- ==== Sys2Proof/Machine/PressRows.lean ====
section
/-!
DEFINITION. The meanings of the commands of presses and the graph scheduler: one definition for each row of the table.
-/
namespace Sys2Proof.Machine

/-- PRESS_VALIDATION_DONE (R348): The validation checks of an armed press complete and it becomes READY or aborts. -/
def execPressValidationDone (slot : Fin 16) (s : State) : Host.Outcome State Fault Refusal :=
  event (unlessHeld fun s => validationDone s slot) s

/-- PRESS_MEMBER_READY (R349): A waiting press member becomes ready and the press may become READY. -/
def execPressMemberReady (slot : Fin 16) (s : State) : Host.Outcome State Fault Refusal :=
  event (unlessHeld fun s => memberReady s slot) s

/-- PRESS_COMMIT (R353): At its commit frame a press is rechecked and commits all members or aborts. -/
def execPressCommit (slot : Fin 16) (s : State) : Host.Outcome State Fault Refusal :=
  dueStep (unlessHeld fun s => duesBody (pressesUpTo s slot)) s

/-- PRESS_WAIT_EXPIRY (R349): An ASAP press not READY within PRS_WAIT_MAX aborts with WAIT. -/
def execPressWaitExpiry (slot : Fin 16) (s : State) : Host.Outcome State Fault Refusal :=
  event (unlessHeld fun s => waitExpiry s slot) s

/-- NODE_PLACEMENT (R371): The scheduler places the highest-priority ready node into a free prefetch slot. -/
def execNodePlacement (s : State) : Host.Outcome State Fault Refusal :=
  event (unlessHeld fun s => placeNode s) s

/-- NODE_COMPLETION (R368): A graph node's operation ends, fires its outputs and releases reservations. -/
def execNodeCompletion (node : Fin 8192) (how : NodeEnd) (s : State) : Host.Outcome State Fault Refusal :=
  event (unlessHeld fun s => nodeCompletion s node how.engine (memErr how.ecc how.errAt.toNat)) s

/-- SUBMIT_TEMPLATE (R368): A SUBMIT node's template is submitted once its ring has room. -/
def execSubmitTemplate (node : Fin 8192) (data : List Byte) (s : State) : Host.Outcome State Fault Refusal :=
  event (unlessHeld fun s => submitTemplate s node data) s

/-- GSC_WAIT_TIMEOUT (R381): A GSC_WAIT timeout passes and the wait completes with TIMEOUT. -/
def execGscWaitTimeout (wait : Fin 64) (s : State) : Host.Outcome State Fault Refusal :=
  event (unlessHeld fun s => waitTimeout s wait) s

end Sys2Proof.Machine
end

