-- ==== Sys2Proof/Machine/RegisterRows.lean ====
section
/-!
DEFINITION. The meanings of the commands of register accesses and debugging: one definition for each row of the table.
-/
namespace Sys2Proof.Machine

/-- REGISTER_WRITE (R5): A write to a register without its own row sets fields per access code and range. -/
def execRegisterWrite (req : Fin 64) (bar : Fin 3) (off : BitVec 30) (width : Fin 9) (value : Word) (s : State) : Host.Outcome State Fault Refusal :=
  event (unlessHeld fun s => registerWrite s req bar off.toNat width value.toNat) s

/-- REGISTER_LO_READ (R6): A read of a 64-bit pair's lo word latches the hi word for that requester. -/
def execRegisterLoRead (req : Fin 64) (acc : RegRead) (s : State) : Host.Outcome State Fault Refusal :=
  event (unlessHeld fun s => barRead s req acc.bar acc.off.toNat acc.width) s

/-- MBX_SEND (R431): A send word delivers, drops, waits or is refused. -/
def execMbxSend (req : Fin 64) (mbox : Fin 64) (word : Word) (s : State) : Host.Outcome State Fault Refusal :=
  event (unlessHeld fun s => onReg req (0x24100C + 0x40 * mbox) (fun s => mbxSend s req mbox word.toNat) s) s

/-- MBX_TXCANCEL (R431): MBX_TXCANCEL withdraws the requester's waiting send. -/
def execMbxTxcancel (req : Fin 64) (s : State) : Host.Outcome State Fault Refusal :=
  event (unlessHeld fun s => onReg req 0x240034 (fun s => if mbxReach req then mbxCancel s req else s) s) s

/-- MBX_RX7_TAKE (R432): The receiver's read of RX7 takes the message and sends empty signals. -/
def execMbxRx7Take (req : Fin 64) (mbox : Fin 64) (s : State) : Host.Outcome State Fault Refusal :=
  event (unlessHeld fun s => onRead req (0x24103C + 0x40 * mbox) (fun s => mbxTake s req mbox) s) s

/-- LCK_READ (R436): A read of a lock returns its holder and acquires it when free. -/
def execLckRead (req : Fin 64) (others : BitVec 64) (lock : Fin 64) (s : State) : Host.Outcome State Fault Refusal :=
  event (unlessHeld fun s => onRead req (0x248000 + 4 * lock) (fun s => lockRead s req others.toNat lock) s) s

/-- LCK_WRITE (R436): The owner's write of 0 frees a lock; other writes are counted and discarded. -/
def execLckWrite (req : Fin 64) (lock : Fin 64) (value : Word) (s : State) : Host.Outcome State Fault Refusal :=
  event (unlessHeld fun s => onReg req (0x248000 + 4 * lock) (fun s => lockWrite s req lock value.toNat) s) s

/-- LCK_BREAK (R438): PF0 frees a lock by force and LCK_BROKEN is raised. -/
def execLckBreak (req : Fin 64) (lock : Fin 64) (s : State) : Host.Outcome State Fault Refusal :=
  event (unlessHeld fun s => onReg req 0x248200 (fun s => lockBreak s req lock) s) s

/-- MOD_RESET_WRITE (R507): PF0 writing 0x0000_C01D to MOD_RESET performs a cold reset. -/
def execModResetWrite (req : Fin 64) (value : Word) (s : State) : Host.Outcome State Fault Refusal :=
  event (unlessHeld fun s => onReg req 0x10014 (fun s => modReset s req value.toNat) s) s

/-- MOD_HOSTWD_WRITE (R511): A TIMEOUT write restarts or stops the host watchdog. -/
def execModHostwdWrite (req : Fin 64) (value : Word) (s : State) : Host.Outcome State Fault Refusal :=
  event (unlessHeld fun s => onReg req 0x10018 (fun s => hostwdWrite s req value.toNat) s) s

/-- MOD_HOSTWD_KICK (R511): A write to MOD_HOSTWD_KICK restarts the host watchdog. -/
def execModHostwdKick (req : Fin 64) (s : State) : Host.Outcome State Fault Refusal :=
  event (unlessHeld fun s => onReg req 0x1001C (fun s => hostwdKick s req) s) s

/-- MOD_RCV_GO (R506): After a boot failure MOD_RCV_GO starts fetching a recovery image. -/
def execModRcvGo (req : Fin 64) (s : State) : Host.Outcome State Fault Refusal :=
  event (unlessHeld fun s => onReg req 0x10034 (fun s => rcvGo s req) s) s

/-- PWR_OFF (R538): PWR_CTRL.OFF in DORMANT commands the regulators off and enters P3. -/
def execPwrOff (req : Fin 64) (s : State) : Host.Outcome State Fault Refusal :=
  event (unlessHeld fun s => onReg req 0x10804 (fun s => pwrOff s req) s) s

/-- DIN_CFG_WRITE (R551): A DIN filter configuration write restarts both filter stages. -/
def execDinCfgWrite (req : Fin 64) (pin : Fin 64) (value : Word) (s : State) : Host.Outcome State Fault Refusal :=
  event (unlessHeld fun s => onReg req (0x11100 + 4 * pin) (fun s => dinCfgWrite s req pin value.toNat) s) s

/-- DBG_MDATA_ACCESS (R541): A DBG_MDATA read or write accesses the selected space and advances the address. -/
def execDbgMdataAccess (session : Fin 2) (write : Option Word) (s : State) : Host.Outcome State Fault Refusal :=
  event (unlessHeld fun s => onDebug session (fun s => dbgMdata s session (write.map BitVec.toNat)) s) s

/-- DBG_HALT_CORE (R533): DBG_CMD halts a Draver core within the session's reach. -/
def execDbgHaltCore (session : Fin 2) (core : Fin 18) (s : State) : Host.Outcome State Fault Refusal :=
  event (unlessHeld fun s => onDebug session (fun s => dbgHaltCore s session core) s) s

/-- DBG_RESUME_CORE (R541): DBG_CMD resumes a halted Draver core. -/
def execDbgResumeCore (session : Fin 2) (core : Fin 18) (s : State) : Host.Outcome State Fault Refusal :=
  event (unlessHeld fun s => onDebug session (fun s => dbgResumeCore s session core) s) s

/-- DBG_STEP_CORE (R541): DBG_CMD steps a halted core one instruction. -/
def execDbgStepCore (session : Fin 2) (core : Fin 18) (s : State) : Host.Outcome State Fault Refusal :=
  event (unlessHeld fun s => onDebug session (fun s => dbgStepCore s session core) s) s

/-- DBG_HALT_LANE (R533): DBG_CMD halts a solver lane within reach. -/
def execDbgHaltLane (session : Fin 2) (lane : Fin 208) (s : State) : Host.Outcome State Fault Refusal :=
  event (unlessHeld fun s => onDebug session (fun s => dbgHaltLane s session lane) s) s

/-- DBG_RESUME_LANE (R541): DBG_CMD resumes a halted solver lane. -/
def execDbgResumeLane (session : Fin 2) (lane : Fin 208) (s : State) : Host.Outcome State Fault Refusal :=
  event (unlessHeld fun s => onDebug session (fun s => dbgResumeLane s session lane) s) s

/-- DBG_SET_BREAKPOINT (R541): DBG_CMD sets a breakpoint at DBG_MADDR, up to 4 per core. -/
def execDbgSetBreakpoint (session : Fin 2) (core : Fin 18) (s : State) : Host.Outcome State Fault Refusal :=
  event (unlessHeld fun s => onDebug session (fun s => dbgBreak s session core) s) s

/-- DBG_CLEAR_BREAKPOINTS (R541): DBG_CMD clears a core's breakpoints. -/
def execDbgClearBreakpoints (session : Fin 2) (core : Fin 18) (s : State) : Host.Outcome State Fault Refusal :=
  event (unlessHeld fun s => onDebug session (fun s => dbgUnbreak s session core) s) s

/-- REGISTER_READ_CLEAR (R5): A read of an RC register field returns its value and clears it. -/
def execRegisterReadClear (req : Fin 64) (acc : RegRead) (s : State) : Host.Outcome State Fault Refusal :=
  event (unlessHeld fun s => barRead s req acc.bar acc.off.toNat acc.width) s

end Sys2Proof.Machine
end

