-- ==== Sys2Proof/Machine/RingRows.lean ====
section
/-!
DEFINITION. The meanings of the commands of rings, mailboxes and doorbells: one definition for each row of the table.
-/
namespace Sys2Proof.Machine

/-- MSIX_COAL_TIMER (R407): COAL_TIME passes since the oldest pending entry and an MSI-X message is sent. -/
def execMsixCoalTimer (ring : Fin 320) (s : State) : Host.Outcome State Fault Refusal :=
  event (unlessHeld fun s => coalTimer s ring) s

/-- MBX_CROSS_EXPIRY (R435): Two mailboxes crossed for 4 µs send MBX_CROSS to both receivers. -/
def execMbxCrossExpiry (a : Fin 64) (b : Fin 64) (s : State) : Host.Outcome State Fault Refusal :=
  event (unlessHeld fun s => mbxCross s a b) s

/-- MBX_WAITING_DELIVERY (R432): The oldest waiting send is delivered the cycle after a mailbox empties. -/
def execMbxWaitingDelivery (mbox : Fin 64) (s : State) : Host.Outcome State Fault Refusal :=
  unitStep (unlessHeld fun s => mbxNext s mbox) s

/-- RING_DRAIN_DONE (R411): A DRAINING pair with no reserved CQ entry goes DOWN. -/
def execRingDrainDone (pair : Fin 256) (s : State) : Host.Outcome State Fault Refusal :=
  event (unlessHeld fun s => drainDone s pair) s

/-- FENCE_RELEASE (R396): A FENCE descriptor is accepted once every earlier descriptor has completed. -/
def execFenceRelease (pair : Fin 256) (s : State) : Host.Outcome State Fault Refusal :=
  event (unlessHeld fun s => fenceRelease s pair) s

/-- DRV_LOAD_DONE (R202): An image load finishes checking and the inactive bank is staged. -/
def execDrvLoadDone (core : Fin 18) (img : DrvImage) (s : State) : Host.Outcome State Fault Refusal :=
  event (unlessHeld fun s => drvLoadDone s core img) s

/-- PROBLEM_CREATE_DONE (R275): A problem block fetched from host memory is checked and kept. -/
def execProblemCreateDone (block : List Byte) (s : State) : Host.Outcome State Fault Refusal :=
  event (unlessHeld fun s => problemCreateDone s block) s

/-- DBG_SESSION_EXPIRY (R532): A debug session's LIFETIME passes and the session closes. -/
def execDbgSessionExpiry (session : Fin 2) (s : State) : Host.Outcome State Fault Refusal :=
  event (unlessHeld fun s => sessionExpiry s session) s

/-- JTAG_DBGACC_TOKEN (R530): A token shifted in through DBGACC opens a JTAG debug session or fails. -/
def execJtagDbgaccToken (level : Fin 3) (regions : BitVec 16) (token : List Byte) (s : State) : Host.Outcome State Fault Refusal :=
  event (unlessHeld fun s => jtagToken s level regions.toNat token) s

/-- TAP_RESET (R532): A second TAP reset closes debug session 0. -/
def execTapReset (s : State) : Host.Outcome State Fault Refusal :=
  event (unlessOff fun s => tapReset s) s

/-- JTAG_INSTRUCTION (R535): A TAP instruction is loaded, with boundary scan replaced by BYPASS where not allowed. -/
def execJtagInstruction (ins : Fin 4) (s : State) : Host.Outcome State Fault Refusal :=
  event (unlessOff fun s => tapLoad s ins) s

/-- SQ_TAIL_DOORBELL (R393): An SQ tail doorbell makes descriptors available and starts fetching. -/
def execSqTailDoorbell (fn : Fin 16) (ring : Fin 256) (value : Word) (s : State) : Host.Outcome State Fault Refusal :=
  event (unlessHeld fun s => onRings (fun s => tailDoorbell s fn ring value.toNat) s) s

/-- CQ_HEAD_DOORBELL (R393): A CQ head doorbell frees completion entries. -/
def execCqHeadDoorbell (fn : Fin 16) (ring : Fin 256) (value : Word) (s : State) : Host.Outcome State Fault Refusal :=
  event (unlessHeld fun s => onRings (fun s => headDoorbell s fn ring value.toNat) s) s

/-- EVENT_HEAD_DOORBELL (R393): An event ring head doorbell frees records and ends a loss episode. -/
def execEventHeadDoorbell (fn : Fin 16) (ring : Fin 64) (value : Word) (s : State) : Host.Outcome State Fault Refusal :=
  event (unlessHeld fun s => onRings (fun s => eventDoorbell s fn ring value.toNat) s) s

/-- SQ_FETCH_DONE (R394): A descriptor read returns and the descriptors are copied, stamped and accepted. -/
def execSqFetchDone (pair : Fin 256) (descs : List RawDesc) (s : State) : Host.Outcome State Fault Refusal :=
  if fetchOk descs then event (unlessHeld fun s => onRings (fun s => fetchDone s pair descs) s) s else .refused .illFormed

/-- ADMIN_PAIR_ENABLE (R409): HST_F_ACTRL.EN written 1 brings the admin pair UP at the next boundary. -/
def execAdminPairEnable (fn : Fin 16) (s : State) : Host.Outcome State Fault Refusal :=
  event (unlessHeld fun s => onReg (32 + fn) (fnBlock fn + 0x14) (fun s => adminEnable s fn) s) s

/-- ADMIN_PAIR_DISABLE (R409): HST_F_ACTRL.EN written 0 takes the admin pair down or is refused. -/
def execAdminPairDisable (fn : Fin 16) (s : State) : Host.Outcome State Fault Refusal :=
  event (unlessHeld fun s => onReg (32 + fn) (fnBlock fn + 0x14) (fun s => adminDisable s fn) s) s

/-- MSIX_VECTOR_UNMASK (R407): Unmasking an MSI-X vector with its pending bit set sends the pending message. -/
def execMsixVectorUnmask (fn : Fin 16) (vector : Fin 64) (s : State) : Host.Outcome State Fault Refusal :=
  event (unlessHeld fun s => onRings (fun s => vectorUnmask s fn vector) s) s

end Sys2Proof.Machine
end

