-- ==== Sys2Proof/Machine/SolverRows.lean ====
section
/-!
DEFINITION. The meanings of the commands of the solver kernels (R270 to R274): one definition for each row of the table.
-/
namespace Sys2Proof.Machine

/-- GEMM (R270): Solver kernel: matrix multiply-accumulate. -/
def execGemm (lane : Fin 192) (r : KRec) (ecc : Fin 3) (errLane : Fin 4) (word : BitVec 16) (s : State) : Host.Outcome State Fault Refusal :=
  dueStep (unlessHeld fun s => issueGemm s lane (withKernel 0x01 r) ecc errLane word.toNat) s

/-- SYRK (R270): Solver kernel: symmetric rank-k update. -/
def execSyrk (lane : Fin 192) (r : KRec) (s : State) : Host.Outcome State Fault Refusal :=
  dueStep (unlessHeld fun s => issueRec s lane (withKernel 0x02 r)) s

/-- GEMV (R270): Solver kernel: matrix-vector product. -/
def execGemv (lane : Fin 192) (r : KRec) (s : State) : Host.Outcome State Fault Refusal :=
  dueStep (unlessHeld fun s => issueRec s lane (withKernel 0x03 r)) s

/-- LDL (R282): Solver kernel: LDLᵀ factorisation with pivot regularisation. -/
def execLdl (lane : Fin 192) (r : KRec) (s : State) : Host.Outcome State Fault Refusal :=
  dueStep (unlessHeld fun s => issueRec s lane (withKernel 0x04 r)) s

/-- LDLSOLVE (R270): Solver kernel: solve with an LDL-factored matrix. -/
def execLdlsolve (lane : Fin 192) (r : KRec) (s : State) : Host.Outcome State Fault Refusal :=
  dueStep (unlessHeld fun s => issueRec s lane (withKernel 0x05 r)) s

/-- AXPBY (R270): Solver kernel: scaled vector sum. -/
def execAxpby (lane : Fin 192) (r : KRec) (s : State) : Host.Outcome State Fault Refusal :=
  dueStep (unlessHeld fun s => issueRec s lane (withKernel 0x06 r)) s

/-- CLAMP (R270): Solver kernel: elementwise clamp. -/
def execClamp (lane : Fin 192) (r : KRec) (s : State) : Host.Outcome State Fault Refusal :=
  dueStep (unlessHeld fun s => issueRec s lane (withKernel 0x07 r)) s

/-- RECIP (R270): Solver kernel: reciprocal or reciprocal square root. -/
def execRecip (lane : Fin 192) (r : KRec) (s : State) : Host.Outcome State Fault Refusal :=
  dueStep (unlessHeld fun s => issueRec s lane (withKernel 0x08 r)) s

/-- DOT (R270): Solver kernel: dot product into a V register. -/
def execDot (lane : Fin 192) (r : KRec) (s : State) : Host.Outcome State Fault Refusal :=
  dueStep (unlessHeld fun s => issueRec s lane (withKernel 0x09 r)) s

/-- COPY (R270): Solver kernel: vector copy. -/
def execCopy (lane : Fin 192) (r : KRec) (s : State) : Host.Outcome State Fault Refusal :=
  dueStep (unlessHeld fun s => issueRec s lane (withKernel 0x0A r)) s

/-- GREDUCE (R270): Solver kernel: sum across the gang's lanes. -/
def execGreduce (lane : Fin 192) (r : KRec) (s : State) : Host.Outcome State Fault Refusal :=
  dueStep (unlessHeld fun s => issueRec s lane (withKernel 0x0B r)) s

/-- CAPDIST (R270): Solver kernel: capsule-pair distances. -/
def execCapdist (lane : Fin 192) (r : KRec) (s : State) : Host.Outcome State Fault Refusal :=
  dueStep (unlessHeld fun s => issueRec s lane (withKernel 0x0C r)) s

/-- REPEAT (R274): Solver kernel: repeat the following records with strides. -/
def execRepeatRecs (lane : Fin 192) (r : KRec) (body : List KRec) (s : State) : Host.Outcome State Fault Refusal :=
  if repeatBodyOk body then dueStep (unlessHeld fun s => issueRepeat s lane (withKernel 0x0D r) body) s else .refused .illFormed

end Sys2Proof.Machine
end

