-- ==== Sys2Proof/Machine/TimeRows.lean ====
section
/-!
DEFINITION. The meanings of the commands of time, Ethernet, the line axis and the track streams: one definition for each row of the table.
-/
namespace Sys2Proof.Machine

/-- PTP_MESSAGE_RX (R57): A PTP message arrives on an Ethernet port and is time-stamped or discarded. -/
def execPtpMessageRx (port : Fin 4) (msg : PtpMsg) (s : State) : Host.Outcome State Fault Refusal :=
  event (unlessHeld fun s => ptpReceive s port msg) s

/-- PTP_SYNC_OFFSET (R62): An offset from a Sync is handled by the servo: step, refusal, or PI update. -/
def execPtpSyncOffset (port : Fin 4) (offset : Int) (gm : Word64) (domain : BitVec 8) (s : State) : Host.Outcome State Fault Refusal :=
  event (unlessHeld fun s => syncOffset s port offset gm.toNat domain.toNat) s

/-- PTP_MASTER_LOST (R61): No Sync within three intervals or announce timeout sends the servo to HOLDOVER. -/
def execPtpMasterLost (s : State) : Host.Outcome State Fault Refusal :=
  event (unlessHeld masterLost) s

/-- ETH_GCL_SWITCH (R60): An applied gate control list becomes operational at its cycle start. -/
def execEthGclSwitch (port : Fin 4) (s : State) : Host.Outcome State Fault Refusal :=
  event (unlessHeld fun s => gclSwitch s port) s

/-- LINE_PUB_RX (R49): A line-publication frame is received and accepted or dropped. -/
def execLinePubRx (port : Fin 4) (group : BitVec 128) (udpPort : BitVec 16) (frame : List Byte) (s : State) : Host.Outcome State Fault Refusal :=
  event (unlessHeld fun s => receivePub s port group.toNat udpPort.toNat frame) s

/-- LINE_SOURCE_STALE (R46): A publication source exceeds AGE_LIMIT and freezes the line axis. -/
def execLineSourceStale (src : Fin 16) (s : State) : Host.Outcome State Fault Refusal :=
  unitStep (unlessHeld fun s => sourceStale s src) s

/-- TRACK_FRAME_RX (R315): A track frame is received and accepted or dropped. -/
def execTrackFrameRx (port : Fin 4) (udpPort : BitVec 16) (frame : List Byte) (s : State) : Host.Outcome State Fault Refusal :=
  event (unlessHeld fun s => trackFrame s port udpPort.toNat frame) s

/-- TRACK_STREAM_LOST (R316): A stream silent for GRD_STREAM_LIMIT becomes lost and stands at HOLD. -/
def execTrackStreamLost (stream : Fin 8) (s : State) : Host.Outcome State Fault Refusal :=
  event (unlessHeld fun s => streamSilent s stream) s

/-- TIM_SNAP_TAKE (R54): TIM_SNAP.TAKE captures PTP, elapsed, frame and line values per requester. -/
def execTimSnapTake (req : Fin 64) (s : State) : Host.Outcome State Fault Refusal :=
  event (unlessHeld fun s => onReg req 0x40080 (fun s => takeSnap s req) s) s

/-- TIM_SERVO_EN_WRITE (R62): Writing SERVO_EN starts or stops offset handling, entering forced HOLDOVER when cleared.
-/
def execTimServoEnWrite (req : Fin 64) (en : Bool) (s : State) : Host.Outcome State Fault Refusal :=
  event (unlessHeld fun s => onReg req 0x40000 (fun s => servoEnWrite s en) s) s

/-- TIM_HOLDOVER_FORCE_WRITE (R62): Writing HOLDOVER_FORCE sets or removes the forced holdover cause. -/
def execTimHoldoverForceWrite (req : Fin 64) (force : Bool) (s : State) : Host.Outcome State Fault Refusal :=
  event (unlessHeld fun s => onReg req 0x40000 (fun s => holdoverForceWrite s force) s) s

/-- ETH_GCL_APPLY (R60): APPLY schedules the administrative gate list to become operational. -/
def execEthGclApply (req : Fin 64) (port : Fin 4) (s : State) : Host.Outcome State Fault Refusal :=
  event (unlessHeld fun s => onReg req (0x50200 + 0x1000 * port) (fun s => gclApply s port) s) s

/-- PTP_MESSAGE_TX (R58): A port sends a PTP event message at its interval, inserting the one-step timestamp, correction
and checksum as the frame leaves. -/
def execPtpMessageTx (port : Fin 4) (msg : PtpMsg) (s : State) : Host.Outcome State Fault Refusal :=
  event (unlessHeld fun s => ptpSend s port msg) s

/-- ETH_GATE_INTERVAL (R60): The interval of the operational gate control list entry runs out and the next entry's gate
states apply. -/
def execEthGateInterval (port : Fin 4) (s : State) : Host.Outcome State Fault Refusal :=
  event (unlessHeld fun s => gateInterval s port) s

end Sys2Proof.Machine
end

