-- ==== Sys2Proof/Machine/Dispatch.lean ====
section
/-!
DEFINITION. The dispatch: each command of the table goes to its meaning.
-/
namespace Sys2Proof.Machine

def exec (i : Instr) (s : State) : Host.Outcome State Fault Refusal :=
  match i with
  | .frameBoundary inp => Sys2Proof.Machine.execFrameBoundary inp s
  | .servoTickBoundary => Sys2Proof.Machine.execServoTickBoundary s
  | .planTickBoundary => Sys2Proof.Machine.execPlanTickBoundary s
  | .guardJudgingStart => Sys2Proof.Machine.execGuardJudgingStart s
  | .planPressOpen => Sys2Proof.Machine.execPlanPressOpen s
  | .guardFinalVerdict => Sys2Proof.Machine.execGuardFinalVerdict s
  | .solverStart => Sys2Proof.Machine.execSolverStart s
  | .solverProblemEnd lane err errLane word => Sys2Proof.Machine.execSolverProblemEnd lane err errLane word s
  | .solverDeadline => Sys2Proof.Machine.execSolverDeadline s
  | .derateApply => Sys2Proof.Machine.execDerateApply s
  | .rylUplinkFrame port lane arrival chars => Sys2Proof.Machine.execRylUplinkFrame port lane arrival chars s
  | .rylDetectTimeout port => Sys2Proof.Machine.execRylDetectTimeout port s
  | .rylHeadLost port pos => Sys2Proof.Machine.execRylHeadLost port pos s
  | .rylLaneDown port lane => Sys2Proof.Machine.execRylLaneDown port lane s
  | .rylSvcTimeout port j => Sys2Proof.Machine.execRylSvcTimeout port j s
  | .rylHeadCyclicDone port pos => Sys2Proof.Machine.execRylHeadCyclicDone port pos s
  | .safeOffPinAccept pin => Sys2Proof.Machine.execSafeOffPinAccept pin s
  | .safeOffPinRelease pin => Sys2Proof.Machine.execSafeOffPinRelease pin s
  | .killDiscrepancy => Sys2Proof.Machine.execKillDiscrepancy s
  | .powerOn banks pins => Sys2Proof.Machine.execPowerOn banks pins s
  | .resetNAccept => Sys2Proof.Machine.execResetNAccept s
  | .brownOut => Sys2Proof.Machine.execBrownOut s
  | .perstNAssert => Sys2Proof.Machine.execPerstNAssert s
  | .flr fn => Sys2Proof.Machine.execFlr fn s
  | .busMasterClear fn => Sys2Proof.Machine.execBusMasterClear fn s
  | .busMasterSet fn => Sys2Proof.Machine.execBusMasterSet fn s
  | .vfEnableClear => Sys2Proof.Machine.execVfEnableClear s
  | .bootStageDone ok cause elapsedUs boot => Sys2Proof.Machine.execBootStageDone ok cause elapsedUs boot s
  | .recoveryImageDone image => Sys2Proof.Machine.execRecoveryImageDone image s
  | .p0Restored => Sys2Proof.Machine.execP0Restored s
  | .partWake => Sys2Proof.Machine.execPartWake s
  | .sysrefLoss => Sys2Proof.Machine.execSysrefLoss s
  | .temperatureReading tj => Sys2Proof.Machine.execTemperatureReading tj s
  | .supplyReading rail more mv => Sys2Proof.Machine.execSupplyReading rail more mv s
  | .bankPowerChange bank on pins => Sys2Proof.Machine.execBankPowerChange bank on pins s
  | .trgEdge pin rising => Sys2Proof.Machine.execTrgEdge pin rising s
  | .stepEdge input dir => Sys2Proof.Machine.execStepEdge input dir s
  | .dinChange pin level => Sys2Proof.Machine.execDinChange pin level s
  | .dinDebounceExpiry pin => Sys2Proof.Machine.execDinDebounceExpiry pin s
  | .ptpMessageRx port msg => Sys2Proof.Machine.execPtpMessageRx port msg s
  | .ptpSyncOffset port offset gm domain => Sys2Proof.Machine.execPtpSyncOffset port offset gm domain s
  | .ptpMasterLost => Sys2Proof.Machine.execPtpMasterLost s
  | .ethGclSwitch port => Sys2Proof.Machine.execEthGclSwitch port s
  | .linePubRx port group udpPort frame => Sys2Proof.Machine.execLinePubRx port group udpPort frame s
  | .lineSourceStale src => Sys2Proof.Machine.execLineSourceStale src s
  | .trackFrameRx port udpPort frame => Sys2Proof.Machine.execTrackFrameRx port udpPort frame s
  | .trackStreamLost stream => Sys2Proof.Machine.execTrackStreamLost stream s
  | .fbkStandstill fbch => Sys2Proof.Machine.execFbkStandstill fbch s
  | .stepperReduceStart profile => Sys2Proof.Machine.execStepperReduceStart profile s
  | .homeDebounceExpiry profile => Sys2Proof.Machine.execHomeDebounceExpiry profile s
  | .cnvResult conv nv mods => Sys2Proof.Machine.execCnvResult conv nv mods s
  | .cnvCalDone conv inRange => Sys2Proof.Machine.execCnvCalDone conv inRange s
  | .cnvRefReady => Sys2Proof.Machine.execCnvRefReady s
  | .cnvPlausCheck nv1 nv2 => Sys2Proof.Machine.execCnvPlausCheck nv1 nv2 s
  | .drvLoopsStart core run => Sys2Proof.Machine.execDrvLoopsStart core run s
  | .drvLoopPublish core slot => Sys2Proof.Machine.execDrvLoopPublish core slot s
  | .pressValidationDone slot => Sys2Proof.Machine.execPressValidationDone slot s
  | .pressMemberReady slot => Sys2Proof.Machine.execPressMemberReady slot s
  | .pressCommit slot => Sys2Proof.Machine.execPressCommit slot s
  | .pressWaitExpiry slot => Sys2Proof.Machine.execPressWaitExpiry slot s
  | .nodePlacement => Sys2Proof.Machine.execNodePlacement s
  | .nodeCompletion node how => Sys2Proof.Machine.execNodeCompletion node how s
  | .submitTemplate node data => Sys2Proof.Machine.execSubmitTemplate node data s
  | .gscWaitTimeout wait => Sys2Proof.Machine.execGscWaitTimeout wait s
  | .fltRecordHandling => Sys2Proof.Machine.execFltRecordHandling s
  | .lintWindowEnd entry => Sys2Proof.Machine.execLintWindowEnd entry s
  | .supervisorWatchdogExpiry core => Sys2Proof.Machine.execSupervisorWatchdogExpiry core s
  | .supervisorSelftestDone core pass => Sys2Proof.Machine.execSupervisorSelftestDone core pass s
  | .hostWatchdogExpiry => Sys2Proof.Machine.execHostWatchdogExpiry s
  | .wearDecay => Sys2Proof.Machine.execWearDecay s
  | .backgroundTestStart => Sys2Proof.Machine.execBackgroundTestStart s
  | .selfTestDone cls inst pass => Sys2Proof.Machine.execSelfTestDone cls inst pass s
  | .shadowTestDone cls inst => Sys2Proof.Machine.execShadowTestDone cls inst s
  | .darnStart => Sys2Proof.Machine.execDarnStart s
  | .noSpareRetire cls inst => Sys2Proof.Machine.execNoSpareRetire cls inst s
  | .ledgerStateWrite ok => Sys2Proof.Machine.execLedgerStateWrite ok s
  | .patrolScrubRead errors => Sys2Proof.Machine.execPatrolScrubRead errors s
  | .pageRetireDone page => Sys2Proof.Machine.execPageRetireDone page s
  | .msixCoalTimer ring => Sys2Proof.Machine.execMsixCoalTimer ring s
  | .mbxCrossExpiry a b => Sys2Proof.Machine.execMbxCrossExpiry a b s
  | .mbxWaitingDelivery mbox => Sys2Proof.Machine.execMbxWaitingDelivery mbox s
  | .ringDrainDone pair => Sys2Proof.Machine.execRingDrainDone pair s
  | .fenceRelease pair => Sys2Proof.Machine.execFenceRelease pair s
  | .drvLoadDone core img => Sys2Proof.Machine.execDrvLoadDone core img s
  | .problemCreateDone block => Sys2Proof.Machine.execProblemCreateDone block s
  | .dbgSessionExpiry session => Sys2Proof.Machine.execDbgSessionExpiry session s
  | .jtagDbgaccToken level regions token => Sys2Proof.Machine.execJtagDbgaccToken level regions token s
  | .tapReset => Sys2Proof.Machine.execTapReset s
  | .jtagInstruction ins => Sys2Proof.Machine.execJtagInstruction ins s
  | .sqTailDoorbell fn ring value => Sys2Proof.Machine.execSqTailDoorbell fn ring value s
  | .cqHeadDoorbell fn ring value => Sys2Proof.Machine.execCqHeadDoorbell fn ring value s
  | .eventHeadDoorbell fn ring value => Sys2Proof.Machine.execEventHeadDoorbell fn ring value s
  | .sqFetchDone pair descs => Sys2Proof.Machine.execSqFetchDone pair descs s
  | .registerWrite req bar off width value => Sys2Proof.Machine.execRegisterWrite req bar off width value s
  | .registerLoRead req acc => Sys2Proof.Machine.execRegisterLoRead req acc s
  | .adminPairEnable fn => Sys2Proof.Machine.execAdminPairEnable fn s
  | .adminPairDisable fn => Sys2Proof.Machine.execAdminPairDisable fn s
  | .timSnapTake req => Sys2Proof.Machine.execTimSnapTake req s
  | .timServoEnWrite req en => Sys2Proof.Machine.execTimServoEnWrite req en s
  | .timHoldoverForceWrite req force => Sys2Proof.Machine.execTimHoldoverForceWrite req force s
  | .ethGclApply req port => Sys2Proof.Machine.execEthGclApply req port s
  | .rylTrain req port => Sys2Proof.Machine.execRylTrain req port s
  | .rylEnWrite req port en => Sys2Proof.Machine.execRylEnWrite req port en s
  | .cnvRefOnWrite req on => Sys2Proof.Machine.execCnvRefOnWrite req on s
  | .cnvCal req conv => Sys2Proof.Machine.execCnvCal req conv s
  | .cnvCfgWrite req conv value => Sys2Proof.Machine.execCnvCfgWrite req conv value s
  | .cnvSwtrigRegular req conv => Sys2Proof.Machine.execCnvSwtrigRegular req conv s
  | .cnvSwtrigInjected req conv group => Sys2Proof.Machine.execCnvSwtrigInjected req conv group s
  | .cnvTqPop req => Sys2Proof.Machine.execCnvTqPop req s
  | .grdEnWrite req en => Sys2Proof.Machine.execGrdEnWrite req en s
  | .mbxSend req mbox word => Sys2Proof.Machine.execMbxSend req mbox word s
  | .mbxTxcancel req => Sys2Proof.Machine.execMbxTxcancel req s
  | .mbxRx7Take req mbox => Sys2Proof.Machine.execMbxRx7Take req mbox s
  | .lckRead req others lock => Sys2Proof.Machine.execLckRead req others lock s
  | .lckWrite req lock value => Sys2Proof.Machine.execLckWrite req lock value s
  | .lckBreak req lock => Sys2Proof.Machine.execLckBreak req lock s
  | .modResetWrite req value => Sys2Proof.Machine.execModResetWrite req value s
  | .modHostwdWrite req value => Sys2Proof.Machine.execModHostwdWrite req value s
  | .modHostwdKick req => Sys2Proof.Machine.execModHostwdKick req s
  | .modRcvGo req => Sys2Proof.Machine.execModRcvGo req s
  | .pwrOff req => Sys2Proof.Machine.execPwrOff req s
  | .memRetirePage req page => Sys2Proof.Machine.execMemRetirePage req page s
  | .dinCfgWrite req pin value => Sys2Proof.Machine.execDinCfgWrite req pin value s
  | .dbgMdataAccess session write => Sys2Proof.Machine.execDbgMdataAccess session write s
  | .dbgHaltCore session core => Sys2Proof.Machine.execDbgHaltCore session core s
  | .dbgResumeCore session core => Sys2Proof.Machine.execDbgResumeCore session core s
  | .dbgStepCore session core => Sys2Proof.Machine.execDbgStepCore session core s
  | .dbgHaltLane session lane => Sys2Proof.Machine.execDbgHaltLane session lane s
  | .dbgResumeLane session lane => Sys2Proof.Machine.execDbgResumeLane session lane s
  | .dbgSetBreakpoint session core => Sys2Proof.Machine.execDbgSetBreakpoint session core s
  | .dbgClearBreakpoints session core => Sys2Proof.Machine.execDbgClearBreakpoints session core s
  | .nop d => Sys2Proof.Machine.execNop d s
  | .destroy d => Sys2Proof.Machine.execDestroy d s
  | .armCreate d => Sys2Proof.Machine.execArmCreate d s
  | .jointCreate d => Sys2Proof.Machine.execJointCreate d s
  | .jointScaleSet d => Sys2Proof.Machine.execJointScaleSet d s
  | .regionRelease d => Sys2Proof.Machine.execRegionRelease d s
  | .regionResume d => Sys2Proof.Machine.execRegionResume d s
  | .regionHold d => Sys2Proof.Machine.execRegionHold d s
  | .regionService d => Sys2Proof.Machine.execRegionService d s
  | .regionLeaveService d => Sys2Proof.Machine.execRegionLeaveService d s
  | .modeSet d => Sys2Proof.Machine.execModeSet d s
  | .linesrcCreate d => Sys2Proof.Machine.execLinesrcCreate d s
  | .lineDesignate d => Sys2Proof.Machine.execLineDesignate d s
  | .timeStepAuth d => Sys2Proof.Machine.execTimeStepAuth d s
  | .rylHeadCyclic d => Sys2Proof.Machine.execRylHeadCyclic d s
  | .rylHeadAccess d => Sys2Proof.Machine.execRylHeadAccess d s
  | .cchanCreate d => Sys2Proof.Machine.execCchanCreate d s
  | .cchanSet d => Sys2Proof.Machine.execCchanSet d s
  | .cnvCalibrate d => Sys2Proof.Machine.execCnvCalibrate d s
  | .fbchCreate d => Sys2Proof.Machine.execFbchCreate d s
  | .fbchSet d => Sys2Proof.Machine.execFbchSet d s
  | .fbchSetPos d => Sys2Proof.Machine.execFbchSetPos d s
  | .sweSet d => Sys2Proof.Machine.execSweSet d s
  | .sweHeadCal d => Sys2Proof.Machine.execSweHeadCal d s
  | .drvLoad d => Sys2Proof.Machine.execDrvLoad d s
  | .drvSwap d => Sys2Proof.Machine.execDrvSwap d s
  | .drvBind d => Sys2Proof.Machine.execDrvBind d s
  | .drvParam d => Sys2Proof.Machine.execDrvParam d s
  | .prfCreate d => Sys2Proof.Machine.execPrfCreate d s
  | .prfSet d => Sys2Proof.Machine.execPrfSet d s
  | .prfQueue d => Sys2Proof.Machine.execPrfQueue d s
  | .prfStop d => Sys2Proof.Machine.execPrfStop d s
  | .prfHome d => Sys2Proof.Machine.execPrfHome d s
  | .gearCreate d => Sys2Proof.Machine.execGearCreate d s
  | .gearSet d => Sys2Proof.Machine.execGearSet d s
  | .solGang d => Sys2Proof.Machine.execSolGang d s
  | .problemCreate d => Sys2Proof.Machine.execProblemCreate d s
  | .problemBind d => Sys2Proof.Machine.execProblemBind d s
  | .problemWrite d => Sys2Proof.Machine.execProblemWrite d s
  | .plnBranchSet d => Sys2Proof.Machine.execPlnBranchSet d s
  | .plnReplan d => Sys2Proof.Machine.execPlnReplan d s
  | .grdKinSet d => Sys2Proof.Machine.execGrdKinSet d s
  | .grdCapsuleSet d => Sys2Proof.Machine.execGrdCapsuleSet d s
  | .grdStopSet d => Sys2Proof.Machine.execGrdStopSet d s
  | .trackCreate d => Sys2Proof.Machine.execTrackCreate d s
  | .zoneCreate d => Sys2Proof.Machine.execZoneCreate d s
  | .grdZoneSet d => Sys2Proof.Machine.execGrdZoneSet d s
  | .pressOpen d => Sys2Proof.Machine.execPressOpen d s
  | .pressArm d => Sys2Proof.Machine.execPressArm d s
  | .pressAbort d => Sys2Proof.Machine.execPressAbort d s
  | .nodeCreate d => Sys2Proof.Machine.execNodeCreate d s
  | .nodeSet d => Sys2Proof.Machine.execNodeSet d s
  | .edgeSet d => Sys2Proof.Machine.execEdgeSet d s
  | .flowCreate d => Sys2Proof.Machine.execFlowCreate d s
  | .delayCreate d => Sys2Proof.Machine.execDelayCreate d s
  | .delayArm d => Sys2Proof.Machine.execDelayArm d s
  | .gscToken d => Sys2Proof.Machine.execGscToken d s
  | .gscWait d => Sys2Proof.Machine.execGscWait d s
  | .ringCreate d => Sys2Proof.Machine.execRingCreate d s
  | .eventRoute d => Sys2Proof.Machine.execEventRoute d s
  | .traceCreate d => Sys2Proof.Machine.execTraceCreate d s
  | .traceSet d => Sys2Proof.Machine.execTraceSet d s
  | .traceTrigger d => Sys2Proof.Machine.execTraceTrigger d s
  | .traceRearm d => Sys2Proof.Machine.execTraceRearm d s
  | .mboxCreate d => Sys2Proof.Machine.execMboxCreate d s
  | .hltDarn d => Sys2Proof.Machine.execHltDarn d s
  | .hltTest d => Sys2Proof.Machine.execHltTest d s
  | .fltAck d => Sys2Proof.Machine.execFltAck d s
  | .fltClearFaults d => Sys2Proof.Machine.execFltClearFaults d s
  | .fltClearQuarantine d => Sys2Proof.Machine.execFltClearQuarantine d s
  | .fltClearWarmStart d => Sys2Proof.Machine.execFltClearWarmStart d s
  | .secImageStageFw d => Sys2Proof.Machine.execSecImageStageFw d s
  | .secImageRaiseFloor d => Sys2Proof.Machine.execSecImageRaiseFloor d s
  | .secImageProvision d => Sys2Proof.Machine.execSecImageProvision d s
  | .secImageField d => Sys2Proof.Machine.execSecImageField d s
  | .secImageReturn d => Sys2Proof.Machine.execSecImageReturn d s
  | .secImageReadCert d => Sys2Proof.Machine.execSecImageReadCert d s
  | .secImageOwnerKey d => Sys2Proof.Machine.execSecImageOwnerKey d s
  | .dbgOpen d => Sys2Proof.Machine.execDbgOpen d s
  | .dbgClose d => Sys2Proof.Machine.execDbgClose d s
  | .draverNop core graph => Sys2Proof.Machine.execDraverNop core graph s
  | .add core graph d a b => Sys2Proof.Machine.execAdd core graph d a b s
  | .sub core graph d a b => Sys2Proof.Machine.execSub core graph d a b s
  | .addc core graph d a b => Sys2Proof.Machine.execAddc core graph d a b s
  | .subc core graph d a b => Sys2Proof.Machine.execSubc core graph d a b s
  | .adds core graph d a b => Sys2Proof.Machine.execAdds core graph d a b s
  | .subs core graph d a b => Sys2Proof.Machine.execSubs core graph d a b s
  | .and core graph d a b => Sys2Proof.Machine.execAnd core graph d a b s
  | .or core graph d a b => Sys2Proof.Machine.execOr core graph d a b s
  | .xor core graph d a b => Sys2Proof.Machine.execXor core graph d a b s
  | .min core graph d a b => Sys2Proof.Machine.execMin core graph d a b s
  | .max core graph d a b => Sys2Proof.Machine.execMax core graph d a b s
  | .abs core graph d a => Sys2Proof.Machine.execAbs core graph d a s
  | .shl core graph d a b => Sys2Proof.Machine.execShl core graph d a b s
  | .shr core graph d a b => Sys2Proof.Machine.execShr core graph d a b s
  | .shrl core graph d a b => Sys2Proof.Machine.execShrl core graph d a b s
  | .cmp core graph a b => Sys2Proof.Machine.execCmp core graph a b s
  | .addi core graph d a imm => Sys2Proof.Machine.execAddi core graph d a imm s
  | .andi core graph d a imm => Sys2Proof.Machine.execAndi core graph d a imm s
  | .ori core graph d a imm => Sys2Proof.Machine.execOri core graph d a imm s
  | .shli core graph d a imm => Sys2Proof.Machine.execShli core graph d a imm s
  | .shri core graph d a imm => Sys2Proof.Machine.execShri core graph d a imm s
  | .movlo core graph d imm => Sys2Proof.Machine.execMovlo core graph d imm s
  | .movhi core graph d a imm => Sys2Proof.Machine.execMovhi core graph d a imm s
  | .cmpi core graph a imm => Sys2Proof.Machine.execCmpi core graph a imm s
  | .mul core graph aa ga gb => Sys2Proof.Machine.execMul core graph aa ga gb s
  | .mac core graph aa ga gb => Sys2Proof.Machine.execMac core graph aa ga gb s
  | .msu core graph aa ga gb => Sys2Proof.Machine.execMsu core graph aa ga gb s
  | .clra core graph aa => Sys2Proof.Machine.execClra core graph aa s
  | .mvga core graph aa gb shift => Sys2Proof.Machine.execMvga core graph aa gb shift s
  | .mvgp core graph aa ga gb shift => Sys2Proof.Machine.execMvgp core graph aa ga gb shift s
  | .adda core graph aa ab => Sys2Proof.Machine.execAdda core graph aa ab s
  | .sha core graph aa shift => Sys2Proof.Machine.execSha core graph aa shift s
  | .rnd core graph d aa shift => Sys2Proof.Machine.execRnd core graph d aa shift s
  | .ext core graph d aa shift => Sys2Proof.Machine.execExt core graph d aa shift s
  | .rpt core graph body csrc ga count => Sys2Proof.Machine.execRpt core graph body csrc ga count s
  | .ld core graph d p u m ecc => Sys2Proof.Machine.execLd core graph d p u m ecc s
  | .st core graph d p u m => Sys2Proof.Machine.execSt core graph d p u m s
  | .ldc core graph d p u m ecc => Sys2Proof.Machine.execLdc core graph d p u m ecc s
  | .ftm core graph aa pd pc neg mov md mc ecc => Sys2Proof.Machine.execFtm core graph aa pd pc neg mov md mc ecc s
  | .mvpa core graph p imm => Sys2Proof.Machine.execMvpa core graph p imm s
  | .mvpl core graph p imm => Sys2Proof.Machine.execMvpl core graph p imm s
  | .mvsg core graph d sr => Sys2Proof.Machine.execMvsg core graph d sr s
  | .mvgs core graph sr a => Sys2Proof.Machine.execMvgs core graph sr a s
  | .b core graph cond target => Sys2Proof.Machine.execB core graph cond target s
  | .bl core graph target => Sys2Proof.Machine.execBl core graph target s
  | .j core graph cond ga => Sys2Proof.Machine.execJ core graph cond ga s
  | .exit core graph => Sys2Proof.Machine.execExit core graph s
  | .gemm lane r ecc errLane word => Sys2Proof.Machine.execGemm lane r ecc errLane word s
  | .syrk lane r => Sys2Proof.Machine.execSyrk lane r s
  | .gemv lane r => Sys2Proof.Machine.execGemv lane r s
  | .ldl lane r => Sys2Proof.Machine.execLdl lane r s
  | .ldlsolve lane r => Sys2Proof.Machine.execLdlsolve lane r s
  | .axpby lane r => Sys2Proof.Machine.execAxpby lane r s
  | .clamp lane r => Sys2Proof.Machine.execClamp lane r s
  | .recip lane r => Sys2Proof.Machine.execRecip lane r s
  | .dot lane r => Sys2Proof.Machine.execDot lane r s
  | .copy lane r => Sys2Proof.Machine.execCopy lane r s
  | .greduce lane r => Sys2Proof.Machine.execGreduce lane r s
  | .capdist lane r => Sys2Proof.Machine.execCapdist lane r s
  | .repeatRecs lane r body => Sys2Proof.Machine.execRepeatRecs lane r body s
  | .mdatMclkOutput mdat => Sys2Proof.Machine.execMdatMclkOutput mdat s
  | .perstNRelease => Sys2Proof.Machine.execPerstNRelease s
  | .resetNRelease => Sys2Proof.Machine.execResetNRelease s
  | .supervisorMemoryError core => Sys2Proof.Machine.execSupervisorMemoryError core s
  | .ptpMessageTx port msg => Sys2Proof.Machine.execPtpMessageTx port msg s
  | .ethGateInterval port => Sys2Proof.Machine.execEthGateInterval port s
  | .registerReadClear req acc => Sys2Proof.Machine.execRegisterReadClear req acc s
  | .msixVectorUnmask fn vector => Sys2Proof.Machine.execMsixVectorUnmask fn vector s

end Sys2Proof.Machine
end

