-- ==== Sys2Proof/Machine/Step.lean ====
section
/-!
DEFINITION. One step: the command at the front of the queue takes its effect on everything but the queue; with an empty queue the
device idles.
-/
namespace Sys2Proof.Machine

/-- One step of the device: the oldest waiting command is executed with the rest of the queue; on an empty queue the state stays as
it is (DESIGN CHOICE: time passes by commands alone). -/
def step (s : State) : Host.Outcome State Fault Refusal :=
  match s.pending with
  | [] => .next s
  | c :: rest => exec c { s with pending := rest }

/-- A state with the command that a word spells at the front of its queue; no row of the table has bits, so that no word spells
one. -/
def State.withFetchWord (s : State) (nbits w : Nat) : State :=
  match Sys2Proof.decodeTableWord nbits w with
  | some c => { s with pending := c :: s.pending }
  | none => s

end Sys2Proof.Machine
end

