-- ==== Sys2Proof/Safety.lean ====
section
/-!
DEFINITION. What a safe state is, in the terms the statements use: the canonical forms, the regions under the mode (R24), the outputs
in the safe phases (R512); and the states in which commands of each kind find the device.
-/
namespace Sys2Proof.Machine

/-- Device DRAM is in its canonical form. -/
def dramWf (s : State) : Bool := memWf s.mem.dram

/-- Every region is in a state that the mode admits (R24). -/
def regionsAdmitted (s : State) : Bool := s.regions.all fun e => modeAllows s.md.mode e.2.st

/-- The outputs are those of the safe phase that the mode asks for (R512). -/
def outputsSafe (s : State) : Prop := s.out = outputsOf s

/-- No work of the present frame boundary is outstanding, no report waits for the Lint Trap and no mailbox for a delivery. -/
abbrev NothingDue (s : State) : Prop :=
  s.due.presses = [] ∧ s.due.judge = false ∧ s.due.body = false ∧ s.due.servo = false ∧ s.due.plan = false ∧ s.flt.arrived = [] ∧
  (s.mbx.boxes.all fun e => e.2.deliverDue.isNone) = true

/-- `a` is the state in which an event from outside finds the device, out of cold reset. -/
abbrev Finds (s a : State) : Prop := atArrival s = a ∧ a.md.held = false

/-- `a` is the state in which an event from outside finds the device, with the rails up. -/
abbrev FindsOn (s a : State) : Prop := atArrival s = a ∧ a.md.off = false

/-- `a` is the state in which a unit's own step finds the device, out of cold reset. -/
abbrev FindsUnit (s a : State) : Prop := settle s = a ∧ a.md.held = false

/-- `a` is the state in which an access of a requester to an offset of BAR0 finds the device, and the requester reaches it. -/
abbrev FindsReg (s a : State) (req off : Nat) : Prop := Finds s a ∧ reqReach a req off = true

/-- A state with one Ethernet port's record replaced. -/
def withEth (a : State) (p : Nat) (e : EthPort) : State := { a with time := { a.time with eth := mput a.time.eth p e } }

/-- The context of a core in which an instruction issues. -/
def ctxOf (c : DCore) (graph : Bool) : DCtx := if graph then c.graph else c.loop

/-- A core's record with that context replaced after one issue. -/
def withCtx (c : DCore) (graph : Bool) (x : DCtx) : DCore :=
  if graph then { c with graph := x }
  else if c.entered then tickNoted { c with loop := x, used := c.used + 1 } else { c with loop := x }

/-- A context between instructions: no write under way, no flags still to be seen, no branch, no repeat, no trap. -/
abbrev Straight (x : DCtx) : Prop :=
  x.pend = [] ∧ x.dstQ = [{}, {}] ∧ x.br = none ∧ x.lc = 0 ∧ x.skip = false ∧ x.trap = none ∧ x.ended = false

/-- A core that can issue, with the named context between instructions. -/
abbrev FindsCore (s : State) (n : Nat) (graph : Bool) (x : DCtx) : Prop :=
  coreIssues s n = true ∧ ctxOf (drvAt s n) graph = x ∧ Straight x

/-- A context after one more instruction: what it wrote, the flags that the second instruction after it sees, and the next address. -/
def ranOn (x y : DCtx) (o : DstOp) : DCtx := { y with dstQ := [{}, o], aOld := x.a, pc := (x.pc + 1) % 8192 }

/-- A state in which a core's context has been replaced after one issue. -/
def issued (s : State) (n : Nat) (graph : Bool) (x : DCtx) : State := { s with drv := mput s.drv n (withCtx (drvAt s n) graph x) }

/-- A G register written; G0 keeps reading 0. -/
def setG (x : DCtx) (d : Nat) (v : Nat) : DCtx := if d = 0 then x else { x with g := x.g.set d v }

/-- A G register whose value the third instruction after is the first to see. -/
def setGLate (x : DCtx) (d : Nat) (v : Nat) : DCtx := if d = 0 then x else { x with pend := [(3, .g d v)] }

/-- A descriptor as it is stamped when its pair accepts it next (R396). -/
def accOf (a : State) (op : Nat) (d : Desc) : Acc :=
  let r := ringAt a d.ring
  { op := op, d := d, pair := d.ring, gen := genOf a cRING d.ring, pos := r.pos, req := 32 + r.owner, wall := wall32 a,
    frame := a.time.frame }

/-- The state in which the checks of an accepted descriptor begin: its ring has moved on by one, two entries of the CQ are reserved, and
it is counted (R396, R399, R400). -/
def taken (a : State) (d : Desc) : State :=
  let r := ringAt a d.ring
  let x := { r with pos := (r.pos + 1) % 65536, sqHead := if sqAvail r = 0 then r.sqHead else (r.sqHead + 1) % sizeA r,
                    turn := r.turn - 1, resv := r.resv + 2, open_ := r.open_ + 1 }
  bump { a with host := { a.host with rings := mput a.host.rings d.ring x, accepted := a.host.accepted + 1 } } 0x30008

/-- A descriptor that its pair accepts as soon as it arrives, for itself and not for a press: the pair is UP with its function's Bus
Master Enable set, nothing waits before it, there is room in the CQ and in the frame, a FENCE has nothing before it, no reserved flag
is set, the function may ask for it, its handles name live objects, and a scale record that it carries obeys R16 or DORMANT refuses it
at its boundary (R16, R394 to R400). -/
abbrev Admitted (a : State) (op : Nat) (d : Desc) : Prop :=
  let r := ringAt a d.ring
  r.st = .up ∧ busMasterOn a r.owner = true ∧ r.waiting = [] ∧ cqRoom r = true ∧ (d.flags.getLsbD 0 = false ∨ r.open_ = 0) ∧
  a.host.accepted < 8 ∧ d.flags.toNat < 4 ∧ d.press = 0 ∧ scopeDenies (taken a d) (accOf a op d) = false ∧
  acceptHandles (taken a d) (accOf a op d) = none ∧
  (dormantRefuses (taken a d) op = true ∨ scaleAccepted (taken a d) (accOf a op d) = true)

/-- A state in which an accepted descriptor waits for the next frame boundary (R30). -/
def listed (a : State) (op : Nat) (d : Desc) : State :=
  let t := taken a d
  { t with host := { t.host with imm := t.host.imm ++ [accOf a op d] } }

/-- A descriptor whose effect is due at its boundary and meets no refusal: its handles still name live objects, no press holds its
target, its own rules hold, also beside what staged members have reserved, and every part that it needs is awake. -/
abbrev Fit (u : State) (x : Acc) : Prop :=
  handlesRefuse u x (liveHandle u) = none ∧ gatedParts u x = [] ∧ immCheck u x = none

/-- A state in which an index of a class has been taken for a new object of a function (R29). -/
def indexTaken (u : State) (c i : Nat) (f : FreeList) (creator : Nat) : State :=
  { u with frees := mput u.frees c f, objs := mput u.objs (objKey c i) { gen := genOf u c i, creator := creator, staged := none } }

/-- The commands that act while the device is held in cold reset: those on the reset, the rails, PERST_N, the SAFE_OFF and DIN pins
and the TAP. -/
def actsWhileHeld (c : Instr) : Bool :=
  match c with
  | .powerOn _ _ | .resetNAccept | .resetNRelease | .brownOut | .perstNAssert | .perstNRelease | .bankPowerChange _ _ _ => true
  | .safeOffPinAccept _ | .safeOffPinRelease _ | .dinChange _ _ | .tapReset | .jtagInstruction _ => true
  | _ => false

end Sys2Proof.Machine
end

