-- ==== Sys2Proof/Certificates/Slice0/Obligations.lean ====
section
/-!
DEFINITION. The statements about the model, for the provers.
-/
open Sys2Proof Sys2Proof.Machine

/-! ### The queue, the closing work, arrival and reset -/

/-- A step with a command at the front of the queue is exec of that command on the state with the rest of the queue, and on an empty
queue the device idles (the model's choice: log 1). -/
def Obligations.StepRunsTheFrontCommand : Prop :=
  (∀ (c : Instr) (q : List Instr) (s : State), step { s with pending := c :: q } = exec c { s with pending := q }) ∧
  (∀ s : State, s.pending = [] → step s = .next s)

/-- A command whose operands the hardware can be sent completes in every state, and it leaves the queue of waiting commands as it was;
a command is refused exactly for operands that no hardware can send, and no command ends in a fault.
(Model's choices and readings in it: log 8.) -/
def Obligations.WellFormedCommandsComplete : Prop :=
  ∀ (c : Instr) (s : State),
    (wellFormed c = true → ∃ t, exec c s = .next t ∧ t.pending = s.pending) ∧
    (wellFormed c = false → exec c s = .refused .illFormed)

/-- R24: whatever the command, after a step every region is in a state that the device mode allows, and this is an invariant of every
step from every state that has it. The table is written out here: DORMANT, PREPARE, SAFE_OFF and boot allow SAFE_OFF alone, RUN any
state, HOLD all but ACTIVE, SERVICE all but ACTIVE and HOLD; EMPTY is allowed everywhere. (That boot bounds regions as SAFE_OFF does
is the model's reading: log 2.) -/
def Obligations.StepsKeepRegionsAdmitted : Prop :=
  ∀ s t : State,
    let admitted (u : State) : Prop := ∀ e ∈ u.regions,
      e.2.st = .empty ∨ e.2.st = .safeOff ∨ u.md.mode = .run ∨
      (u.md.mode = .hold ∧ e.2.st ≠ .active) ∨ (u.md.mode = .service ∧ (e.2.st = .service ∨ e.2.st = .mending))
    admitted s → step s = .next t → admitted t

/-- The state after a cold reset has what the step invariants ask for: no region is out of the mode's states, device DRAM is in
canonical form with nothing listed, no object lives, and nothing waits.
The values that the spec gives for a cold reset: MOD_MODE reads 7 (boot), every region is EMPTY, the generation of every index is
1 and its class's free list starts at index 0, elapsed time and PTP time are 0, the servo is in FREERUN with no adjustment, no line
source is designated, every ring is DOWN, every register reads its reset value, and the locks are free.
(Model's choices and readings in it: log 12.) -/
def Obligations.ResetState : Prop :=
  (
    regionsAdmitted State.reset = true ∧ dramWf State.reset = true ∧ State.reset.mem.dram = [] ∧ State.reset.objs = [] ∧
    State.reset.pending = [] ∧ NothingDue State.reset) ∧
  (
    let r := State.reset
    r.md.mode = .boot ∧ modeCode r.md.mode = 7 ∧ (∀ i, regionSt r i = .empty) ∧ (∀ c i, genOf r c i = 1) ∧
    (∀ c, freeList r c = { fresh := 0, back := [] }) ∧ r.time.elapsed = 0 ∧ r.time.ptp = 0 ∧ r.time.frame = 0 ∧
    r.time.servo = .freerun ∧ r.time.fadj = 0 ∧ r.line.desig = none ∧ (∀ i, (ringAt r i).st = .down) ∧
    (∀ off, reg r off = regReset off) ∧ (∀ a, memByte r.mem.dram a = 0))

/-- R512, as the phase after the command: while the device is held in cold reset every output is off; in boot SAFE_STATE is driven low
and the link and the outputs are off; in DORMANT the link is silent; in PREPARE and SAFE_OFF every link frame carries KILL, and
SAFE_STATE toggles; in the modes of motion the link carries motion and SAFE_STATE is driven low, unless a SAFE_OFF pin is accepted,
when it toggles and every frame carries KILL. The DOUT levels and drives are those of the pins outside boot, the drives none
while their bank is off, and the serial clocks of the local encoder pins run, but in DORMANT, where they are high.
(Model's choices and readings in it: log 81.) -/
def Obligations.OutputsFollowThePhase : Prop :=
  ∀ (c : Instr) (s t : State), exec c s = .next t →
    (t.md.held = true → t.out = {}) ∧
    (t.md.held = false → t.md.mode = .boot → t.out = { dout := 0, drive := 0, safeState := 1, link := 0, encClock := 0 }) ∧
    (t.md.held = false → t.md.mode ≠ .boot →
      t.out.dout = t.pins.dout ∧ t.out.drive = (if bankOn t 4 then t.pins.oe else 0) ∧
      (t.out.encLevels = if t.md.mode = .dormant then t.pins.encDrives.map (fun e => (e.1, 255)) else t.pins.encDrives) ∧
      (t.md.mode = .dormant → t.out.link = 0 ∧ t.out.safeState = 2) ∧
      (t.md.mode = .prepare ∨ t.md.mode = .safeOff ∨ pinAccepted t = true → t.md.mode ≠ .dormant → t.out.link = 1 ∧ t.out.safeState = 2) ∧
      (t.md.mode = .run ∨ t.md.mode = .hold ∨ t.md.mode = .service → pinAccepted t = false → t.out.link = 2 ∧ t.out.safeState = 1))

/-- What every command may change beside its own effect is the closing work of warm starts, the graph, the regions' bound and the
outputs. It leaves alone everything listed here: the time unit, the line axis and its sources, objects, generations and free lists,
arms, joints, the channels, conversion, bus groups, profiles, gears, step inputs, the guard, mailboxes and locks, mode and boot
state, security and debug, pins, the Care Label, and every byte of device DRAM.
An event from outside, in a state with no boundary work outstanding, finds the state as it was but for the instant within the frame
and the count of free values: the frame number, the frequency adjustment and every other field stay, the cycle does not go back,
and both readings advance by the same amount (the instant is free: log 3).
(Model's choices and readings in it: log 3 and 9.) -/
def Obligations.WhatEveryCommandMayChange : Prop :=
  (
    ∀ s t : State,
      let u := leave s t
      u.pending = s.pending ∧ u.due = t.due ∧ u.time = t.time ∧ u.line = t.line ∧ u.srcs = t.srcs ∧ u.objs = t.objs ∧ u.gens = t.gens ∧
      u.frees = t.frees ∧ u.arms = t.arms ∧ u.joints = t.joints ∧ u.cchans = t.cchans ∧ u.cnv = t.cnv ∧ u.fbchs = t.fbchs ∧
      u.buses = t.buses ∧ u.profiles = t.profiles ∧ u.gears = t.gears ∧ u.stepIns = t.stepIns ∧ u.grd = t.grd ∧ u.mbx = t.mbx ∧
      u.md = t.md ∧ u.sec = t.sec ∧ u.pins = t.pins ∧ u.care = t.care ∧ (∀ a, memByte u.mem.dram a = memByte t.mem.dram a)) ∧
  (
    ∀ s : State, NothingDue s →
      let a := atArrival s
      ∃ n : Nat, a = { s with free := s.free + 1,
                              time := { s.time with cycle := s.time.cycle + n, elapsed := s.time.elapsed + n * cycleU s,
                                                    ptp := s.time.ptp + n * cycleU s } } ∧
        (clockRuns s = false → n = 0))

/-- While the device is held in cold reset, a command of the link, of time, of the host, of the presses, of the health manager and of
every other unit has no effect of its own: the state that it leaves is that in which it finds the device, through the closing
work. The commands of actsWhileHeld act on the reset, the rails or the pins themselves.
(Model's choices and readings in it: log 25 and 81.) -/
def Obligations.HeldDeviceTakesNothing : Prop :=
  ∀ (c : Instr) (s : State), wellFormed c = true → actsWhileHeld c = false → s.md.held = true → NothingDue s →
    exec c s = .next (leave s s) ∨ exec c s = .next (leave s { s with free := s.free + 1 })

/-! ### Time, Ethernet and the line axis -/

/-- R54: TIM_SNAP.TAKE captures PTP time, elapsed time, the frame count and the line axis of one control-clock cycle for the requester,
and leaves every other requester's snapshot and every other field as it was. -/
def Obligations.SnapshotTakesOneInstant : Prop :=
  ∀ (s a : State) (req : Fin 64), FindsReg s a req 0x40080 →
    let snaps := mput a.time.snaps req { ptp := a.time.ptp, elapsed := a.time.elapsed, frame := a.time.frame, line := a.line.line }
    exec (.timSnapTake req) s = .next (leave s { a with time := { a.time with snaps := snaps } }) ∧
    mget snaps req = some { ptp := a.time.ptp, elapsed := a.time.elapsed, frame := a.time.frame, line := a.line.line } ∧
    ∀ q : Nat, q ≠ req → mget snaps q = mget a.time.snaps q

/-- R62: with SERVO_EN set and HOLDOVER_FORCE clear, the offset of a Sync received on an enabled port whose role admits a slave, and
of the port's own domain (0 under gPTP), which less ETH_ASYM
lies within TIM_JUMPTH, makes the port the one in SLAVE state and moves a servo in LOCKING or LOCKED: the integrator grows by KI times the offset, the adjustment is KP
times the offset plus the integrator, clamped to the limit of TIM_PPM, and the run of offsets within TIM_LOCKTH grows or starts
anew; the sixteenth in LOCKING enters LOCKED and raises TIM_LOCKED. Nothing is stepped.
(Model's choices and readings in it: log 4, 10 and 24.)
R62 and R63: beyond TIM_JUMPTH, a LOCKED servo without an armed step goes to HOLDOVER with cause refused and raises TIM_HOLDOVER and
TIM_JUMP_REFUSED; with an armed step whose bound admits the offset, the step is due at the next frame boundary, the servo goes to
LOCKING, TIM_STEPPED is raised, and the authorisation is spent. A Sync of another domain, or on a port that is no slave, has no effect. -/
def Obligations.ServoFollowsOffsets : Prop :=
  (
    ∀ (s a : State) (p : Fin 4) (o : Int) (gm : Word64) (dom : BitVec 8), Finds s a →
      (let c := reg a (0x50000 + 0x1000 * p)
       (bits c 0 2 = 1 ∨ bits c 0 2 = 3) ∧ (bits c 3 2 ≠ 3 ∨ bit c 6 = true) ∧ dom.toNat = (if bit c 6 then 0 else bits c 8 7)) →
      let e := o - sx 64 (reg64 a (0x50018 + 0x1000 * p))
      bit (reg a 0x40000) 0 = true → bit (reg a 0x40000) 2 = false → (e.natAbs : Int) ≤ (reg a 0x40040 : Int) * 65536 →
      (a.time.servo = .locked ∨ a.time.servo = .locking) →
      let b := syncFrom a p gm.toNat dom.toNat
      let g := reg a 0x4004C
      let integ := a.time.integ + (bits g 16 16 : Int) * e
      let lim : Int := (reg a 0x40048 : Int) * 4294967296
      let n := if (e.natAbs : Int) ≤ (reg a 0x40044 : Int) * 65536 then a.time.lockCount + 1 else 0
      let t : TimeSt := { b.time with
        offset := e, integ := integ, lockCount := n,
        fadj := divFree 7 (clampI ((bits g 0 16 : Int) * e + integ) (-lim) lim) 16777216 }
      b.time = { a.time with activePort := p, gm := gm.toNat, domain := dom.toNat, eth := b.time.eth,
                             lostAt := a.time.elapsed + 3 * logSeconds (bits (reg a (0x50000 + 0x1000 * p)) 16 4) } ∧
      { b with time := a.time, free := a.free } = a ∧ (∀ q, q < 4 → ((ethAt b q).state = 9 ↔ q = p.val)) ∧
      (a.time.servo = .locked ∨ n < 16 → exec (.ptpSyncOffset p o gm dom) s = .next (leave s { b with time := t })) ∧
      (a.time.servo = .locking → 16 ≤ n →
        exec (.ptpSyncOffset p o gm dom) s =
          .next (leave s (raise { b with time := { t with servo := .locked, holdCause := 0 } } .timLocked 0 (un 32 t.fadj) (blockOrigin 6))))) ∧
  (
    ∀ (s a : State) (p : Fin 4) (o : Int) (gm : Word64) (dom : BitVec 8), Finds s a →
      (let c := reg a (0x50000 + 0x1000 * p)
       (bits c 0 2 = 0 ∨ bits c 0 2 = 2 ∨ (bits c 3 2 = 3 ∧ bit c 6 = false) ∨ dom.toNat ≠ (if bit c 6 then 0 else bits c 8 7) →
         exec (.ptpSyncOffset p o gm dom) s = .next (leave s a)) ∧
       ((bits c 0 2 = 1 ∨ bits c 0 2 = 3) ∧ (bits c 3 2 ≠ 3 ∨ bit c 6 = true) ∧ dom.toNat = (if bit c 6 then 0 else bits c 8 7) →
      let e := o - sx 64 (reg64 a (0x50018 + 0x1000 * p))
      bit (reg a 0x40000) 0 = true → a.time.servo = .locked → (reg a 0x40040 : Int) * 65536 < e.natAbs →
      let u := syncFrom a p gm.toNat dom.toNat
      let b : TimeSt := { u.time with offset := e }
      (a.time.stepArmed = none →
        let r := raise (raise { u with time := { b with servo := .holdover, holdCause := 1 } } .timHoldover 0 1 (blockOrigin 6))
          .timJumpRefused 0 (un 64 (divFree 6 e 65536)) (blockOrigin 6)
        exec (.ptpSyncOffset p o gm dom) s = .next (leave s { r with time := { r.time with stepArmed := none } })) ∧
      (∀ m, a.time.stepArmed = some m → (m = 0 ∨ e.natAbs ≤ m * 65536) →
        let r := raise { u with time := { b with stepDue := some (b.stepDue.getD 0 + e) } } .timStepped 0
          (un 64 (-(divFree 6 e 65536))) (blockOrigin 6)
        exec (.ptpSyncOffset p o gm dom) s =
          .next (leave s { r with time := { r.time with servo := .locking, holdCause := 0, lockCount := 0, stepArmed := none } })))))

/-- R61 and R62: three sync intervals without a Sync, or the announce receipt timeout (a free value of the model, log 10), leave no port
in SLAVE state and take a LOCKED servo to HOLDOVER with cause lost; 0 written to SERVO_EN or 1 to HOLDOVER_FORCE takes
LOCKING or LOCKED to HOLDOVER with cause forced; in FREERUN neither write changes the servo; with SERVO_EN 1 and HOLDOVER_FORCE 0
the forced cause ends. -/
def Obligations.HoldoverCauses : Prop :=
  ∀ s a : State,
    (Finds s a →
      let b := { a with free := a.free + 1 }
      let u := (slavesBut b 4).foldl (decidePort false) b
      let lost := if a.time.servo = .locked then
          raise { u with time := { u.time with activePort := 15, servo := .holdover, holdCause := 2 } } .timHoldover 0 2 (blockOrigin 6)
        else { u with time := { u.time with activePort := 15 } }
      (∀ q, q < 4 → (ethAt u q).state ≠ 9) ∧ u.time = { a.time with activePort := u.time.activePort, eth := u.time.eth } ∧
      { u with time := a.time, free := a.free } = a ∧
      (a.time.elapsed < a.time.lostAt →
        exec .ptpMasterLost s = .next (leave s (if Config.announceOut a.free then lost else b))) ∧
      (a.time.lostAt ≤ a.time.elapsed → exec .ptpMasterLost s = .next (leave s lost))) ∧
    ∀ (req : Fin 64) (v : Bool), FindsReg s a req 0x40000 →
      let e := setReg a 0x40000 (setBit (reg a 0x40000) 0 v)
      let h := setReg a 0x40000 (setBit (reg a 0x40000) 2 v)
      (∀ (i : Instr) (u : State), (i = .timServoEnWrite req v ∧ u = e) ∨ (i = .timHoldoverForceWrite req v ∧ u = h) →
        let forced := bit (reg u 0x40000) 0 = false ∨ bit (reg u 0x40000) 2 = true
        (a.time.servo = .freerun → exec i s = .next (leave s u)) ∧
        (forced → a.time.servo = .locked ∨ a.time.servo = .locking →
          ∃ r, exec i s = .next (leave s (raise r .timHoldover 0 3 (blockOrigin 6))) ∧ r.time.servo = .holdover ∧ r.time.holdCause = 3 ∧
            { r with time := a.time } = u) ∧
        (¬forced → a.time.servo = .holdover → a.time.holdCause = 3 →
          exec i s = .next (leave s { u with time := { a.time with holdCause := 0 } })))

/-- R56 and R57: on an enabled port a management message is discarded and counted; an event message received is stamped with PTP time
less the ingress correction, and one sent leaves with PTP time plus the egress correction: a message that is not one-step leaves as
it was built, and a one-step one over UDP/IPv4 with the UDP checksum 0x0000 (R59); a message of the other delay mechanism, or one
before its interval has run, is not sent. A disabled port takes nothing. Which fraction a stamp keeps is free (log 4), and a message
that ends a measurement of the delay leaves ETH_MPD free (log 10). -/
def Obligations.PtpMessagesAreStamped : Prop :=
  ∀ (s a : State) (p : Fin 4) (m : PtpMsg), Finds s a →
    let c := reg a (0x50000 + 0x1000 * p)
    let e := ethAt a p
    let now := divFree 8 a.time.ptp 31250000
    (portOff a p = false → m.management = true →
      exec (.ptpMessageRx p m) s = .next (leave s (bump a (0x5002C + 0x1000 * p)))) ∧
    (portOff a p = false → m.management = false → m.event = true →
      let r := { e with rxStamp := now - sx 64 (reg64 a (0x50008 + 0x1000 * p)) }
      (beNat (takeBytes m.body 4 1) ≠ (if bit c 6 then 0 else bits c 8 7) ∨ m.kind < 3 →
        exec (.ptpMessageRx p m) s = .next (leave s (withEth a p r))) ∧
      (m.kind = 3 → beNat (takeBytes m.body 4 1) = (if bit c 6 then 0 else bits c 8 7) → bit c 2 = true ∨ bit c 6 = true →
        ∃ d : Int, exec (.ptpMessageRx p m) s =
          .next (leave s (withEth { withEth a p r with free := a.free + 1 } p { r with mpd := d })))) ∧
    (ptpSends a p m = false → exec (.ptpMessageTx p m) s = .next (leave s a)) ∧
    (ptpSends a p m = true →
      let t := { e with txStamp := now + sx 64 (reg64 a (0x50010 + 0x1000 * p)),
                        syncTx := if m.kind = 0 then some a.time.elapsed else e.syncTx,
                        pdelayTx := if m.kind = 2 then some a.time.elapsed else e.pdelayTx }
      (bit c 5 = false ∨ (m.kind ≠ 0 ∧ m.kind ≠ 3) →
        exec (.ptpMessageTx p m) s = .next (leave s (withEth a p { t with txMsg := m.body, txSum := none }))) ∧
      (bit c 5 = true → m.kind = 0 ∨ m.kind = 3 → bits c 3 2 = 1 → bit c 6 = false →
        exec (.ptpMessageTx p m) s = .next (leave s (withEth a p { t with txMsg := oneStep a p m, txSum := some 0 })))) ∧
    (bits c 0 2 = 0 → m.event = false → exec (.ptpMessageRx p m) s = .next (leave s a))

/-- R60: ETH_GCL_CTRL.APPLY takes the first LEN entries of the administrative list with its base and cycle; its first cycle start is the
first one, by PTP time, at or after the base from then on, and it makes the list the operational one, from entry 0. While the gates
run, the end of an entry's interval inside a cycle puts the next entry in force, and the end of the cycle the first. -/
def Obligations.GateListsRun : Prop :=
  ∀ (s a : State) (p : Fin 4),
    let e := ethAt a p
    (∀ req : Fin 64, FindsReg s a req (0x50200 + 0x1000 * p) →
      ∃ l : List (Nat × Nat), exec (.ethGclApply req p) s =
          .next (leave s (withEth a p { e with
            admin := some (l, reg64 a (0x50204 + 0x1000 * p), reg a (0x5020C + 0x1000 * p)),
            adminStart := cycleStart (reg64 a (0x50204 + 0x1000 * p)) (reg a (0x5020C + 0x1000 * p)) (ptpNs a) })) ∧
        l.length = bits (reg a (0x50200 + 0x1000 * p)) 0 7 ∧
        ∀ i, i < l.length → l[i]? = some (bits (reg a (0x50100 + 0x1000 * p + 4 * i)) 0 8, bits (reg a (0x50100 + 0x1000 * p + 4 * i)) 8 24)) ∧
    (∀ (l : List (Nat × Nat)) (b c : Nat), Finds s a → e.admin = some (l, b, c) →
      (ptpNs a < e.adminStart → exec (.ethGclSwitch p) s = .next (leave s a)) ∧
      (e.adminStart ≤ ptpNs a →
        exec (.ethGclSwitch p) s = .next (leave s (withEth a p { e with
          oper := l, operBase := b, operCycle := c, admin := none, entry := 0, entryAt := a.time.elapsed, cycleEnd := cycleEndAt a b c })))) ∧
    (∀ (b c : Nat) (t : Int), 0 < c → t ≤ cycleStart b c t ∧ (b : Int) ≤ cycleStart b c t ∧ (cycleStart b c t - b) % c = 0 ∧
      (cycleStart b c t = b ∨ cycleStart b c t < t + c)) ∧
    (Finds s a → bit (reg a (0x50200 + 0x1000 * p)) 8 = true → e.oper ≠ [] →
      (e.cycleEnd ≤ a.time.elapsed →
        exec (.ethGateInterval p) s = .next (leave s (withEth a p { e with
          entry := 0, entryAt := e.cycleEnd, cycleEnd := cycleEndAt a e.operBase e.operCycle }))) ∧
      (∀ x, a.time.elapsed < e.cycleEnd → e.entry + 1 < e.oper.length → e.oper[e.entry]? = some x →
        e.entryAt + x.2 * nsU ≤ a.time.elapsed →
        exec (.ethGateInterval p) s = .next (leave s (withEth a p { e with
          entry := e.entry + 1, entryAt := e.entryAt + x.2 * nsU }))))

/-- R47 and R49: a frame that is not 48 bytes, has another MAGIC or VERSION, names another grandmaster or domain, or comes while the servo
is in FREERUN is dropped and counted. A frame that a live publication source of its stream, port, group and UDP port takes, later
in sequence, replaces that source's sample and ends its staleness; while the source is not designated nothing else changes. R46:
a publication source older than its age limit goes stale, freezes the axis if it is designated, and raises LINE_SRC_STALE.
R313 to R316: a datagram at another UDP port or at a port that is not selected has no effect; one that breaks the format (length,
MAGIC, VERSION, checksum) is dropped and counted. One whose at most 16 records are all well formed and name zones no two alike,
from the clock that this device follows, not from the future, of an enabled stream and later in sequence, is held for its stream
with the present instant, and the tracks of that stream have been seen; no fault flag ends a loss. A stream from which no frame
has come for GRD_STREAM_LIMIT, while the guard runs, is lost with cause 1, and GRD_STREAM_LOST is raised for its regions.
(Model's choices and readings in it: log 55.) -/
def Obligations.PublicationsAndTracks : Prop :=
  (
    ∀ s a : State,
      (∀ (p : Fin 4) (g : BitVec 128) (u : BitVec 16) (f : List Byte), Finds s a →
        let n (o k : Nat) : Nat := beNat (takeBytes f o k)
        let wrong := f.length ≠ 48 ∨ n 0 4 ≠ 0x4C505542 ∨ n 4 1 ≠ 1 ∨ n 38 8 ≠ a.time.gm ∨ n 46 1 ≠ a.time.domain ∨ a.time.servo = .freerun
        (wrong → exec (.linePubRx p g u f) s = .next (leave s (bump a 0x40074))) ∧
        (∀ (i q : Nat) (x : LineSrc), ¬wrong → pubTarget a p g.toNat u.toNat (n 6 2) = some i → mget a.srcs i = some x →
          x.lastSeq = some q → 1 ≤ (n 8 4 + 4294967296 - q) % 4294967296 → (n 8 4 + 4294967296 - q) % 4294967296 < 2147483648 →
          a.line.desig ≠ some i →
          let y := { x with lastSeq := some (n 8 4), t0 := (n 12 6 : Int) * 1000000000 + n 18 4, l0 := n 22 8, speed := sx 32 (n 30 4),
                            accel := sx 32 (n 34 4), stopped := bit (n 5 1) 0, srcFault := bit (n 5 1) 3, stale := false }
          exec (.linePubRx p g u f) s = .next (leave s { a with srcs := mmod a.srcs i (fun _ => y) }))) ∧
      (∀ (i : Fin 16), FindsUnit s a → isLive a cLINESRC i = true → (srcAt a i).pub = true → (srcAt a i).stale = false →
        ((srcAt a i).ageUs * usU : Int) < a.time.ptp - (srcAt a i).t0 * nsU →
        ∃ u, exec (.lineSourceStale i) s =
            .next (leave s (raise u .lineSrcStale (handleOf u cLINESRC i) (((a.time.ptp - (srcAt a i).t0 * nsU) / usU).toNat) (blockOrigin 6))) ∧
          u.srcs = mmod a.srcs i (fun x => { x with stale := true }) ∧
          (a.line.desig = some i.val → u.line = { a.line with frozen := true }) ∧ (a.line.desig ≠ some i.val → u.line = a.line) ∧
          { u with srcs := a.srcs, line := a.line } = a)) ∧
  (
    ∀ s a : State, Finds s a →
      (∀ (p : Fin 4) (u : BitVec 16) (f : List Byte),
        let ctl := reg a 0x210048
        let w (o k : Nat) : Nat := beNat (takeBytes f o k)
        let n := w 5 1
        let recs := ((List.range n).map fun i => trackRec f (32 + 32 * i)).filterMap id
        let form := f.length = 36 + 32 * n ∧ w 0 4 = 0x4754524B ∧ w 4 1 = 1 ∧ n ≤ 16 ∧ w (32 + 32 * n) 4 = crc32 (f.take (32 + 32 * n))
        (u.toNat ≠ bits ctl 0 16 ∨ bit (bits ctl 16 4) p = false → exec (.trackFrameRx p u f) s = .next (leave s a)) ∧
        (u.toNat = bits ctl 0 16 → bit (bits ctl 16 4) p = true → ¬form →
          exec (.trackFrameRx p u f) s = .next (leave s (bump a 0x210044))) ∧
        (∀ i q : Nat, u.toNat = bits ctl 0 16 → bit (bits ctl 16 4) p = true → form → recs.length = n →
          (dedup (recs.map Prod.fst)).length = n → w 22 8 = a.time.gm → w 30 1 = a.time.domain → a.time.servo ≠ .freerun →
          (w 12 6 : Int) * 1000000000 + w 18 4 ≤ ptpNs a + 1000 → streamBlock a (w 6 2) = some i → (streamAt a i).seq = some q →
          1 ≤ (w 8 4 + 4294967296 - q) % 4294967296 → (w 8 4 + 4294967296 - q) % 4294967296 < 2147483648 → bit (w 31 1) 0 = false →
          let x := { streamAt a i with
            seq := some (w 8 4), seqShow := w 8 4, meas := some ((w 12 6 : Int) * 1000000000 + w 18 4), fault := false,
            since := a.time.elapsed, recs := recs.foldl (fun m e => mput m e.1 e.2) [], lost := 0 }
          ∃ g : GrdSt, exec (.trackFrameRx p u f) s = .next (leave s { a with grd := g }) ∧ mget g.streams i = some x ∧
            (∀ j, j ≠ i → mget g.streams j = mget a.grd.streams j) ∧
            g.tracks = a.grd.tracks.map (fun e => if e.2.stream = i then (e.1, { e.2 with seen := true }) else e) ∧
            { g with streams := a.grd.streams, tracks := a.grd.tracks } = a.grd)) ∧
      (∀ i : Fin 8, a.grd.running = true → bit (reg a (0x210100 + 0x10 * i)) 0 = true → (streamAt a i).lost = 0 →
        reg a 0x210018 * usU ≤ a.time.elapsed - (streamAt a i).since →
        let b := { a with grd := { a.grd with streams := mput a.grd.streams i { streamAt a i with lost := 1 } } }
        exec (.trackStreamLost i) s =
          .next (leave s (raiseIn b .grdStreamLost 0 (i + 256) (origin 0x13 0xFFFF)
            (maskList (bits (reg a (0x210104 + 0x10 * i)) 0 16) 16)))))

/-! ### Pins, resets, boot and power -/

/-- R92: an accepted pin is recorded, and the device acts on it at the next boundary; a released pin is recorded; the instant at which the
accepted states began to differ is kept while they differ and forgotten when they agree; after more than 5 ms of elapsed time
RYL_KILL_DISCREPANCY is raised once for the episode, with the null handle, the origin of the port block, 0xFF in detail byte 0 and
the accepted states in byte 2. -/
def Obligations.SafeOffPins : Prop :=
  ∀ (s a : State),
    let since (x y : Bool) : Option Nat := if x = y then none else if a.md.discrep.isSome then a.md.discrep else some a.time.elapsed
    let base (x y : Bool) : ModSt := { a.md with
      pinA := x, pinB := y, discrep := since x y, discrepRaised := if x = y then false else a.md.discrepRaised,
      pinSince := if a.md.pinA || a.md.pinB then a.md.pinSince else a.time.elapsed }
    (FindsOn s a →
      exec (.safeOffPinAccept 0) s = .next (leave s { a with md := { base true a.md.pinB with pinDue := true } }) ∧
      exec (.safeOffPinAccept 1) s = .next (leave s { a with md := { base a.md.pinA true with pinDue := true } }) ∧
      exec (.safeOffPinRelease 0) s = .next (leave s { a with md := base false a.md.pinB }) ∧
      exec (.safeOffPinRelease 1) s = .next (leave s { a with md := base a.md.pinA false })) ∧
    (∀ t : Nat, Finds s a → a.md.discrep = some t →
      (t + 5 * msU < a.time.elapsed → a.md.discrepRaised = false →
        exec .killDiscrepancy s = .next (leave s (raise { a with md := { a.md with discrepRaised := true } } .rylKillDiscrepancy 0
          (255 + (b2n a.md.pinA + 2 * b2n a.md.pinB) * 65536) (origin 0x08 0xFFFF)))) ∧
      (a.time.elapsed ≤ t + 5 * msU ∨ a.md.discrepRaised = true → exec .killDiscrepancy s = .next (leave s a)))

/-- R551: a level that the glitch filter passes becomes the raw level after INVERT, with the WALL32 of the first of its cycles; with
DEBOUNCE 0 it is the filtered level at once, otherwise the window restarts; when the window ends the raw level becomes the filtered
one. A change that leaves the raw level as it was restarts nothing. PF0 alone writes a filter configuration, and a DEBOUNCE above
1000 is not accepted. (Homing sequences that use the pin see its raw level: homeDinChange.)
(Model's choices and readings in it: log 74.) -/
def Obligations.DinStages : Prop :=
  ∀ (s a : State) (n : Fin 64),
    let put (d : Din) : State := { a with pins := { a.pins with dins := mput a.pins.dins n d } }
    let d := dinAt a n
    let win := bits (reg a (0x11100 + 4 * n)) 8 10
    (∀ v : Bool, FindsOn s a → a.md.held = false → bankOn a (if n.val < 32 then 2 else 3) = true →
      let raw := (v != bit (reg a (0x11100 + 4 * n)) 18)
      let ts := un 32 (floorDiv (a.time.ptp - bits (reg a (0x11100 + 4 * n)) 0 8 * cycleU a) nsU)
      (d.raw = raw → exec (.dinChange n v) s = .next (leave s (put { d with pin := v }))) ∧
      (d.raw ≠ raw → win = 0 →
        exec (.dinChange n v) s =
          .next (leave s (homeDinChange (put { d with pin := v, raw := raw, rawTs := ts, level := raw, ends := none }) n))) ∧
      (d.raw ≠ raw → win ≠ 0 →
        let e := some (a.time.elapsed + win * 10 * usU)
        exec (.dinChange n v) s = .next (leave s (homeDinChange (put { d with pin := v, raw := raw, rawTs := ts, ends := e }) n)))) ∧
    (Finds s a →
      (∀ t, d.ends = some t → t ≤ a.time.elapsed →
        exec (.dinDebounceExpiry n) s = .next (leave s (put { d with level := d.raw, ends := none }))) ∧
      (d.ends = none → exec (.dinDebounceExpiry n) s = .next (leave s a))) ∧
    (∀ (req : Fin 64) (w : Word), FindsReg s a req (0x11100 + 4 * n) →
      (req.val ≠ 32 ∨ 1000 < bits w.toNat 8 10 → exec (.dinCfgWrite req n w) s = .next (leave s a)) ∧
      (req.val = 32 → bits w.toNat 8 10 ≤ 1000 →
        let b := setReg a (0x11100 + 4 * n) (w.toNat % 524288)
        let raw := bankOn a (if n.val < 32 then 2 else 3) && (d.pin != bit w.toNat 18)
        let e : Din := { d with raw := raw, rawTs := wall32 a, level := raw, ends := none }
        let c := { b with pins := { a.pins with dins := mput a.pins.dins n e } }
        (w.toNat % 262144 ≠ reg a (0x11100 + 4 * n) % 262144 →
          exec (.dinCfgWrite req n w) s = .next (leave s (if d.raw = raw then c else homeDinChange c n))) ∧
        (w.toNat % 262144 = reg a (0x11100 + 4 * n) % 262144 → d.raw = raw →
          exec (.dinCfgWrite req n w) s = .next (leave s b))))

/-- R507 and R508: POWER_ON, a brown-out and PF0's write of 0x0000_C01D to MOD_RESET restart boot at stage 1 with every object, generation,
press, ring, register, latch and reading of time cleared, and DRAM with nothing in it; RESET_N and the loss of bank 0 do the same and
hold the device; RESET_N's release starts boot; PWR_OFF in DORMANT holds the device unpowered. The MRAM ledger, the page remap table
and the boot flash are kept. Any other write of MOD_RESET, and PWR_OFF in another mode, has no effect.
(Model's choices and readings in it: log 12, 74 and 77.) -/
def Obligations.ColdResets : Prop :=
  ∀ s a : State, atArrival s = a →
    let cleared (t : State) : Prop :=
      t.md.mode = .boot ∧ t.md.stage = 1 ∧ t.objs = [] ∧ t.gens = [] ∧ t.frees = [] ∧ t.regions = [] ∧ t.presses = [] ∧ t.regs = [] ∧
      t.time = {} ∧ t.line = {} ∧ t.host.rings = [] ∧ t.host.busMaster = [] ∧ t.flt = {} ∧ t.mem.dram = [] ∧ t.arms = [] ∧ t.joints = [] ∧
      t.profiles = [] ∧ t.hlt.ledger = a.hlt.ledger ∧ t.mem.remap = a.mem.remap ∧ t.sec.flashA = a.sec.flashA ∧
      t.sec.flashB = a.sec.flashB ∧ t.sec.lifecycle = a.sec.fused ∧ t.sec.sessions = []
    (∀ (b : BitVec 6) (l : BitVec 64), ∃ t, exec (.powerOn b l) s = .next (leave s t) ∧ cleared t ∧ t.md.resetCause = 1 ∧ t.md.off = false ∧
      t.md.held = a.sec.resetHeld ∧ t.pins.banks = b.toNat) ∧
    (∃ t, exec .resetNAccept s = .next (leave s t) ∧ cleared t ∧ t.md.resetCause = 2 ∧ t.md.held = true) ∧
    (a.sec.resetHeld = true → a.md.off = false → a.profiles = [] →
      ∃ t, exec .resetNRelease s = .next (leave s t) ∧ t.md = { a.md with held := false } ∧ t.sec.resetHeld = false ∧
        t.time = a.time ∧ t.objs = a.objs) ∧
    (a.md.off = false → a.sec.resetHeld = false →
      ∃ t, exec .brownOut s = .next (leave s t) ∧ cleared t ∧ t.md.resetCause = 4 ∧ t.md.held = false) ∧
    (∀ l : BitVec 64, ∃ t, exec (.bankPowerChange 0 false l) s = .next (leave s t) ∧ t.md.off = true ∧ t.md.held = true ∧ t.md.mode = .boot ∧
      t.objs = [] ∧ t.regs = [] ∧ t.time = {} ∧ bit t.pins.banks 0 = false) ∧
    (∀ (b : Fin 6) (v : Bool) (l : BitVec 64), a.md.held = true → b ≠ 0 →
      ∃ t, exec (.bankPowerChange b v l) s = .next (leave s t) ∧ t.pins.banks = setBit a.pins.banks b v ∧ t.md = a.md ∧ t.regs = a.regs ∧
        t.objs = a.objs) ∧
    (a.md.held = false → ∀ (req : Fin 64) (w : Word), reqReach a req 0x10014 = true →
      (req.val = 32 → w = 0x0000C01D → a.sec.resetHeld = false →
        ∃ t, exec (.modResetWrite req w) s = .next (leave s t) ∧ cleared t ∧ t.md.resetCause = 8) ∧
      (req.val ≠ 32 ∨ w ≠ 0x0000C01D → exec (.modResetWrite req w) s = .next (leave s a))) ∧
    (a.md.held = false → ∀ req : Fin 64, reqReach a req 0x10804 = true →
      (req.val = 32 → a.md.mode = .dormant →
        ∃ t, exec (.pwrOff req) s = .next (leave s t) ∧ cleared t ∧ t.md.off = true ∧ t.md.held = true) ∧
      (req.val ≠ 32 ∨ a.md.mode ≠ .dormant → exec (.pwrOff req) s = .next (leave s a)))

/-- R508: PERST_N takes the link down, clears every function's Bus Master Enable and interrupt masks and the VFs, and is recorded in
PERST_SEEN. R505: after its release the link is up, and configuration answers with retry only
while boot has neither completed nor failed. R409: Bus Master Enable lets a function fetch from the next frame. R412: its clearing,
an FLR and the clearing of VF Enable reset the functions that they name; an FLR also returns the function's register block but for
QUOTA, REGIONS and GROUPS, masks its vectors and raises HST_FLR.
(Model's choices and readings in it: log 64 and 76.) -/
def Obligations.HostAndFunctionResets : Prop :=
  ∀ s a : State, atArrival s = a →
    (a.md.held = false → ∃ t, exec .perstNAssert s = .next (leave s t) ∧ t.host.perst = true ∧ t.host.linkUp = false ∧
      t.host.busMaster = [] ∧ t.host.numVf = 0 ∧ t.host.unmasked = [] ∧ t.md.perstSeen = true) ∧
    (exec .perstNRelease s = .next (leave s { a with host := { a.host with
      perst := false, linkUp := !a.md.held, crs := decide (a.md.mode = .boot) && decide (a.md.fail = 0) } })) ∧
    (hostLink a = true → ∀ f : Fin 16,
      (mhas a.host.busMaster f = false → exec (.busMasterSet f) s = .next (leave s { a with host := { a.host with
        busMaster := mput a.host.busMaster f (a.time.frame + 1), numVf := Nat.max a.host.numVf f } })) ∧
      (mhas a.host.busMaster f = true → exec (.busMasterSet f) s = .next (leave s a) ∧
        exec (.busMasterClear f) s = .next (leave s (fnReset a f 4))) ∧
      (∃ t, exec .vfEnableClear s = .next (leave s { t with host := { t.host with numVf := 0 } }) ∧
        t = ((List.range 15).map (· + 1)).foldl (fun s f => fnReset s f 5) a) ∧
      (f ≠ 0 → ∃ t u : State, exec (.flr f) s = .next (leave s (raise u .hstFlr 0 f (origin 5 f))) ∧ t = fnReset a f 3 ∧
        u.host.unmasked = t.host.unmasked.filter (fun k => decide (k / 64 ≠ f.val)) ∧ u.time = t.time ∧ u.md = t.md ∧
        (∀ k, fnBlock f ≤ k → k < fnBlock f + 0x20 → reg u k = regReset k)))

/-- R504: a stage that completes starts the next; a stage that fails keeps its cause, ends configuration retry and stays where it is, and
no later report changes it. R506: PF0 starts the recovery after a failure at stage 2 or 3; an image of the written length that
passes the check of stage 3 continues boot at stage 4, any other is reported and leaves the failure with cause 5.
(Model's choices and readings in it: log 77.) -/
def Obligations.BootStages : Prop :=
  ∀ s a : State, Finds s a → a.md.mode = .boot →
    (∀ (ok : Bool) (c : Fin 10) (us : BitVec 32) (b : BootFacts),
      (a.md.fail ≠ 0 → exec (.bootStageDone ok c us b) s = .next (leave s a)) ∧
      (a.md.fail = 0 → ok = true → a.md.stage = 1 ∨ a.md.stage = 4 →
        exec (.bootStageDone ok c us b) s = .next (leave s { a with md := { a.md with stage := a.md.stage + 1 } })) ∧
      (a.md.fail = 0 → ok = true → a.md.stage = 2 →
        exec (.bootStageDone ok c us b) s =
          .next (leave s { a with md := { a.md with stage := 3 }, sec := { a.sec with rangeA := b.rangeA, rangeB := b.rangeB } })) ∧
      (a.md.fail = 0 → ok = false → a.md.stage = 1 ∨ a.md.stage = 2 ∨ a.md.stage = 4 ∨ a.md.stage = 6 →
        ∃ k, exec (.bootStageDone ok c us b) s =
            .next (leave s { a with md := { a.md with fail := k }, host := { a.host with crs := false } }) ∧
          (a.md.stage = 1 → k = 1 ∨ k = 2) ∧ (a.md.stage = 2 → k = 3 ∨ k = 4) ∧ (a.md.stage = 4 → k = 7 ∨ k = 8) ∧
          (a.md.stage = 6 → k = 9))) ∧
    (∀ req : Fin 64, reqReach a req 0x10034 = true →
      (req.val = 32 → a.md.fail ≠ 0 → a.md.stage = 2 ∨ a.md.stage = 3 →
        exec (.modRcvGo req) s = .next (leave s { a with md := { a.md with rcvBusy := true } })) ∧
      (req.val ≠ 32 ∨ a.md.fail = 0 → exec (.modRcvGo req) s = .next (leave s a))) ∧
    (∀ img : List Byte, a.md.rcvBusy = true →
      let b := { a with md := { a.md with rcvBusy := false } }
      (img.length = reg a 0x10030 → envelopeCheck b 1 img = 0 →
        exec (.recoveryImageDone img) s = .next (leave s { b with
          md := { b.md with stage := 4, fail := 0, recovery := true, commitSvn := bit (leNat (takeBytes img 7 1)) 1 },
          sec := { a.sec with fwSvn := sigSvn img (envelopeSig img) } })) ∧
      (img.length ≠ reg a 0x10030 ∨ envelopeCheck b 1 img ≠ 0 →
        let c := rejectImage b 1 (if img.length = reg a 0x10030 then envelopeCheck b 1 img else 1)
        exec (.recoveryImageDone img) s = .next (leave s { c with md := { c.md with fail := 5 } })))

/-- R511: an accepted TIMEOUT that is not 0 restarts the count and 0 stops it, either ending an expiry; a kick by PF0 restarts a running
count and ends an expiry; once TIMEOUT has passed since the last restart the watchdog is expired, and in RUN, HOLD or SERVICE, but in
no other mode, MOD_HOST_LOST is raised. Writes by other requesters have no effect.
R510 and R562: a reading is kept; the first one above 110 °C raises MOD_THERMAL, and the second in a row above 120 °C raises FLT_FATAL
with cause 4. R540: at a reading firmware moves the core rail by at most 10 mV, within 700 to 800 mV. R545: a rail outside its range raises MOD_SUPPLY, and rail 0's reading is kept. R480: the first loss of SYSREF raises
FLT_FATAL with cause 3. R499 and R538: P0 restored makes the change from DORMANT due when a MODE_SET waits for it, and awake parts
return the descriptors that wait for them to the next boundary.
(Model's choices and readings in it: log 75 and 82.) -/
def Obligations.WatchdogAndSupplies : Prop :=
  (
    ∀ s a : State, Finds s a →
      (∀ (req : Fin 64) (w : Word), reqReach a req 0x10018 = true →
        let t := w.toNat % 65536
        (req.val ≠ 32 → exec (.modHostwdWrite req w) s = .next (leave s a)) ∧
        (req.val = 32 → t = 0 → exec (.modHostwdWrite req w) s =
          .next (leave s { setReg a 0x10018 0 with md := { a.md with hostwd := none, expired := false } })) ∧
        (req.val = 32 → 10 ≤ t → t ≤ 60000 → exec (.modHostwdWrite req w) s =
          .next (leave s { setReg a 0x10018 t with md := { a.md with hostwd := some a.time.elapsed, expired := false } }))) ∧
      (∀ req : Fin 64, reqReach a req 0x1001C = true →
        (req.val = 32 → a.md.hostwd ≠ none → exec (.modHostwdKick req) s =
          .next (leave s { a with md := { a.md with hostwd := some a.time.elapsed, expired := false } })) ∧
        (req.val ≠ 32 → exec (.modHostwdKick req) s = .next (leave s a))) ∧
      (∀ t : Nat, a.md.hostwd = some t → a.md.expired = false → t + bits (reg a 0x10018) 0 16 * msU ≤ a.time.elapsed →
        let b := { a with md := { a.md with expired := true } }
        (a.md.mode = .run ∨ a.md.mode = .hold ∨ a.md.mode = .service →
          exec .hostWatchdogExpiry s = .next (leave s (raise b .modHostLost 0 (bits (reg a 0x10018) 0 16) oMOD))) ∧
        (a.md.mode ≠ .run → a.md.mode ≠ .hold → a.md.mode ≠ .service → exec .hostWatchdogExpiry s = .next (leave s b)))) ∧
  (
    ∀ s a : State, Finds s a →
      (∀ t : BitVec 16,
        let v := sx 16 t.toNat
        let old := a.pins.vcoreSet
        let gives (f : State → State) : Prop := ∃ k : Nat, 700 ≤ k ∧ k ≤ 800 ∧ (700 ≤ old → old ≤ 800 → k ≤ old + 10 ∧ old ≤ k + 10) ∧
          exec (.temperatureReading t) s = .next (leave s (f { a with free := a.free + 1, pins := { a.pins with vcoreSet := k } }))
        (v ≤ 110 * 256 → 105 * 256 ≤ v → a.pins.hotCount = 0 → gives fun b => { b with pins := { b.pins with tj := v } }) ∧
        (110 * 256 < v → v ≤ 120 * 256 → a.pins.hot = false → gives fun b =>
          raise { b with pins := { b.pins with tj := v, hot := true, hotCount := 0 } } .modThermal 0 t.toNat oMOD) ∧
        (120 * 256 < v → a.pins.hot = true → a.pins.hotCount = 1 → gives fun b =>
          raise { b with pins := { b.pins with tj := v, hot := true, hotCount := 2 } } .fltFatal 0 4 oFLT)) ∧
      (∀ (r : Fin 10) (more : Bool) (mv : BitVec 16) (lo hi : Nat),
        let set := if a.pins.vcoreSet = 0 then 750 else a.pins.vcoreSet
        (lo, hi) = (if r = 0 then (set - 20, set + 20) else if r = 1 then (1710, 1890) else if r = 2 then (810, 890)
          else if r = 3 then (1140, 1260) else (1650, 3630)) →
        let b := { a with pins := { a.pins with vcore := if r = 0 then mv.toNat else a.pins.vcore } }
        (mv.toNat < lo ∨ hi < mv.toNat ∨ (mv.toNat = hi ∧ more = true) →
          exec (.supplyReading r more mv) s = .next (leave s (raise b .modSupply 0 r oMOD))) ∧
        (lo ≤ mv.toNat → mv.toNat < hi ∨ (mv.toNat = hi ∧ more = false) → exec (.supplyReading r more mv) s = .next (leave s b))) ∧
      (a.pins.sysref = true →
        exec .sysrefLoss s = .next (leave s (raise { a with pins := { a.pins with sysref := false } } .fltFatal 0 3 oFLT))) ∧
      (a.md.waking ≠ [] → exec .p0Restored s = .next (leave s { a with md := { a.md with wakeDue := true } })) ∧
      (exec .partWake s = .next (leave s { a with
        pins := { a.pins with wake := a.pins.wake.map fun e => (e.1, 1) },
        host := { a.host with imm := a.host.asleep ++ a.host.imm, asleep := [] } })))

/-! ### The Ryris link -/

/-- R73 and R74: on a lane that is enabled, of a port that sends, a frame whose unscrambled bytes do not carry their CRC-32 is counted and
breaks the lane's run of valid frames, and no cell of it is valid. One that does, and comes in time, lengthens the run, brings the lane up at the sixty-fourth
in a row, marks which of the eight cells carry their own CRC-8 under the lane's prefix, and hands those to their heads in
position order; then the port's break is judged. On any other lane a frame has no effect. (Outside DETECT; in DETECT the run of 64
on every lane begins enumeration.)
(Model's choices and readings in it: log 26.) -/
def Obligations.UplinkFrames : Prop :=
  ∀ (s a : State) (p : Fin 16) (ln : Fin 2) (arr : BitVec 16) (ch : List Byte), Finds s a → ch.length = 119 →
    let b := decide (ln = 1)
    let x := portAt a p
    let bs := scramble (takeBytes ch 0 119)
    let crcOk := leNat (takeBytes bs 115 4) = crc32 (bs.take 115)
    let cell (c : Nat) : List Byte := takeBytes bs (3 + 14 * (c - 1)) 14
    let ok (c : Nat) : Bool := decide (leNat ((cell c).drop 13) = crc8 (BitVec.ofNat 8 ((if b then 0x50 else 0x40) + c) :: (cell c).take 13))
    let good := ((List.range 8).map (· + 1)).filter ok
    (portSends x = false ∨ laneOn a p b = false → exec (.rylUplinkFrame p ln arr ch) s = .next (leave s a)) ∧
    (portSends x = true → laneOn a p b = true → ¬crcOk →
      exec (.rylUplinkFrame p ln arr ch) s = .next (leave s
        (wearInput (cellsValid (modLane (bump a ((if b then 0x60018 else 0x60014) + 0x1000 * p)) p b fun l =>
          { l with good := 0, cells := [] }) p b []) 0 (2 * p + b2n b) 2))) ∧
    (portSends x = true → laneOn a p b = true → crcOk → x.st = 2 ∨ x.st = 3 →
      ∃ u,
        (let m := frameOfFn a (leNat (bs.take 2))
         let read (t : State) (c : Nat) : State := if copiesIn t p c m then headStatus t p c m (validCopies t p c m) else t
         let v := joinHeads (((List.range 8).map (· + 1)).foldl read (good.foldl (fun t c => headCell t p c m b (cell c)) u)) p
         (portAt v p).st ≠ 1 → exec (.rylUplinkFrame p ln arr ch) s = .next (leave s (judgeBreak v p))) ∧
        (∃ laps, laneOf (portAt u p) b = { laneOf x b with
          got := true, good := (laneOf x b).good + 1, bad := 0, up := (laneOf x b).up || decide (64 ≤ (laneOf x b).good + 1), cells := good,
          origin := some (bits (leNat (takeBytes bs 2 1)) 0 4), laps := laps }) ∧
        laneOf (portAt u p) (!b) = laneOf x (!b) ∧ { u with ryl := a.ryl } = a ∧ (∀ q, q ≠ p.val → portAt u q = portAt a q))

/-- R85: a port in DETECT for 2 ms fails with cause 1: it stops, and RYL_TRAIN_FAIL is raised; with nothing queued, its lanes are down and
everything else of it stays. R96: a head of a READY port that has missed two frames in a row is lost, and RYL_HEAD_LOST is raised for
its joint. R97: a lane up that has missed four frames in a row goes down, and RYL_LANE_DOWN is raised; while the other lane is up
the loss counts towards the lane's wear, and in MEASURE a port with no retired lane fails with cause 4 (R85).
R85 and R86: TRAIN on an enabled port that is OFF and whose regions are all SAFE_OFF or EMPTY starts DETECT at this instant with no head
present and no delay measured; a region in motion refuses it, and REFUSED shows that. On a port that is not enabled it starts nothing. R101: 1
written to EN enables the port, and 0 stops it at once.
(Model's choices and readings in it: log 26.) -/
def Obligations.LinkTrainingAndLosses : Prop :=
  (
    ∀ (s a : State) (p : Fin 16),
      let x := portAt a p
      let put (y : RPort) : State := { a with ryl := mput a.ryl p y }
      (Finds s a → x.st = 1 → x.since + 2 * msU ≤ a.time.elapsed → x.queue = [] → x.sent = [] →
        let down (l : RLane) : RLane := { l with up := false, good := 0, bad := 0, got := false, origin := none, idle := true }
        exec (.rylDetectTimeout p) s = .next (leave s (raise (put { x with st := 6, failCause := 1, setRun := none, a := down x.a, b := down x.b })
          .rylTrainFail 0 (p + 65536) (origin 0x08 p)))) ∧
      (Finds s a → x.st ≠ 1 → exec (.rylDetectTimeout p) s = .next (leave s a)) ∧
      (∀ c : Fin 8, FindsUnit s a → x.st = 5 → x.present.contains (c.val + 1) = true → (headAt a p (c + 1)).lost = false →
        2 ≤ (headAt a p (c + 1)).missRun →
        let b := put { x with heads := mput x.heads (c + 1) { headAt a p (c + 1) with lost := true, rejoin := 0 } }
        exec (.rylHeadLost p c) s = .next (leave s (raise b .rylHeadLost (handleOf? b cJOINT (headJoint b p (c + 1))) (p + 256 * (c + 1))
          (origin 0x0A (8 * p + c))))) ∧
      (∀ ln : Fin 2, FindsUnit s a → portSends x = true →
        let l := laneOf x (decide (ln = 1))
        let down : RLane := { l with up := false, origin := none }
        let b := put (if ln = 1 then { x with b := down } else { x with a := down })
        let r := raise b .rylLaneDown 0 (p + 65536 * ln) (origin 0x09 (2 * p + ln))
        l.up = true → 4 ≤ l.bad →
        let v := if (laneOf x (decide (ln ≠ 1))).up then wearInput r 0 (2 * p + ln) 3 else r
        (x.st ≠ 3 ∨ x.a.retired = true ∨ x.b.retired = true → exec (.rylLaneDown p ln) s = .next (leave s v)) ∧
        (x.st = 3 → x.a.retired = false → x.b.retired = false →
          exec (.rylLaneDown p ln) s = .next (leave s (trainFail v p 4))))) ∧
  (
    ∀ (s a : State) (p : Fin 16) (req : Fin 64), FindsReg s a req (0x60000 + 0x1000 * p) →
      let x := portAt a p
      let put (y : RPort) : State := { a with ryl := mput a.ryl p y }
      let c := reg a (0x60000 + 0x1000 * p)
      (bit c 0 = false → portSafe a p = true → exec (.rylTrain req p) s = .next (leave s (put { x with refused := false }))) ∧
      (portSafe a p = false → exec (.rylTrain req p) s = .next (leave s (put { x with refused := true }))) ∧
      (bit c 0 = true → portSafe a p = true → x.st = 0 → x.queue = [] → x.sent = [] →
        ∃ y : RPort, exec (.rylTrain req p) s = .next (leave s (put y)) ∧ y.st = 1 ∧ y.refused = false ∧ y.since = a.time.elapsed ∧
          y.present = [] ∧ y.dEpoch = 0 ∧ y.a = { retired := x.a.retired } ∧ y.b = { retired := x.b.retired } ∧ y.broken = false ∧
          y.queue = [] ∧ y.sent = [] ∧ y.heads.map Prod.fst = x.heads.map Prod.fst) ∧
      (exec (.rylEnWrite req p true) s = .next (leave s (setReg a (0x60000 + 0x1000 * p) (setBit c 0 true)))) ∧
      (exec (.rylEnWrite req p false) s = .next (leave s (portStop (setReg a (0x60000 + 0x1000 * p) (setBit c 0 false)) p 0 0))))

/-- R90: a request whose reply is bad is asked again at the head of the queue and counted, up to three times; then RYL_SVC_TIMEOUT is
raised, and a RYL_HEAD_ACCESS completes with BUSY and 0xFF in detail byte 12. R77: a RYL_HEAD_CYCLIC completes with OK once every
word of it has been sent in two servo ticks in a row, and not before.
(Model's choices and readings in it: log 28 and 29.) -/
def Obligations.ServiceTraffic : Prop :=
  ∀ (s a : State) (p : Fin 16), FindsUnit s a →
    let x := portAt a p
    let put (y : RPort) : State := { a with ryl := mput a.ryl p y }
    (∀ (j : Fin 10) (e : SvcSent), x.sent = [e] → e.j = j.val → e.bad = true →
      (e.req.tries < 3 →
        let y := { x with sent := [], queue := { e.req with tries := e.req.tries + 1 } :: x.queue }
        exec (.rylSvcTimeout p j) s = .next (leave s (bump (put y) (0x6001C + 0x1000 * p)))) ∧
      (∀ acc, 3 ≤ e.req.tries → e.req.use = .access acc →
        exec (.rylSvcTimeout p j) s = .next (leave s (complete
          (raiseHead (put { x with sent := [] }) .rylSvcTimeout p e.req.dest (e.tag + 256 * e.req.op))
          acc stBUSY 0 (det12 0 0xFF))))) ∧
    (∀ (c : Fin 8) (j : CycJob), (headAt a p (c + 1)).jobs = [j] →
      let b := put { x with heads := mput x.heads (c + 1) { headAt a p (c + 1) with jobs := [] } }
      ((∀ i, i < j.count → (mgetD j.sent (j.first + i) (0, false)).2 = true) →
        exec (.rylHeadCyclicDone p c) s = .next (leave s (complete b j.acc stOK 0 0))) ∧
      (∀ i, i < j.count → (mgetD j.sent (j.first + i) (0, false)).2 = false →
        ∃ t, exec (.rylHeadCyclicDone p c) s = .next (leave s t) ∧ (headAt t p (c + 1)).jobs = [j]))

/-! ### Conversion -/

/-- R126 and R127: ON starts the reference's settling at this instant and lets every converter report once more; 3 ms later the reference
is ready, and calibrations that waited for it start; ON written 0 ends both. R128: a calibration request on a converter whose
conversions taken by now have left the pipeline starts one when the reference is ready, and a retired converter takes none (R118); its end stores the corrections, makes the latched groups that have entries pending in ascending order, restarts the
regular group and raises CNV_CAL_DONE. R121: CNV_n_CFG is taken only while the converter has no live entry and is not retired;
otherwise the write is ignored, and CFG_REFUSED shows it for a converter with entries.
(Model's choices and readings in it: log 32.) -/
def Obligations.ConverterSetup : Prop :=
  ∀ (s a : State) (req : Fin 64) (n : Fin 9),
    let v := convAt a n
    let put (w : Conv) (u : State) : State := { u with cnv := { u.cnv with convs := mput a.cnv.convs n w } }
    (FindsReg s a req 0x80000 →
      (a.cnv.refSince = none → exec (.cnvRefOnWrite req true) s = .next (leave s { setReg a 0x80000 1 with cnv := { a.cnv with
        refSince := some a.time.elapsed, convs := a.cnv.convs.map fun e => (e.1, { e.2 with earlyRaised := false }) } })) ∧
      exec (.cnvRefOnWrite req false) s =
        .next (leave s { setReg a 0x80000 0 with cnv := { a.cnv with refSince := none, refReady := false } })) ∧
    (∀ t, Finds s a → a.cnv.refSince = some t → t + 3 * msU ≤ a.time.elapsed → a.cnv.refReady = false →
      (∀ m, m < 9 → (convAt a m).calReq = false) →
      exec .cnvRefReady s = .next (leave s { a with cnv := { a.cnv with refReady := true } })) ∧
    (FindsReg s a req (0x80104 + 0x40 * n) → retired a 1 n = true → exec (.cnvCal req n) s = .next (leave s a)) ∧
    (FindsReg s a req (0x80104 + 0x40 * n) → retired a 1 n = false → a.cnv.refReady = true →
      let b := convFill 11 a n
      let w := convAt b n
      w.calReq = false → w.calBusy = false → w.injRun = none → w.pend = [] → w.pipe = [] → b.cnv.refReady = true →
      exec (.cnvCal req n) s = .next (leave s
        { b with cnv := { b.cnv with convs := mput b.cnv.convs n { w with calBusy := true, calSince := b.time.elapsed } } })) ∧
    (Finds s a → v.calBusy = true → v.calSince + calTime a n ≤ a.time.elapsed → v.calAccs = [] →
      let b := put { v with
        calBusy := false, corr := some (Config.freeNat a.free), latched := [], regEntry := 0, regCount := 0, fresh := List.range 5,
        sampleAt := a.time.elapsed,
        pend := sortBy (fun x y => decide (x < y)) (v.latched.filter fun g => decide (mgetD v.groups g [] ≠ [])) }
        { a with free := a.free + 1 }
      exec (.cnvCalDone n true) s =
        .next (leave s (raise b .cnvCalDone 0 (n + 256 * b2n (bit (reg a (0x80100 + 0x40 * n)) 1)) (origin 0x0B n)))) ∧
    (∀ w : Word, FindsReg s a req (0x80100 + 0x40 * n) →
      (retired a 1 n = true → exec (.cnvCfgWrite req n w) s = .next (leave s a)) ∧
      (retired a 1 n = false → hasEntries a n = true →
        exec (.cnvCfgWrite req n w) s = .next (leave s (put { v with cfgRefused := true } a))) ∧
      (retired a 1 n = false → hasEntries a n = false → bit w.toNat 1 = bit (reg a (0x80100 + 0x40 * n)) 1 →
        exec (.cnvCfgWrite req n w) s = .next (leave s (put { v with cfgRefused := false }
          (setReg a (0x80100 + 0x40 * n) (bits w.toNat 0 4 + bits w.toNat 8 8 * 256))))))

/-- R123 and R134: a software trigger of a running converter's regular group, with a source other than 0, starts it from its first entry
when it has entries and neither runs nor runs continuously, and is otherwise counted as dropped. R124: a trigger of an injected group that has
entries, while no calibration is asked for or runs, puts it among the pending groups in their order; one that is already pending is
counted and raises INJ_OVERRUN. (The samples that
the converter has taken by then enter its pipeline first.) A source of 0 stops software triggers. R125: an accepted TRG edge triggers every group whose source
is that pin and whose polarity takes that edge. -/
def Obligations.ConversionTriggers : Prop :=
  ∀ (s a : State) (req : Fin 64) (n : Fin 9),
    let b := convFill 11 a n
    let v := convAt b n
    let put (w : Conv) : State := { b with cnv := { b.cnv with convs := mput b.cnv.convs n w } }
    let src (g : Nat) : Nat := bits (reg a (0x8010C + 0x40 * n + 4 * g)) 0 4
    (FindsReg s a req (0x80120 + 0x40 * n) →
      (src 0 = 0 → exec (.cnvSwtrigRegular req n) s = .next (leave s a)) ∧
      (src 0 ≠ 0 → src 0 < 14 → convRuns a n = true →
        (mgetD v.groups 0 [] = [] → exec (.cnvSwtrigRegular req n) s = .next (leave s b)) ∧
        (mgetD v.groups 0 [] ≠ [] → v.regRun = false → src 0 ≠ 1 →
          exec (.cnvSwtrigRegular req n) s = .next (leave s (put { v with regRun := true, regEntry := 0, regCount := 0 }))) ∧
        (mgetD v.groups 0 [] ≠ [] → v.regRun = true ∨ src 0 = 1 → exec (.cnvSwtrigRegular req n) s = .next (leave s (bump b 0x8002C)))) ∧
      ∀ g : Fin 4, src (g + 1) ≠ 0 → src (g + 1) < 14 → convRuns a n = true → v.calReq = false → v.calBusy = false → v.injRun = none →
        (v.pend.contains (g.val + 1) = false → mgetD v.groups (g + 1) [] ≠ [] →
          exec (.cnvSwtrigInjected req n g) s =
            .next (leave s (put { v with pend := insertBy (fun x y => decide (x < y)) (g.val + 1) v.pend }))) ∧
        (v.pend.contains (g.val + 1) = true →
          exec (.cnvSwtrigInjected req n g) s =
            .next (leave s (raise (bump b 0x80028) .injOverrun 0 (n + 256 * (g + 1)) (origin 0x0B n))))) ∧
    (∀ (pin : Fin 8) (rise : Bool), Finds s a →
      let takes (m g : Nat) : Bool :=
        let t := reg a (0x8010C + 0x40 * m + 4 * g)
        decide (bits t 0 4 = 2 + pin) && bit (bits t 4 2) (if rise then 0 else 1)
      ((∀ m, m < 9 → ∀ g, g < 5 → takes m g = false) → exec (.trgEdge pin rise) s = .next (leave s a)) ∧
      (takes n 0 = true → (∀ m, m < 9 → ∀ g, g < 5 → m ≠ n.val ∨ g ≠ 0 → takes m g = false) → convRuns a n = true → mgetD v.groups 0 [] ≠ [] → v.regRun = false →
        exec (.trgEdge pin rise) s = .next (leave s (put { v with regRun := true, regEntry := 0, regCount := 0 }))))

/-- R115, R120 and R122: the oldest conversion in the pipeline of a converter that no spare shadows is quantised to 14 bits around 1.25 V
at the gain of the entry that sampled it, saturating with OVR, and delivered, scaled, with the entry's flags and tag and the stamp of its
sample, to the latest-value slot and the consumers. While the regular group runs alone, the reference is ready and the pipeline is
empty, the sample of the entry in force enters it with the settling flag of R114, the group moves on, and that result leaves. R133: a read of
CNV_TQ_LO takes the oldest queue entry, returns its word and latches its upper half for the requester; an empty queue reads 0.
R129: a check that is not enabled does nothing. R109: an output of an input MCLK channel falls due once its bits have come.
(Model's choices and readings in it: log 31 and 34.) -/
def Obligations.ConversionResults : Prop :=
  ∀ s a : State,
    (∀ (n : Fin 9) (nv : Int) (mods : List Bool) (f : InFlight) (rest : List InFlight), Finds s a →
      let x := chAt a f.chan
      bit (reg a (0x80100 + 0x40 * n)) 1 = false → (convAt a n).pipe = f :: rest → shadowsOn a 1 n = [] →
      let q := roundDiv (8192 * (2 ^ f.cfg.gain : Nat) * (nv - 1250000000)) 1250000000
      let k := clampI q (-8192) 8191
      let b := { a with cnv := { a.cnv with convs := mput a.cnv.convs n { convAt a n with pipe := rest } } }
      (liveHandle a f.handle = true → exec (.cnvResult n nv mods) s = .next (leave s (calPump
        (deliverResult b f.chan f.cfg (satS 24 (divFree 23 ((k * 1024 - x.scale.offset) * x.scale.gain) 1073741824))
          f.settle (decide (k ≠ q)) (decide (32 ≤ f.entry))
          (un 32 (floorDiv (a.time.ptp - (a.time.elapsed - f.at_ : Nat)) nsU))) n))) ∧
      (liveHandle a f.handle = false → exec (.cnvResult n nv mods) s = .next (leave s (calPump b n)))) ∧
    (∀ (n : Fin 9) (nv : Int) (mods : List Bool) (e c : Nat), Finds s a →
      let v := convAt a n
      let x := chAt a c
      convRuns a n = true → v.calBusy = false → v.calReq = false → v.injRun = none → v.pend = [] → v.regRun = true → v.regEntry = e →
      v.pipe = [] → (mgetD v.groups 0 [])[e]? = some c → a.cnv.refReady = true → bit (reg a (0x80100 + 0x40 * n)) 1 = false →
      let u := convSettle a n 0 x.cfg
      let ck := (bits (reg a (0x80100 + 0x40 * n)) 8 8 + 1) * cycleU a * 64 / 25
      let t := Nat.max v.sampleAt (a.time.elapsed - 11 * ck)
      let w := convAt u.2 n
      exec (.cnvResult n nv mods) s = .next (leave s (pipeResult (convAdvance
        { u.2 with cnv := { u.2.cnv with convs := mput u.2.cnv.convs n { w with
            sampleAt := t + ck,
            pipe := [{ chan := c, handle := handleOf a cCCHAN c, entry := e, cfg := x.cfg, settle := u.1, at_ := t }] } } }
        n 0 e x.cfg.samples) n nv))) ∧
    (∀ req : Fin 64, FindsReg s a req 0x80018 →
      let latch (hi lo : Nat) (u : State) : State := { u with host := { a.host with
        hiLatch := mput a.host.hiLatch (regKey 0x8001C req) hi, readBack := mput a.host.readBack req lo } }
      (a.cnv.tq = [] → exec (.cnvTqPop req) s = .next (leave s (latch 0 0 a))) ∧
      (∀ w t rest, a.cnv.tq = (w, t) :: rest → exec (.cnvTqPop req) s = .next (leave s (latch t w { a with cnv := { a.cnv with
        tq := rest, tqEpisode := a.cnv.tqEpisode && decide (512 ≤ rest.length) } })))) ∧
    (∀ v1 v2 : Int, Finds s a →
      let period := a.time.frame / 1280 / 2 ^ bits (reg a 0x80010) 1 3
      (bit (reg a 0x80010) 0 = false → exec (.cnvPlausCheck v1 v2) s = .next (leave s a)) ∧
      (∀ b n p, bit (reg a 0x80010) 0 = true → a.cnv.chkLast ≠ some period →
        let u := { a with cnv := { a.cnv with chkLast := some period } }
        let saw (v : Conv) : Conv := { v with prevMux := some 16, prevGain := 0 }
        let w := modConv (modConv { a with cnv := { a.cnv with chkLast := some period, chkPos := b } } n saw) p saw
        nextCheck u = some (b, n) → checkPartner u n = some p → (convAt a n).calBusy = false → (convAt a p).calBusy = false →
        convRuns a n = true → convRuns a p = true → a.cnv.refReady = true →
        let x1 := (checkValue a n v1).1
        let x2 := (checkValue a p v2).1
        let ex := sx 32 (reg a 0x80008)
        (checkValue a n v1).2 = false → (checkValue a p v2).2 = false → (x1 - ex).natAbs ≤ reg a 0x8000C → (x2 - ex).natAbs ≤ reg a 0x8000C →
        (x1 - x2).natAbs ≤ reg a 0x8000C → exec (.cnvPlausCheck v1 v2) s = .next (leave s w))) ∧
    (∀ (m : Fin 8) (i : Nat), FindsUnit s a →
      (mkeys a.cchans fun i x => decide (x.cfg.source = 2) && decide (x.cfg.unit = m.val) && isLive a cCCHAN i).head? = some i →
      let x := chAt a i
      let per := x.cfg.osr * (if chFIR x.cfg then 2 else 1)
      outPeriod a x.cfg = 0 → 0 < per → per ≤ x.dec.since → serves a 2 (physPair a x.pair) = true →
      exec (.mdatMclkOutput m) s = .next (leave s (preciseOut
        { a with cchans := mmod a.cchans i fun x => { x with dec := { x.dec with since := x.dec.since - per } } } i)))

/-! ### Feedback, steps and homing -/

/-- R152 and R155: a live channel that is not STOPPED and whose last edge, or last change of a serial count, is older than STANDSTILL reports
STOPPED with speed 0, its count kept. R251: a STEPPER joint's profile that has rested for STANDSTILL begins its current reduction at
this instant. R255: a homing window that ends with the raw level back at the confirmed one drops the candidate. R248: an accepted
step edge of an enabled input counts one up or down by the direction level and its inversion, modulo 2^32; an edge within 100 ns of
the last raises PRF_STEP_OVERRUN once in a plan tick. (Profiles that follow the input: here none does.)
(Model's choices and readings in it: log 82.) -/
def Obligations.FeedbackAndSteps : Prop :=
  ∀ s a : State,
    (∀ f : Fin 256, FindsUnit s a →
      let x := fbAt a f
      let last := if 4 ≤ x.cfg.type then x.changed else match x.edges with
        | e :: _ => e.at_
        | [] => 0
      (isLive a cFBCH f = true → x.speedSt ≠ 0 → x.cfg.standstillMs * msU < a.time.elapsed - last →
        exec (.fbkStandstill f) s = .next (leave s { a with fbchs := mmod a.fbchs f fun x => { x with speedSt := 0, speed := (0, 1) } })) ∧
      (a.time.elapsed - last ≤ x.cfg.standstillMs * msU → exec (.fbkStandstill f) s = .next (leave s a))) ∧
    (∀ (p : Fin 256) (t j : Nat) (y : Joint), FindsUnit s a → isLive a cPROFILE p = true → (prfAt a p).restSince = some t →
      (prfAt a p).joint = some j → mget a.joints j = some y → y.stepper = true → (prfAt a p).reduceAt = none →
      (prfAt a p).cfg.standMs * msU ≤ a.time.elapsed - t →
      exec (.stepperReduceStart p) s =
        .next (leave s { a with profiles := mmod a.profiles p fun x => { x with reduceAt := some a.time.elapsed } })) ∧
    (∀ (p : Fin 256) (t : Nat), Finds s a →
      let h := (prfAt a p).home
      h.window = some t → h.st ≠ 0 → h.st ≠ 7 →
      (a.time.elapsed < t → exec (.homeDebounceExpiry p) s = .next (leave s a)) ∧
      (t ≤ a.time.elapsed → h.raw = h.confirmed → exec (.homeDebounceExpiry p) s = .next (leave s { a with
        profiles := mmod a.profiles p fun x => { x with home := { x.home with cand := none, window := none } } })) ∧
      (t ≤ a.time.elapsed → h.raw ≠ h.confirmed → exec (.homeDebounceExpiry p) s = .next (leave s (homeAccept a p)))) ∧
    (∀ (n : Fin 8) (dir : Bool), Finds s a →
      (mkeys a.profiles fun _ p => decide (p.cfg.source = 4) && decide (p.cfg.stepIn = n.val)) = [] →
      let c := stepCfg a n
      let x := mgetD a.stepIns n {}
      let up := dir != bit c 2
      let cnt := un 32 ((x.count : Int) + (if up then 1 else -1))
      let put (o : Bool) : State :=
        { a with stepIns := mput a.stepIns n { count := cnt, last := some (a.time.elapsed, up), overrun := o } }
      (bit c 0 = false → exec (.stepEdge n dir) s = .next (leave s a)) ∧
      (bit c 0 = true → (x.last.all fun e => decide (100 * nsU ≤ a.time.elapsed - e.1)) = true →
        exec (.stepEdge n dir) s = .next (leave s (put x.overrun))) ∧
      (∀ t u, bit c 0 = true → x.last = some (t, u) → a.time.elapsed - t < 100 * nsU → x.overrun = false →
        exec (.stepEdge n dir) s = .next (leave s (raise (put true) .prfStepOverrun 0 n (origin 0x10 0xFFFF)))))

/-! ### The Draver instruction set -/

/-- R216 to R218: the result and the flags of the register instructions, written at once to Gd (not for G0) and, the flags, for the second
instruction after. A and B are the sources, C the carry. ADD, ADDC, SUB, SUBC and CMP set Z, N, C and V from the 32-bit sum or
difference; ADDS and SUBS saturate, with V and the sticky SAT; AND, OR, XOR, MIN, MAX, SHR and SHRL set Z and N; ABS and SHL saturate,
with Z, N and SAT. Nothing else of the device changes.
(Model's choices and readings in it: log 38 and 39.) -/
def Obligations.DraverArithmetic : Prop :=
  ∀ (s : State) (n : Fin 18) (gr : Bool) (d a b : Fin 32) (x : DCtx), FindsCore s n gr x →
    let A := gAt x a
    let B := gAt x b
    let cy := b2n (bit x.dst 2)
    let gives (i : Instr) (r : Nat) (o : DstOp) : Prop := exec i s = .next (leave s (issued s n gr (ranOn x (setG x d r) o)))
    let zn (r : Nat) : DstOp := { mask := 3, val := b2n (decide (r = 0)) + 2 * b2n (bit r 31) }
    let zncv (r : Nat) (c v : Bool) : DstOp := { mask := 15, val := b2n (decide (r = 0)) + 2 * b2n (bit r 31) + 4 * b2n c + 8 * b2n v }
    let znvs (r : Nat) (t : Bool) : DstOp :=
      { mask := 11, val := b2n (decide (r = 0)) + 2 * b2n (bit r 31) + 8 * b2n t, sticky := 16 * b2n t }
    let zns (r : Nat) (t : Bool) : DstOp := { mask := 3, val := b2n (decide (r = 0)) + 2 * b2n (bit r 31), sticky := 16 * b2n t }
    let clip (v : Int) : Int := clampI v (-2147483648) 2147483647
    let sum (k : Nat) : Nat := (A + B + k) % 4294967296
    let dif (k : Nat) : Nat := un 32 ((A : Int) - B - (1 - (k : Int)))
    let sumF (k : Nat) : DstOp := zncv (sum k) (decide (4294967296 ≤ A + B + k)) (decide (sx 32 (sum k) ≠ sx 32 A + sx 32 B + k))
    let difF (k : Nat) : DstOp :=
      zncv (dif k) (decide ((0 : Int) ≤ (A : Int) - B - (1 - (k : Int)))) (decide (sx 32 (dif k) ≠ sx 32 A - sx 32 B - (1 - (k : Int))))
    let satd (v : Int) (f : Nat → Bool → DstOp) : Nat × DstOp := (un 32 (clip v), f (un 32 (clip v)) (decide (clip v ≠ v)))
    gives (.add n gr d a b) (sum 0) (sumF 0) ∧ gives (.addc n gr d a b) (sum cy) (sumF cy) ∧
    gives (.sub n gr d a b) (dif 1) (difF 1) ∧ gives (.subc n gr d a b) (dif cy) (difF cy) ∧
    (let e := satd (sx 32 A + sx 32 B) znvs; gives (.adds n gr d a b) e.1 e.2) ∧
    (let e := satd (sx 32 A - sx 32 B) znvs; gives (.subs n gr d a b) e.1 e.2) ∧
    gives (.and n gr d a b) (Nat.land A B) (zn (Nat.land A B)) ∧ gives (.or n gr d a b) (Nat.lor A B) (zn (Nat.lor A B)) ∧
    gives (.xor n gr d a b) (Nat.xor A B) (zn (Nat.xor A B)) ∧
    (let m := if sx 32 A ≤ sx 32 B then A else B; gives (.min n gr d a b) m (zn m)) ∧
    (let m := if sx 32 A ≤ sx 32 B then B else A; gives (.max n gr d a b) m (zn m)) ∧
    (let e := satd ((sx 32 A).natAbs : Int) zns; gives (.abs n gr d a) e.1 e.2) ∧
    (let e := satd (sx 32 A * (2 : Int) ^ (B % 64)) zns; gives (.shl n gr d a b) e.1 e.2) ∧
    (let r := un 32 (Int.fdiv (sx 32 A) ((2 : Int) ^ (B % 64))); gives (.shr n gr d a b) r (zn r)) ∧
    (let r := A / 2 ^ (B % 64); gives (.shrl n gr d a b) r (zn r)) ∧
    exec (.cmp n gr a b) s = .next (leave s (issued s n gr (ranOn x x (difF 1))))

/-- R216: ADDI and CMPI take the sign-extended 16-bit IMM, ANDI and ORI the zero-extended one, SHLI and SHRI a count of 6 bits; MOVLO
writes the sign-extended IMM and MOVHI replaces the upper half, both without a flag. CMPI writes no register.
(Model's choices and readings in it: log 38 and 39.) -/
def Obligations.DraverImmediates : Prop :=
  ∀ (s : State) (n : Fin 18) (gr : Bool) (d a : Fin 32) (m : BitVec 16) (k : BitVec 6) (x : DCtx), FindsCore s n gr x →
    let A := gAt x a
    let M := un 32 (sx 16 m.toNat)
    let gives (i : Instr) (r : Nat) (o : DstOp) : Prop := exec i s = .next (leave s (issued s n gr (ranOn x (setG x d r) o)))
    let zn (r : Nat) : DstOp := { mask := 3, val := b2n (decide (r = 0)) + 2 * b2n (bit r 31) }
    let zncv (r : Nat) (c v : Bool) : DstOp := { mask := 15, val := b2n (decide (r = 0)) + 2 * b2n (bit r 31) + 4 * b2n c + 8 * b2n v }
    let sum := (A + M) % 4294967296
    let dif := un 32 ((A : Int) - M)
    gives (.addi n gr d a m) sum (zncv sum (decide (4294967296 ≤ A + M)) (decide (sx 32 sum ≠ sx 32 A + sx 32 M))) ∧
    gives (.andi n gr d a m) (Nat.land A m.toNat) (zn (Nat.land A m.toNat)) ∧
    gives (.ori n gr d a m) (Nat.lor A m.toNat) (zn (Nat.lor A m.toNat)) ∧
    (let v := sx 32 A * (2 : Int) ^ k.toNat
     let c := clampI v (-2147483648) 2147483647
     gives (.shli n gr d a k) (un 32 c) { zn (un 32 c) with sticky := 16 * b2n (decide (c ≠ v)) }) ∧
    (let r := un 32 (Int.fdiv (sx 32 A) ((2 : Int) ^ k.toNat)); gives (.shri n gr d a k) r (zn r)) ∧
    gives (.movlo n gr d m) M {} ∧ gives (.movhi n gr d a m) (m.toNat * 65536 + A % 65536) {} ∧
    exec (.cmpi n gr a m) s =
      .next (leave s (issued s n gr (ranOn x x (zncv dif (decide ((0 : Int) ≤ (A : Int) - M)) (decide (sx 32 dif ≠ sx 32 A - sx 32 M))))))

/-- R219: MUL, MAC and MSU take the exact product of two 32-bit operands, doubled with DST.FRAC; every accumulator result saturates at 72
bits and then sets the sticky AOV and SAT. CLRA clears, ADDA adds, MVGA and MVGP load a register or a pair scaled by a power of two
(not below 0 here: what a negative shift rounds to is free, log 52), SHA shifts with floor. RND rounds the accumulator as it stood
before the last instruction in the mode of DST.RM and saturates to 32 bits, EXT takes 32 bits of it by floor; both are seen from the
third instruction on.
(Model's choices and readings in it: log 38 and 39.) -/
def Obligations.DraverAccumulators : Prop :=
  ∀ (s : State) (n : Fin 18) (gr : Bool) (aa ab : Fin 4) (d ga gb : Fin 32) (x : DCtx), FindsCore s n gr x →
    let acc (k : Fin 4) : Int := x.a.getD k 0
    let A := sx 32 (gAt x ga)
    let B := sx 32 (gAt x gb)
    let p := A * B * (if bit x.dst 8 then 2 else 1)
    let clip (v : Int) : Int := clampI v (-(2 : Int) ^ 71) ((2 : Int) ^ 71 - 1)
    let put (i : Instr) (v : Int) : Prop :=
      exec i s = .next (leave s (issued s n gr (ranOn x { x with a := x.a.set aa (clip v) } { sticky := 48 * b2n (decide (clip v ≠ v)) })))
    let late (i : Instr) (r : Nat) (o : DstOp) : Prop := exec i s = .next (leave s (issued s n gr (ranOn x (setGLate x d r) o)))
    let zn (r : Nat) : DstOp := { mask := 3, val := b2n (decide (r = 0)) + 2 * b2n (bit r 31) }
    put (.mul n gr aa ga gb) p ∧ put (.mac n gr aa ga gb) (acc aa + p) ∧ put (.msu n gr aa ga gb) (acc aa - p) ∧
    put (.adda n gr aa ab) (acc aa + acc ab) ∧
    exec (.clra n gr aa) s = .next (leave s (issued s n gr (ranOn x { x with a := x.a.set aa 0 } {}))) ∧
    (∀ k : BitVec 7, 0 ≤ k.toInt →
      put (.mvga n gr aa gb k) (B * (2 : Int) ^ k.toInt.toNat) ∧
      put (.mvgp n gr aa ga gb k) ((A * 4294967296 + gAt x gb) * (2 : Int) ^ k.toInt.toNat) ∧
      put (.sha n gr aa k) (acc aa * (2 : Int) ^ k.toInt.toNat)) ∧
    (∀ k : BitVec 7, k.toInt < 0 → put (.sha n gr aa k) (Int.fdiv (acc aa) ((2 : Int) ^ (-k.toInt).toNat))) ∧
    (∀ k : BitVec 6,
      let old := x.aOld.getD aa 0
      let v := rndBy (bits x.dst 6 2) old k.toNat
      let c := clampI v (-2147483648) 2147483647
      let e := un 32 (Int.fdiv old ((2 : Int) ^ k.toNat))
      late (.rnd n gr d aa k) (un 32 c) { zn (un 32 c) with sticky := 16 * b2n (decide (c ≠ v)) } ∧ late (.ext n gr d aa k) e (zn e))

/-- R220 and R221: with U set an access takes the P register's address and then modifies it, otherwise it takes the modified address and
leaves the register; a load is seen, and a store lands, from the third instruction on. FTM multiplies a data and a coefficient word
into the accumulator and modifies both pointers. MVPA and MVPL write an address or a length and mode for the third instruction. An
address outside the space traps before any effect. An uncorrectable error of the memory stops the core and does nothing else of the
instruction (R206).
(Model's choices and readings in it: log 38 and 40.) -/
def Obligations.DraverMemory : Prop :=
  ∀ (s : State) (n : Fin 18) (gr : Bool) (d : Fin 32) (p : Fin 8) (m : BitVec 16) (x : DCtx), FindsCore s n gr x →
    let c := drvAt s n
    let P := x.p.getD p 0
    let run (i : Instr) (y : DCtx) : Prop := exec i s = .next (leave s (issued s n gr (ranOn x y {})))
    let moved (y : DCtx) : DCtx := { y with p := y.p.set p (setBits (y.p.getD p 0) 0 16 (modifyP P m.toInt)) }
    let at0 := bits P 0 16
    let at1 := modifyP P m.toInt
    (accessTrap P at0 false false = 0 → run (.ld n gr d p true m 0) (moved (setGLate x d (dataAt c at0)))) ∧
    (accessTrap P at1 false false = 0 → run (.ld n gr d p false m 0) (setGLate x d (dataAt c at1))) ∧
    (accessTrap P at0 false true = 0 → run (.st n gr d p true m) (moved { x with pend := [(3, .mem at0 (gAt x d))] })) ∧
    (accessTrap P at1 false true = 0 → run (.st n gr d p false m) { x with pend := [(3, .mem at1 (gAt x d))] }) ∧
    (accessTrap P at0 true false = 0 → run (.ldc n gr d p true m 0) (moved (setGLate x d (coefAt c at0)))) ∧
    (accessTrap P at1 true false = 0 → run (.ldc n gr d p false m 0) (setGLate x d (coefAt c at1))) ∧
    (∀ (aa : Fin 4) (q : Fin 8) (md mc : BitVec 8),
      let Q := x.p.getD q 0
      let pr := sx 32 (dataAt c at0) * sx 32 (coefAt c (bits Q 0 16)) * (if bit x.dst 8 then 2 else 1)
      let v := x.a.getD aa 0 + pr
      let k := clampI v (-(2 : Int) ^ 71) ((2 : Int) ^ 71 - 1)
      let p1 := x.p.set p (setBits P 0 16 (modifyP P md.toInt))
      p ≠ q → accessTrap P at0 false false = 0 → accessTrap Q (bits Q 0 16) true false = 0 →
      let y : DCtx := { x with a := x.a.set aa k, p := p1.set q (setBits (p1.getD q 0) 0 16 (modifyP Q mc.toInt)) }
      exec (.ftm n gr aa p q false false md mc 0) s =
        .next (leave s (issued s n gr (ranOn x y { sticky := 48 * b2n (decide (k ≠ v)) })))) ∧
    run (.mvpa n gr p m) { x with pend := [(3, .p p 0 16 m.toNat)] } ∧
    (∀ l : BitVec 14, run (.mvpl n gr p l) { x with pend := [(3, .p p 16 14 l.toNat)] }) ∧
    (accessTrap P at1 false false ≠ 0 → gr = true → (workerAt s n).running = none →
      let y : DCtx := { x with dst := dstApply (dstApply x.dst {}) {}, aOld := x.a, trap := some (accessTrap P at1 false false, x.pc), ended := true }
      let r := rep .drvTrap 0 (n + 65536 * accessTrap P at1 false false + 4294967296 * x.pc) (origin 0x0F n)
      exec (.ld n gr d p false m 0) s = .next (leave s (report (issued s n gr y) { r with cls := 2 }))) ∧
    (∀ u : Bool, exec (.ld n gr d p u m 2) s = .next (leave s (drvMemError s n 2 1)) ∧
      exec (.ld n gr d p u m 4) s = .next (leave s (drvMemError s n 2 0)) ∧
      exec (.ldc n gr d p u m 4) s = .next (leave s (drvMemError s n 2 0)) ∧
      exec (.ldc n gr d p u m 6) s = .next (leave s (drvMemError s n 2 2))) ∧
    (∀ (aa : Fin 4) (q : Fin 8) (neg mov : Bool) (md mc : BitVec 8),
      exec (.ftm n gr aa p q neg mov md mc 2) s = .next (leave s (drvMemError s n 2 1)) ∧
      exec (.ftm n gr aa p q neg mov md mc 4) s = .next (leave s (drvMemError s n 2 0)) ∧
      exec (.ftm n gr aa p q neg mov md mc 6) s = .next (leave s (drvMemError s n 2 2)))

/-- R223 to R227: a branch whose condition holds goes to its target after two more instructions, one whose condition does not hold goes on
behind them; BL writes the address after its slots to G31; J takes the address in Ga; EXIT ends the program after its slots. RPT sets
the loop registers at once, and a count of 0 skips the body. MVSG reads P0 to P7, LC, LS, LE and DST; MVGS writes a P register for
the third instruction or DST's program bits. NOP changes nothing but the address.
(Model's choices and readings in it: log 38, 39 and 41.)
R198: the loops of a tick start once, on a serving core that is not halted and has loops to run: at once where no graph operation
runs, else at the operation's next preemption point, which its instructions reach, and the operation's writes under way complete.
R200: at its publish frame, an output that is finished in time at either clock is released and one that is not finished is late;
in any other frame nothing happens. R202: the end of a load whose envelope has another length completes with RANGE and 1 in byte 8,
one whose copy in device DRAM meets an uncorrectable error with RANGE and 0xEE (R484), one that passes every check stages the bank, and without a load the command has no effect. -/
def Obligations.DraverFlow : Prop :=
  (
    ∀ (s : State) (n : Fin 18) (gr : Bool) (x : DCtx), FindsCore s n gr x →
      let run (i : Instr) (y : DCtx) : Prop := exec i s = .next (leave s (issued s n gr (ranOn x y {})))
      run (.draverNop n gr) x ∧
      (∀ (k : Fin 16) (t : BitVec 13), k.val < 12 →
        (condHolds k x.dst = some true → run (.b n gr k t) { x with br := some (2, some t.toNat) }) ∧
        (condHolds k x.dst = some false → run (.b n gr k t) { x with br := some (2, some ((x.pc + 3) % 8192)) })) ∧
      (∀ t : BitVec 13, run (.bl n gr t) { setGLate x 31 (x.pc + 3) with br := some (2, some t.toNat) }) ∧
      (∀ (k : Fin 16) (ga : Fin 32), condHolds k x.dst = some true → run (.j n gr k ga) { x with br := some (2, some (gAt x ga % 8192)) }) ∧
      run (.exit n gr) { x with br := some (2, none) } ∧
      (∀ (body : Fin 64) (ga : Fin 32) (cnt : Fin 4096), x.pc + body + 1 ≤ 8191 →
        (run (.rpt n gr body false ga cnt) { x with ls := x.pc + 1, le := x.pc + (body + 1), lc := cnt + 1, skip := false }) ∧
        (0 ≤ sx 32 (gAt x ga) → gAt x ga ≤ 4096 →
          run (.rpt n gr body true ga cnt)
            { x with ls := x.pc + 1, le := x.pc + (body + 1), lc := gAt x ga, skip := decide (gAt x ga = 0) })) ∧
      (∀ (d : Fin 32) (sr : Fin 16) (v : Nat), specialAt x sr = some v → run (.mvsg n gr d sr) (setG x d v)) ∧
      (∀ (a : Fin 32) (sr : Fin 16),
        (sr.val < 8 → run (.mvgs n gr sr a) { x with pend := [(3, .p sr 0 30 (gAt x a))] }) ∧
        (sr.val = 11 → exec (.mvgs n gr sr a) s = .next (leave s (issued s n gr (ranOn x x { set := some (gAt x a) })))))) ∧
  (
    ∀ (s a : State) (n : Fin 18),
      let c := drvAt a n
      (∀ (w e : BitVec 16) (ecc : Fin 7), FindsUnit s a →
        (c.queue = [] ∨ c.halted ≠ [] ∨ serves a 4 n = false → exec (.drvLoopsStart n ⟨w, ecc, e⟩) s = .next (leave s a)) ∧
        (c.queue ≠ [] → c.halted = [] → serves a 4 n = true → c.used = 0 → c.entered = false →
          let frozen (c : DCore) (v : Nat) : DCore :=
            let g : DCtx := { c.graph with dst := c.graph.dstQ.foldl dstApply c.graph.dst, dstQ := [{}, {}], aOld := c.graph.a }
            { c with graph := g, used := v, waited := v, holdSeen := Nat.max c.holdSeen v }
          ((workerAt a n).running = none → c.graph.pend = [] →
            let b := { a with drv := mput a.drv n (frozen c 0) }
            exec (.drvLoopsStart n ⟨w, ecc, e⟩) s = .next (leave s (noteTick (runLoops 19200 b n false (memErr ecc e.toNat)) n))) ∧
          (let r := toPreempt 16000 (graphIssue w.toNat a n) n 0
           (drvAt r.2 n).graph.pend = [] →
            let b := { r.2 with drv := mput r.2.drv n (frozen (drvAt r.2 n) r.1) }
            exec (.drvLoopsStart n ⟨w, ecc, e⟩) s = .next (leave s (noteTick (runLoops 19200 b n false (memErr ecc e.toNat)) n))))) ∧
      (∀ (k : Fin 8) (j : Nat), FindsUnit s a → serves a 4 n = true → (slotAt c k).live = some j →
        let pub := (slotAt c k).pubAt
        ((a.time.frame + 1) % 160 ≠ pub % 160 → exec (.drvLoopPublish n k) s = .next (leave s a)) ∧
        ((a.time.frame + 1) % 160 = pub % 160 →
          ((slotAt c k).phase = 2 → (slotAt c k).doneAt * 1000 ≤ (pub - 1) * 118800 →
            exec (.drvLoopPublish n k) s = .next (leave s (release a n k j))) ∧
          ((slotAt c k).phase = 2 → (pub - 1) * 118800 < (slotAt c k).doneAt * 1000 → (pub - 1) * 120 < (slotAt c k).doneAt →
            exec (.drvLoopPublish n k) s = .next (leave s (loopLate a n k))) ∧
          ((slotAt c k).phase = 1 ∨ (slotAt c k).phase = 3 → exec (.drvLoopPublish n k) s = .next (leave s (loopLate a n k))))) ∧
      (∀ img : DrvImage, Finds s a →
        (c.load = none → exec (.drvLoadDone n img) s = .next (leave s a)) ∧
        (∀ acc first, c.load = some (acc, first) → c.swapDue = false →
          let b := { a with drv := mput a.drv n { c with load := none } }
          (img.envelope.length ≠ pf acc.d 32 4 →
            exec (.drvLoadDone n img) s = .next (leave s (complete (rejectImage b 2 1) acc stRANGE 0 257))) ∧
          (img.envelope.length = pf acc.d 32 4 → envelopeCheck b 2 img.envelope = 0 →
            let bank : DBank := { ident := img.ident.toNat, code := wordMap 0 img.code, coef := wordMap 0 img.coef,
                                  loops := img.loops.foldl (fun m e => mput m e.1.val e.2) [], ops := img.ops }
            let copy := Config.imageCopy n
            let len := img.envelope.length
            (memPoisoned b copy len = true →
              exec (.drvLoadDone n img) s = .next (leave s (complete (eccRead b (linesOf copy len)) acc stRANGE 0 0xEE))) ∧
            (memPoisoned b copy len = false → imageFail b n img bank = 0 →
            ∃ e : DCore, exec (.drvLoadDone n img) s = .next (leave s
              (let w := eccRead b (linesOf copy len)
               complete { w with drv := mput w.drv n e } acc stOK 0 0)) ∧
              bankOf e (1 - c.active) = bank ∧ e.staged = true ∧ e.active = c.active ∧ bankOf e c.active = bankOf c c.active ∧
              e.loop = c.loop ∧ e.graph = c.graph ∧ e.slots = c.slots)))))

/-- R190: with a NOP, a write that the next instruction is the first to see is in its register, one further off is one place nearer; DST as
an instruction sees it takes in the flags of the second instruction before it. A core that is halted or stopped issues nothing.
(Model's choices and readings in it: log 38 and 39.) -/
def Obligations.DraverPipeline : Prop :=
  ∀ (s : State) (n : Fin 18) (gr : Bool) (x : DCtx), ctxOf (drvAt s n) gr = x → x.br = none → x.lc = 0 → x.skip = false → x.trap = none →
    x.ended = false →
    (coreIssues s n = false → exec (.draverNop n gr) s = .next (leave s s)) ∧
    (coreIssues s n = true → ∀ (o1 o2 : DstOp), x.dstQ = [o1, o2] →
      (∀ (r v : Nat), x.pend = [(1, .g r v)] →
        exec (.draverNop n gr) s = .next (leave s (issued s n gr
          { x with g := x.g.set r v, pend := [], dst := dstApply x.dst o1, dstQ := [o2, {}], aOld := x.a, pc := (x.pc + 1) % 8192 }))) ∧
      (∀ (k : Nat) (w : DWrite), 1 < k → x.pend = [(k, w)] →
        exec (.draverNop n gr) s = .next (leave s (issued s n gr
          { x with pend := [(k - 1, w)], dst := dstApply x.dst o1, dstQ := [o2, {}], aOld := x.a, pc := (x.pc + 1) % 8192 }))) ∧
      (∀ (a v : Nat), x.pend = [(1, .mem a v)] → gr = true →
        let c := drvAt s n
        let y : DCtx := { x with pend := [], dst := dstApply x.dst o1, dstQ := [o2, {}], aOld := x.a, pc := (x.pc + 1) % 8192 }
        let e : DCore := { c with data := mput c.data (dataKey c.active a) v, graph := y }
        exec (.draverNop n gr) s = .next (leave s { s with drv := mput s.drv n e })))

/-! ### The frame, the plan tick and what runs on it -/

/-- R18: with the clock running and nothing outstanding, a frame boundary completes the frame's 64 cycles: the frame number rises by 1 and
the next frame begins at cycle 0 with no descriptor accepted; the servo boundary is due when 160 divides the frame number and the plan boundary
when 1280 does (R19); the presses that are READY with this frame as commit frame are due (R354); at frame 16 of a guard cycle that
runs, judging is due and the rest waits for it (R320), otherwise the due work before the servo boundary runs. Without the clock
nothing happens. Each of the other three commands runs the work that is due for it, once the work before it is done: none when
none is due; a part that P2 has gated does nothing at a servo boundary; judging precedes the immediate descriptors.
(Model's choices and readings in it: log 9 and 25.) -/
def Obligations.FrameBoundaries : Prop :=
  ∀ s : State, s.md.held = false →
    (∀ inp : FrameIn, NothingDue s →
      (clockRuns s = true → ∃ b : State,
        b.time.frame = s.time.frame + 1 ∧ b.time.cycle = 0 ∧ b.host.accepted = 0 ∧ b.due.inp = inp ∧ b.due.body = true ∧
        b.due.servo = decide (b.time.frame % 160 = 0) ∧ b.due.plan = decide (b.time.frame % 1280 = 0) ∧
        (∀ p, p ∈ b.due.presses ↔ p < 16 ∧ (pressAt b p).phase = .ready ∧ (pressAt b p).commit = some b.time.frame) ∧
        (b.due.judge = true ↔ b.time.frame % 1280 = 16 ∧ b.grd.running = true ∧ b.grd.cycle ≠ none) ∧
        (let u := adminFrame b
         exec (.frameBoundary inp) s = .next (leave s (if u.due.judge then u else duesBody u)))) ∧
      (clockRuns s = false → exec (.frameBoundary inp) s = .next (leave s s))) ∧
    (s.due.presses = [] → s.due.judge = false → s.due.body = false →
      (s.due.servo = false → exec .servoTickBoundary s = .next (leave s s)) ∧
      (s.due.servo = true →
        let b := { s with due := { s.due with servo := false } }
        (s.pins.powerState = 2 → exec .servoTickBoundary s = .next (leave s b)) ∧
        (s.pins.powerState ≠ 2 → exec .servoTickBoundary s = .next (leave s (darnMismatch (servoCapture (profilesServo b))))))) ∧
    (s.due.presses = [] → s.due.judge = false → s.due.body = false → s.due.servo = false →
      (s.due.plan = false → exec .planTickBoundary s = .next (leave s s)) ∧
      (s.due.plan = true → s.pins.powerState = 2 →
        exec .planTickBoundary s =
          .next (leave s (spreadTick (reportDrops (publishLine { s with due := { s.due with plan := false } }))))) ∧
      (s.due.plan = true → s.pins.powerState ≠ 2 →
        let b := solverTick (replanCommit (planJoin (swPlanTick { s with due := { s.due with plan := false } })))
        let p := (List.range 16).foldl priceGroup b
        let tail (u : State) : State := spreadTick (reportDrops (publishLine (darnMismatch (stepsPlan (guardTick u)))))
        (plnOn b = false → exec .planTickBoundary s = .next (leave s (tail b))) ∧
        (plnOn b = true → exec .planTickBoundary s = .next (leave s (tail (planCapture p)))))) ∧
    (s.due.presses = [] →
      (s.due.judge = false → s.due.body = false → exec .guardJudgingStart s = .next (leave s s)) ∧
      (s.due.judge = true →
        let j := guardJudge { s with due := { s.due with judge := false } }
        exec .guardJudgingStart s = .next (leave s (if j.due.body then bodyWork j else j))) ∧
      (s.due.judge = false → s.due.body = true → exec .guardJudgingStart s = .next (leave s (bodyWork s))))

/-- Out of cold reset each of these commands answers a next state, which holds the work that its row names. PERST_N's two edges (R505,
R508), and, while the link is up, Bus Master Enable set and cleared, a function level reset and VF Enable cleared (R409, R412). A frame boundary with the clock
running and nothing outstanding: the next frame's boundary and then, unless judging is due first, its due work. The servo boundary, the
start of judging and the plan boundary when they are due and the work before them is done. Opening the plan press, the final
verdicts, the start and the deadline of the solver and the end of a service request's time, on the state with its due work done; the
derate likewise. A PTP message received or sent, an offset of a Sync, a snapshot, an uplink frame, the start of a darn and the
retirement of a worn part, at their arrival. -/
def Obligations.FrameWorkCompletes : Prop :=
  ∀ s : State, s.md.held = false →
    (∀ inp : FrameIn, NothingDue s → clockRuns s = true →
      ∃ t : State, exec (.frameBoundary inp) s = .next t ∧
        t = leave s (if (boundary s inp).due.judge then boundary s inp else duesBody (boundary s inp))) ∧
    (s.due.presses = [] → s.due.judge = false → s.due.body = false → s.due.servo = true →
      ∃ t : State, exec .servoTickBoundary s = .next t ∧ t = leave s (servoWork s)) ∧
    (s.due.presses = [] → s.due.judge = false → s.due.body = false → s.due.servo = false → s.due.plan = true →
      ∃ t : State, exec .planTickBoundary s = .next t ∧ t = leave s (planWork s)) ∧
    (s.due.presses = [] → s.due.judge = true →
      ∃ t : State, exec .guardJudgingStart s = .next t ∧ t = leave s (if (judgeWork s).due.body then bodyWork (judgeWork s) else judgeWork s)) ∧
    (NothingDue s → s.pln.lost ≠ [] → tickFrame s = 0 →
      ∃ t : State, exec .derateApply s = .next t ∧ t = leave s (derateApply s)) ∧
    (∀ a : State, settle s = a → a.md.held = false →
      exec .planPressOpen s = .next (leave s (planPressOpen a)) ∧
      exec .guardFinalVerdict s = .next (leave s (finalVerdict a)) ∧
      exec .solverStart s = .next (leave s (solverStart a)) ∧
      exec .solverDeadline s = .next (leave s (solverDeadline a)) ∧
      (∀ (p : Fin 16) (j : Fin 10), exec (.rylSvcTimeout p j) s = .next (leave s (svcTimeout a p j))) ∧
      (∀ (p : Fin 16) (c : Fin 8), exec (.rylHeadCyclicDone p c) s = .next (leave s (cyclicDone a p (c + 1))))) ∧
    (∀ a : State, Finds s a →
      (∀ (p : Fin 4) (m : PtpMsg), exec (.ptpMessageRx p m) s = .next (leave s (ptpReceive a p m)) ∧
        exec (.ptpMessageTx p m) s = .next (leave s (ptpSend a p m))) ∧
      (∀ (p : Fin 4) (o : Int) (gm : Word64) (d : BitVec 8),
        exec (.ptpSyncOffset p o gm d) s = .next (leave s (syncOffset a p o gm.toNat d.toNat))) ∧
      (∀ r : Fin 64, reqReach a r 0x40080 = true → exec (.timSnapTake r) s = .next (leave s (takeSnap a r))) ∧
      (∀ (p : Fin 16) (b : Fin 2) (at_ : BitVec 16) (cs : List Byte), cs.length = 119 →
        exec (.rylUplinkFrame p b at_ cs) s = .next (leave s (uplink a p (decide (b = 1)) at_.toNat cs))) ∧
      exec .darnStart s = .next (leave s (darnStart a)) ∧
      (hostLink a = true → exec .vfEnableClear s = .next (leave s (vfClear a)) ∧ ∀ f : Fin 16,
        exec (.busMasterSet f) s = .next (leave s (busMasterSet a f)) ∧ exec (.busMasterClear f) s = .next (leave s (busMasterClear a f)) ∧
        exec (.flr f) s = .next (leave s (flr a f))) ∧
      (∀ (c : Fin 6) (i : BitVec 16), exec (.noSpareRetire c i) s = .next (leave s (noSpareRetire a c i.toNat)))) ∧
    (∀ a : State, atArrival s = a →
      exec .perstNAssert s = .next (leave s (perstAssert a)) ∧ exec .perstNRelease s = .next (leave s (perstRelease a)))

/-- R358: at frame 16 of a plan tick after the first, with planning on and the plan slot free, the plan press of the tick before opens
in it, armed for the first frame of the next tick, with every planned arm for a member, at plan-tick grain; otherwise nothing
opens. R326: at frame 1272 of the tick that its cycle belongs to, the running guard gives its final verdicts and the cycle ends, and an armed plan press
is then READY; outside that frame there is no verdict. R304: a derate is applied at frame 0 two ticks or more after a loss, with the lanes
lost since taken as still there; its event carries the level and the count of lost lanes. R328: EN is taken in PREPARE alone; in another mode, or written 1 while
the guard runs, the write does nothing; written 0 it stops the guard and clears EN_REFUSED, and written 1 with a lane of the range that is lost, out of range,
in a gang with a role or in one with a bound problem it is refused; otherwise the guard runs.
(Model's choices and readings in it: log 9 and 50.) -/
def Obligations.PlanTickSteps : Prop :=
  ∀ s a : State,
    (FindsUnit s a →
      (tickFrame a = 16 → plnOn a = true → (pressAt a 0).phase = .free → 1280 ≤ a.time.frame →
        ∃ p : Press, p.phase = .armed ∧ p.owner = 23 ∧ p.kind = 0 ∧ p.grain = 2 ∧ p.checked = true ∧
          p.members = (stagedArms a).map .plan ∧ p.commit = some ((a.time.frame / 1280 + 1) * 1280) ∧
          p.plan = (a.time.frame / 1280 - 1) % 4294967296 ∧ p.lastCommitted = (pressAt a 0).lastCommitted ∧
          exec .planPressOpen s = .next (leave s { a with presses := mput a.presses 0 p })) ∧
      (tickFrame a ≠ 16 ∨ plnOn a = false ∨ (pressAt a 0).phase ≠ .free ∨ a.time.frame < 1280 →
        exec .planPressOpen s = .next (leave s a))) ∧
    (FindsUnit s a →
      (a.grd.cycle = none ∨ a.grd.running = false ∨ tickFrame a ≠ 1272 → exec .guardFinalVerdict s = .next (leave s a)) ∧
      (∀ f, a.grd.cycle = some f → a.grd.running = true → tickFrame a = 1272 → f / 1280 = a.time.frame / 1280 →
        xchkLost a = none →
        let t := inCycle (fun v => v.grd.shotOrder.foldl (fun u x => finalArm u f false x) v) a
        let u := { t with
          grd := { t.grd with cycle := none, doneArms := t.grd.arms, doneTracks := t.grd.tracks }
          flt := { t.flt with standing := t.flt.standing.filter fun e => decide (e.1 ≠ 0x169) } }
        ((pressAt t 0).phase ≠ .armed → exec .guardFinalVerdict s = .next (leave s u)) ∧
        ((pressAt t 0).phase = .armed → exec .guardFinalVerdict s =
          .next (leave s { u with presses := mput t.presses 0 { pressAt t 0 with phase := .ready } })))) ∧
    (s.md.held = false → NothingDue s →
      let isDue (e : Nat × Nat) : Bool := decide (e.1 + 2 ≤ s.time.frame / 1280)
      let later := s.pln.lost.filter fun e => !isDue e
      (s.pln.lost.any isDue = false ∨ tickFrame s ≠ 0 → exec .derateApply s = .next (leave s s)) ∧
      (s.pln.lost.any isDue = true → tickFrame s = 0 →
        ∃ (b : State) (level : Nat) (bad : List Nat), ladder 4 (markLost s later false) s.pln.level 4 true = (b, level, bad) ∧
          let t := markLost b later true
          (level ≠ 4 → exec .derateApply s = .next (leave s (raise
            { t with pln := { t.pln with level := level, lost := later, placed := t.pln.placed + 1 } } .plnDerate 0
            (level + 4294967296 * lanesLost t) oPLNall))))) ∧
    (∀ req : Fin 64, FindsReg s a req 0x210000 →
      (a.md.mode ≠ .prepare → ∀ en, exec (.grdEnWrite req en) s = .next (leave s a)) ∧
      (grdOn a = true → exec (.grdEnWrite req true) s = .next (leave s a)) ∧
      (a.md.mode = .prepare →
        exec (.grdEnWrite req false) s = .next (leave s (guardStop { a with grd := { a.grd with refused := false } }))) ∧
      (a.md.mode = .prepare → grdOn a = false → (∃ n, n ∈ guardLanes a ∧
          ((lmapAt a n).2 = true ∨ 191 < n ∨ (gangAt a (gangOf a n)).role ≠ 0 ∨ gangBound (gangAt a (gangOf a n)) = true)) →
        exec (.grdEnWrite req true) s = .next (leave s { a with grd := { a.grd with refused := true } })) ∧
      (a.md.mode = .prepare → grdOn a = false → (∀ n, n ∈ guardLanes a →
          (lmapAt a n).2 = false ∧ n ≤ 191 ∧ (gangAt a (gangOf a n)).role = 0 ∧ gangBound (gangAt a (gangOf a n)) = false) →
        ∃ t : State, exec (.grdEnWrite req true) s = .next (leave s t) ∧ t.grd.running = true ∧ t.grd.refused = false ∧ grdOn t = true ∧
          t.md = a.md ∧ t.time = a.time ∧ t.presses = a.presses))

/-- While a problem runs on a gang whose lanes all serve, a record of a kernel works on the gang's data section, in every lane alike, with
the operands at the offsets that it names; the run then counts it. R270 and R268, written out: each element of COPY, CLAMP and
AXPBY; DOT's result in V[VSEL] and at C; the sums of products of GEMM, SYRK and GEMV, from the stored words, column-major with
leading dimensions that are multiples of 4, transposed where TRANS_A or TRANS_B says so; GREDUCE's sum over the lanes' own words;
RECIP, LDL and LDLSOLVE by kRecip, kLdl and kSolve; CAPDIST by kCapdist; REPEAT runs its body M times with the iteration's strides (R274). A GEMM
record with a corrected memory error also counts it; with an uncorrectable one the gang faults. With no problem running no record acts.
(Model's choices and readings in it: log 47 and 48.) -/
def Obligations.SolverRecords : Prop :=
  ∀ (s : State) (lane : Fin 192) (r : KRec), s.md.held = false →
    let l := gangOf s lane
    ((gangAt s l).run = none → exec (.copy lane r) s = .next (leave s s) ∧ exec (.repeatRecs lane r [r]) s = .next (leave s s)) ∧
    (∀ run : KRun, (gangAt s l).run = some run → gangServes s l = true →
      let c := kctxOf s l run
      let m := r.m.toNat
      let n := r.n.toNat
      let k := r.k.toNat
      let A := r.a.toNat
      let B := r.b.toNat
      let C := r.c.toNat
      let ta := r.flags.getLsbD 2
      let tb := r.flags.getLsbD 3
      let v := r.vsel.toNat
      let op (code : BitVec 8) : KOp := { idx := run.next, r := withKernel code r, a := A, b := B, c := C }
      let done (x : KCtx) (more : Nat) : State :=
        kctxBack s l { x with run := { x.run with issued := true, next := run.next + 1 + more } }
      let gemm := done (kFormAll c (op 1) ((List.range n).flatMap fun j => (List.range m).map fun i =>
          (C + i + j * ldim m, i % 4 + 4 * (j % 4), (List.range k).map fun x =>
            (kRead c (if ta then A + x + i * ldim k else A + i + x * ldim m),
             kRead c (if tb then B + j + x * ldim n else B + x + j * ldim k))))) 0
      (∀ (q : Fin 4) (w : BitVec 16),
        let p := (gangPhys s l).getD (q.val % (gangAt s l).size) 0
        exec (.gemm lane r 0 q w) s = .next (leave s gemm) ∧
        exec (.gemm lane r 1 q w) s = .next (leave s (laneCorrected gemm p)) ∧
        exec (.gemm lane r 2 q w) s = .next (leave s (gangFault s l p w.toNat))) ∧
      exec (.syrk lane r) s = .next (leave s (done (kFormAll c (op 2) ((List.range m).flatMap fun j =>
        ((List.range m).filter fun i => decide (j ≤ i)).map fun i =>
          (C + i + j * ldim m, i % 4 + 4 * (j % 4), (List.range k).map fun x =>
            (kRead c (A + i + x * ldim m), kRead c (A + j + x * ldim m))))) 0)) ∧
      exec (.gemv lane r) s = .next (leave s (done (kFormAll c (op 3)
        (if ta then (List.range k).map fun j => (C + j, j, (List.range m).map fun x => (kRead c (A + x + j * ldim m), kRead c (B + x)))
         else (List.range m).map fun i => (C + i, i, (List.range k).map fun x => (kRead c (A + i + x * ldim m), kRead c (B + x))))) 0)) ∧
      exec (.ldl lane r) s = .next (leave s (done (kLdl c (op 4)) 0)) ∧
      exec (.ldlsolve lane r) s = .next (leave s (done (kSolve c (op 5)) 0)) ∧
      exec (.axpby lane r) s = .next (leave s (done (kFormAll c (op 6) ((List.range m).map fun i =>
        (C + i, i, [(kV c v, kRead c (A + i)), (kV c (v + 1), kRead c (B + i))]))) 0)) ∧
      exec (.clamp lane r) s = .next (leave s (done (kWrites c ((List.range m).map fun i =>
        let lo := if ta then kV c v else kRead c (B + i)
        let hi := if ta then kV c (v + 1) else kRead c (C + i)
        (C + i, min (max (kRead c (A + i)) lo) hi))) 0)) ∧
      exec (.recip lane r) s = .next (leave s (done (kRecip c (op 8)) 0)) ∧
      (let f := kForm c run.next 0 (r.flags.getLsbD 0) r.shift.toNat (if r.flags.getLsbD 1 then kRead c C else 0)
          ((List.range m).map fun i => (kRead c (A + i), kRead c (B + i)))
       exec (.dot lane r) s = .next (leave s (done (kWrite { f.1 with v := f.1.v.set v (un 32 f.2) } C f.2) 0))) ∧
      exec (.copy lane r) s = .next (leave s (done (kWrites c ((List.range m).map fun i => (C + i, kRead c (A + i)))) 0)) ∧
      (let sums := (List.range m).map fun i => isum (c.mems.map fun w => memWord w (run.base + A + i))
       (∀ x, x ∈ sums → satS 32 x = x) →
        exec (.greduce lane r) s = .next (leave s (done (kWrites c (((List.range m).map fun i => C + i).zip sums)) 0))) ∧
      exec (.capdist lane r) s = .next (leave s (done (kCapdist c (op 12)) 0)) ∧
      (∀ body : List KRec, repeatBodyOk body = true →
        let rep := { withKernel 13 r with n := BitVec.ofNat 16 body.length }
        exec (.repeatRecs lane r body) s =
          .next (leave s (done (runRecs 1024 (((rep :: body).zipIdx run.next).map fun e => (e.2, e.1)) none c) body.length))))

/-- R279: at frame START each PLAN gang that serves and runs nothing starts its first waiting problem: VINIT is loaded into V, and the run begins
with no record issued, no pivot and no saturation. R284 and R285: the end of a problem whose records were issued one by one gives
the result its status: SATURATED before REGULARISED before OK; an uncorrectable memory error ends it with FAULT. R281: at frame DEADLINE
a gang that runs nothing only drops what was left; outside those frames nothing happens.
(Model's choices and readings in it: log 49.) -/
def Obligations.ProblemsRun : Prop :=
  ∀ s a : State,
    (FindsUnit s a →
      (tickFrame a ≠ solStart a → exec .solverStart s = .next (leave s a)) ∧
      (tickFrame a ≠ solDeadline a → exec .solverDeadline s = .next (leave s a)) ∧
      (∀ (l p base : Nat) (rest : List (Nat × Nat)), tickFrame a = solStart a → gangsOf a 1 = [l] → (gangAt a l).run = none →
        (gangAt a l).left = (p, base) :: rest → gangServes a l = true →
        ∃ t : State, exec .solverStart s = .next (leave s t) ∧ (gangAt t l).left = rest ∧
          (gangAt t l).run = some { problem := p, base := base } ∧
          (∀ q, q ∈ gangPhys a l → (laneAt t q).v = (probAt a p).vinit ∧ (laneAt t q).mem = (laneAt a q).mem ∧
            (laneAt t q).problem = handleOf a cPROBLEM p) ∧
          t.time = a.time ∧ t.regs = a.regs ∧ t.problems = a.problems) ∧
      (∀ l : Nat, tickFrame a = solDeadline a → gangsOf a 1 = [l] → (gangAt a l).run = none →
        exec .solverDeadline s = .next (leave s { a with
          sol := { a.sol with gangs := mput a.sol.gangs l { gangAt a l with left := [] } } }))) ∧
    (∀ (lane : Fin 192) (q : Fin 4) (w : BitVec 16) (run : KRun), Finds s a →
      let l := gangOf a lane
      let p := (gangPhys a l).getD (q.val % (gangAt a l).size) 0
      (gangAt a l).run = some run →
      exec (.solverProblemEnd lane 2 q w) s = .next (leave s (gangFault a l p w.toNat)) ∧
      (gangServes a l = true → run.issued = true →
        exec (.solverProblemEnd lane 0 q w) s = .next (leave s (endProblem a l run
          (if run.sats ≠ 0 then 2 else if run.count ≠ 0 then 1 else 0) (probAt a run.problem).cycles)))) ∧
    (∀ (lane : Fin 192) (q : Fin 4) (w : BitVec 16), Finds s a → (gangAt a (gangOf a lane)).run = none →
      exec (.solverProblemEnd lane 0 q w) s = .next (leave s a))

/-! ### Presses and the graph -/

/-- R348: when the checks of an armed press end, PRS_VALIDATION keeps the longest validation; the first member that fails aborts it with
CHECK, a budget that the result exceeds with BUDGET, a rule over the result with its own reason; else the press waits, or becomes READY. R349: when
its last wait ends the members that waited are checked, and the budgets again; an ASAP press not READY within PRS_WAIT_MAX aborts with WAIT and the index of its first
waiting member. R351 to R354: at its commit frame a READY press is checked again against the guard's veto, its members and the
budgets, and switches or aborts; the plan press (slot 0) switches while PLN_CTRL.EN is 1, and with EN 0 aborts with LATE, the model's
choice (log 50). A darn press (slot 1) whose spare's results differ aborts with SHADOW. R353 and R355: a press that has switched, or aborted, leaves its slot FREE, without members, and
keeps whether it committed and the reason.
(Model's choices and readings in it: log 50, 56 and 59.) -/
def Obligations.PressSteps : Prop :=
  ∀ (s a : State) (slot : Fin 16),
    let p := pressAt a slot
    let judged (b t : State) : Prop :=
      let r := checkMembers b slot false
      let woken := p.members.foldl (fun u m => match m with
        | .desc x _ => wakeParts u x
        | _ => u) b
      let seen := { woken with presses := mput woken.presses slot { pressAt woken slot with checked := true, waited := waitingMembers woken slot } }
      (∀ i, r.1 = some i → t = pressAbort b slot 4 i) ∧
      (r.1 = none → budgetsOk r.2 = false → t = pressAbort b slot 5 0xFF) ∧
      (r.1 = none → budgetsOk r.2 = true →
        (∀ why i, resultFails p = some (why, i) → t = pressAbort b slot why i) ∧
        (resultFails p = none → pressWaits woken slot = true → t = seen) ∧
        (resultFails p = none → pressWaits woken slot = false → t = pressReady seen slot))
    (Finds s a →
      (p.phase = .armed → p.checked = false → slot ≠ 0 →
        ∃ t, exec (.pressValidationDone slot) s = .next (leave s t) ∧
          judged (setReg a 0x22001C (max (reg a 0x22001C) (min 255 (a.time.frame - p.armFrame)))) t) ∧
      (p.phase ≠ .armed ∨ p.checked = true ∨ slot = 0 → exec (.pressValidationDone slot) s = .next (leave s a)) ∧
      (p.phase = .armed → p.checked = true → pressWaits a slot = false →
        let r := checkWhere a slot false fun i => p.waited.contains i
        ∃ t, exec (.pressMemberReady slot) s = .next (leave s t) ∧
          (∀ i, r.1 = some i → t = pressAbort a slot 4 i) ∧
          (r.1 = none → budgetsOk r.2 = false → t = pressAbort a slot 5 0xFF) ∧
          (r.1 = none → budgetsOk r.2 = true → t = pressReady a slot)) ∧
      (p.phase ≠ .armed ∨ p.checked = false ∨ pressWaits a slot = true → exec (.pressMemberReady slot) s = .next (leave s a)) ∧
      (slot = 1 → darnDiffers a = true → exec (.pressWaitExpiry slot) s = .next (leave s (pressAbort a slot 12 0))) ∧
      (slot ≠ 1 ∨ darnDiffers a = false → p.phase = .armed → p.axis = 0 → slot ≠ 0 → p.armElapsed + reg a 0x220004 * msU ≤ a.time.elapsed →
        exec (.pressWaitExpiry slot) s = .next (leave s (pressAbort a slot 10 (firstWaiting a slot)))) ∧
      (slot ≠ 1 ∨ darnDiffers a = false → p.phase ≠ .armed ∨ p.axis ≠ 0 ∨ slot = 0 ∨ a.time.elapsed < p.armElapsed + reg a 0x220004 * msU →
        exec (.pressWaitExpiry slot) s = .next (leave s a))) ∧
    (s.md.held = false → s.due.presses = [slot.val] →
      let b := { s with due := { s.due with presses := [] } }
      let q := pressAt s slot
      ∃ t, exec (.pressCommit slot) s = .next (leave s (duesBody t)) ∧
        (q.phase ≠ .ready ∨ q.commit ≠ some s.time.frame → t = b) ∧
        (q.phase = .ready → q.commit = some s.time.frame → slot = 0 →
          (plnOn b = true → t = pressSwitch b slot) ∧ (plnOn b = false → t = pressAbort b slot 2 0xFF)) ∧
        (q.phase = .ready → q.commit = some s.time.frame → slot = 1 → darnDiffers b = true → t = pressAbort b slot 12 0) ∧
        (q.phase = .ready → q.commit = some s.time.frame → slot ≠ 0 → slot ≠ 1 ∨ darnDiffers b = false →
          (∀ i, guardVeto b q = some i → t = pressAbort b slot 8 i) ∧
          (guardVeto b q = none → ∀ i, (checkMembers b slot true).1 = some i → t = pressAbort b slot 3 i) ∧
          (guardVeto b q = none → (checkMembers b slot true).1 = none →
            (budgetsOk (checkMembers b slot true).2 = false → t = pressAbort b slot 5 0xFF) ∧
            (budgetsOk (checkMembers b slot true).2 = true → t = pressSwitch b slot)))) ∧
    (3 ≤ slot.val →
      (∀ why i, p.phase ≠ .free →
        let e := pressAt (pressAbort a slot why i) slot
        e.phase = .free ∧ e.members = [] ∧ e.lastCommitted = false ∧ e.lastReason = why) ∧
      (let e := pressAt (pressSwitch a slot) slot
       e.phase = .free ∧ e.members = [] ∧ e.lastCommitted = true ∧ e.lastReason = 0))

/-- R371: while placements run, the first ready node of the highest priority that has an eligible worker with a free slot takes its
tokens, reserves a place for each edge and goes to that worker's prefetch slot; a JOIN completes at once. R368 and R380: a node in flight that
completes delivers its tokens into the reserved places and is IDLE with the time of its run: a GUARD node once its words are
written, a DMA node once its bytes are copied, a SUBMIT node once its completion is written; one whose DMA engine is quarantined
waits, and one that meets an uncorrectable error faults (R379). A node that is not in flight does not complete. R368 and R400: the
template of a SUBMIT node waits in its ring behind what waits there, once, and is accepted at the ring's turn; one that meets an
uncorrectable error faults the node. R381: a wait whose timeout has passed completes with TIMEOUT.
(Model's choices and readings in it: log 61.) -/
def Obligations.GraphSteps : Prop :=
  ∀ s a : State, Finds s a →
    (let b := judgeNodes a
     (placing b = false → exec .nodePlacement s = .next (leave s b)) ∧
     (placing b = true →
      let c := reportNoWorker b
      (placeable c = none → exec .nodePlacement s = .next (leave s c)) ∧
      (∀ i w, placeable c = some (i, w) →
        let t := bump (takeInputs c i w) 0x230010
        (mhas c.gsc.nodes i = true → (nodeAt t i).st = .prefetched ∧ (nodeAt t i).worker = w) ∧
        (w = 28 → exec .nodePlacement s = .next (leave s (nodeDone (noteStart t i) i fun _ => true))) ∧
        (w ≠ 28 → exec .nodePlacement s = .next (leave s { t with gsc := { t.gsc with
          workers := mput t.gsc.workers w { workerAt t w with prefetch := (workerAt t w).prefetch ++ [i] } } }))))) ∧
    (∀ (i : Fin 8192) (engine : Bool) (ecc : Fin 7) (e : BitVec 16),
      let n := nodeAt a i
      let run := exec (.nodeCompletion i ⟨engine, ecc, e⟩) s
      (mhas a.gsc.nodes i = true → ∀ fires, (nodeAt (nodeDone a i fires) i).st = .idle ∧ (nodeAt (nodeDone a i fires) i).last = wall32 a) ∧
      (n.st ≠ .inFlight → run = .next (leave s a)) ∧
      (n.st = .inFlight →
        (n.op = 1 → run = .next (leave s (draverDone a i (memErr ecc e.toNat)))) ∧
        (n.op = 2 → run = .next (leave s (houseNodeDone a i))) ∧
        (n.op = 3 → (workerAt a n.worker).quarantined = true → run = .next (leave s a)) ∧
        (n.op = 3 → (workerAt a n.worker).quarantined = false → engine = true → run = .next (leave s (dmaFault a (n.worker - 18)))) ∧
        (n.op = 3 → (workerAt a n.worker).quarantined = false → engine = false → dmaBlocked a n = false →
          ∀ r b, dmaRead a (bits n.args 0 8) (bits n.args 64 64) (bits n.args 32 32) = (r, b) →
            (∀ bs, r = some bs →
              run = .next (leave s (nodeDone (dmaWrite b (bits n.args 8 8) (bits n.args 128 64) bs) i fun _ => true))) ∧
            (r = none → run = .next (leave s (nodeFault b i 3)))) ∧
        (n.op = 4 → run = .next (leave s (nodeDone (memStore a (bits n.args 64 64)
          (wordsBytes (guardWords a (bits n.args 0 8)))) i fun _ => true))) ∧
        (n.op = 5 → n.ended = true → run = .next (leave s (nodeDone a i fun _ => true))) ∧
        (n.op = 5 → n.ended = false → run = .next (leave s a)))) ∧
    (∀ (i : Fin 8192) (data : List Byte),
      let n := nodeAt a i
      let p := hIdx (bits n.args 160 32)
      let r := ringAt a p
      (n.st ≠ .inFlight ∨ n.op ≠ 5 ∨ n.ended = true ∨ n.sent = true ∨ liveHandle a (bits n.args 160 32) = false ∨ r.st ≠ .up ∨
        busMasterOn a r.owner = false → exec (.submitTemplate i data) s = .next (leave s a)) ∧
      (∀ q : Fin 256, p = q.val → n.st = .inFlight → n.op = 5 → n.ended = false → n.sent = false → liveHandle a (bits n.args 160 32) = true →
        r.st = .up → busMasterOn a r.owner = true →
        let b := eccRead a (linesOf (bits n.args 64 64) 64)
        (memPoisoned a (bits n.args 64 64) 64 = true → exec (.submitTemplate i data) s = .next (leave s (nodeFault b i 4))) ∧
        (memPoisoned a (bits n.args 64 64) 64 = false →
          let raw := descOf q { raw := BitVec.ofNat 512 (leNat (memRead a (bits n.args 64 64) 64)), data := data }
          let x := ringAt b p
          let t := { b with
            gsc := { b.gsc with nodes := mmod b.gsc.nodes i fun n => { n with sent := true } }
            host := { b.host with rings := mput b.host.rings p { x with
              waiting := x.waiting ++ [{ op := raw.1, seq := raw.2.1, d := raw.2.2, pos := raw.2.1, node := some i.val }] } } }
          (acceptsNow t p = true → exec (.submitTemplate i data) s = .next (leave s (acceptFront t p))) ∧
          (acceptsNow t p = false → exec (.submitTemplate i data) s = .next (leave s (acceptAll t)))))) ∧
    (∀ (k : Fin 64) (w : Wait) (t : Nat), waitTimeoutOk a = true → a.gsc.waits[k.val]? = some w → w.until_ = some t →
      (t ≤ a.time.elapsed → exec (.gscWaitTimeout k) s = .next (leave s (complete
        { a with gsc := { a.gsc with waits := a.gsc.waits.eraseIdx k } } w.acc stTIMEOUT 0 0))) ∧
      (a.time.elapsed < t → exec (.gscWaitTimeout k) s = .next (leave s a)))

/-! ### The fault collector, the health manager and device memory -/

/-- R469 and R470: the record in work, or the oldest of a higher class that suspends it, leaves its queue when its handling ends, and a suspended
handling resumes; a queue that falls below 32 records ends its episode of being full; a record of the health manager writes the ledger
for the crossings since. R472: an entry whose window has ended writes the summary of what it counted and begins another window one HOLDOFF after the old end, or is freed if
it counted nothing; before the end nothing happens. R473: a supervisor core that fails by its watchdog or by its memory raises
FLT_SUPERVISOR with the cause; with AUTO_WARM 0 that is all; with fewer than three cores serving FLT_FATAL is raised with cause 2;
otherwise the core is quarantined and put under test, the EMPTY regions that it hosted are dealt out again, its locks are freed,
and the other regions that it hosted wait for their warm start, which is decided when the record is handled. (A memory error: here no
line of firmware data in DRAM is at fault.) A core already quarantined does nothing. R570: the end of its test passes it
or leaves it failed.
(Model's choices and readings in it: log 70 and 71.) -/
def Obligations.FaultCollectorSteps : Prop :=
  ∀ s a : State, Finds s a →
    (topQueue a = none → a.flt.handling = [] → exec .fltRecordHandling s = .next (leave s a)) ∧
    (∀ (c : Nat) (below : List Nat),
      (topQueue a = some c ∧ a.flt.handling = below ∧ ∀ d, below.head? = some d → d < c) ∨
        (a.flt.handling = c :: below ∧ ∀ d, topQueue a = some d → d ≤ c) →
      let q := mgetD a.flt.queues c []
      let t := q.drop 1
      let b := { a with flt := { a.flt with
        handling := below
        queues := if t = [] then mdel a.flt.queues c else mput a.flt.queues c t
        fullEpisode := if t.length < 32 then a.flt.fullEpisode.filter (· ≠ c) else a.flt.fullEpisode } }
      (a.hlt.toWrite = false ∨ q.head?.any hltRecord = false → exec .fltRecordHandling s = .next (leave s b)) ∧
      (a.hlt.toWrite = true → q.head?.any hltRecord = true →
        exec .fltRecordHandling s = .next (leave s (ledgerWrite { b with hlt := { b.hlt with toWrite := false } })))) ∧
    (∀ e : Fin 256,
      (mget a.flt.lint e = none → exec (.lintWindowEnd e) s = .next (leave s a)) ∧
      (∀ l, mget a.flt.lint e = some l →
        (a.time.elapsed < l.ends → exec (.lintWindowEnd e) s = .next (leave s a)) ∧
        (l.ends ≤ a.time.elapsed → l.window = 0 →
          exec (.lintWindowEnd e) s = .next (leave s { a with flt := { a.flt with lint := mdel a.flt.lint e } })) ∧
        (l.ends ≤ a.time.elapsed → l.window ≠ 0 →
          exec (.lintWindowEnd e) s = .next (leave s (writeRecord
            { a with flt := { a.flt with lint := mput a.flt.lint e { l with window := 0, ends := l.ends + reg a 0x260008 * usU } } }
            (lintSummary l)))))) ∧
    (∀ (n : Fin 4) (c : Nat) (i : Instr), (i = .supervisorWatchdogExpiry n ∧ c = 1) ∨
        (i = .supervisorMemoryError n ∧ c = 2 ∧ ∀ l, l ∈ a.mem.poisoned → 0x800000 ≤ l) →
      let o := origin 0x1B n
      let b := raise a .fltSupervisor 0 (o + c * 4294967296) o
      ((supAt a n).quarantined = true → exec i s = .next (leave s a)) ∧
      ((supAt a n).quarantined = false →
        (autoWarm b = false → exec i s = .next (leave s b)) ∧
        (autoWarm b = true → (supsServing b).length < 3 → exec i s = .next (leave s (raise b .fltFatal 0 2 oFLT))) ∧
        (autoWarm b = true → 3 ≤ (supsServing b).length →
          let hosted := (List.range 16).filter fun r => decide ((regionAt b r).hosted = n)
          let live := hosted.filter fun r => decide (regionSt b r ≠ .empty)
          let q := modSup b n fun x => { x with quarantined := true, test := 1 }
          let w := { q with flt := { q.flt with quarantines := q.flt.quarantines ++ [{ origin := o, handle := 0, kind := 1 }] } }
          let f := freeLocksOf (deal w (hosted.filter fun r => decide (regionSt w r = .empty))) (19 + n)
          (live = [] → exec i s = .next (leave s f)) ∧
          (live ≠ [] → exec i s = .next (leave s { f with flt := { f.flt with warmReqs := f.flt.warmReqs ++
            [{ handle := 0, origin := o, regions := live, code := eventCode .fltSupervisor, src := 0, detail := o }] } }))))) ∧
    (∀ (n : Fin 4) (pass : Bool),
      ((supAt a n).quarantined = true → (supAt a n).test = 1 → exec (.supervisorSelftestDone n pass) s =
        .next (leave s (modSup a n fun x => { x with test := if pass then 2 else 3, lastPass := pass, lastFail := !pass }))) ∧
      ((supAt a n).quarantined = false ∨ (supAt a n).test ≠ 1 → exec (.supervisorSelftestDone n pass) s = .next (leave s a)))

/-- R444 and R455: at the end of an hour of elapsed time the hour and its temperature band are counted and every wear score loses its
share. R447: one test starts in each period while AUTO_TEST is 1, of the next testable instance in turn. R448 and R453: a
self-test that passes ends, laying the mismatch that asked for it to the live instance; one that fails is reported and gives its spare the worst score; a shadow
test ends when its requirement is met or the results differed, and then the spare is self-tested. R456: the state record is due
once an hour, or at once after a write that failed; a failure is reported and kept for repetition.
(Model's choices and readings in it: log 68.) -/
def Obligations.WearAndTests : Prop :=
  ∀ s a : State, Finds s a →
    (let hour := a.time.elapsed / (3600 * secU)
     let band := ((a.pins.tj / 256 + 40) / 5).toNat
     (hour ≤ a.hlt.hour → exec .wearDecay s = .next (leave s a)) ∧
     (a.hlt.hour < hour → exec .wearDecay s = .next (leave s { a with hlt := { a.hlt with
       hour := a.hlt.hour + 1, hours := a.hlt.hours + 1, bands := mput a.hlt.bands band (mgetD a.hlt.bands band 0 + 1),
       insts := a.hlt.insts.map fun e => (e.1, { e.2 with wear := decayed e.2.wear }) } }))) ∧
    (let period := a.time.elapsed / (2 ^ bits (reg a 0x250000) 4 4 * secU)
     let b := { a with hlt := { a.hlt with lastTest := some period } }
     (bit (reg a 0x250000) 1 = false ∨ period = 0 ∨ a.hlt.lastTest = some period →
       exec .backgroundTestStart s = .next (leave s a)) ∧
     (bit (reg a 0x250000) 1 = true → period ≠ 0 → a.hlt.lastTest ≠ some period →
       (findTest 931 b a.hlt.nextTest = none → exec .backgroundTestStart s = .next (leave s b)) ∧
       (∀ x, findTest 931 b a.hlt.nextTest = some x → exec .backgroundTestStart s =
         .next (leave s (testStart { b with hlt := { b.hlt with nextTest := nextInst x } } x.1 x.2 none))))) ∧
    (∀ (c : Fin 6) (i : BitVec 16),
      let n := i.toNat
      (∀ pass, testOf a c n false = none → exec (.selfTestDone c i pass) s = .next (leave s a)) ∧
      (∀ t, testOf a c n false = some t → t.acc = none →
        let b := { a with hlt := { a.hlt with
          tests := a.hlt.tests.filter fun u => !(decide (u.cls = t.cls) && decide (u.inst = t.inst)) } }
        (t.blame = none → exec (.selfTestDone c i true) s = .next (leave s b)) ∧
        (∀ live, t.blame = some live → exec (.selfTestDone c i true) s = .next (leave s (wearInput b c live 4))) ∧
        exec (.selfTestDone c i false) s = .next (leave s (wearInput (testFailed b c n 1) c n 6))) ∧
      (testOf a c n true = none → exec (.shadowTestDone c i) s = .next (leave s a)) ∧
      (∀ t, testOf a c n true = some t → t.acc = none →
        let b := shadowStop (testEnd a t) c (t.spare.getD 0)
        (t.diff = false → t.met < t.need → exec (.shadowTestDone c i) s = .next (leave s a)) ∧
        (t.diff = false → t.need ≤ t.met → exec (.shadowTestDone c i) s = .next (leave s b)) ∧
        (t.diff = true →
          let f := testFailed b c n 2
          let again : TestRun := { cls := c, inst := t.spare.getD 0, spare := none, acc := none, blame := some n }
          exec (.shadowTestDone c i) s = .next (leave s { f with hlt := { f.hlt with tests := f.hlt.tests ++ [again] } })))) ∧
    (let isDue := a.hlt.rewrite = true ∨ a.hlt.wrote + 3600 * secU ≤ a.time.elapsed
     (¬ isDue → ∀ ok, exec (.ledgerStateWrite ok) s = .next (leave s a)) ∧
     (isDue →
       (∃ t : State, exec (.ledgerStateWrite true) s = .next (leave s t) ∧ t.hlt.ledger.insts = a.hlt.insts ∧
         t.hlt.ledger.queue = a.hlt.queue.map (fun r => (r.cls, r.worn, r.failed)) ∧ t.hlt.ledger.lmap = a.sol.lmap ∧
         t.hlt.ledger.seq = a.hlt.ledger.seq + 1 ∧ t.hlt.ledgerOld = a.hlt.ledger ∧ t.hlt.rewrite = false ∧
         t.hlt.wrote = a.time.elapsed ∧ t.hlt.insts = a.hlt.insts ∧ t.mem = a.mem) ∧
       exec (.ledgerStateWrite false) s = .next (leave s (raise { a with hlt := { a.hlt with rewrite := true, failAt := a.time.elapsed } } .hltLedgerErr 0
         (oHLT + 2 * 4294967296) oHLT))))

/-- R451: with slot 1 FREE, no darn under way and the device settled in a mode other than DORMANT, the request at the head of the queue takes its
spare (its own when that is still ready, else the first), the press of slot 1 is armed with the substitution as its only member and the grain of its
class (frame; servo tick for cores; plan tick for lanes), and HLT_DARN_STARTED names both (here no other test uses the spare and the worn
instance serves nothing, so that no shadow is needed); a request for an instance that no longer serves is closed. Otherwise nothing starts. R457: an instance whose joints stand still, or
whose limit has passed, is retired; until then, and for one that is not stopping, nothing happens.
(Model's choices and readings in it: log 69.) -/
def Obligations.DarnsAndRetirement : Prop :=
  ∀ s a : State, Finds s a →
    (a.hlt.queue = [] ∨ (pressAt a 1).phase ≠ .free ∨ darnOpen a = true ∨ a.md.mode = .dormant ∨ a.md.mode = .boot ∨
        a.time.frame ≤ a.md.changeFrame → exec .darnStart s = .next (leave s a)) ∧
    (∀ (r : DarnReq) (rest : List DarnReq), a.hlt.queue = r :: rest → (pressAt a 1).phase = .free → darnOpen a = false →
      a.md.mode ≠ .dormant → a.md.mode ≠ .boot → a.md.changeFrame < a.time.frame → serves a r.cls r.worn = false →
      exec .darnStart s = .next (leave s (darnClose a stNORES 0))) ∧
    (∀ (r : DarnReq) (rest : List DarnReq) (sp : Nat), a.hlt.queue = r :: rest → (pressAt a 1).phase = .free → a.hlt.darn = none →
      a.md.mode ≠ .dormant → a.md.mode ≠ .boot → a.md.changeFrame < a.time.frame → serves a r.cls r.worn = true →
      (r.spare = some sp ∧ sp ∈ darnSpares a r.cls ∨ r.spare = none ∧ (darnSpares a r.cls).head? = some sp) →
      (∀ t, t ∈ a.hlt.tests → t.cls ≠ r.cls ∨ t.inst ≠ sp ∧ t.spare ≠ some sp) → servesNothing a r.cls r.worn = true →
      let p : Press := { phase := .armed, owner := 25, members := [.darn r.cls r.worn sp], grain := darnGrain r.cls,
                         armFrame := a.time.frame, armElapsed := a.time.elapsed, lastCommitted := (pressAt a 1).lastCommitted,
                         lastReason := (pressAt a 1).lastReason, lastFrame := (pressAt a 1).lastFrame }
      exec .darnStart s = .next (leave s (raise { a with
          hlt := { a.hlt with darn := some (r, sp, 0, 0, 2), prog := [] }, presses := mput a.presses 1 p }
        .hltDarnStarted 0 (origin (tyOf r.cls) r.worn + origin (tyOf r.cls) sp * 4294967296) (origin (tyOf r.cls) r.worn)))) ∧
    (∀ (c : Fin 6) (i : BitVec 16),
      let key := origin (tyOf c) i.toNat
      (a.hlt.stopping.find? (fun e => e.1 = key) = none → exec (.noSpareRetire c i) s = .next (leave s a)) ∧
      (∀ k limit, a.hlt.stopping.find? (fun e => e.1 = key) = some (k, limit) →
        let still := jointsStill a (servedJoints a c i.toNat)
        (still = false → a.time.elapsed < limit → exec (.noSpareRetire c i) s = .next (leave s a)) ∧
        (still = true ∨ limit ≤ a.time.elapsed →
          let t := retireInst (raiseNoSpare a .hltNoSpareOff c i.toNat) c i.toNat 3
          exec (.noSpareRetire c i) s =
            .next (leave s { t with hlt := { t.hlt with stopping := t.hlt.stopping.filter fun e => e.1 ≠ key } }))))

/-- R485: while it is enabled, out of P2 and P3 and out of boot, the scrub reads the line at its position, one read in each 2^-28 of PERIOD
hours, and moves to the next one, back to 0 after the last with the pages' counts cleared; it pauses otherwise. R483 and R484: a correctable error is counted against its
page, an uncorrectable one marks the line. R486: a page whose copy ends is remapped, its lines that could not be corrected are
zeros in memory, the writes that waited for the copy take effect (no other byte changes), and MEM_PAGE_RETIRED names it; a page that is not being retired does not change. A write
of MEM_RETIRE_PAGE starts a page's retirement while a spare page is free, and does nothing beyond that; when the last spare is used up
MEM_RETIRE_EXHAUSTED is raised.
(Model's choices and readings in it: log 14 and 72.)
A write of a byte range of device DRAM keeps the memory's canonical form; every byte of the range then reads as the byte written, but
for those of a page that is being copied, which wait (R486), and every byte outside the range reads as before; a line written whole is
no longer poisoned, a line not written whole stays as it was; nothing else of the state changes. Reading a range gives its bytes in
rising order. -/
def Obligations.MemoryUpkeep : Prop :=
  (
    ∀ s a : State,
      (Finds s a →
        let on := bit (reg a 0x278004) 0 = true ∧ a.pins.powerState < 2 ∧ a.md.mode ≠ .boot ∧ a.mem.scrubAt ≤ a.time.elapsed
        let pos := a.mem.scrubPos
        let line := scrubLine pos
        let nextAt := a.mem.scrubAt + bits (reg a 0x278004) 7 8 * 3600 * secU / 268435456
        let moved := { a with mem := { a.mem with scrubPos := pos + 64, scrubAt := nextAt } }
        (∀ e, ¬ on → exec (.patrolScrubRead e) s = .next (leave s a)) ∧
        (on → pos + 64 < 0x400000000 →
          (line ∉ a.mem.poisoned → line ∉ a.mem.weak → exec (.patrolScrubRead 0) s = .next (leave s moved)) ∧
          (line ∉ a.mem.poisoned → exec (.patrolScrubRead 1) s = .next (leave s (correctable moved line))) ∧
          exec (.patrolScrubRead 2) s = .next (leave s (uncorrectable moved line))) ∧
        (on → 0x400000000 ≤ pos + 64 → line ∉ a.mem.poisoned → line ∉ a.mem.weak →
          exec (.patrolScrubRead 0) s =
            .next (leave s { a with mem := { a.mem with scrubPos := 0, scrubAt := nextAt, corr := [] } }))) ∧
      (∀ page : BitVec 22, Finds s a →
        let p := page.toNat
        (p ∉ a.mem.retiring → exec (.pageRetireDone page) s = .next (leave s a)) ∧
        (p ∈ a.mem.retiring → ∃ t : State,
          let u := raise t .memPageRetired 0 (p * 4294967296 + oTRC) oTRC
          exec (.pageRetireDone page) s = .next (leave s (if sparesUsed u = 4096 then raise u .memRetireExhausted 0 oTRC oTRC else u)) ∧
          t.mem.retiring = a.mem.retiring.filter (· ≠ p) ∧ t.mem.remap = mput a.mem.remap p (sparesUsed a) ∧
          t.mem.waitW = a.mem.waitW.filter (fun c => decide (c.1 / 4096 ≠ p)) ∧ (dramWf a = true → dramWf t = true) ∧
          ((∀ c, c ∈ a.mem.waitW → c.1 / 4096 ≠ p) → t.mem.poisoned = a.mem.poisoned ∧ (dramWf a = true →
            ∀ x, memByte t.mem.dram x = if x / 64 ∈ a.mem.poisoned ∧ x / 4096 = p then 0 else memByte a.mem.dram x)))) ∧
      (∀ (req : Fin 64) (w : Word), FindsReg s a req 0x278014 →
        let p := w.toNat
        (0x3E0000 ≤ p ∨ p ∈ a.mem.retiring → exec (.memRetirePage req w) s = .next (leave s a)) ∧
        (p < 0x3E0000 → p ∉ a.mem.retiring → sparesUsed a + a.mem.retiring.length < 4096 →
          exec (.memRetirePage req w) s = .next (leave s { a with mem := { a.mem with retiring := a.mem.retiring ++ [p] } })) ∧
        (p < 0x3E0000 → p ∉ a.mem.retiring → 4096 ≤ sparesUsed a + a.mem.retiring.length →
          exec (.memRetirePage req w) s = .next (leave s a)))) ∧
  (
    ∀ (s : State) (x : Nat) (bs : List Byte), dramWf s = true →
      let t := memWrite s x bs
      let put (a : Nat) : Prop := x ≤ a ∧ a < x + bs.length
      dramWf t = true ∧
      (∀ a, put a → a / 4096 ∉ s.mem.retiring → memByte t.mem.dram a = bs.getD (a - x) 0) ∧
      (∀ a, ¬ put a ∨ a / 4096 ∈ s.mem.retiring → memByte t.mem.dram a = memByte s.mem.dram a) ∧
      (∀ c, c ∈ t.mem.waitW ↔ c ∈ s.mem.waitW ∨ put c.1 ∧ c.1 / 4096 ∈ s.mem.retiring ∧ c.2 = bs.getD (c.1 - x) 0) ∧
      ((∀ a, put a → a / 4096 ∉ s.mem.retiring) → memRead t x bs.length = bs) ∧
      (∀ l, l ∈ t.mem.poisoned ↔ l ∈ s.mem.poisoned ∧ ¬ (x ≤ l * 64 ∧ l * 64 + 64 ≤ x + bs.length ∧ l / 64 ∉ s.mem.retiring)) ∧
      t = { s with mem := { s.mem with dram := t.mem.dram, poisoned := t.mem.poisoned, weak := t.mem.weak, waitW := t.mem.waitW } })

/-! ### Rings, interrupts, mailboxes and locks -/

/-- R393: a doorbell value below the ring's size on an UP ring of the function is accepted: the tail makes the entries up to it available and issues
a read if there are any; a head frees entries, and descriptors that waited for room are accepted; an event head that moves ends a loss
episode; any other value is dropped and counted once. R394: a read that is due and returns at most 8 available descriptors copies them, in order,
and they are accepted as the frame and the CQ admit; one that is not due changes nothing. R396: a FENCE descriptor is accepted once its ring has no
earlier one open. R409: an admin pair whose configuration is in range is enabled, and comes up at the next boundary; disabling it
takes it down at the next boundary, unless a press or a node holds the pair, when the write is refused. R411: a draining pair goes DOWN
when no entry but its own is reserved.
(Model's choices and readings in it: log 63 and 64.)
R407: once COAL_TIME has passed since the oldest pending entry of an UP ring, its message is sent and the count returns to 0, on a
masked vector when the vector is unmasked; before, or with
nothing pending or COAL_TIME 0, nothing happens. A message on a masked vector sets its pending bit, one on an
unmasked vector is sent, and one in the same cycle as the last serves both; unmasking a vector sends its
pending message. A vector beyond the function's table does nothing. -/
def Obligations.RingSteps : Prop :=
  (
    ∀ s a : State, Finds s a →
      (hostLink a = true → a.md.mode ≠ .boot →
        (∀ (f : Fin 16) (p : Fin 256) (w : Word),
          let r := ringAt a p
          let v := w.toNat
          let r' := { r with sqTail := v, dbErr := false }
          (r.st = .up → r.owner = f → v < 2 ^ r.log2a → v < 65536 → exec (.sqTailDoorbell f p w) s = .next (leave s { a with host := { a.host with
            rings := mput a.host.rings p { r' with fetching := r'.fetching || decide (sqAvail r' ≠ 0) } } })) ∧
          (r.st = .up → r.owner = f → v < 2 ^ r.log2c → v < 65536 → exec (.cqHeadDoorbell f p w) s = .next (leave s (acceptAll { a with
            host := { a.host with rings := mput a.host.rings p { r with head := v, dbErr := false } } }))) ∧
          (r.st ≠ .up ∨ r.owner ≠ f ∨ 65536 ≤ v ∨ 2 ^ r.log2a ≤ v →
            exec (.sqTailDoorbell f p w) s = .next (leave s (doorbellDropped a f p (16 * p) v))) ∧
          (r.st ≠ .up ∨ r.owner ≠ f ∨ 65536 ≤ v ∨ 2 ^ r.log2c ≤ v →
            exec (.cqHeadDoorbell f p w) s = .next (leave s (doorbellDropped a f p (16 * p + 4) v)))) ∧
        (∀ (f : Fin 16) (e : Fin 64) (w : Word),
          let r := ringAt a (256 + e)
          let v := w.toNat
          let r' := { r with head := v, dbErr := false, lossEpisode := r.lossEpisode && decide (v = r.head) }
          (r.st = .up → r.owner = f → v < 2 ^ r.log2a → v < 65536 → exec (.eventHeadDoorbell f e w) s = .next (leave s { a with
            host := { a.host with rings := mput a.host.rings (256 + e) r' } })) ∧
          (r.st ≠ .up ∨ r.owner ≠ f ∨ 65536 ≤ v ∨ 2 ^ r.log2a ≤ v →
            exec (.eventHeadDoorbell f e w) s = .next (leave s (doorbellDropped a f (256 + e) (0x1000 + 16 * e) v)))) ∧
        (∀ (p : Fin 256) (ds : List RawDesc), 1 ≤ ds.length → ds.length ≤ 8 →
          let r := ringAt a p
          let isDue := r.st = .up ∧ r.fetching = true ∧ busMasterOn a r.owner = true ∧ cqRoom r = true ∧ ds.length ≤ sqAvail r
          (¬ isDue → exec (.sqFetchDone p ds) s = .next (leave s a)) ∧
          (isDue →
            let b := ds.foldl (fun u x => fetched u p (descOf p x).1 (descOf p x).2.1 (descOf p x).2.2) a
            let r' := { ringAt b p with fetching := decide (sqAvail (ringAt b p) ≠ 0) }
            exec (.sqFetchDone p ds) s = .next (leave s (acceptAll { b with host := { b.host with rings := mput b.host.rings p r' } }))))) ∧
      (∀ p : Fin 256,
        let r := ringAt a p
        (r.open_ = 0 → exec (.fenceRelease p) s = .next (leave s (acceptAll a))) ∧
        (r.open_ ≠ 0 → exec (.fenceRelease p) s = .next (leave s a)) ∧
        (r.st ≠ .draining ∨ r.resv ≠ ownDrain p r → exec (.ringDrainDone p) s = .next (leave s a)) ∧
        (r.st = .draining → r.resv = ownDrain p r →
          let b := match r.drainBy with
            | some x => complete a x stOK 0 0
            | none => a
          let d := ringDown b p
          exec (.ringDrainDone p) s = .next (leave s (raise { d with host := { d.host with
            rings := mput d.host.rings p { ringAt d p with upDue := r.upDue } } } .hstRingDown (handleOf a cRING p)
            (if r.drainBy.isSome then 1 else 2) (oHST r.owner))))) ∧
      (∀ f : Fin 16, reqReach a (32 + f) (fnBlock f + 0x14) = true →
        let c := reg a (fnBlock f + 0x10)
        let on := bit (reg a (fnBlock f + 0x14)) 0
        let inRange := 4 ≤ bits c 0 4 ∧ bits c 0 4 ≤ 12 ∧ 4 ≤ bits c 4 4 ∧ bits c 4 4 ≤ 14 ∧ bits c 8 6 < (if f = 0 then 64 else 16)
        (on = true ∨ ¬ inRange → exec (.adminPairEnable f) s = .next (leave s a)) ∧
        (on = false → inRange → ∃ t : State, exec (.adminPairEnable f) s = .next (leave s t) ∧ reg t (fnBlock f + 0x14) = 1 ∧
          ringAt t f = { ringAt a f with upDue := true, owner := f } ∧ t.time = a.time ∧ t.md = a.md) ∧
        (on = false → exec (.adminPairDisable f) s = .next (leave s a)) ∧
        (on = true → (pairHolder a f).isSome = true → exec (.adminPairDisable f) s = .next (leave s { a with host := { a.host with
          downRefused := if a.host.downRefused.contains f.val then a.host.downRefused else a.host.downRefused ++ [f.val] } })) ∧
        (on = true → pairHolder a f = none → (ringAt a f).st = .up → ∃ t : State, exec (.adminPairDisable f) s = .next (leave s t) ∧
          reg t (fnBlock f + 0x14) = 0 ∧ ringAt t f = { ringAt a f with downDue := true }))) ∧
  (
    ∀ s a : State, Finds s a →
      (∀ r : Fin 320,
        let x := ringAt a r
        (x.st = .down ∨ x.pend = 0 ∨ x.coalTimeUs = 0 ∨ a.time.elapsed < x.pendSince + x.coalTimeUs * usU →
          exec (.msixCoalTimer r) s = .next (leave s a)) ∧
        (x.st ≠ .down → x.pend ≠ 0 → x.coalTimeUs ≠ 0 → x.pendSince + x.coalTimeUs * usU ≤ a.time.elapsed →
          let masked := !(a.host.unmasked.contains (64 * x.owner + x.vector))
          let y := { x with pend := if masked then x.pend else 0, msgDue := masked }
          exec (.msixCoalTimer r) s = .next (leave s
            (sendMsix { a with host := { a.host with rings := mput a.host.rings r y } } x.owner x.vector)))) ∧
      (∀ f v : Nat,
        let k := 64 * f + v
        let t := sendMsix a f v
        (a.host.unmasked.contains k = false →
          t = { a with host := { a.host with pba := if a.host.pba.contains k then a.host.pba else a.host.pba ++ [k] } }) ∧
        (a.host.unmasked.contains k = true →
          (mget a.host.msix k = none → t = { a with host := { a.host with msix := mput a.host.msix k (1, instant a) } }) ∧
          (∀ n i, mget a.host.msix k = some (n, i) →
            (i = instant a → t = a) ∧
            (i ≠ instant a → t = { a with host := { a.host with msix := mput a.host.msix k (n + 1, instant a) } })))) ∧
      (hostLink a = true → a.md.mode ≠ .boot → ∀ (f : Fin 16) (v : Fin 64),
        let k := 64 * f.val + v.val
        let un := if a.host.unmasked.contains k then a.host.unmasked else a.host.unmasked ++ [k]
        let b := { a with host := { a.host with unmasked := un, pba := a.host.pba.filter (· ≠ k) } }
        (f ≠ 0 → 16 ≤ v.val → exec (.msixVectorUnmask f v) s = .next (leave s a)) ∧
        (f = 0 ∨ v.val < 16 →
          (k ∉ a.host.pba → exec (.msixVectorUnmask f v) s = .next (leave s b)) ∧
          (k ∈ a.host.pba → ∃ u : State, exec (.msixVectorUnmask f v) s = .next (leave s (sendMsix u f v)) ∧
            { u with host := { u.host with rings := a.host.rings } } = b ∧
            ∀ r, ringAt u r = if r ∈ mkeys a.host.rings (fun _ x => x.msgDue && decide (x.owner = f.val) && decide (x.vector = v.val)) then
              { ringAt a r with pend := 0, msgDue := false } else ringAt a r))))

/-- R431: a requester of the window that already waits gets state 5; a word above 3, a mailbox that does not exist or does not admit it
gives state 4; an empty mailbox takes the staged words; a full one, or one emptied in this very cycle (R439), takes the send as a waiting one when bit 0 asks for it (state 2), else gives state 3.
A withdrawal takes the requester's waiting send away (state 6). R432: the receiver's read of RX7 returns word 7 and empties the
mailbox, with a delivery due when sends wait for it; another requester's read takes nothing; a delivery that is due delivers the oldest
waiting send in the next control cycle, and so does every command that comes after it. Of two sends of one cycle the one with the lower
ID keeps the slot (R437, R439). R435: a crossing that has stood 4 µs is signalled to both receivers once. Requesters outside the window do nothing.
(Model's choices and readings in it: log 67.)
R436: a read of a free lock by one requester of the window takes it and returns 0; a read of a lock that is held returns its holder
and takes nothing; a requester outside the window reads 0. R437: of several that read it in one cycle, in one command or in several, one
gets it and reads 0, the others read its ID, and the rotation moves past it. A write of 0 by the holder frees the lock; any other write by a requester of the window is counted. R438: PF0 alone breaks a lock, with
an event that names the lock and its holder.
(Model's choices and readings in it: log 67.) -/
def Obligations.MailboxesAndLocks : Prop :=
  (
    ∀ (s a : State),
      (∀ req n : Fin 64, Finds s a → reqReach a req (0x24103C + 0x40 * n) = false →
        exec (.mbxRx7Take req n) s = .next (leave s { a with host := { a.host with readBack := mput a.host.readBack req 0 } })) ∧
      (∀ (req : Fin 64) (n : Fin 64) (w : Word), FindsReg s a req (0x24100C + 0x40 * n) →
        (mbxReach req = false → exec (.mbxSend req n w) s = .next (leave s a)) ∧
        (mbxReach req = true →
          ((∃ x, x ∈ a.mbx.waits ∧ x.req = req.val) → exec (.mbxSend req n w) s = .next (leave s (txstat a req 5 n))) ∧
          ((∀ x, x ∈ a.mbx.waits → x.req ≠ req.val) →
            (mget a.mbx.boxes n = none → exec (.mbxSend req n w) s = .next (leave s (txstat a req 4 n))) ∧
            (∀ b, mget a.mbx.boxes n = some b →
              (3 < w.toNat ∨ admits b req = false → exec (.mbxSend req n w) s = .next (leave s (txstat a req 4 n))) ∧
              (w.toNat ≤ 3 → admits b req = true →
                let x : Waiting := { req := req, mbox := n, words := stagedWords a req, notify := bit w.toNat 1, since := a.time.elapsed }
                let waiting := txstat { a with mbx := { a.mbx with waits := a.mbx.waits ++ [x] } } req 2 n
                (b.full = false → b.takenAt ≠ some (instant a) → b.deliverDue = none →
                  exec (.mbxSend req n w) s = .next (leave s (modBox (deliverMsg a n req (stagedWords a req) (bit w.toNat 1)) n
                    fun y => { y with sentAt := some (instant a, bit w.toNat 0) }))) ∧
                (b.full = true → (∀ e, b.sentAt = some e → e.1 ≠ instant a ∨ b.from_ ≤ req) →
                  (bit w.toNat 0 = false → exec (.mbxSend req n w) s = .next (leave s (txstat a req 3 n))) ∧
                  (bit w.toNat 0 = true → exec (.mbxSend req n w) s = .next (leave s waiting))) ∧
                (∀ wasWait, b.full = true → b.sentAt = some (instant a, wasWait) → req < b.from_ →
                  exec (.mbxSend req n w) s = .next (leave s
                    (displace a req n (stagedWords a req) (bit w.toNat 0) (bit w.toNat 1) b wasWait))) ∧
                (b.full = false → b.takenAt = some (instant a) →
                  (bit w.toNat 0 = false → exec (.mbxSend req n w) s = .next (leave s (txstat a req 3 n))) ∧
                  (bit w.toNat 0 = true → exec (.mbxSend req n w) s = .next (leave s (signal
                    (modBox waiting n fun y => { y with deliverDue := some (y.deliverDue.getD (instant a)) }) req 3 n .mbxEmpty 2))))))))) ∧
      (∀ req : Fin 64, FindsReg s a req 0x240034 →
        (mbxReach req = false ∨ (∀ x, x ∈ a.mbx.waits → x.req ≠ req.val) → exec (.mbxTxcancel req) s = .next (leave s a)) ∧
        (mbxReach req = true → ∀ x, a.mbx.waits.find? (fun w => decide (w.req = req.val)) = some x →
          let t := if oldestWaiter a x.mbox = some x then modBox a x.mbox fun b => { b with crossed := none } else a
          let u := { t with mbx := { t.mbx with waits := t.mbx.waits.filter fun y => decide (y.req ≠ req.val) } }
          exec (.mbxTxcancel req) s = .next (leave s
            (txstat (if waitersOf u x.mbox = [] then modBox u x.mbox fun b => { b with deliverDue := none } else u) req 6 x.mbox)))) ∧
      (∀ (req n : Fin 64), FindsReg s a req (0x24103C + 0x40 * n) →
        let b := boxAt a n
        let seen (v : Nat) : State := { a with host := { a.host with readBack := mput a.host.readBack req v } }
        (mbxReach req = false ∨ b.receiver ≠ req → exec (.mbxRx7Take req n) s = .next (leave s (seen 0))) ∧
        (mbxReach req = true → mhas a.mbx.boxes n = true → b.receiver = req → b.full = true → b.notify = false → waitersOf a n = [] →
          exec (.mbxRx7Take req n) s = .next (leave s
            (modBox (seen (b.words.getD 7 0)) n fun b =>
              { b with full := false, words := b.words.set 7 0, takenAt := some (instant a), deliverDue := none, crossed := none })))) ∧
      (∀ n : Fin 64, FindsUnit s a →
        let b := boxAt a n
        let c := modBox (passCycles a 1) n fun b => { b with deliverDue := none, sentAt := none }
        (b.deliverDue ≠ some (instant a) ∨ 63 ≤ a.time.cycle ∨ clockRuns a = false →
          exec (.mbxWaitingDelivery n) s = .next (leave s a)) ∧
        (b.deliverDue = some (instant a) → a.time.cycle < 63 → clockRuns a = true → deliveriesDue (passCycles a 1) = [n.val] →
          (oldestWaiter c n = none → exec (.mbxWaitingDelivery n) s = .next (leave s c)) ∧
          (∀ w, oldestWaiter c n = some w → exec (.mbxWaitingDelivery n) s = .next (leave s (deliverMsg
            { c with mbx := { c.mbx with waits := c.mbx.waits.filter fun x => decide (x.req ≠ w.req) } } n w.req w.words w.notify))))) ∧
      (∀ (m n : Fin 64), Finds s a →
        (crossedSince a m n = none → exec (.mbxCrossExpiry m n) s = .next (leave s a)) ∧
        (∀ t, crossedSince a m n = some t →
          (a.time.elapsed < t + 4 * usU ∨ (boxAt a m).crossed = some n.val ∧ (boxAt a n).crossed = some m.val → exec (.mbxCrossExpiry m n) s = .next (leave s a)) ∧
          (t + 4 * usU ≤ a.time.elapsed → ¬((boxAt a m).crossed = some n.val ∧ (boxAt a n).crossed = some m.val) →
            let b := modBox (modBox a m fun x => { x with crossed := some n.val }) n fun x => { x with crossed := some m.val }
            let c := bump b 0x240004
            let d := signal c (boxAt c m).receiver 4 m .mbxCross (handleOf c cMBOX n * 4294967296)
            exec (.mbxCrossExpiry m n) s =
              .next (leave s (signal d (boxAt d n).receiver 4 n .mbxCross (handleOf d cMBOX m * 4294967296))))))) ∧
  (
    ∀ (s a : State) (req n : Fin 64),
      let v := lockAt a n
      let seen (u : State) (x : Nat) : State := { u with host := { u.host with readBack := mput u.host.readBack req x } }
      (∀ others, Finds s a → reqReach a req (0x248000 + 4 * n) = false → exec (.lckRead req others n) s = .next (leave s (seen a 0))) ∧
      (FindsReg s a req (0x248000 + 4 * n) → freedNow a n = none → ∀ others : BitVec 64,
        let all := req.val :: maskList others.toNat 64
        let readers := (dedup all).filter mbxReach
        let reads (t : State) (x : Nat → Nat) : Prop := ∀ r, r ∈ all → mgetD t.host.readBack r 0 = if mbxReach r then x r else 0
        (v ≠ 0 → turnOf a n = none → ∃ t, exec (.lckRead req others n) s = .next (leave s t) ∧ reads t (fun _ => v) ∧
          { t with host := { t.host with readBack := a.host.readBack } } = a) ∧
        (v = 0 → turnOf a n = none → mbxReach req = true → others = 0 → ∃ t, exec (.lckRead req others n) s = .next (leave s t) ∧
          lockAt t n = req ∧ mgetD t.host.readBack req 0 = 0 ∧ t.mbx.rot = a.mbx.rot) ∧
        (v = 0 → turnOf a n = none → mbxReach req = false → others = 0 →
          exec (.lckRead req others n) s = .next (leave s (seen a 0))) ∧
        (∀ (rs : List Nat) (ptr w : Nat),
          (turnOf a n = none ∧ v = 0 ∧ rs = readers ∧ ptr = mgetD a.mbx.rot n 1) ∨
            (∃ before, turnOf a n = some (before, ptr) ∧ rs = dedup (before ++ readers)) →
          grantOf rs ptr = some w → ∃ t, exec (.lckRead req others n) s = .next (leave s t) ∧
            lockAt t n = w ∧ (∀ m, m ≠ n.val → lockAt t m = lockAt a m) ∧ t.mbx.boxes = a.mbx.boxes ∧ t.mbx.waits = a.mbx.waits ∧
            (∀ r, r ∈ rs → mgetD t.host.readBack r 0 = if r = w ∨ mbxReach r = false then 0 else w) ∧
            (1 < rs.length → mgetD t.mbx.rot n 1 = if w = 47 then 1 else w + 1) ∧ (rs.length ≤ 1 → t.mbx.rot = a.mbx.rot))) ∧
      (∀ w : Word, FindsReg s a req (0x248000 + 4 * n) →
        (mbxReach req = false → exec (.lckWrite req n w) s = .next (leave s a)) ∧
        (mbxReach req = true → w = 0 → lockHeld a n = req → exec (.lckWrite req n w) s =
          .next (leave s (let b := setLock a n 0
                          { b with mbx := { b.mbx with
                            freed := (n.val, req.val, instant a) :: b.mbx.freed.filter fun f => decide (f.2.2 = instant a) } }))) ∧
        (mbxReach req = true → w ≠ 0 ∨ lockHeld a n ≠ req → exec (.lckWrite req n w) s = .next (leave s (bump a 0x248204)))) ∧
      (FindsReg s a req 0x248200 →
        (req.val ≠ 32 → exec (.lckBreak req n) s = .next (leave s a)) ∧
        (req.val = 32 → freedNow a n = none →
          exec (.lckBreak req n) s = .next (leave s (raise (setLock a n 0) .lckBroken 0 (n + v * 256) oMBX)))) ∧
      (∀ x, x ≠ 0 → lockAt (setLock a n x) n = x) ∧ lockAt (setLock a n 0) n = 0)

/-! ### Registers, debug and the TAP -/

/-- R4: a write of another width or alignment changes nothing, and a read of another width or alignment returns 0 and clears nothing. A requester that does not reach an
offset changes nothing and reads 0. R5 and R568: a write to a register of the table that no rule of its own governs sets each
writable field whose value lies in the field's range, and no other bit; an RC register that answers the requester is cleared; an offset outside the table takes
no write. R6: the read of a lo word latches the hi word, and the requester's next read of the hi word returns it and releases the latch.
R392 and R407: a write in BAR2 is a doorbell of the function, a word of its MSI-X table, or sets the mask of one of its vectors; writes
in BAR4 are discarded. A read in BAR2 shows the table and the masks, and 0 at the doorbells; one of PF0 in BAR4 shows the trace ring's
bytes (here without a memory error).
(Model's choices and readings in it: log 15 and 65.) -/
def Obligations.RegisterAccesses : Prop :=
  ∀ (s a : State) (req : Fin 64), Finds s a →
    let z := { a with host := { a.host with poisonedRead := false } }
    let shown (u : State) (v : Nat) : State := { u with host := { u.host with readBack := mput u.host.readBack req v } }
    (∀ (bar : Fin 3) (off : BitVec 30) (w : Fin 9) (x : Word),
      let o := off.toNat
      let f := req.val - 32
      (w ≠ 4 ∨ o % 4 ≠ 0 ∨ bar = 2 → exec (.registerWrite req bar off w x) s = .next (leave s a)) ∧
      (w = 4 → o % 4 = 0 → bar = 0 →
        (reqReach a req o = false → exec (.registerWrite req bar off w x) s = .next (leave s a)) ∧
        (reqReach a req o = true → actionWrite a req o x.toNat = none →
          (regRow o = none → exec (.registerWrite req bar off w x) s = .next (leave s a)) ∧
          (∀ r, regRow o = some r →
            (mayWrite req o r = false ∨ r.rc = true → exec (.registerWrite req bar off w x) s = .next (leave s a)) ∧
            (mayWrite req o r = true → r.rc = false → r.pair = 0 → 0x260000 ≤ o → o < 0x270000 →
              exec (.registerWrite req bar off w x) s =
                .next (leave s (setRegAt a o (reqOf r req) (fieldsWrite r (regAt a o (reqOf r req)) x.toNat))))))) ∧
      (w = 4 → o % 4 = 0 → bar = 1 →
        (req.val < 32 ∨ 48 ≤ req.val ∨ hostLink a = false ∨ a.md.mode = .boot →
          exec (.registerWrite req bar off w x) s = .next (leave s a)) ∧
        (32 ≤ req.val → req.val < 48 → hostLink a = true → a.md.mode ≠ .boot →
          (o < 0x1000 → o % 16 = 0 → exec (.registerWrite req bar off w x) s = .next (leave s (tailDoorbell a f (o / 16) x.toNat))) ∧
          (o < 0x1000 → o % 16 = 4 → exec (.registerWrite req bar off w x) s = .next (leave s (headDoorbell a f (o / 16) x.toNat))) ∧
          (0xC000 ≤ o → o < 0xC000 + 16 * (if f = 0 then 64 else 16) → o % 16 = 12 → bit x.toNat 0 = true →
            exec (.registerWrite req bar off w x) s = .next (leave s { a with host := { a.host with
              unmasked := a.host.unmasked.filter fun k => decide (k ≠ 64 * f + (o - 0xC000) / 16) } })) ∧
          (0xC000 ≤ o → o < 0xC000 + 16 * (if f = 0 then 64 else 16) → o % 16 < 12 →
            exec (.registerWrite req bar off w x) s = .next (leave s { a with host := { a.host with
              msixTable := mput a.host.msixTable (4 * (64 * f + (o - 0xC000) / 16) + o % 16 / 4) x.toNat } }))))) ∧
    (∀ (bar : Fin 3) (off : BitVec 30) (w : Fin 9) (i : Instr), (i = .registerLoRead req ⟨off, w, bar⟩ ∨ i = .registerReadClear req ⟨off, w, bar⟩) →
      bar ≠ 0 →
      let o := off.toNat
      let f := req.val - 32
      (w ≠ 4 ∨ o % 4 ≠ 0 ∨ req.val < 32 ∨ 47 < req.val ∨ hostLink a = false ∨ a.md.mode = .boot →
        exec i s = .next (leave s (shown z 0))) ∧
      (w = 4 → o % 4 = 0 → 32 ≤ req.val → req.val ≤ 47 → hostLink a = true → a.md.mode ≠ .boot →
        (bar = 1 →
          (o < 0xC000 → exec i s = .next (leave s (shown z 0))) ∧
          (0xC000 ≤ o → o < 0xC000 + 16 * (if f = 0 then 64 else 16) →
            let v := 64 * f + (o - 0xC000) / 16
            (o % 16 < 12 → exec i s = .next (leave s (shown z (mgetD a.host.msixTable (4 * v + o % 16 / 4) 0)))) ∧
            (o % 16 = 12 → exec i s = .next (leave s (shown z (if v ∈ a.host.unmasked then 0 else 1)))))) ∧
        (bar = 2 → req.val ≠ 32 → exec i s = .next (leave s (shown z 0))) ∧
        (bar = 2 → req.val = 32 → memPoisoned a (hamperBase + o) 4 = false → (∀ l, l ∈ linesOf (hamperBase + o) 4 → l ∉ a.mem.weak) →
          (∀ l, l ∈ linesOf (hamperBase + o) 4 → l ∉ a.mem.poisoned) →
          exec i s = .next (leave s (shown z (leNat (memRead a (hamperBase + o) 4))))))) ∧
    (∀ (off : BitVec 30) (w : Fin 9) (i : Instr), (i = .registerLoRead req ⟨off, w, 0⟩ ∨ i = .registerReadClear req ⟨off, w, 0⟩) →
      let o := off.toNat
      (0x1000000 ≤ o → exec i s = .next (leave s (shown z 0))) ∧
      (o < 0x1000000 → w ≠ 4 ∨ o % 4 ≠ 0 ∨ reqReach z req o = false → exec i s = .next (leave s (shown z 0))) ∧
      (o < 0x1000000 → reqReach z req o = true → o ≠ 0x80018 → o ≠ 0x2006C → o < 0x241000 ∨ 0x248100 ≤ o →
        (w = 4 → o % 4 = 0 →
          (∀ h, mget a.host.hiLatch (regKey o req) = some h → exec i s = .next (leave s (shown
            { z with host := { z.host with hiLatch := mdel a.host.hiLatch (regKey o req) } } h))) ∧
          (mget a.host.hiLatch (regKey o req) = none →
            let b := shown z (regValue z req o)
            (pairLo o = true → exec i s = .next (leave s { b with host := { b.host with
              hiLatch := mput a.host.hiLatch (regKey (o + 4) req) (regValue z req (o + 4)) } })) ∧
            (∀ r, pairLo o = false → regRow o = some r → r.rc = true → answers z req o = true →
              exec i s = .next (leave s (setRegAt b o (reqOf r req) 0))) ∧
            (∀ r, pairLo o = false → regRow o = some r → r.rc = true → answers z req o = false → exec i s = .next (leave s b)) ∧
            (∀ r, pairLo o = false → regRow o = some r → r.rc = false → exec i s = .next (leave s b)) ∧
            (pairLo o = false → regRow o = none → exec i s = .next (leave s b))))))

/-- R531 and R541: each operation of a session acts only within its reach, which asks for level D2 and for held regions, and sets DENIED
elsewhere. A halt and a resume of a core or lane are kept for the session that made them; a halted core steps by one instruction, and
one that is not halted does not step; a core takes four breakpoints, and a fifth sets DENIED; clearing takes every breakpoint of the
core. A read of DBG_MDATA at level D1 or D2 shows the word and advances DBG_MADDR by 1, and without an open session reads 0; a write outside the reach
sets DENIED, and no write reaches device DRAM. R536: no lane of a GUARD gang is in reach.
(Model's choices and readings in it: log 78 and 79.)
R530: with DBGACC loaded, out of boot, a token asks for session 0; elsewhere it does nothing; a session that closes ends, its
breakpoints go, and DBG_CLOSED carries the session and the cause. R532: a session whose lifetime has passed closes with cause 4; the second TAP reset since session 0
opened closes it with cause 2, and every TAP reset leaves IDCODE loaded. R535: outside the conditions of R534 a boundary-scan
instruction loads BYPASS instead; the others load. -/
def Obligations.DebugAccess : Prop :=
  (
    ∀ (s a : State) (k : Fin 2), FindsReg s a (if k = 0 then 63 else 32) 0x20070 →
      let ses := k.val
      let denied := sesDenied a ses
      (∀ n : Fin 18,
        let c := drvAt a n
        let put (h : List Nat) : State := { a with drv := mput a.drv n { c with halted := h } }
        let mine := a.sec.breaks.filter fun b => decide (b.1 = n.val)
        (coreReach a ses n = false →
          exec (.dbgHaltCore k n) s = .next (leave s denied) ∧ exec (.dbgResumeCore k n) s = .next (leave s denied) ∧
          exec (.dbgStepCore k n) s = .next (leave s denied) ∧ exec (.dbgSetBreakpoint k n) s = .next (leave s denied) ∧
          exec (.dbgClearBreakpoints k n) s = .next (leave s denied)) ∧
        (coreReach a ses n = true →
          exec (.dbgHaltCore k n) s = .next (leave s (put (if c.halted.contains ses then c.halted else c.halted ++ [ses]))) ∧
          (c.entered = false → exec (.dbgResumeCore k n) s = .next (leave s (put (c.halted.filter (· ≠ ses))))) ∧
          (c.halted = [] → exec (.dbgStepCore k n) s = .next (leave s a)) ∧
          (c.halted ≠ [] → c.entered = true →
            exec (.dbgStepCore k n) s = .next (leave s (drvRow a n false (drvDecode (codeAt c c.loop.pc))))) ∧
          (c.halted ≠ [] → c.entered = false →
            exec (.dbgStepCore k n) s = .next (leave s (drvRow a n true (drvDecode (codeAt c c.graph.pc))))) ∧
          (4 ≤ mine.length → exec (.dbgSetBreakpoint k n) s = .next (leave s denied)) ∧
          (mine.length < 4 → exec (.dbgSetBreakpoint k n) s =
            .next (leave s { a with sec := { a.sec with breaks := a.sec.breaks ++ [(n.val, dbgAddr a ses, ses)] } })) ∧
          exec (.dbgClearBreakpoints k n) s =
            .next (leave s { a with sec := { a.sec with breaks := a.sec.breaks.filter fun b => decide (b.1 ≠ n.val) } }))) ∧
      (∀ q : Fin 208,
        let x := laneAt a q
        (laneReach a ses q = false → exec (.dbgHaltLane k q) s = .next (leave s denied) ∧ exec (.dbgResumeLane k q) s = .next (leave s denied)) ∧
        (laneReach a ses q = true →
          exec (.dbgHaltLane k q) s = .next (leave s (modSolLane a q fun _ =>
            { x with halted := if x.halted.contains ses then x.halted else x.halted ++ [ses] })) ∧
          exec (.dbgResumeLane k q) s = .next (leave s (modSolLane a q fun _ => { x with halted := x.halted.filter (· ≠ ses) }))) ∧
        (∀ n, logicalOf a q = some n → (gangAt a (gangOf a n)).role = 2 → laneReach a ses q = false)) ∧
      (let sel := regAt a 0x20060 (sesReq ses)
       let space := bits sel 0 3
       let unit := bits sel 8 8
       let at_ := dbgAddr a ses
       let shown (u : State) (v : Nat) : State :=
         dbgAdvance { u with host := { u.host with readBack := mput u.host.readBack (sesReq ses) v } } ses
       (sesLevel a ses = 0 → exec (.dbgMdataAccess k none) s = .next (leave s (shown a 0))) ∧
       (sesLevel a ses ≠ 0 → dbgIn space unit at_ = true →
         exec (.dbgMdataAccess k none) s = .next (leave s
           (shown (if space = 5 then eccRead a (linesOf (4 * at_) 4) else a) (dbgWord a space unit at_)))) ∧
       (∀ w : Word,
         (dbgReach a ses space unit = false → exec (.dbgMdataAccess k (some w)) s = .next (leave s denied)) ∧
         (dbgReach a ses space unit = true → dbgIn space unit at_ = true →
           exec (.dbgMdataAccess k (some w)) s = .next (leave s (dbgAdvance (dbgPut a space unit at_ w.toNat) ses)))) ∧
       dbgReach a ses 5 unit = false)) ∧
  (
    ∀ s a : State,
      (Finds s a →
        (∀ k : Fin 2,
          (∀ t, (mget a.sec.sessions k).bind (fun x => x.ends) = some t →
            (a.time.elapsed < t → exec (.dbgSessionExpiry k) s = .next (leave s a)) ∧
            (t ≤ a.time.elapsed → exec (.dbgSessionExpiry k) s = .next (leave s (closeSession a k 4)))) ∧
          ((mget a.sec.sessions k).bind (fun x => x.ends) = none → exec (.dbgSessionExpiry k) s = .next (leave s a))) ∧
        (∀ (level : Fin 3) (rs : BitVec 16) (tok : List Byte),
          (a.sec.tap = 2 → level ≠ 0 → a.md.mode ≠ .boot →
            exec (.jtagDbgaccToken level rs tok) s =
              .next (leave s (attemptSession a 0 level (if level = 2 then rs.toNat else 0) tok).1)) ∧
          (a.sec.tap ≠ 2 ∨ level = 0 ∨ a.md.mode = .boot → exec (.jtagDbgaccToken level rs tok) s = .next (leave s a)))) ∧
      (∀ (ses cause : Nat), mhas a.sec.sessions ses = true → a.drv = [] → a.sol.lanes = [] →
        closeSession a ses cause = raise { a with sec := { a.sec with
          sessions := mdel a.sec.sessions ses, breaks := a.sec.breaks.filter fun b => decide (b.2.2 ≠ ses) } } .dbgClosed 0
          (ses + cause * 256) oSEC) ∧
      (FindsOn s a →
        let b := { a with sec := { a.sec with tap := 1 } }
        (mhas a.sec.sessions 0 = false → exec .tapReset s = .next (leave s b)) ∧
        (mhas a.sec.sessions 0 = true → a.sec.tapResets = 0 →
          exec .tapReset s = .next (leave s { a with sec := { a.sec with tap := 1, tapResets := 1 } })) ∧
        (mhas a.sec.sessions 0 = true → 1 ≤ a.sec.tapResets →
          exec .tapReset s = .next (leave s (closeSession { a with sec := { a.sec with tap := 1, tapResets := 0 } } 0 2))) ∧
        (∀ i : Fin 4,
          (i ≠ 3 ∨ a.sec.lifecycle = 0 ∨ a.sec.lifecycle = 3 ∨ a.sec.resetHeld = true →
            exec (.jtagInstruction i) s = .next (leave s { a with sec := { a.sec with tap := i } })) ∧
          (i = 3 → a.sec.lifecycle ≠ 0 → a.sec.lifecycle ≠ 3 → a.sec.resetHeld = false →
            exec (.jtagInstruction i) s = .next (leave s { a with sec := { a.sec with tap := 0 } })))))

/-! ### Descriptors -/

/-- A descriptor that a pair accepts at once, and that acts at a boundary, moves its ring on by one, reserves two CQ entries, is counted, and waits
for the next boundary with its stamp: requester, position, WALL32 and frame. On a pair that is not UP, or without Bus Master
Enable, nothing arrives. A reserved flag fails the ring checks with cause 2 and the expected SEQUENCE; out of the function's scope it
completes with DENIED; with a handle that fails R28 it completes as R28 says, and with a scale record that breaks R16 it completes
with RANGE at once (outside DORMANT, which refuses it at its boundary).
(Model's choices and readings in it: log 56 and 63.) -/
def Obligations.DescriptorAcceptance : Prop :=
  ∀ (s a : State) (d : Desc), Finds s a →
    let rows : List (Instr × Nat × Desc) :=
      [(.destroy d, 0x0002, d), (.armCreate d, 0x0003, d), (.jointCreate d, 0x0004, d), (.jointScaleSet d, 0x0005, d),
       (.regionRelease d, 0x0100, d), (.regionResume d, 0x0101, d), (.regionHold d, 0x0102, d), (.regionService d, 0x0103, d),
       (.regionLeaveService d, 0x0104, d), (.modeSet d, 0x0110, d), (.linesrcCreate d, 0x0200, d), (.lineDesignate d, 0x0201, d),
       (.cchanCreate d, 0x0400, d), (.cchanSet d, 0x0401, d), (.fbchCreate d, 0x0500, d), (.fbchSet d, 0x0501, d),
       (.fbchSetPos d, 0x0502, d), (.sweSet d, 0x0600, d), (.drvSwap d, 0x0701, d), (.drvBind d, 0x0702, d), (.drvParam d, 0x0703, d),
       (.prfCreate d, 0x0800, d), (.prfSet d, 0x0801, d), (.prfQueue d, 0x0802, d), (.prfHome d, 0x0804, d),
       (.gearCreate d, 0x0805, d), (.gearSet d, 0x0806, d), (.solGang d, 0x0900, d), (.problemBind d, 0x0902, d),
       (.problemWrite d, 0x0903, d), (.plnBranchSet d, 0x0904, d), (.grdKinSet d, 0x0A00, d), (.grdCapsuleSet d, 0x0A01, d),
       (.grdStopSet d, 0x0A02, d), (.trackCreate d, 0x0A03, d), (.zoneCreate d, 0x0A04, d), (.grdZoneSet d, 0x0A05, d),
       (.pressOpen d, 0x0B00, d), (.pressArm d, 0x0B01, d), (.pressAbort d, 0x0B02, d), (.nodeCreate d, 0x0C00, d), (.nodeSet d, 0x0C01, d),
       (.edgeSet d, 0x0C02, d), (.flowCreate d, 0x0C03, d), (.delayCreate d, 0x0C04, d), (.delayArm d, 0x0C05, d), (.gscToken d, 0x0C06, d),
       (.ringCreate d, 0x0D00, d), (.eventRoute d, 0x0D01, d), (.traceCreate d, 0x0E00, d), (.traceSet d, 0x0E01, d),
       (.traceTrigger d, 0x0E02, withByte16 0 d), (.traceRearm d, 0x0E02, withByte16 1 d), (.mboxCreate d, 0x0F00, d), (.fltAck d, 0x1100, d),
       (.fltClearFaults d, 0x1101, withByte16 1 d), (.fltClearQuarantine d, 0x1101, withByte16 2 d),
       (.fltClearWarmStart d, 0x1101, withByte16 3 d)]
    (∀ c op e, (c, op, e) ∈ rows →
      (Admitted a op e → exec c s = .next (leave s (listed a op e))) ∧
      ((ringAt a e.ring).st ≠ .up ∨ busMasterOn a (ringAt a e.ring).owner = false → exec c s = .next (leave s a)) ∧
      (let r := ringAt a e.ring
       let x := accOf a op e
       r.st = .up → busMasterOn a r.owner = true → r.waiting = [] → cqRoom r = true → (e.flags.getLsbD 0 = false ∨ r.open_ = 0) →
       a.host.accepted < 8 →
       (4 ≤ e.flags.toNat → exec c s = .next (leave s (completeRingCheck (taken a e) x (2 + 256 * (r.pos % 256))))) ∧
       (e.flags.toNat < 4 → e.press = 0 → scopeDenies (taken a e) x = true →
         exec c s = .next (leave s (complete (taken a e) x stDENIED 0 0))) ∧
       (e.flags.toNat < 4 → e.press = 0 → scopeDenies (taken a e) x = false → acceptHandles (taken a e) x = none →
         dormantRefuses (taken a e) op = false → scaleAccepted (taken a e) x = false →
         exec c s = .next (leave s (complete (taken a e) x stRANGE 0 0))) ∧
       (∀ st h, e.flags.toNat < 4 → e.press = 0 → scopeDenies (taken a e) x = false → acceptHandles (taken a e) x = some (st, h) →
         exec c s = .next (leave s (complete (taken a e) x st 0 h)))))

/-- The descriptors that act as soon as they are accepted: NOP completes with its WALL32; TIME_STEP_AUTH arms or disarms the step's
authorisation, and a second one is BUSY; RYL_HEAD_CYCLIC writes the head's table and waits to be sent; RYL_HEAD_ACCESS joins the
port's service queue, or is BUSY with 0xFF on a port that does not send; CNV_CALIBRATE asks for a calibration; SWE_HEAD_CAL starts the head's
sequence; DRV_LOAD begins a load into the inactive bank; PROBLEM_CREATE waits for its block; PLN_REPLAN places anew from the next tick; GSC_WAIT
joins the waits with its count and timeout; HLT_DARN queues a request; HLT_TEST starts a test. One that names the same handle as a
descriptor that waits for the next boundary waits behind it (R34). A payload that breaks its row's rules
completes with RANGE and nothing else.
(Model's choices and readings in it: log 28 and 42.) -/
def Obligations.DescriptorsThatActAtOnce : Prop :=
  ∀ (s a : State) (d : Desc), Finds s a →
    let t := taken a d
    let x (op : Nat) : Acc := accOf a op d
    (Admitted a 0x0001 d →
      (d.payload = 0 → exec (.nop d) s = .next (leave s (complete t (x 0x0001) stOK 0 (wall32 a)))) ∧
      (d.payload ≠ 0 → exec (.nop d) s = .next (leave s (complete t (x 0x0001) stRANGE 0 0)))) ∧
    (Admitted a 0x0202 d →
      let done (v : Option Nat) : State := complete { t with time := { t.time with stepArmed := v } } (x 0x0202) stOK 0 0
      (onlyBytes d [(16, 9)] = false ∨ 1 < pf d 24 1 → exec (.timeStepAuth d) s = .next (leave s (complete t (x 0x0202) stRANGE 0 0))) ∧
      (onlyBytes d [(16, 9)] = true →
        (pf d 24 1 = 1 → exec (.timeStepAuth d) s = .next (leave s (done none))) ∧
        (pf d 24 1 = 0 → a.time.stepArmed = none → exec (.timeStepAuth d) s = .next (leave s (done (some (pf d 16 8))))) ∧
        (pf d 24 1 = 0 → a.time.stepArmed ≠ none →
          exec (.timeStepAuth d) s = .next (leave s (complete t (x 0x0202) stBUSY 0 0))))) ∧
    (Admitted a 0x0300 d →
      (∀ st h, cyclicCheck t (x 0x0300) = some (st, h) → exec (.rylHeadCyclic d) s = .next (leave s (complete t (x 0x0300) st 0 h))) ∧
      (cyclicCheck t (x 0x0300) = none →
        let first := pf d 18 1
        let n := pf d 19 1
        let words := (List.range n).map fun i => (first + i, pf d (20 + 2 * i) 2)
        let job : CycJob := { acc := x 0x0300, first := first, count := n }
        exec (.rylHeadCyclic d) s = .next (leave s (modHead t (pf d 16 1) (pf d 17 1) fun h =>
          { h with table := words.foldl (fun m w => mput m w.1 w.2) h.table,
                   jobs := (h.jobs.map fun j => { j with sent := j.sent.filter fun e => e.1 < first ∨ first + n ≤ e.1 }) ++ [job] })))) ∧
    (Admitted a 0x0301 d → accessCheck t (x 0x0301) = none →
      let r : SvcReq := { dest := pf d 17 1, op := pf d 18 1, reg := pf d 20 2, data := pf d 24 4, mask := pf d 28 4,
                          use := .access (x 0x0301) }
      (portSends (portAt t (pf d 16 1)) = true →
        exec (.rylHeadAccess d) s = .next (leave s (modPort t (pf d 16 1) fun y => { y with queue := y.queue ++ [r] }))) ∧
      (portSends (portAt t (pf d 16 1)) = false →
        exec (.rylHeadAccess d) s = .next (leave s (complete t (x 0x0301) stBUSY 0 (det12 0 0xFF))))) ∧
    (Admitted a 0x0402 d →
      (calCheck (x 0x0402) = none → exec (.cnvCalibrate d) s = .next (leave s (calRequest t (physConv t (pf d 16 1)) (some (x 0x0402))))) ∧
      (∀ st h, calCheck (x 0x0402) = some (st, h) → exec (.cnvCalibrate d) s = .next (leave s (complete t (x 0x0402) st 0 h)))) ∧
    (Admitted a 0x0601 d → sharesHandle t (x 0x0601) = false → targetHeld t (x 0x0601) = none → headCalCheck t (x 0x0601) = none → ∀ j, mget t.joints (tIdx d) = some j →
      exec (.sweHeadCal d) s = .next (leave s (modHead { t with free := t.free + 1 } j.port j.pos fun h =>
        { h with cal := some (x 0x0601, t.time.frame + 1 + Config.freeNat t.free) }))) ∧
    (Admitted a 0x0700 d →
      (drvLoadCheck t (x 0x0700) = none → exec (.drvLoad d) s = .next (leave s (modDrv t (pf d 16 1) fun c =>
        { c with load := some (x 0x0700, decide (pf d 17 1 = 1)), staged := false }))) ∧
      (∀ st h, drvLoadCheck t (x 0x0700) = some (st, h) → exec (.drvLoad d) s = .next (leave s (complete t (x 0x0700) st 0 h)))) ∧
    (Admitted a 0x0901 d →
      (a.md.mode = .dormant → exec (.problemCreate d) s = .next (leave s (complete t (x 0x0901) stMODE 0 0))) ∧
      (a.md.mode ≠ .dormant → problemCreateCheck t (x 0x0901) = none →
        exec (.problemCreate d) s = .next (leave s { t with sol := { t.sol with creates := t.sol.creates ++ [x 0x0901] } }))) ∧
    (Admitted a 0x0905 d → replanCheck t (x 0x0905) = none →
      (replanResult t (pf d 16 1) = none → exec (.plnReplan d) s = .next (leave s (complete t (x 0x0905) stNORES 0 0))) ∧
      (∀ r, replanResult t (pf d 16 1) = some r →
        exec (.plnReplan d) s = .next (leave s { t with pln := { t.pln with replan := t.pln.replan ++ [x 0x0905] } }))) ∧
    (Admitted a 0x0C07 d → sharesHandle t (x 0x0C07) = false → targetHeld t (x 0x0C07) = none → pf d 16 2 ≠ 0 → onlyBytes d [(16, 2), (20, 4)] = true →
      pf d 20 4 = 0 ∨ waitTimeoutOk t = true → t.gsc.waits.length < 64 → (nodeAt t (tIdx d)).st ≠ .error →
      let w : Wait := { acc := x 0x0C07, node := tIdx d, left := pf d 16 2,
                        until_ := if pf d 20 4 = 0 then none else some (t.time.elapsed + pf d 20 4 * usU) }
      exec (.gscWait d) s = .next (leave s { t with gsc := { t.gsc with waits := t.gsc.waits ++ [w] } })) ∧
    (∀ c i, Admitted a 0x1000 d → hltDarnCheck t (x 0x1000) = none → hltName d = (some c, i) →
      exec (.hltDarn d) s = .next (leave s (darnQueue t c i (instAt t c i).failed (some (x 0x1000))))) ∧
    (∀ c i, Admitted a 0x1001 d → hltTestCheck t (x 0x1001) = none → partsAsleep t (x 0x1001) = false → hltName d = (some c, i) →
      exec (.hltTest d) s = .next (leave s (testStart t c i (some (x 0x1001))))) ∧
    (∀ c op, (c, op) ∈ [(Instr.sweHeadCal d, 0x0601), (.prfStop d, 0x0803), (.gscWait d, 0x0C07)] → Admitted a op d →
      sharesHandle t (x op) = true → exec c s = .next (leave s (listed a op d)))

/-- R91: an access, accepted and well formed, that writes a head register from 0x0000 to 0x00FF completes with DENIED and does nothing
else; one that reads it goes to the port's service traffic like every other access. -/
def Obligations.DeviceHeadRegisters : Prop :=
  ∀ (s a : State) (d : Desc), Finds s a → Admitted a 0x0301 d →
    let t := taken a d
    let x := accOf a 0x0301 d
    pf d 16 1 ≤ 15 → 1 ≤ pf d 17 1 → pf d 17 1 ≤ 8 → onlyBytes d [(16, 3), (20, 2), (24, 8)] = true → pf d 20 2 ≤ 0x00FF →
    (pf d 18 1 = 2 → exec (.rylHeadAccess d) s = .next (leave s (complete t x stDENIED 0 0))) ∧
    (pf d 18 1 = 1 → pf d 24 8 = 0 → portSends (portAt t (pf d 16 1)) = true →
      exec (.rylHeadAccess d) s = .next (leave s (svcAsk t (pf d 16 1)
        { dest := pf d 17 1, op := 1, reg := pf d 20 2, data := pf d 24 4, mask := pf d 28 4, use := .access x })))

/-- R240: PRF_STOP on a profile that no press holds and that no descriptor waiting for the boundary names discards the queue, takes the ratio of a gear that moves it to 0 with nothing of the
gear left to run (the release of R247, which leaves the profile without acceleration), and starts a stop of a profile that moves;
it completes with OK. -/
def Obligations.ProfileStop : Prop :=
  ∀ (s a : State) (d : Desc), Finds s a → Admitted a 0x0803 d → d.payload = 0 →
    let t := taken a d
    let x := accOf a 0x0803 d
    let p := tIdx d
    sharesHandle t x = false → targetHeld t x = none →
    ∃ u : State, exec (.prfStop d) s = .next (leave s (complete u x stOK 0 0)) ∧ (prfAt u p).queue = [] ∧
      (prfAt u p).p = (prfAt a p).p ∧ (prfAt u p).v = (prfAt a p).v ∧
      (atRest (prfAt u p) = false → (prfAt u p).mot = .stop) ∧ (atRest (prfAt u p) = true → (prfAt u p).mot = .idle) ∧
      (∀ g, gearOf a p = some g → gearLive (gearAt a g) = true →
        (gearAt u g).ratio = 0 ∧ (gearAt u g).seam = .idle ∧ (gearAt u g).catch_ = none ∧ (gearAt u g).waits = [] ∧ (prfAt u p).a = 0)

/-- A create that meets no refusal at its boundary takes the index that has been free longest (with its generation and creator), makes
its object's record there with nothing else than its payload and the state say, and completes with OK and the new handle: an arm, the first of its
region taking an EMPTY region to SAFE_OFF (R22); a joint, which joins its arm and binds a free switching channel (R13); a line source,
a conversion channel, a feedback channel, a profile, a gear, a track, a zone, a node, a flow, a delay, a trace channel (with its
BAR4 offset in the detail) and a mailbox. A create that its rules refuse makes nothing and completes
with that refusal; without a free index that is NO_RESOURCE (stated of a flow), in DORMANT it is MODE (R32).
(Model's choices and readings in it: log 56.) -/
def Obligations.CreatesTakeEffect : Prop :=
  ∀ (u : State) (x : Acc),
    let d := x.d
    (u.md.mode = .dormant → handlesRefuse u x (liveHandle u) = none → targetHeld u x = none → (createClass x.op).isSome = true →
      immEffect u x = complete u x stMODE 0 0) ∧
    (handlesRefuse u x (liveHandle u) = none → gatedParts u x = [] → (createClass x.op).isSome = true →
      ∀ st h, immCheck u x = some (st, h) → immEffect u x = complete u x st 0 h) ∧
    (x.op = 0x0C03 → tgt d = 0 → d.payload = 0 → u.md.mode ≠ .dormant → classFree cFLOW (freeList u cFLOW) = none →
      immEffect u x = complete u x stNORES 0 0) ∧
    (Fit u x → ∀ c, createClass x.op = some c →
      (∀ i f, classFree c (freeList u c) = some (i, f) →
        let v := indexTaken u c i f (fnOf x.req)
        let made (t : State) (detail : Nat) : Prop := immEffect u x = complete t x stOK (handleOf t c i) detail
        (x.op = 0x0003 →
          let r := pf d 17 1
          let g := regionAt v r
          let g' := { g with st := if g.st = .empty then .safeOff else g.st, emptyDue := false }
          made { v with
            arms := mput v.arms i { aux := decide (pf d 16 1 = 2), region := r }, regions := mput v.regions r g' } 0) ∧
        (x.op = 0x0004 →
          let c := (freeSwch v []).getD 0
          let step := decide (pf d 20 1 = 2)
          let j : Joint :=
            { arm := hIdx (pf d 16 4), stepper := step, port := pf d 21 1, pos := pf d 22 1,
              fbch := if pf d 24 4 = 0 then none else some (hIdx (pf d 24 4)), scale := scaleOf (pf d 32 32), swch := c }
          let sw : Swch := { joint := some i, port := j.port, pos := j.pos, cfg := swDefault step }
          made { v with
            joints := mput v.joints i j
            arms := mmod v.arms (hIdx (pf d 16 4)) fun y => { y with joints := y.joints ++ [i] }
            swchs := mput v.swchs c sw } 0) ∧
        (x.op = 0x0200 → made { v with srcs := mput v.srcs i (lineSrcNew v d) } 0) ∧
        (x.op = 0x0400 → mget v.cchans i = none → pf d 16 1 ≠ 3 →
          let y : Cchan := { cfg := chCfgOf d, scale := scaleOf (pf d 32 32), pair := (findPair v (chCfgOf d)).getD 0,
                             since := v.time.frame, order := v.cnv.made, settleLeft := 18 }
          made { v with cchans := mput v.cchans i y, cnv := { v.cnv with made := v.cnv.made + 1 } } 0) ∧
        (x.op = 0x0500 → made { v with fbchs := mput v.fbchs i { cfg := fbCfgOf d, born := u.time.frame } } 0) ∧
        (x.op = 0x0800 →
          let p := match prfJointOf d with
            | some j => jointPos v j * 4294967296
            | none => 0
          made { v with profiles := mput v.profiles i { joint := prfJointOf d, cfg := prfCfgOf d, p := p, base := p } } 0) ∧
        (x.op = 0x0805 → made { v with gears := mput v.gears i (gearNew v d) } 0) ∧
        (x.op = 0x0A03 → let t := { v with grd := { v.grd with tracks := mput v.grd.tracks i { stream := pf d 16 1, slot := pf d 17 1 } } }
          capacityRefuse t = none → made t 0) ∧
        (x.op = 0x0A04 → let t := { v with grd := { v.grd with zones := mput v.grd.zones i (zoneOf d) } }
          capacityRefuse t = none → made t 0) ∧
        (x.op = 0x0C00 → made { v with gsc := { v.gsc with nodes := mput v.gsc.nodes i (nodeOf d x.req) } } 0) ∧
        (x.op = 0x0C03 → made { v with gsc := { v.gsc with flows := mput v.gsc.flows i {} } } 0) ∧
        (x.op = 0x0C04 → made { v with gsc := { v.gsc with delays := mput v.gsc.delays i (delayOf d) } } 0) ∧
        (x.op = 0x0E00 →
          let b := (traceBase v d none).getD 0
          made { v with mem := { v.mem with traces := mput v.mem.traces i (traceOf v d b) } } b) ∧
        (x.op = 0x0F00 → made { v with mbx := { v.mbx with boxes := mput v.mbx.boxes i (mboxOf d) } } 0)))

/-- A descriptor that sets an existing object, meeting no refusal at its boundary, changes that object alone and completes with OK: a joint's
scale record, the line's designation, the settings of conversion and feedback channels, a channel's position, a switching channel's
parameters, the swap, binding and parameters of a core, a profile's settings and queue and the start of its homing, a gear's seam,
a gang, the binding (which reads the block's copy in DRAM) and words of a problem, a planning branch, the guard's links, capsules, stop tables and zones, a node and its
edges and tokens, a delay's entry, a trace channel's settings. SOL_GANG, DRV_SWAP and the like are subject to the budgets of the
state that results.
(Model's choices and readings in it: log 56.) -/
def Obligations.SettingsTakeEffect : Prop :=
  ∀ (u : State) (x : Acc), Fit u x →
    let d := x.d
    let i := tIdx d
    let done (t : State) : Prop := immEffect u x = complete t x stOK 0 0
    (x.op = 0x0005 → done { u with joints := mmod u.joints i fun j => { j with scale := scaleOf (pf d 32 32) } }) ∧
    (x.op = 0x0201 → done (designate u d)) ∧
    (x.op = 0x0401 → done (cchanPlace u i d)) ∧
    (x.op = 0x0501 → done (homedClear { u with fbchs := mmod u.fbchs i fun y => { cfg := fbCfgOf d, steps := y.steps, lastUp := y.lastUp, born := u.time.frame } } i)) ∧
    (x.op = 0x0502 → done (homedClear { u with fbchs := mmod u.fbchs i fun y =>
      { y with count := pfs d 16 8, serBase := pfs d 16 8, uncertain := false, fault := false, indexRef := none } } i)) ∧
    (x.op = 0x0600 → ∀ j, mget u.joints i = some j → 
      let w := swAt u j.swch
      let w' := { w with cfg := swCfgOf d, legs := w.legs.map fun l => { l with hEff := (swCfgOf d).band, short := false } }
      done { u with swchs := mput u.swchs j.swch w' }) ∧
    (x.op = 0x0701 →
      let t := modDrv u (pf d 16 1) fun c => { c with staged := false, swapDue := true }
      drvBudgetOk t (pf d 16 1) = true → done t) ∧
    (x.op = 0x0702 →
      let j := if pf d 20 4 = 0 then none else some (hIdx (pf d 20 4))
      let t := modSlot u (pf d 16 1) (pf d 17 1) fun y =>
        { y with joint := j, initNext := j.isSome, late := false, missed := 0, trapped := false, flags := 0 }
      pf d 20 4 = 0 ∨ drvBudgetOk t (pf d 16 1) = true → done t) ∧
    (x.op = 0x0703 → done (modSlot u (pf d 16 1) (pf d 17 1) fun y => { y with
      param := (List.range (pf d 19 1)).foldl (fun l k => l.set (pf d 18 1 + k) (pf d (20 + 4 * k) 4)) y.param })) ∧
    (x.op = 0x0801 →
      let put (y : Profile) : Profile :=
        if y.cfg.source = 4 ∧ pf d 20 1 = 4 then { y with cfg := prfCfgOf d, base := stepTarget u y, target := 0 }
        else { y with cfg := prfCfgOf d, base := y.p, target := 0, rate := 0 }
      done { u with profiles := mmod u.profiles i put }) ∧
    (x.op = 0x0802 → ∃ e : PEntry, e.kind = pf d 16 1 ∧ e.start = pf d 17 1 ∧ e.dur = pf d 20 4 ∧ e.due = decide (pf d 17 1 = 0) ∧
      e.frame = u.time.frame ∧ e.key = (if pf d 17 1 = 2 then pf d 44 4 else pf d 44 8) ∧
      done { u with profiles := mmod u.profiles i fun y => { y with queue := y.queue ++ [e] } }) ∧
    (x.op = 0x0804 → done (prfHome u d)) ∧
    (x.op = 0x0806 → done { u with gears := mmod u.gears i fun y => { y with
      seam := .wait (pfs d 16 8) (pf d 36 4) (if pf d 32 1 = 1 then some (pf d 24 8) else none) } }) ∧
    (x.op = 0x0900 → done (formGang u (pf d 16 2) (pf d 18 1) (pf d 19 1))) ∧
    (x.op = 0x0902 →
      (pf d 16 2 = 0xFFFF → done (unbindProblem u i)) ∧
      (pf d 16 2 ≠ 0xFFFF → (probAt u i).bound ≠ some (pf d 16 2) →
        let w := copyRead u x
        let t := bindTo w i (pf d 16 2)
        immCheck w x = none → (probAt w i).bound ≠ some (pf d 16 2) →
        (gangBudgetOk t (pf d 16 2) = true → done t) ∧
        (gangBudgetOk t (pf d 16 2) = false → immEffect u x = complete w x stNORES 0 0))) ∧
    (x.op = 0x0903 → done (writeProblem u i (pf d 16 2) ((List.range (pf d 18 1)).map fun k => pf d (20 + 4 * k) 4))) ∧
    (x.op = 0x0904 →
      let b : Branch := { kind := pf d 17 1, steps := pf d 18 1, shortSteps := pf d 19 1, prob := hIdx (pf d 20 4),
                          short := if pf d 24 4 = 0 then none else some (hIdx (pf d 24 4)), scale := pf d 28 2, via := pf d 30 1 }
      let y := plnAt u i
      let y' := { y with br := if pf d 20 4 = 0 then mdel y.br (pf d 16 1) else mput y.br (pf d 16 1) b }
      done (markUsers { u with pln := { u.pln with arms := mput u.pln.arms i y' } })) ∧
    (x.op = 0x0A00 →
      let k : Kin := { kind := pf d 17 1, t := v3f d 20, q := (pfs d 32 4, pfs d 36 4, pfs d 40 4, pfs d 44 4), lead := pfs d 48 4 }
      done (modGarm u i fun y => { y with kin := mput y.kin (pf d 16 1) k })) ∧
    (x.op = 0x0A01 →
      let c : Cap := { link := pf d 17 1, a := v3f d 20, b := v3f d 32, r := pfs d 44 4 }
      let t := modGarm u i fun y => { y with
        caps := if bit (pf d 18 1) 0 then mput y.caps (pf d 16 1) c else mdel y.caps (pf d 16 1) }
      bit (pf d 18 1) 0 = false ∨ capacityRefuse t = none → done t) ∧
    (x.op = 0x0A02 → done (modGarm u i fun y => { y with stop := usedRows (stopRows d) })) ∧
    (x.op = 0x0A05 → done { u with grd := { u.grd with zones := mput u.grd.zones i (zoneOf d) } }) ∧
    (x.op = 0x0C01 → done (nodeSet u i d)) ∧
    (x.op = 0x0C02 →
      let e : Edge := { out := pf d 16 1, dst := hIdx (pf d 20 4), port := pf d 17 1 }
      let edit (es : List Edge) : List Edge :=
        if pf d 20 4 = 0 then es.filter fun e => decide (e.out ≠ pf d 16 1)
        else if es.contains e then es else es ++ [e]
      done { u with gsc := { u.gsc with nodes := mmod u.gsc.nodes i fun n => { n with edges := edit n.edges } } }) ∧
    (x.op = 0x0C05 →
      (pf d 16 1 = 1 → done { u with gsc := { u.gsc with delays := mmod u.gsc.delays i fun y => { y with entry := none } } }) ∧
      (pf d 16 1 ≠ 1 → done (delayInsert u i (pf d 24 8)))) ∧
    (x.op = 0x0E01 →
      let t := modTrace u i fun y => traceOf u d ((traceBase u d (some i)).getD y.base)
      immEffect u x = complete t x stOK 0 (traceAt t i).base) ∧
    (x.op = 0x0E02 → pf d 16 1 = 0 → done (modTrace u i fun y => if y.trig = 0 then y else { y with cond := true })) ∧
    (x.op = 0x0E02 → pf d 16 1 = 1 → done (traceRearm u i) ∧
      ∀ y, mget u.mem.traces i = some y → (traceAt (traceRearm u i) i).st = (if tracePre y = 0 then 2 else 1))

/-- RING_CREATE takes the ring that has been free longest of its kind, UP, with the payload's sizes, bases, vector, weight (4 for 0)
and coalescing (1 entry for 0), and returns its handle. EVENT_ROUTE sets or clears one route of an event ring. DESTROY of a pair drains it, and
completes only when it has drained; of an event ring takes it DOWN at once; of any other object without references takes its record
away, advances the generation of its index, and puts the index at the end of the free list. DESTROY of an object that another refers to is
BUSY with the reference in the detail.
(Model's choices and readings in it: log 57.) -/
def Obligations.RingsAndDestroys : Prop :=
  ∀ (u : State) (x : Acc), Fit u x →
    let d := x.d
    let i := tIdx d
    let cls := hCls (tgt d)
    (x.op = 0x0D00 →
      let ev := decide (pf d 16 1 = 2)
      ∀ n f, ringFree u ev = some (n, f) →
        let r : Ring :=
          { st := .up, owner := fnOf x.req, vector := pf d 19 1, weight := if pf d 20 1 = 0 then 4 else pf d 20 1,
            coalCount := if pf d 21 1 = 0 then 1 else pf d 21 1, coalTimeUs := pf d 22 2, baseA := pf d 24 8, baseC := pf d 32 8,
            log2a := pf d 17 1, log2c := if ev then 4 else pf d 18 1, dbErr := (ringAt u n).dbErr }
        let t := { u with frees := mput u.frees (ringClass ev) f, host := { u.host with rings := mput u.host.rings n r } }
        immEffect u x = complete t x stOK (handleOf u cRING n) 0) ∧
    (x.op = 0x0D01 →
      let y := ringAt u i
      let rt : Route := { lo := pf d 18 2, hi := pf d 20 2, minClass := pf d 22 1, cell := decide (pf d 23 1 = 1), regions := pf d 24 2 }
      let y' := { y with routes := if pf d 17 1 = 0 then mdel y.routes (pf d 16 1) else mput y.routes (pf d 16 1) rt }
      immEffect u x = complete { u with host := { u.host with rings := mput u.host.rings i y' } } x stOK 0 0) ∧
    (x.op = 0x0002 → cls = cRING → i < 256 → immEffect u x = drainPair u i (some x) ∧
      (ringAt (drainPair u i (some x)) i).st = .draining ∧ (ringAt (drainPair u i (some x)) i).waiting = []) ∧
    (x.op = 0x0002 → cls = cRING → 256 ≤ i →
      immEffect u x = complete (raise (ringDown u i) .hstRingDown (handleOf u cRING i) 1 (oHST (ringAt u i).owner)) x stOK 0 0 ∧
      (ringAt (ringDown u i) i).st = .down) ∧
    (x.op = 0x0002 → cls ≠ cRING →
      let g := objGone u cls i
      let a := advanceGen g cls i
      immEffect u x = complete { a with
        objs := mdel a.objs (objKey cls i)
        frees := mput a.frees cls { freeList g cls with back := (freeList g cls).back ++ [i] } } x stOK 0 0) ∧
    (∀ y : Acc, y.op = 0x0002 → u.md.mode ≠ .dormant → handlesRefuse u y (liveHandle u) = none → targetHeld u y = none →
      y.d.payload = 0 → hCls (tgt y.d) = cFLOW → ∀ n, (mkeys u.gsc.nodes fun _ z => decide (z.flow = some (tIdx y.d))).head? = some n →
      immEffect u y = complete u y stBUSY 0 (handleOf u cNODE n))

/-- R434: a DESTROY of a mailbox, at its boundary, with its handle live and no press holding it (and not in DORMANT, where every destroy
completes with MODE), completes with BUSY and the requester ID of a waiting sender in detail byte 8 while any send waits on it;
otherwise the mailbox goes with the message that it holds, and it completes with OK. -/
def Obligations.MailboxDestroy : Prop :=
  ∀ (u : State) (x : Acc), x.op = 0x0002 → hCls (tgt x.d) = cMBOX → u.md.mode ≠ .dormant →
    handlesRefuse u x (liveHandle u) = none → targetHeld u x = none → x.d.payload = 0 →
    let n := tIdx x.d
    ((∃ w, w ∈ u.mbx.waits ∧ w.mbox = n) →
      ∃ w, w ∈ u.mbx.waits ∧ w.mbox = n ∧ immEffect u x = complete u x stBUSY 0 w.req) ∧
    ((∀ w, w ∈ u.mbx.waits → w.mbox ≠ n) →
      ∃ t : State, immEffect u x = complete t x stOK 0 0 ∧ t.mbx = { u.mbx with boxes := mdel u.mbx.boxes n } ∧
        t.objs = mdel u.objs (objKey cMBOX n))

/-- R369: GSC_TOKEN, at its boundary and well formed, adds one token to the input port that byte 16 names and completes with OK; on a
port that has no room it completes with BUSY, on one outside IN_MASK with RANGE. A delay entry that fires at a port without room
delivers nothing: GSC_LOST counts the token, and GSC_TOKEN_LOST is raised; a PERIODIC one is inserted again. -/
def Obligations.TokensArrive : Prop :=
  ∀ (u : State) (x : Acc), x.op = 0x0C06 → handlesRefuse u x (liveHandle u) = none → targetHeld u x = none →
    onlyBytes x.d [(16, 1)] = true →
    let i := tIdx x.d
    let p := pf x.d 16 1
    (∀ n, mget u.gsc.nodes i = some n →
      (p ≤ 3 → bit n.inMask p = true → tokensAt n p + reservedAt n p < n.cap →
        immEffect u x = complete { u with gsc := { u.gsc with nodes := mmod u.gsc.nodes i fun n =>
          { n with tokens := mput n.tokens p (tokensAt n p + 1) } } } x stOK 0 0) ∧
      (p ≤ 3 → bit n.inMask p = true → n.cap ≤ tokensAt n p + reservedAt n p → immEffect u x = complete u x stBUSY 0 0) ∧
      (3 < p ∨ bit n.inMask p = false → immEffect u x = complete u x stRANGE 0 0)) ∧
    (∀ (k : Nat) (y : Delay) (n : Node), mget u.gsc.delays k = some y → mget u.gsc.nodes y.node = some n →
      n.cap ≤ tokensAt n y.port + reservedAt n y.port →
      let w := { u with gsc := { u.gsc with delays := mmod u.gsc.delays k fun y => { y with entry := none } } }
      let t := raise (bump w 0x230024) .gscTokenLost (handleOf u cDELAY k) (handleOf u cNODE y.node + y.port * 4294967296) oGSC
      let next := nextKey t y ((y.entry.map fun e => e.key).getD 0) ((y.entry.map fun e => e.full).getD 0)
      (y.periodic = false → fireDelay u k = t) ∧
      (y.periodic = true → fireDelay u k = delayInsert (bumpBy t 0x230028 next.2) k next.1))

/-- R22: alone at its boundary, REGION_RELEASE asks for HOLD from SAFE_OFF, in RUN or HOLD, with no accepted pin, no latched or standing
cause (of either class) and no debug hold; REGION_RESUME for ACTIVE from HOLD in RUN when the guard passes the stop branches, no warm start holds the
region and the lifecycle is not factory-only; REGION_HOLD for HOLD from ACTIVE; REGION_SERVICE for SERVICE from HOLD or SERVICE with its
cap, 250 for 0; REGION_LEAVE_SERVICE for HOLD from SERVICE in RUN or HOLD. A payload that breaks its row completes with RANGE, a move that
R22 does not have with MODE. The one cause of a frame moves its region, and its descriptor completes with OK. R500: a MODE_SET that
R499 admits enters its mode in that frame and completes with OK, the previous mode and the frame; otherwise it completes with
MODE and its reason.
R340: a PRESS_OPEN that meets no refusal opens the lowest free host slot with its kind, its STRICT, HOLD and EVENT, its pivot
bound, its regions and its owner, without members, and completes with the press's handle; a held patch keeps in MENDING those of its
regions that are there or can go there. R347: PRESS_ARM by the owner of an OPEN
press arms it on its axis and key from this frame, unless the press is poisoned, when it aborts with POISONED; a payload that
breaks the rules is RANGE, another requester's is DENIED, a press in another phase is BUSY with its handle.
(Model's choices and readings in it: log 58 and 73.) -/
def Obligations.RegionModeAndPressDescriptors : Prop :=
  (
    ∀ (u : State) (x : Acc),
      let d := x.d
      let r := tIdx d
      let st := regionSt u r
      let runHold := u.md.mode = .run ∨ u.md.mode = .hold
      let asks (t : RegionState) (cap : Nat) : Prop := regionDescs u [x] = ([(r, { target := t, acc := some x, cap := cap })], u)
      let refused (code : Nat) : Prop := regionDescs u [x] = ([], complete u x code 0 0)
      (handlesRefuse u x (liveHandle u) = none →
        (x.op = 0x0100 →
          (d.payload ≠ 0 → refused stRANGE) ∧
          (d.payload = 0 → st = .safeOff → runHold → pinAccepted u = false → (regionAt u r).latched = [] → standingSafeOff u r = none →
            standingHold u r = [] → debugHolds u r = false → asks .hold 250) ∧
          (d.payload = 0 → st ≠ .safeOff ∨ ¬ runHold ∨ pinAccepted u = true ∨ (regionAt u r).latched ≠ [] ∨ standingHold u r ≠ [] → refused stMODE)) ∧
        (x.op = 0x0101 →
          (d.payload = 0 → st = .hold → u.md.mode = .run → guardPassesStop u r = true → (regionAt u r).warmHeld = false →
            debugHolds u r = false → factoryOnly u = false → asks .active 250) ∧
          (d.payload = 0 → st ≠ .hold ∨ u.md.mode ≠ .run ∨ guardPassesStop u r = false ∨ (regionAt u r).warmHeld = true → refused stMODE)) ∧
        (x.op = 0x0102 → d.payload = 0 → (st = .active → asks .hold 250) ∧ (st ≠ .active → refused stMODE)) ∧
        (x.op = 0x0103 → onlyBytes d [(16, 2)] = true →
          (250 < pf d 16 2 → refused stRANGE) ∧
          (pf d 16 2 ≤ 250 → st = .hold → asks .service (if pf d 16 2 = 0 then 250 else pf d 16 2)) ∧
          (pf d 16 2 ≤ 250 → st = .service → factoryOnly u = false → asks .service (if pf d 16 2 = 0 then 250 else pf d 16 2)) ∧
          (pf d 16 2 ≤ 250 → st ≠ .hold → st ≠ .service → refused stMODE)) ∧
        (x.op = 0x0104 → d.payload = 0 →
          (st = .service → runHold → debugHolds u r = false → asks .hold 250) ∧
          (st ≠ .service ∨ ¬ runHold ∨ debugHolds u r = true → refused stMODE))) ∧
      (∀ (c : RegionCause), c.acc = some x → c.target ≠ .empty → c.cap ≤ 250 → (regionAt u r).mendingBy = none →
        settleRegion u r st [c] = complete (setRegionState u r c.target c.cap) x stOK 0 0 ∧
        regionSt (setRegionState u r c.target c.cap) r = c.target) ∧
      (∀ q : State, x.op = 0x0110 → u.host.imm = [x] → u.flt.fatalDue = none → u.md.waking = [] → modeForced u u.md.pinDue = 0 →
        q = { u with md := { u.md with pinDue := false }, host := { u.host with imm := [] } } →
        let m := (modeOf (pf d 16 1)).getD .run
        (modeSetForm d = false → modeStep u = complete q x stRANGE 0 0) ∧
        (modeSetForm d = true →
          (∀ k, modeReason q m = k → k ≠ 0 → modeStep u = complete q x stMODE 0 (det8 k)) ∧
          (modeReason q m = 0 → u.md.mode = .dormant → u.md.wakeDue = false →
            modeStep u = { q with md := { q.md with waking := [x] } }) ∧
          (modeReason q m = 0 → u.md.mode ≠ .dormant → ∃ t : State,
            t = enterMode { q with md := { q.md with waking := [], wakeDue := false } } m 1 (if pf d 18 2 = 0 then 250 else pf d 18 2) ∧
            modeStep u = complete t x stOK 0 (modeCode u.md.mode + (t.time.frame % 4294967296) * 4294967296))))) ∧
  (
    ∀ (u : State) (x : Acc), handlesRefuse u x (liveHandle u) = none →
      let d := x.d
      (x.op = 0x0B00 →
        (∀ st h, pressOpenCheck u x = some (st, h) → immEffect u x = complete u x st 0 h) ∧
        (∀ k, pressOpenCheck u x = none → 3 ≤ k → k < 16 → (pressAt u k).phase = .free → (∀ j, j < k → 3 ≤ j → (pressAt u j).phase ≠ .free) →
          let b := pf d 17 1
          let o := pressAt u k
          let p : Press := { phase := .open_, owner := x.req, patch := decide (pf d 16 1 = 2), kind := pf d 16 1, strict := bit b 0,
                             hold := bit b 1, event := bit b 2, maxPivots := pf d 18 1, regions := pf d 20 2, pair := x.pair,
                             lastCommitted := o.lastCommitted, lastReason := o.lastReason, lastFrame := o.lastFrame }
          (opensHeld x = false → immEffect u x = complete { u with presses := mput u.presses k p } x stOK (handleOf u cPRESS k) 0) ∧
          (opensHeld x = true → ∃ t : State, immEffect u x = complete t x stOK (handleOf u cPRESS k) 0 ∧ t.presses = mput u.presses k p ∧
            ∀ r, (if r ∈ maskList (pf d 20 2) 16 ∧ (regionSt u r = .mending ∨ causeMoves (regionSt u r) .mending = true) then
              regionSt t r = .mending ∧ (regionAt t r).mendingBy = some k else regionAt t r = regionAt u r)))) ∧
      (x.op = 0x0B01 →
        let slot := tIdx d
        let p := pressAt u slot
        let axis := pf d 16 1
        let formOk := axis ≤ 2 ∧ pf d 17 1 ≤ 2 ∧ onlyBytes d [(16, 2), (24, 8)] = true ∧ (axis = 0 → pf d 24 8 = 0) ∧ (axis = 1 → pf d 28 4 = 0)
        (slot < 3 ∨ p.owner ≠ x.req → immEffect u x = complete u x stDENIED 0 0) ∧
        (3 ≤ slot → p.owner = x.req → ¬ formOk → immEffect u x = complete u x stRANGE 0 0) ∧
        (3 ≤ slot → p.owner = x.req → formOk → p.phase ≠ .open_ → immEffect u x = complete u x stBUSY 0 (tgt d)) ∧
        (3 ≤ slot → p.owner = x.req → formOk → p.phase = .open_ →
          let key := pf d 24 8
          let q := { p with phase := .armed, axis := axis, grain := pf d 17 1, key := key, full := keyTime u key, armAcc := some x, armFrame := u.time.frame,
                            armElapsed := u.time.elapsed,
                            behind := if axis = 1 then wallReached u key else if axis = 2 then lineBehind u key else false }
          let t := { u with presses := mput u.presses slot q }
          (p.poisoned = true → immEffect u x = pressAbort t slot 13 0xFF) ∧
          (p.poisoned = false → immEffect u x = holdNodes t slot))))

/-- R356: PRESS_ABORT is listed for its boundary when it is accepted (R30); there, from the press's owner and well formed, it aborts the press
that its target names with reason HOST, the slot is FREE with that reason and the handle no longer names a press, and it completes
with OK; a handle that no longer names a press completes with STALE_HANDLE and that handle, nothing else changed. -/
def Obligations.PressAbort : Prop :=
  (∀ (s a : State) (d : Desc), Finds s a → Admitted a 0x0B02 d → exec (.pressAbort d) s = .next (leave s (listed a 0x0B02 d))) ∧
  (∀ (u : State) (x : Acc), x.op = 0x0B02 → hCls (tgt x.d) = cPRESS →
    let slot := tIdx x.d
    (liveHandle u (tgt x.d) = true → 3 ≤ slot → (pressAt u slot).owner = x.req → x.d.payload = 0 →
      let t := pressAbort u slot 1 0xFF
      immEffect u x = complete t x stOK 0 0 ∧ (pressAt t slot).phase = .free ∧ (pressAt t slot).lastReason = 1 ∧
        (pressAt t slot).lastCommitted = false ∧ liveHandle t (tgt x.d) = false) ∧
    (liveHandle u (tgt x.d) = false → immEffect u x = complete u x stSTALE 0 (tgt x.d)))

/-- R476: FLT_ACK of a region that a warm start holds releases it, raises FLT_ACKED and completes with OK; of another region it completes with
MODE. R477: clearing latched faults leaves those whose cause still stands, raises FLT_CLEARED with the regions
in which it has cleared one, and is BUSY with the first that stands, else OK; clearing a quarantine takes a record that names the origin away and returns its core (hosting
no region: R570) or engine to service, is RANGE without one, BUSY
with 1 or 2 while its supervisor core is tested or has failed its test, and BUSY with 3 for kinds that only a warm start or a darn
ends; starting a warm start by hand is MODE in DORMANT and PREPARE, and else starts one over the named regions that are not EMPTY.
(Model's choices and readings in it: log 60 and 70.) -/
def Obligations.FaultClears : Prop :=
  ∀ (u : State) (x : Acc), handlesRefuse u x (liveHandle u) = none →
    let d := x.d
    let r := tIdx d
    (x.op = 0x1100 →
      (d.payload ≠ 0 → immEffect u x = complete u x stRANGE 0 0) ∧
      (d.payload = 0 → (regionAt u r).warmHeld = false → immEffect u x = complete u x stMODE 0 0) ∧
      (d.payload = 0 → (regionAt u r).warmHeld = true →
        let g := { regionAt u r with warmHeld := false }
        immEffect u x = complete (raise { u with regions := mput u.regions r g } .fltAcked 0 r oFLT) x stOK 0 0)) ∧
    (x.op = 0x1101 → onlyBytes d [(16, 1), (18, 6)] = true →
      (pf d 16 1 = 1 → pf d 20 4 = 0 →
        let rs := maskList (pf d 18 2) 16
        let t := rs.foldl (fun v r => modRegion v r fun y => { y with latched := y.latched.filter fun c => standingSafeOff v r = some c }) u
        let v := if clearable u rs = [] then t else raise t .fltCleared 0 (listMask (clearable u rs) * 4294967296) oFLT
        ((∀ r, r ∈ rs → standingSafeOff u r = none) →
          immEffect u x = complete v x stOK 0 0) ∧
        (∀ r c, rs = [r] → standingSafeOff u r = some c → immEffect u x = complete v x stBUSY 0 (c + r * 65536))) ∧
      (pf d 16 1 = 2 → pf d 18 2 = 0 →
        let o := pf d 20 4
        let n := o % 65536
        let found := u.flt.quarantines.find? fun q => decide (q.origin = o)
        (x.req ≠ 32 → immEffect u x = complete u x stDENIED 0 0) ∧
        (x.req = 32 → found = none → immEffect u x = complete u x stRANGE 0 0) ∧
        (∀ q, x.req = 32 → found = some q →
          let t := { u with flt := { u.flt with quarantines := u.flt.quarantines.filter fun y => decide (y.origin ≠ o) } }
          (q.kind = 1 → (supAt u n).test = 1 → immEffect u x = complete u x stBUSY 0 (det12 0 1)) ∧
          (q.kind = 1 → (supAt u n).test = 3 → immEffect u x = complete u x stBUSY 0 (det12 0 2)) ∧
          (3 ≤ q.kind → immEffect u x = complete u x stBUSY 0 (det12 0 3)) ∧
          (q.kind = 1 → (supAt u n).test ≠ 1 → (supAt u n).test ≠ 3 → immEffect u x =
            let v := deal t ((List.range 16).filter fun r => decide ((regionAt t r).hosted = n))
            complete (raise (modSup v n fun y => { y with quarantined := false, test := 0 }) .fltCleared 0 o o) x stOK 0 0) ∧
          (q.kind = 2 → immEffect u x =
            complete (raise (modWorker t (18 + n) fun w => { w with quarantined := false }) .fltCleared 0 o o) x stOK 0 0))) ∧
      (pf d 16 1 = 3 → pf d 20 4 = 0 →
        (u.md.mode = .dormant ∨ u.md.mode = .prepare → immEffect u x = complete u x stMODE 0 0) ∧
        (u.md.mode ≠ .dormant → u.md.mode ≠ .prepare →
          let named := (maskList (pf d 18 2) 16).filter fun r => decide (regionSt u r ≠ .empty)
          let w : WarmReq := { handle := 0, origin := oFLT, regions := named, acc := some x }
          immEffect u x = warmStart u w)))

/-- The SEC_IMAGE descriptors, accepted and well formed: out of PREPARE and DORMANT they complete with MODE. Staging writes an image that passes the
envelope check into its flash slot, if it fits, and rejects another with its cause; a floor only rises; provisioning a BLANK device
fuses the owner's key digest and the next lifecycle state, and the field and return steps fuse theirs under their rules; the certificate
is written to host memory when there is room; the owner's key is taken when it matches its digest. DBG_OPEN asks for session 1 and completes with the
outcome; DBG_CLOSE closes its session. PROBLEM_CREATE_DONE: the block of the oldest create is checked: a block of the wrong length is
rejected with check 1, one whose copy in DRAM has an uncorrectable error is RANGE with 0xEE (R484), one that fails a later check completes with it, and one that passes becomes a problem at the next frame
boundary.
(Model's choices and readings in it: log 17, 77 and 78.) -/
def Obligations.ImagesAndSessions : Prop :=
  ∀ (s a : State) (d : Desc), Finds s a →
    let form (k : Nat) : Prop := Admitted a 0x1200 (withByte16 k d) ∧ secImageFormOk (withByte16 k d) = true
    let ready := a.md.mode = .prepare ∨ a.md.mode = .dormant
    let t (k : Nat) : State := taken a (withByte16 k d)
    let x (k : Nat) : Acc := accOf a 0x1200 (withByte16 k d)
    let data := takeBytes d.data 0 (pf d 32 4)
    (∀ c k, (c, k) ∈ ([(.secImageStageFw d, 1), (.secImageRaiseFloor d, 2), (.secImageProvision d, 3), (.secImageField d, 4),
        (.secImageReturn d, 5), (.secImageReadCert d, 6), (.secImageOwnerKey d, 7)] : List (Instr × Nat)) →
      (form k → ¬ ready → exec c s = .next (leave s (complete (t k) (x k) stMODE 0 0))) ∧
      (Admitted a 0x1200 (withByte16 k d) → secImageFormOk (withByte16 k d) = false →
        exec c s = .next (leave s (complete (t k) (x k) stRANGE 0 0)))) ∧
    (form 1 → ready →
      let cause := envelopeCheck (t 1) 1 data
      let slotA := pf d 17 1 = 0
      let room := if slotA then a.sec.rangeA else a.sec.rangeB
      (cause ≠ 0 → exec (.secImageStageFw d) s = .next (leave s (complete (rejectImage (t 1) 1 cause) (x 1) stRANGE 0 (1 + cause * 256)))) ∧
      (cause = 0 → room < data.length → exec (.secImageStageFw d) s = .next (leave s (complete (t 1) (x 1) stRANGE 0 0))) ∧
      (cause = 0 → data.length ≤ room → exec (.secImageStageFw d) s = .next (leave s (complete { t 1 with
        sec := if slotA then { a.sec with flashA := data } else { a.sec with flashB := data } } (x 1) stOK 0 0)))) ∧
    (form 2 → ready →
      let fw := pf d 17 1 = 1
      let floor := if fw then a.sec.fwFloor else a.sec.usrFloor
      (pf d 20 4 < floor → exec (.secImageRaiseFloor d) s = .next (leave s (complete (t 2) (x 2) stRANGE 0 0))) ∧
      (floor ≤ pf d 20 4 → exec (.secImageRaiseFloor d) s = .next (leave s (complete { t 2 with
        sec := if fw then { a.sec with fwFloor := pf d 20 4 } else { a.sec with usrFloor := pf d 20 4 } } (x 2) stOK 0 0)))) ∧
    (form 3 → ready →
      (a.sec.fused ≠ 0 ∨ a.sec.lifecycle ≠ 0 → exec (.secImageProvision d) s = .next (leave s (complete (t 3) (x 3) stMODE 0 0))) ∧
      (a.sec.fused = 0 → a.sec.lifecycle = 0 → data.length = 97 → exec (.secImageProvision d) s = .next (leave s (complete (fuse { t 3 with
        sec := { a.sec with ownerDigest := some (keyDigest data), ownerImageKey := none } } 1) (x 3) stOK 0 0)))) ∧
    (form 4 → ready →
      (a.sec.fused ≠ 1 ∨ a.sec.lifecycle ≠ 1 → exec (.secImageField d) s = .next (leave s (complete (t 4) (x 4) stMODE 0 0))) ∧
      (a.sec.fused = 1 → a.sec.lifecycle = 1 → exec (.secImageField d) s = .next (leave s (complete (fuse (t 4) 2) (x 4) stOK 0 0)))) ∧
    (form 5 → ready → a.sec.fused = 1 ∨ a.sec.fused = 2 → a.sec.lifecycle = a.sec.fused →
      let c := tokenFail (t 5) 1 data
      let b := if data.isEmpty then t 5 else drawChallenge (t 5) 1
      (c ≠ 0 → exec (.secImageReturn d) s = .next (leave s (complete (tokenFailed b 1 c) (x 5) stDENIED 0 0))) ∧
      (c = 0 → leNat (takeBytes data 5 1) = 0 → exec (.secImageReturn d) s = .next (leave s (complete
        (fuse { b with sec := { b.sec with ownerImageKey := none, usrFloor := 0 } } 3) (x 5) stOK 0 0)))) ∧
    (form 6 → ready →
      (pf d 32 4 < Config.certificate.length → exec (.secImageReadCert d) s = .next (leave s (complete (t 6) (x 6) stNORES 0 0))) ∧
      (Config.certificate.length ≤ pf d 32 4 → exec (.secImageReadCert d) s = .next (leave s (complete { t 6 with host := { (t 6).host with
        hostWrite := some (fnOf (x 6).req, pf d 24 8, Config.certificate) } } (x 6) stOK 0 (satU 32 Config.certificate.length))))) ∧
    (form 7 → ready → data.length = 97 →
      (a.sec.ownerDigest ≠ some (keyDigest data) → exec (.secImageOwnerKey d) s = .next (leave s (complete (t 7) (x 7) stDENIED 0 0))) ∧
      (a.sec.ownerDigest = some (keyDigest data) → exec (.secImageOwnerKey d) s =
        .next (leave s (complete { t 7 with sec := { a.sec with ownerSupplied := true } } (x 7) stOK 0 0)))) ∧
    (Admitted a 0x1201 d → pf d 16 1 = 1 ∨ pf d 16 1 = 2 → (pf d 16 1 = 1 → pf d 18 2 = 0) → pf d 32 4 = 0 ∨ pf d 32 4 = 160 →
      onlyBytes d [(16, 1), (18, 2), (24, 12)] = true →
      let v := attemptSession (taken a d) 1 (pf d 16 1) (pf d 18 2) (if pf d 32 4 = 0 then [] else takeBytes d.data 0 160)
      exec (.dbgOpen d) s = .next (leave s (complete v.1 (accOf a 0x1201 d) v.2.1 0 v.2.2))) ∧
    (Admitted a 0x1202 d → onlyBytes d [(16, 1)] = true → pf d 16 1 ≤ 1 →
      exec (.dbgClose d) s = .next (leave s (complete (closeSession (taken a d) (pf d 16 1) 1) (accOf a 0x1202 d) stOK 0 0))) ∧
    (∀ block : List Byte,
      (a.sol.creates = [] → exec (.problemCreateDone block) s = .next (leave s a)) ∧
      (∀ y rest, a.sol.creates = y :: rest →
        let b := { a with sol := { a.sol with creates := rest } }
        let chk := blockCheck b block
        (block.length ≠ pf y.d 24 4 →
          exec (.problemCreateDone block) s = .next (leave s (complete (rejectImage b 3 1) y stRANGE 0 1))) ∧
        let dram := memPoisoned b (Config.blockCopy 256) block.length
        (block.length = pf y.d 24 4 → chk.1 ≠ 1 → dram = true → exec (.problemCreateDone block) s =
          .next (leave s (complete (eccRead b (linesOf (Config.blockCopy 256) block.length)) y stRANGE 0 0xEE))) ∧
        (block.length = pf y.d 24 4 → 1 < chk.1 → dram = false →
          exec (.problemCreateDone block) s = .next (leave s (complete b y stRANGE 0 (chk.1 + 65536 * chk.2)))) ∧
        (block.length = pf y.d 24 4 → chk.1 = 0 → dram = false →
          exec (.problemCreateDone block) s =
            .next (leave s { b with sol := { b.sol with made := a.sol.made ++ [(y, problemOf block)] } })))) ∧
    (∀ (u : State) (y : Acc) (p : Problem),
      (u.md.mode = .dormant → problemMade u (y, p) = complete u y stMODE 0 0) ∧
      (∀ i f, u.md.mode ≠ .dormant → classFree cPROBLEM (freeList u cPROBLEM) = some (i, f) →
        let v := indexTaken u cPROBLEM i f (fnOf y.req)
        problemMade u (y, p) = complete { v with problems := mput v.problems i p } y stOK (handleOf v cPROBLEM i) (p.cycles % 4294967296)))
end

