-- ==== Sys2Proof/Laws/State.lean ====
section
/-!
SUPPORT. The updates of the state: each one's effect on each field, so that no proof unfolds a record update.
-/
namespace Sys2Proof.Machine

@[simp] theorem modTime_pending (s : State) (f : TimeSt → TimeSt) : (modTime s f).pending = s.pending := rfl
@[simp] theorem modTime_free (s : State) (f : TimeSt → TimeSt) : (modTime s f).free = s.free := rfl
@[simp] theorem modTime_due (s : State) (f : TimeSt → TimeSt) : (modTime s f).due = s.due := rfl
@[simp] theorem modTime_regs (s : State) (f : TimeSt → TimeSt) : (modTime s f).regs = s.regs := rfl
@[simp] theorem modTime_gens (s : State) (f : TimeSt → TimeSt) : (modTime s f).gens = s.gens := rfl
@[simp] theorem modTime_objs (s : State) (f : TimeSt → TimeSt) : (modTime s f).objs = s.objs := rfl
@[simp] theorem modTime_frees (s : State) (f : TimeSt → TimeSt) : (modTime s f).frees = s.frees := rfl
@[simp] theorem modTime_regions (s : State) (f : TimeSt → TimeSt) : (modTime s f).regions = s.regions := rfl
@[simp] theorem modTime_arms (s : State) (f : TimeSt → TimeSt) : (modTime s f).arms = s.arms := rfl
@[simp] theorem modTime_joints (s : State) (f : TimeSt → TimeSt) : (modTime s f).joints = s.joints := rfl
@[simp] theorem modTime_srcs (s : State) (f : TimeSt → TimeSt) : (modTime s f).srcs = s.srcs := rfl
@[simp] theorem modTime_ryl (s : State) (f : TimeSt → TimeSt) : (modTime s f).ryl = s.ryl := rfl
@[simp] theorem modTime_cchans (s : State) (f : TimeSt → TimeSt) : (modTime s f).cchans = s.cchans := rfl
@[simp] theorem modTime_cnv (s : State) (f : TimeSt → TimeSt) : (modTime s f).cnv = s.cnv := rfl
@[simp] theorem modTime_fbchs (s : State) (f : TimeSt → TimeSt) : (modTime s f).fbchs = s.fbchs := rfl
@[simp] theorem modTime_swchs (s : State) (f : TimeSt → TimeSt) : (modTime s f).swchs = s.swchs := rfl
@[simp] theorem modTime_buses (s : State) (f : TimeSt → TimeSt) : (modTime s f).buses = s.buses := rfl
@[simp] theorem modTime_profiles (s : State) (f : TimeSt → TimeSt) : (modTime s f).profiles = s.profiles := rfl
@[simp] theorem modTime_gears (s : State) (f : TimeSt → TimeSt) : (modTime s f).gears = s.gears := rfl
@[simp] theorem modTime_stepIns (s : State) (f : TimeSt → TimeSt) : (modTime s f).stepIns = s.stepIns := rfl
@[simp] theorem modTime_drv (s : State) (f : TimeSt → TimeSt) : (modTime s f).drv = s.drv := rfl
@[simp] theorem modTime_problems (s : State) (f : TimeSt → TimeSt) : (modTime s f).problems = s.problems := rfl
@[simp] theorem modTime_sol (s : State) (f : TimeSt → TimeSt) : (modTime s f).sol = s.sol := rfl
@[simp] theorem modTime_pln (s : State) (f : TimeSt → TimeSt) : (modTime s f).pln = s.pln := rfl
@[simp] theorem modTime_grd (s : State) (f : TimeSt → TimeSt) : (modTime s f).grd = s.grd := rfl
@[simp] theorem modTime_host (s : State) (f : TimeSt → TimeSt) : (modTime s f).host = s.host := rfl
@[simp] theorem modTime_time (s : State) (f : TimeSt → TimeSt) : (modTime s f).time = f s.time := rfl
@[simp] theorem modTime_line (s : State) (f : TimeSt → TimeSt) : (modTime s f).line = s.line := rfl
@[simp] theorem modTime_presses (s : State) (f : TimeSt → TimeSt) : (modTime s f).presses = s.presses := rfl
@[simp] theorem modTime_gsc (s : State) (f : TimeSt → TimeSt) : (modTime s f).gsc = s.gsc := rfl
@[simp] theorem modTime_flt (s : State) (f : TimeSt → TimeSt) : (modTime s f).flt = s.flt := rfl
@[simp] theorem modTime_hlt (s : State) (f : TimeSt → TimeSt) : (modTime s f).hlt = s.hlt := rfl
@[simp] theorem modTime_mbx (s : State) (f : TimeSt → TimeSt) : (modTime s f).mbx = s.mbx := rfl
@[simp] theorem modTime_mem (s : State) (f : TimeSt → TimeSt) : (modTime s f).mem = s.mem := rfl
@[simp] theorem modTime_md (s : State) (f : TimeSt → TimeSt) : (modTime s f).md = s.md := rfl
@[simp] theorem modTime_sec (s : State) (f : TimeSt → TimeSt) : (modTime s f).sec = s.sec := rfl
@[simp] theorem modTime_pins (s : State) (f : TimeSt → TimeSt) : (modTime s f).pins = s.pins := rfl
@[simp] theorem modTime_out (s : State) (f : TimeSt → TimeSt) : (modTime s f).out = s.out := rfl
@[simp] theorem modTime_care (s : State) (f : TimeSt → TimeSt) : (modTime s f).care = s.care := rfl

@[simp] theorem modLine_pending (s : State) (f : LineSt → LineSt) : (modLine s f).pending = s.pending := rfl
@[simp] theorem modLine_free (s : State) (f : LineSt → LineSt) : (modLine s f).free = s.free := rfl
@[simp] theorem modLine_due (s : State) (f : LineSt → LineSt) : (modLine s f).due = s.due := rfl
@[simp] theorem modLine_regs (s : State) (f : LineSt → LineSt) : (modLine s f).regs = s.regs := rfl
@[simp] theorem modLine_gens (s : State) (f : LineSt → LineSt) : (modLine s f).gens = s.gens := rfl
@[simp] theorem modLine_objs (s : State) (f : LineSt → LineSt) : (modLine s f).objs = s.objs := rfl
@[simp] theorem modLine_frees (s : State) (f : LineSt → LineSt) : (modLine s f).frees = s.frees := rfl
@[simp] theorem modLine_regions (s : State) (f : LineSt → LineSt) : (modLine s f).regions = s.regions := rfl
@[simp] theorem modLine_arms (s : State) (f : LineSt → LineSt) : (modLine s f).arms = s.arms := rfl
@[simp] theorem modLine_joints (s : State) (f : LineSt → LineSt) : (modLine s f).joints = s.joints := rfl
@[simp] theorem modLine_srcs (s : State) (f : LineSt → LineSt) : (modLine s f).srcs = s.srcs := rfl
@[simp] theorem modLine_ryl (s : State) (f : LineSt → LineSt) : (modLine s f).ryl = s.ryl := rfl
@[simp] theorem modLine_cchans (s : State) (f : LineSt → LineSt) : (modLine s f).cchans = s.cchans := rfl
@[simp] theorem modLine_cnv (s : State) (f : LineSt → LineSt) : (modLine s f).cnv = s.cnv := rfl
@[simp] theorem modLine_fbchs (s : State) (f : LineSt → LineSt) : (modLine s f).fbchs = s.fbchs := rfl
@[simp] theorem modLine_swchs (s : State) (f : LineSt → LineSt) : (modLine s f).swchs = s.swchs := rfl
@[simp] theorem modLine_buses (s : State) (f : LineSt → LineSt) : (modLine s f).buses = s.buses := rfl
@[simp] theorem modLine_profiles (s : State) (f : LineSt → LineSt) : (modLine s f).profiles = s.profiles := rfl
@[simp] theorem modLine_gears (s : State) (f : LineSt → LineSt) : (modLine s f).gears = s.gears := rfl
@[simp] theorem modLine_stepIns (s : State) (f : LineSt → LineSt) : (modLine s f).stepIns = s.stepIns := rfl
@[simp] theorem modLine_drv (s : State) (f : LineSt → LineSt) : (modLine s f).drv = s.drv := rfl
@[simp] theorem modLine_problems (s : State) (f : LineSt → LineSt) : (modLine s f).problems = s.problems := rfl
@[simp] theorem modLine_sol (s : State) (f : LineSt → LineSt) : (modLine s f).sol = s.sol := rfl
@[simp] theorem modLine_pln (s : State) (f : LineSt → LineSt) : (modLine s f).pln = s.pln := rfl
@[simp] theorem modLine_grd (s : State) (f : LineSt → LineSt) : (modLine s f).grd = s.grd := rfl
@[simp] theorem modLine_host (s : State) (f : LineSt → LineSt) : (modLine s f).host = s.host := rfl
@[simp] theorem modLine_time (s : State) (f : LineSt → LineSt) : (modLine s f).time = s.time := rfl
@[simp] theorem modLine_line (s : State) (f : LineSt → LineSt) : (modLine s f).line = f s.line := rfl
@[simp] theorem modLine_presses (s : State) (f : LineSt → LineSt) : (modLine s f).presses = s.presses := rfl
@[simp] theorem modLine_gsc (s : State) (f : LineSt → LineSt) : (modLine s f).gsc = s.gsc := rfl
@[simp] theorem modLine_flt (s : State) (f : LineSt → LineSt) : (modLine s f).flt = s.flt := rfl
@[simp] theorem modLine_hlt (s : State) (f : LineSt → LineSt) : (modLine s f).hlt = s.hlt := rfl
@[simp] theorem modLine_mbx (s : State) (f : LineSt → LineSt) : (modLine s f).mbx = s.mbx := rfl
@[simp] theorem modLine_mem (s : State) (f : LineSt → LineSt) : (modLine s f).mem = s.mem := rfl
@[simp] theorem modLine_md (s : State) (f : LineSt → LineSt) : (modLine s f).md = s.md := rfl
@[simp] theorem modLine_sec (s : State) (f : LineSt → LineSt) : (modLine s f).sec = s.sec := rfl
@[simp] theorem modLine_pins (s : State) (f : LineSt → LineSt) : (modLine s f).pins = s.pins := rfl
@[simp] theorem modLine_out (s : State) (f : LineSt → LineSt) : (modLine s f).out = s.out := rfl
@[simp] theorem modLine_care (s : State) (f : LineSt → LineSt) : (modLine s f).care = s.care := rfl

@[simp] theorem modFlt_pending (s : State) (f : FltSt → FltSt) : (modFlt s f).pending = s.pending := rfl
@[simp] theorem modFlt_free (s : State) (f : FltSt → FltSt) : (modFlt s f).free = s.free := rfl
@[simp] theorem modFlt_due (s : State) (f : FltSt → FltSt) : (modFlt s f).due = s.due := rfl
@[simp] theorem modFlt_regs (s : State) (f : FltSt → FltSt) : (modFlt s f).regs = s.regs := rfl
@[simp] theorem modFlt_gens (s : State) (f : FltSt → FltSt) : (modFlt s f).gens = s.gens := rfl
@[simp] theorem modFlt_objs (s : State) (f : FltSt → FltSt) : (modFlt s f).objs = s.objs := rfl
@[simp] theorem modFlt_frees (s : State) (f : FltSt → FltSt) : (modFlt s f).frees = s.frees := rfl
@[simp] theorem modFlt_regions (s : State) (f : FltSt → FltSt) : (modFlt s f).regions = s.regions := rfl
@[simp] theorem modFlt_arms (s : State) (f : FltSt → FltSt) : (modFlt s f).arms = s.arms := rfl
@[simp] theorem modFlt_joints (s : State) (f : FltSt → FltSt) : (modFlt s f).joints = s.joints := rfl
@[simp] theorem modFlt_srcs (s : State) (f : FltSt → FltSt) : (modFlt s f).srcs = s.srcs := rfl
@[simp] theorem modFlt_ryl (s : State) (f : FltSt → FltSt) : (modFlt s f).ryl = s.ryl := rfl
@[simp] theorem modFlt_cchans (s : State) (f : FltSt → FltSt) : (modFlt s f).cchans = s.cchans := rfl
@[simp] theorem modFlt_cnv (s : State) (f : FltSt → FltSt) : (modFlt s f).cnv = s.cnv := rfl
@[simp] theorem modFlt_fbchs (s : State) (f : FltSt → FltSt) : (modFlt s f).fbchs = s.fbchs := rfl
@[simp] theorem modFlt_swchs (s : State) (f : FltSt → FltSt) : (modFlt s f).swchs = s.swchs := rfl
@[simp] theorem modFlt_buses (s : State) (f : FltSt → FltSt) : (modFlt s f).buses = s.buses := rfl
@[simp] theorem modFlt_profiles (s : State) (f : FltSt → FltSt) : (modFlt s f).profiles = s.profiles := rfl
@[simp] theorem modFlt_gears (s : State) (f : FltSt → FltSt) : (modFlt s f).gears = s.gears := rfl
@[simp] theorem modFlt_stepIns (s : State) (f : FltSt → FltSt) : (modFlt s f).stepIns = s.stepIns := rfl
@[simp] theorem modFlt_drv (s : State) (f : FltSt → FltSt) : (modFlt s f).drv = s.drv := rfl
@[simp] theorem modFlt_problems (s : State) (f : FltSt → FltSt) : (modFlt s f).problems = s.problems := rfl
@[simp] theorem modFlt_sol (s : State) (f : FltSt → FltSt) : (modFlt s f).sol = s.sol := rfl
@[simp] theorem modFlt_pln (s : State) (f : FltSt → FltSt) : (modFlt s f).pln = s.pln := rfl
@[simp] theorem modFlt_grd (s : State) (f : FltSt → FltSt) : (modFlt s f).grd = s.grd := rfl
@[simp] theorem modFlt_host (s : State) (f : FltSt → FltSt) : (modFlt s f).host = s.host := rfl
@[simp] theorem modFlt_time (s : State) (f : FltSt → FltSt) : (modFlt s f).time = s.time := rfl
@[simp] theorem modFlt_line (s : State) (f : FltSt → FltSt) : (modFlt s f).line = s.line := rfl
@[simp] theorem modFlt_presses (s : State) (f : FltSt → FltSt) : (modFlt s f).presses = s.presses := rfl
@[simp] theorem modFlt_gsc (s : State) (f : FltSt → FltSt) : (modFlt s f).gsc = s.gsc := rfl
@[simp] theorem modFlt_flt (s : State) (f : FltSt → FltSt) : (modFlt s f).flt = f s.flt := rfl
@[simp] theorem modFlt_hlt (s : State) (f : FltSt → FltSt) : (modFlt s f).hlt = s.hlt := rfl
@[simp] theorem modFlt_mbx (s : State) (f : FltSt → FltSt) : (modFlt s f).mbx = s.mbx := rfl
@[simp] theorem modFlt_mem (s : State) (f : FltSt → FltSt) : (modFlt s f).mem = s.mem := rfl
@[simp] theorem modFlt_md (s : State) (f : FltSt → FltSt) : (modFlt s f).md = s.md := rfl
@[simp] theorem modFlt_sec (s : State) (f : FltSt → FltSt) : (modFlt s f).sec = s.sec := rfl
@[simp] theorem modFlt_pins (s : State) (f : FltSt → FltSt) : (modFlt s f).pins = s.pins := rfl
@[simp] theorem modFlt_out (s : State) (f : FltSt → FltSt) : (modFlt s f).out = s.out := rfl
@[simp] theorem modFlt_care (s : State) (f : FltSt → FltSt) : (modFlt s f).care = s.care := rfl

@[simp] theorem modHlt_pending (s : State) (f : HltSt → HltSt) : (modHlt s f).pending = s.pending := rfl
@[simp] theorem modHlt_free (s : State) (f : HltSt → HltSt) : (modHlt s f).free = s.free := rfl
@[simp] theorem modHlt_due (s : State) (f : HltSt → HltSt) : (modHlt s f).due = s.due := rfl
@[simp] theorem modHlt_regs (s : State) (f : HltSt → HltSt) : (modHlt s f).regs = s.regs := rfl
@[simp] theorem modHlt_gens (s : State) (f : HltSt → HltSt) : (modHlt s f).gens = s.gens := rfl
@[simp] theorem modHlt_objs (s : State) (f : HltSt → HltSt) : (modHlt s f).objs = s.objs := rfl
@[simp] theorem modHlt_frees (s : State) (f : HltSt → HltSt) : (modHlt s f).frees = s.frees := rfl
@[simp] theorem modHlt_regions (s : State) (f : HltSt → HltSt) : (modHlt s f).regions = s.regions := rfl
@[simp] theorem modHlt_arms (s : State) (f : HltSt → HltSt) : (modHlt s f).arms = s.arms := rfl
@[simp] theorem modHlt_joints (s : State) (f : HltSt → HltSt) : (modHlt s f).joints = s.joints := rfl
@[simp] theorem modHlt_srcs (s : State) (f : HltSt → HltSt) : (modHlt s f).srcs = s.srcs := rfl
@[simp] theorem modHlt_ryl (s : State) (f : HltSt → HltSt) : (modHlt s f).ryl = s.ryl := rfl
@[simp] theorem modHlt_cchans (s : State) (f : HltSt → HltSt) : (modHlt s f).cchans = s.cchans := rfl
@[simp] theorem modHlt_cnv (s : State) (f : HltSt → HltSt) : (modHlt s f).cnv = s.cnv := rfl
@[simp] theorem modHlt_fbchs (s : State) (f : HltSt → HltSt) : (modHlt s f).fbchs = s.fbchs := rfl
@[simp] theorem modHlt_swchs (s : State) (f : HltSt → HltSt) : (modHlt s f).swchs = s.swchs := rfl
@[simp] theorem modHlt_buses (s : State) (f : HltSt → HltSt) : (modHlt s f).buses = s.buses := rfl
@[simp] theorem modHlt_profiles (s : State) (f : HltSt → HltSt) : (modHlt s f).profiles = s.profiles := rfl
@[simp] theorem modHlt_gears (s : State) (f : HltSt → HltSt) : (modHlt s f).gears = s.gears := rfl
@[simp] theorem modHlt_stepIns (s : State) (f : HltSt → HltSt) : (modHlt s f).stepIns = s.stepIns := rfl
@[simp] theorem modHlt_drv (s : State) (f : HltSt → HltSt) : (modHlt s f).drv = s.drv := rfl
@[simp] theorem modHlt_problems (s : State) (f : HltSt → HltSt) : (modHlt s f).problems = s.problems := rfl
@[simp] theorem modHlt_sol (s : State) (f : HltSt → HltSt) : (modHlt s f).sol = s.sol := rfl
@[simp] theorem modHlt_pln (s : State) (f : HltSt → HltSt) : (modHlt s f).pln = s.pln := rfl
@[simp] theorem modHlt_grd (s : State) (f : HltSt → HltSt) : (modHlt s f).grd = s.grd := rfl
@[simp] theorem modHlt_host (s : State) (f : HltSt → HltSt) : (modHlt s f).host = s.host := rfl
@[simp] theorem modHlt_time (s : State) (f : HltSt → HltSt) : (modHlt s f).time = s.time := rfl
@[simp] theorem modHlt_line (s : State) (f : HltSt → HltSt) : (modHlt s f).line = s.line := rfl
@[simp] theorem modHlt_presses (s : State) (f : HltSt → HltSt) : (modHlt s f).presses = s.presses := rfl
@[simp] theorem modHlt_gsc (s : State) (f : HltSt → HltSt) : (modHlt s f).gsc = s.gsc := rfl
@[simp] theorem modHlt_flt (s : State) (f : HltSt → HltSt) : (modHlt s f).flt = s.flt := rfl
@[simp] theorem modHlt_hlt (s : State) (f : HltSt → HltSt) : (modHlt s f).hlt = f s.hlt := rfl
@[simp] theorem modHlt_mbx (s : State) (f : HltSt → HltSt) : (modHlt s f).mbx = s.mbx := rfl
@[simp] theorem modHlt_mem (s : State) (f : HltSt → HltSt) : (modHlt s f).mem = s.mem := rfl
@[simp] theorem modHlt_md (s : State) (f : HltSt → HltSt) : (modHlt s f).md = s.md := rfl
@[simp] theorem modHlt_sec (s : State) (f : HltSt → HltSt) : (modHlt s f).sec = s.sec := rfl
@[simp] theorem modHlt_pins (s : State) (f : HltSt → HltSt) : (modHlt s f).pins = s.pins := rfl
@[simp] theorem modHlt_out (s : State) (f : HltSt → HltSt) : (modHlt s f).out = s.out := rfl
@[simp] theorem modHlt_care (s : State) (f : HltSt → HltSt) : (modHlt s f).care = s.care := rfl

@[simp] theorem modMd_pending (s : State) (f : ModSt → ModSt) : (modMd s f).pending = s.pending := rfl
@[simp] theorem modMd_free (s : State) (f : ModSt → ModSt) : (modMd s f).free = s.free := rfl
@[simp] theorem modMd_due (s : State) (f : ModSt → ModSt) : (modMd s f).due = s.due := rfl
@[simp] theorem modMd_regs (s : State) (f : ModSt → ModSt) : (modMd s f).regs = s.regs := rfl
@[simp] theorem modMd_gens (s : State) (f : ModSt → ModSt) : (modMd s f).gens = s.gens := rfl
@[simp] theorem modMd_objs (s : State) (f : ModSt → ModSt) : (modMd s f).objs = s.objs := rfl
@[simp] theorem modMd_frees (s : State) (f : ModSt → ModSt) : (modMd s f).frees = s.frees := rfl
@[simp] theorem modMd_regions (s : State) (f : ModSt → ModSt) : (modMd s f).regions = s.regions := rfl
@[simp] theorem modMd_arms (s : State) (f : ModSt → ModSt) : (modMd s f).arms = s.arms := rfl
@[simp] theorem modMd_joints (s : State) (f : ModSt → ModSt) : (modMd s f).joints = s.joints := rfl
@[simp] theorem modMd_srcs (s : State) (f : ModSt → ModSt) : (modMd s f).srcs = s.srcs := rfl
@[simp] theorem modMd_ryl (s : State) (f : ModSt → ModSt) : (modMd s f).ryl = s.ryl := rfl
@[simp] theorem modMd_cchans (s : State) (f : ModSt → ModSt) : (modMd s f).cchans = s.cchans := rfl
@[simp] theorem modMd_cnv (s : State) (f : ModSt → ModSt) : (modMd s f).cnv = s.cnv := rfl
@[simp] theorem modMd_fbchs (s : State) (f : ModSt → ModSt) : (modMd s f).fbchs = s.fbchs := rfl
@[simp] theorem modMd_swchs (s : State) (f : ModSt → ModSt) : (modMd s f).swchs = s.swchs := rfl
@[simp] theorem modMd_buses (s : State) (f : ModSt → ModSt) : (modMd s f).buses = s.buses := rfl
@[simp] theorem modMd_profiles (s : State) (f : ModSt → ModSt) : (modMd s f).profiles = s.profiles := rfl
@[simp] theorem modMd_gears (s : State) (f : ModSt → ModSt) : (modMd s f).gears = s.gears := rfl
@[simp] theorem modMd_stepIns (s : State) (f : ModSt → ModSt) : (modMd s f).stepIns = s.stepIns := rfl
@[simp] theorem modMd_drv (s : State) (f : ModSt → ModSt) : (modMd s f).drv = s.drv := rfl
@[simp] theorem modMd_problems (s : State) (f : ModSt → ModSt) : (modMd s f).problems = s.problems := rfl
@[simp] theorem modMd_sol (s : State) (f : ModSt → ModSt) : (modMd s f).sol = s.sol := rfl
@[simp] theorem modMd_pln (s : State) (f : ModSt → ModSt) : (modMd s f).pln = s.pln := rfl
@[simp] theorem modMd_grd (s : State) (f : ModSt → ModSt) : (modMd s f).grd = s.grd := rfl
@[simp] theorem modMd_host (s : State) (f : ModSt → ModSt) : (modMd s f).host = s.host := rfl
@[simp] theorem modMd_time (s : State) (f : ModSt → ModSt) : (modMd s f).time = s.time := rfl
@[simp] theorem modMd_line (s : State) (f : ModSt → ModSt) : (modMd s f).line = s.line := rfl
@[simp] theorem modMd_presses (s : State) (f : ModSt → ModSt) : (modMd s f).presses = s.presses := rfl
@[simp] theorem modMd_gsc (s : State) (f : ModSt → ModSt) : (modMd s f).gsc = s.gsc := rfl
@[simp] theorem modMd_flt (s : State) (f : ModSt → ModSt) : (modMd s f).flt = s.flt := rfl
@[simp] theorem modMd_hlt (s : State) (f : ModSt → ModSt) : (modMd s f).hlt = s.hlt := rfl
@[simp] theorem modMd_mbx (s : State) (f : ModSt → ModSt) : (modMd s f).mbx = s.mbx := rfl
@[simp] theorem modMd_mem (s : State) (f : ModSt → ModSt) : (modMd s f).mem = s.mem := rfl
@[simp] theorem modMd_md (s : State) (f : ModSt → ModSt) : (modMd s f).md = f s.md := rfl
@[simp] theorem modMd_sec (s : State) (f : ModSt → ModSt) : (modMd s f).sec = s.sec := rfl
@[simp] theorem modMd_pins (s : State) (f : ModSt → ModSt) : (modMd s f).pins = s.pins := rfl
@[simp] theorem modMd_out (s : State) (f : ModSt → ModSt) : (modMd s f).out = s.out := rfl
@[simp] theorem modMd_care (s : State) (f : ModSt → ModSt) : (modMd s f).care = s.care := rfl

@[simp] theorem modGsc_pending (s : State) (f : GscSt → GscSt) : (modGsc s f).pending = s.pending := rfl
@[simp] theorem modGsc_free (s : State) (f : GscSt → GscSt) : (modGsc s f).free = s.free := rfl
@[simp] theorem modGsc_due (s : State) (f : GscSt → GscSt) : (modGsc s f).due = s.due := rfl
@[simp] theorem modGsc_regs (s : State) (f : GscSt → GscSt) : (modGsc s f).regs = s.regs := rfl
@[simp] theorem modGsc_gens (s : State) (f : GscSt → GscSt) : (modGsc s f).gens = s.gens := rfl
@[simp] theorem modGsc_objs (s : State) (f : GscSt → GscSt) : (modGsc s f).objs = s.objs := rfl
@[simp] theorem modGsc_frees (s : State) (f : GscSt → GscSt) : (modGsc s f).frees = s.frees := rfl
@[simp] theorem modGsc_regions (s : State) (f : GscSt → GscSt) : (modGsc s f).regions = s.regions := rfl
@[simp] theorem modGsc_arms (s : State) (f : GscSt → GscSt) : (modGsc s f).arms = s.arms := rfl
@[simp] theorem modGsc_joints (s : State) (f : GscSt → GscSt) : (modGsc s f).joints = s.joints := rfl
@[simp] theorem modGsc_srcs (s : State) (f : GscSt → GscSt) : (modGsc s f).srcs = s.srcs := rfl
@[simp] theorem modGsc_ryl (s : State) (f : GscSt → GscSt) : (modGsc s f).ryl = s.ryl := rfl
@[simp] theorem modGsc_cchans (s : State) (f : GscSt → GscSt) : (modGsc s f).cchans = s.cchans := rfl
@[simp] theorem modGsc_cnv (s : State) (f : GscSt → GscSt) : (modGsc s f).cnv = s.cnv := rfl
@[simp] theorem modGsc_fbchs (s : State) (f : GscSt → GscSt) : (modGsc s f).fbchs = s.fbchs := rfl
@[simp] theorem modGsc_swchs (s : State) (f : GscSt → GscSt) : (modGsc s f).swchs = s.swchs := rfl
@[simp] theorem modGsc_buses (s : State) (f : GscSt → GscSt) : (modGsc s f).buses = s.buses := rfl
@[simp] theorem modGsc_profiles (s : State) (f : GscSt → GscSt) : (modGsc s f).profiles = s.profiles := rfl
@[simp] theorem modGsc_gears (s : State) (f : GscSt → GscSt) : (modGsc s f).gears = s.gears := rfl
@[simp] theorem modGsc_stepIns (s : State) (f : GscSt → GscSt) : (modGsc s f).stepIns = s.stepIns := rfl
@[simp] theorem modGsc_drv (s : State) (f : GscSt → GscSt) : (modGsc s f).drv = s.drv := rfl
@[simp] theorem modGsc_problems (s : State) (f : GscSt → GscSt) : (modGsc s f).problems = s.problems := rfl
@[simp] theorem modGsc_sol (s : State) (f : GscSt → GscSt) : (modGsc s f).sol = s.sol := rfl
@[simp] theorem modGsc_pln (s : State) (f : GscSt → GscSt) : (modGsc s f).pln = s.pln := rfl
@[simp] theorem modGsc_grd (s : State) (f : GscSt → GscSt) : (modGsc s f).grd = s.grd := rfl
@[simp] theorem modGsc_host (s : State) (f : GscSt → GscSt) : (modGsc s f).host = s.host := rfl
@[simp] theorem modGsc_time (s : State) (f : GscSt → GscSt) : (modGsc s f).time = s.time := rfl
@[simp] theorem modGsc_line (s : State) (f : GscSt → GscSt) : (modGsc s f).line = s.line := rfl
@[simp] theorem modGsc_presses (s : State) (f : GscSt → GscSt) : (modGsc s f).presses = s.presses := rfl
@[simp] theorem modGsc_gsc (s : State) (f : GscSt → GscSt) : (modGsc s f).gsc = f s.gsc := rfl
@[simp] theorem modGsc_flt (s : State) (f : GscSt → GscSt) : (modGsc s f).flt = s.flt := rfl
@[simp] theorem modGsc_hlt (s : State) (f : GscSt → GscSt) : (modGsc s f).hlt = s.hlt := rfl
@[simp] theorem modGsc_mbx (s : State) (f : GscSt → GscSt) : (modGsc s f).mbx = s.mbx := rfl
@[simp] theorem modGsc_mem (s : State) (f : GscSt → GscSt) : (modGsc s f).mem = s.mem := rfl
@[simp] theorem modGsc_md (s : State) (f : GscSt → GscSt) : (modGsc s f).md = s.md := rfl
@[simp] theorem modGsc_sec (s : State) (f : GscSt → GscSt) : (modGsc s f).sec = s.sec := rfl
@[simp] theorem modGsc_pins (s : State) (f : GscSt → GscSt) : (modGsc s f).pins = s.pins := rfl
@[simp] theorem modGsc_out (s : State) (f : GscSt → GscSt) : (modGsc s f).out = s.out := rfl
@[simp] theorem modGsc_care (s : State) (f : GscSt → GscSt) : (modGsc s f).care = s.care := rfl

@[simp] theorem modMem_pending (s : State) (f : MemSt → MemSt) : (modMem s f).pending = s.pending := rfl
@[simp] theorem modMem_free (s : State) (f : MemSt → MemSt) : (modMem s f).free = s.free := rfl
@[simp] theorem modMem_due (s : State) (f : MemSt → MemSt) : (modMem s f).due = s.due := rfl
@[simp] theorem modMem_regs (s : State) (f : MemSt → MemSt) : (modMem s f).regs = s.regs := rfl
@[simp] theorem modMem_gens (s : State) (f : MemSt → MemSt) : (modMem s f).gens = s.gens := rfl
@[simp] theorem modMem_objs (s : State) (f : MemSt → MemSt) : (modMem s f).objs = s.objs := rfl
@[simp] theorem modMem_frees (s : State) (f : MemSt → MemSt) : (modMem s f).frees = s.frees := rfl
@[simp] theorem modMem_regions (s : State) (f : MemSt → MemSt) : (modMem s f).regions = s.regions := rfl
@[simp] theorem modMem_arms (s : State) (f : MemSt → MemSt) : (modMem s f).arms = s.arms := rfl
@[simp] theorem modMem_joints (s : State) (f : MemSt → MemSt) : (modMem s f).joints = s.joints := rfl
@[simp] theorem modMem_srcs (s : State) (f : MemSt → MemSt) : (modMem s f).srcs = s.srcs := rfl
@[simp] theorem modMem_ryl (s : State) (f : MemSt → MemSt) : (modMem s f).ryl = s.ryl := rfl
@[simp] theorem modMem_cchans (s : State) (f : MemSt → MemSt) : (modMem s f).cchans = s.cchans := rfl
@[simp] theorem modMem_cnv (s : State) (f : MemSt → MemSt) : (modMem s f).cnv = s.cnv := rfl
@[simp] theorem modMem_fbchs (s : State) (f : MemSt → MemSt) : (modMem s f).fbchs = s.fbchs := rfl
@[simp] theorem modMem_swchs (s : State) (f : MemSt → MemSt) : (modMem s f).swchs = s.swchs := rfl
@[simp] theorem modMem_buses (s : State) (f : MemSt → MemSt) : (modMem s f).buses = s.buses := rfl
@[simp] theorem modMem_profiles (s : State) (f : MemSt → MemSt) : (modMem s f).profiles = s.profiles := rfl
@[simp] theorem modMem_gears (s : State) (f : MemSt → MemSt) : (modMem s f).gears = s.gears := rfl
@[simp] theorem modMem_stepIns (s : State) (f : MemSt → MemSt) : (modMem s f).stepIns = s.stepIns := rfl
@[simp] theorem modMem_drv (s : State) (f : MemSt → MemSt) : (modMem s f).drv = s.drv := rfl
@[simp] theorem modMem_problems (s : State) (f : MemSt → MemSt) : (modMem s f).problems = s.problems := rfl
@[simp] theorem modMem_sol (s : State) (f : MemSt → MemSt) : (modMem s f).sol = s.sol := rfl
@[simp] theorem modMem_pln (s : State) (f : MemSt → MemSt) : (modMem s f).pln = s.pln := rfl
@[simp] theorem modMem_grd (s : State) (f : MemSt → MemSt) : (modMem s f).grd = s.grd := rfl
@[simp] theorem modMem_host (s : State) (f : MemSt → MemSt) : (modMem s f).host = s.host := rfl
@[simp] theorem modMem_time (s : State) (f : MemSt → MemSt) : (modMem s f).time = s.time := rfl
@[simp] theorem modMem_line (s : State) (f : MemSt → MemSt) : (modMem s f).line = s.line := rfl
@[simp] theorem modMem_presses (s : State) (f : MemSt → MemSt) : (modMem s f).presses = s.presses := rfl
@[simp] theorem modMem_gsc (s : State) (f : MemSt → MemSt) : (modMem s f).gsc = s.gsc := rfl
@[simp] theorem modMem_flt (s : State) (f : MemSt → MemSt) : (modMem s f).flt = s.flt := rfl
@[simp] theorem modMem_hlt (s : State) (f : MemSt → MemSt) : (modMem s f).hlt = s.hlt := rfl
@[simp] theorem modMem_mbx (s : State) (f : MemSt → MemSt) : (modMem s f).mbx = s.mbx := rfl
@[simp] theorem modMem_mem (s : State) (f : MemSt → MemSt) : (modMem s f).mem = f s.mem := rfl
@[simp] theorem modMem_md (s : State) (f : MemSt → MemSt) : (modMem s f).md = s.md := rfl
@[simp] theorem modMem_sec (s : State) (f : MemSt → MemSt) : (modMem s f).sec = s.sec := rfl
@[simp] theorem modMem_pins (s : State) (f : MemSt → MemSt) : (modMem s f).pins = s.pins := rfl
@[simp] theorem modMem_out (s : State) (f : MemSt → MemSt) : (modMem s f).out = s.out := rfl
@[simp] theorem modMem_care (s : State) (f : MemSt → MemSt) : (modMem s f).care = s.care := rfl

@[simp] theorem modSec_pending (s : State) (f : SecSt → SecSt) : (modSec s f).pending = s.pending := rfl
@[simp] theorem modSec_free (s : State) (f : SecSt → SecSt) : (modSec s f).free = s.free := rfl
@[simp] theorem modSec_due (s : State) (f : SecSt → SecSt) : (modSec s f).due = s.due := rfl
@[simp] theorem modSec_regs (s : State) (f : SecSt → SecSt) : (modSec s f).regs = s.regs := rfl
@[simp] theorem modSec_gens (s : State) (f : SecSt → SecSt) : (modSec s f).gens = s.gens := rfl
@[simp] theorem modSec_objs (s : State) (f : SecSt → SecSt) : (modSec s f).objs = s.objs := rfl
@[simp] theorem modSec_frees (s : State) (f : SecSt → SecSt) : (modSec s f).frees = s.frees := rfl
@[simp] theorem modSec_regions (s : State) (f : SecSt → SecSt) : (modSec s f).regions = s.regions := rfl
@[simp] theorem modSec_arms (s : State) (f : SecSt → SecSt) : (modSec s f).arms = s.arms := rfl
@[simp] theorem modSec_joints (s : State) (f : SecSt → SecSt) : (modSec s f).joints = s.joints := rfl
@[simp] theorem modSec_srcs (s : State) (f : SecSt → SecSt) : (modSec s f).srcs = s.srcs := rfl
@[simp] theorem modSec_ryl (s : State) (f : SecSt → SecSt) : (modSec s f).ryl = s.ryl := rfl
@[simp] theorem modSec_cchans (s : State) (f : SecSt → SecSt) : (modSec s f).cchans = s.cchans := rfl
@[simp] theorem modSec_cnv (s : State) (f : SecSt → SecSt) : (modSec s f).cnv = s.cnv := rfl
@[simp] theorem modSec_fbchs (s : State) (f : SecSt → SecSt) : (modSec s f).fbchs = s.fbchs := rfl
@[simp] theorem modSec_swchs (s : State) (f : SecSt → SecSt) : (modSec s f).swchs = s.swchs := rfl
@[simp] theorem modSec_buses (s : State) (f : SecSt → SecSt) : (modSec s f).buses = s.buses := rfl
@[simp] theorem modSec_profiles (s : State) (f : SecSt → SecSt) : (modSec s f).profiles = s.profiles := rfl
@[simp] theorem modSec_gears (s : State) (f : SecSt → SecSt) : (modSec s f).gears = s.gears := rfl
@[simp] theorem modSec_stepIns (s : State) (f : SecSt → SecSt) : (modSec s f).stepIns = s.stepIns := rfl
@[simp] theorem modSec_drv (s : State) (f : SecSt → SecSt) : (modSec s f).drv = s.drv := rfl
@[simp] theorem modSec_problems (s : State) (f : SecSt → SecSt) : (modSec s f).problems = s.problems := rfl
@[simp] theorem modSec_sol (s : State) (f : SecSt → SecSt) : (modSec s f).sol = s.sol := rfl
@[simp] theorem modSec_pln (s : State) (f : SecSt → SecSt) : (modSec s f).pln = s.pln := rfl
@[simp] theorem modSec_grd (s : State) (f : SecSt → SecSt) : (modSec s f).grd = s.grd := rfl
@[simp] theorem modSec_host (s : State) (f : SecSt → SecSt) : (modSec s f).host = s.host := rfl
@[simp] theorem modSec_time (s : State) (f : SecSt → SecSt) : (modSec s f).time = s.time := rfl
@[simp] theorem modSec_line (s : State) (f : SecSt → SecSt) : (modSec s f).line = s.line := rfl
@[simp] theorem modSec_presses (s : State) (f : SecSt → SecSt) : (modSec s f).presses = s.presses := rfl
@[simp] theorem modSec_gsc (s : State) (f : SecSt → SecSt) : (modSec s f).gsc = s.gsc := rfl
@[simp] theorem modSec_flt (s : State) (f : SecSt → SecSt) : (modSec s f).flt = s.flt := rfl
@[simp] theorem modSec_hlt (s : State) (f : SecSt → SecSt) : (modSec s f).hlt = s.hlt := rfl
@[simp] theorem modSec_mbx (s : State) (f : SecSt → SecSt) : (modSec s f).mbx = s.mbx := rfl
@[simp] theorem modSec_mem (s : State) (f : SecSt → SecSt) : (modSec s f).mem = s.mem := rfl
@[simp] theorem modSec_md (s : State) (f : SecSt → SecSt) : (modSec s f).md = s.md := rfl
@[simp] theorem modSec_sec (s : State) (f : SecSt → SecSt) : (modSec s f).sec = f s.sec := rfl
@[simp] theorem modSec_pins (s : State) (f : SecSt → SecSt) : (modSec s f).pins = s.pins := rfl
@[simp] theorem modSec_out (s : State) (f : SecSt → SecSt) : (modSec s f).out = s.out := rfl
@[simp] theorem modSec_care (s : State) (f : SecSt → SecSt) : (modSec s f).care = s.care := rfl

@[simp] theorem modPins_pending (s : State) (f : PinSt → PinSt) : (modPins s f).pending = s.pending := rfl
@[simp] theorem modPins_free (s : State) (f : PinSt → PinSt) : (modPins s f).free = s.free := rfl
@[simp] theorem modPins_due (s : State) (f : PinSt → PinSt) : (modPins s f).due = s.due := rfl
@[simp] theorem modPins_regs (s : State) (f : PinSt → PinSt) : (modPins s f).regs = s.regs := rfl
@[simp] theorem modPins_gens (s : State) (f : PinSt → PinSt) : (modPins s f).gens = s.gens := rfl
@[simp] theorem modPins_objs (s : State) (f : PinSt → PinSt) : (modPins s f).objs = s.objs := rfl
@[simp] theorem modPins_frees (s : State) (f : PinSt → PinSt) : (modPins s f).frees = s.frees := rfl
@[simp] theorem modPins_regions (s : State) (f : PinSt → PinSt) : (modPins s f).regions = s.regions := rfl
@[simp] theorem modPins_arms (s : State) (f : PinSt → PinSt) : (modPins s f).arms = s.arms := rfl
@[simp] theorem modPins_joints (s : State) (f : PinSt → PinSt) : (modPins s f).joints = s.joints := rfl
@[simp] theorem modPins_srcs (s : State) (f : PinSt → PinSt) : (modPins s f).srcs = s.srcs := rfl
@[simp] theorem modPins_ryl (s : State) (f : PinSt → PinSt) : (modPins s f).ryl = s.ryl := rfl
@[simp] theorem modPins_cchans (s : State) (f : PinSt → PinSt) : (modPins s f).cchans = s.cchans := rfl
@[simp] theorem modPins_cnv (s : State) (f : PinSt → PinSt) : (modPins s f).cnv = s.cnv := rfl
@[simp] theorem modPins_fbchs (s : State) (f : PinSt → PinSt) : (modPins s f).fbchs = s.fbchs := rfl
@[simp] theorem modPins_swchs (s : State) (f : PinSt → PinSt) : (modPins s f).swchs = s.swchs := rfl
@[simp] theorem modPins_buses (s : State) (f : PinSt → PinSt) : (modPins s f).buses = s.buses := rfl
@[simp] theorem modPins_profiles (s : State) (f : PinSt → PinSt) : (modPins s f).profiles = s.profiles := rfl
@[simp] theorem modPins_gears (s : State) (f : PinSt → PinSt) : (modPins s f).gears = s.gears := rfl
@[simp] theorem modPins_stepIns (s : State) (f : PinSt → PinSt) : (modPins s f).stepIns = s.stepIns := rfl
@[simp] theorem modPins_drv (s : State) (f : PinSt → PinSt) : (modPins s f).drv = s.drv := rfl
@[simp] theorem modPins_problems (s : State) (f : PinSt → PinSt) : (modPins s f).problems = s.problems := rfl
@[simp] theorem modPins_sol (s : State) (f : PinSt → PinSt) : (modPins s f).sol = s.sol := rfl
@[simp] theorem modPins_pln (s : State) (f : PinSt → PinSt) : (modPins s f).pln = s.pln := rfl
@[simp] theorem modPins_grd (s : State) (f : PinSt → PinSt) : (modPins s f).grd = s.grd := rfl
@[simp] theorem modPins_host (s : State) (f : PinSt → PinSt) : (modPins s f).host = s.host := rfl
@[simp] theorem modPins_time (s : State) (f : PinSt → PinSt) : (modPins s f).time = s.time := rfl
@[simp] theorem modPins_line (s : State) (f : PinSt → PinSt) : (modPins s f).line = s.line := rfl
@[simp] theorem modPins_presses (s : State) (f : PinSt → PinSt) : (modPins s f).presses = s.presses := rfl
@[simp] theorem modPins_gsc (s : State) (f : PinSt → PinSt) : (modPins s f).gsc = s.gsc := rfl
@[simp] theorem modPins_flt (s : State) (f : PinSt → PinSt) : (modPins s f).flt = s.flt := rfl
@[simp] theorem modPins_hlt (s : State) (f : PinSt → PinSt) : (modPins s f).hlt = s.hlt := rfl
@[simp] theorem modPins_mbx (s : State) (f : PinSt → PinSt) : (modPins s f).mbx = s.mbx := rfl
@[simp] theorem modPins_mem (s : State) (f : PinSt → PinSt) : (modPins s f).mem = s.mem := rfl
@[simp] theorem modPins_md (s : State) (f : PinSt → PinSt) : (modPins s f).md = s.md := rfl
@[simp] theorem modPins_sec (s : State) (f : PinSt → PinSt) : (modPins s f).sec = s.sec := rfl
@[simp] theorem modPins_pins (s : State) (f : PinSt → PinSt) : (modPins s f).pins = f s.pins := rfl
@[simp] theorem modPins_out (s : State) (f : PinSt → PinSt) : (modPins s f).out = s.out := rfl
@[simp] theorem modPins_care (s : State) (f : PinSt → PinSt) : (modPins s f).care = s.care := rfl

@[simp] theorem modMbx_pending (s : State) (f : MbxSt → MbxSt) : (modMbx s f).pending = s.pending := rfl
@[simp] theorem modMbx_free (s : State) (f : MbxSt → MbxSt) : (modMbx s f).free = s.free := rfl
@[simp] theorem modMbx_due (s : State) (f : MbxSt → MbxSt) : (modMbx s f).due = s.due := rfl
@[simp] theorem modMbx_regs (s : State) (f : MbxSt → MbxSt) : (modMbx s f).regs = s.regs := rfl
@[simp] theorem modMbx_gens (s : State) (f : MbxSt → MbxSt) : (modMbx s f).gens = s.gens := rfl
@[simp] theorem modMbx_objs (s : State) (f : MbxSt → MbxSt) : (modMbx s f).objs = s.objs := rfl
@[simp] theorem modMbx_frees (s : State) (f : MbxSt → MbxSt) : (modMbx s f).frees = s.frees := rfl
@[simp] theorem modMbx_regions (s : State) (f : MbxSt → MbxSt) : (modMbx s f).regions = s.regions := rfl
@[simp] theorem modMbx_arms (s : State) (f : MbxSt → MbxSt) : (modMbx s f).arms = s.arms := rfl
@[simp] theorem modMbx_joints (s : State) (f : MbxSt → MbxSt) : (modMbx s f).joints = s.joints := rfl
@[simp] theorem modMbx_srcs (s : State) (f : MbxSt → MbxSt) : (modMbx s f).srcs = s.srcs := rfl
@[simp] theorem modMbx_ryl (s : State) (f : MbxSt → MbxSt) : (modMbx s f).ryl = s.ryl := rfl
@[simp] theorem modMbx_cchans (s : State) (f : MbxSt → MbxSt) : (modMbx s f).cchans = s.cchans := rfl
@[simp] theorem modMbx_cnv (s : State) (f : MbxSt → MbxSt) : (modMbx s f).cnv = s.cnv := rfl
@[simp] theorem modMbx_fbchs (s : State) (f : MbxSt → MbxSt) : (modMbx s f).fbchs = s.fbchs := rfl
@[simp] theorem modMbx_swchs (s : State) (f : MbxSt → MbxSt) : (modMbx s f).swchs = s.swchs := rfl
@[simp] theorem modMbx_buses (s : State) (f : MbxSt → MbxSt) : (modMbx s f).buses = s.buses := rfl
@[simp] theorem modMbx_profiles (s : State) (f : MbxSt → MbxSt) : (modMbx s f).profiles = s.profiles := rfl
@[simp] theorem modMbx_gears (s : State) (f : MbxSt → MbxSt) : (modMbx s f).gears = s.gears := rfl
@[simp] theorem modMbx_stepIns (s : State) (f : MbxSt → MbxSt) : (modMbx s f).stepIns = s.stepIns := rfl
@[simp] theorem modMbx_drv (s : State) (f : MbxSt → MbxSt) : (modMbx s f).drv = s.drv := rfl
@[simp] theorem modMbx_problems (s : State) (f : MbxSt → MbxSt) : (modMbx s f).problems = s.problems := rfl
@[simp] theorem modMbx_sol (s : State) (f : MbxSt → MbxSt) : (modMbx s f).sol = s.sol := rfl
@[simp] theorem modMbx_pln (s : State) (f : MbxSt → MbxSt) : (modMbx s f).pln = s.pln := rfl
@[simp] theorem modMbx_grd (s : State) (f : MbxSt → MbxSt) : (modMbx s f).grd = s.grd := rfl
@[simp] theorem modMbx_host (s : State) (f : MbxSt → MbxSt) : (modMbx s f).host = s.host := rfl
@[simp] theorem modMbx_time (s : State) (f : MbxSt → MbxSt) : (modMbx s f).time = s.time := rfl
@[simp] theorem modMbx_line (s : State) (f : MbxSt → MbxSt) : (modMbx s f).line = s.line := rfl
@[simp] theorem modMbx_presses (s : State) (f : MbxSt → MbxSt) : (modMbx s f).presses = s.presses := rfl
@[simp] theorem modMbx_gsc (s : State) (f : MbxSt → MbxSt) : (modMbx s f).gsc = s.gsc := rfl
@[simp] theorem modMbx_flt (s : State) (f : MbxSt → MbxSt) : (modMbx s f).flt = s.flt := rfl
@[simp] theorem modMbx_hlt (s : State) (f : MbxSt → MbxSt) : (modMbx s f).hlt = s.hlt := rfl
@[simp] theorem modMbx_mbx (s : State) (f : MbxSt → MbxSt) : (modMbx s f).mbx = f s.mbx := rfl
@[simp] theorem modMbx_mem (s : State) (f : MbxSt → MbxSt) : (modMbx s f).mem = s.mem := rfl
@[simp] theorem modMbx_md (s : State) (f : MbxSt → MbxSt) : (modMbx s f).md = s.md := rfl
@[simp] theorem modMbx_sec (s : State) (f : MbxSt → MbxSt) : (modMbx s f).sec = s.sec := rfl
@[simp] theorem modMbx_pins (s : State) (f : MbxSt → MbxSt) : (modMbx s f).pins = s.pins := rfl
@[simp] theorem modMbx_out (s : State) (f : MbxSt → MbxSt) : (modMbx s f).out = s.out := rfl
@[simp] theorem modMbx_care (s : State) (f : MbxSt → MbxSt) : (modMbx s f).care = s.care := rfl

@[simp] theorem modHost_pending (s : State) (f : HostSt → HostSt) : (modHost s f).pending = s.pending := rfl
@[simp] theorem modHost_free (s : State) (f : HostSt → HostSt) : (modHost s f).free = s.free := rfl
@[simp] theorem modHost_due (s : State) (f : HostSt → HostSt) : (modHost s f).due = s.due := rfl
@[simp] theorem modHost_regs (s : State) (f : HostSt → HostSt) : (modHost s f).regs = s.regs := rfl
@[simp] theorem modHost_gens (s : State) (f : HostSt → HostSt) : (modHost s f).gens = s.gens := rfl
@[simp] theorem modHost_objs (s : State) (f : HostSt → HostSt) : (modHost s f).objs = s.objs := rfl
@[simp] theorem modHost_frees (s : State) (f : HostSt → HostSt) : (modHost s f).frees = s.frees := rfl
@[simp] theorem modHost_regions (s : State) (f : HostSt → HostSt) : (modHost s f).regions = s.regions := rfl
@[simp] theorem modHost_arms (s : State) (f : HostSt → HostSt) : (modHost s f).arms = s.arms := rfl
@[simp] theorem modHost_joints (s : State) (f : HostSt → HostSt) : (modHost s f).joints = s.joints := rfl
@[simp] theorem modHost_srcs (s : State) (f : HostSt → HostSt) : (modHost s f).srcs = s.srcs := rfl
@[simp] theorem modHost_ryl (s : State) (f : HostSt → HostSt) : (modHost s f).ryl = s.ryl := rfl
@[simp] theorem modHost_cchans (s : State) (f : HostSt → HostSt) : (modHost s f).cchans = s.cchans := rfl
@[simp] theorem modHost_cnv (s : State) (f : HostSt → HostSt) : (modHost s f).cnv = s.cnv := rfl
@[simp] theorem modHost_fbchs (s : State) (f : HostSt → HostSt) : (modHost s f).fbchs = s.fbchs := rfl
@[simp] theorem modHost_swchs (s : State) (f : HostSt → HostSt) : (modHost s f).swchs = s.swchs := rfl
@[simp] theorem modHost_buses (s : State) (f : HostSt → HostSt) : (modHost s f).buses = s.buses := rfl
@[simp] theorem modHost_profiles (s : State) (f : HostSt → HostSt) : (modHost s f).profiles = s.profiles := rfl
@[simp] theorem modHost_gears (s : State) (f : HostSt → HostSt) : (modHost s f).gears = s.gears := rfl
@[simp] theorem modHost_stepIns (s : State) (f : HostSt → HostSt) : (modHost s f).stepIns = s.stepIns := rfl
@[simp] theorem modHost_drv (s : State) (f : HostSt → HostSt) : (modHost s f).drv = s.drv := rfl
@[simp] theorem modHost_problems (s : State) (f : HostSt → HostSt) : (modHost s f).problems = s.problems := rfl
@[simp] theorem modHost_sol (s : State) (f : HostSt → HostSt) : (modHost s f).sol = s.sol := rfl
@[simp] theorem modHost_pln (s : State) (f : HostSt → HostSt) : (modHost s f).pln = s.pln := rfl
@[simp] theorem modHost_grd (s : State) (f : HostSt → HostSt) : (modHost s f).grd = s.grd := rfl
@[simp] theorem modHost_host (s : State) (f : HostSt → HostSt) : (modHost s f).host = f s.host := rfl
@[simp] theorem modHost_time (s : State) (f : HostSt → HostSt) : (modHost s f).time = s.time := rfl
@[simp] theorem modHost_line (s : State) (f : HostSt → HostSt) : (modHost s f).line = s.line := rfl
@[simp] theorem modHost_presses (s : State) (f : HostSt → HostSt) : (modHost s f).presses = s.presses := rfl
@[simp] theorem modHost_gsc (s : State) (f : HostSt → HostSt) : (modHost s f).gsc = s.gsc := rfl
@[simp] theorem modHost_flt (s : State) (f : HostSt → HostSt) : (modHost s f).flt = s.flt := rfl
@[simp] theorem modHost_hlt (s : State) (f : HostSt → HostSt) : (modHost s f).hlt = s.hlt := rfl
@[simp] theorem modHost_mbx (s : State) (f : HostSt → HostSt) : (modHost s f).mbx = s.mbx := rfl
@[simp] theorem modHost_mem (s : State) (f : HostSt → HostSt) : (modHost s f).mem = s.mem := rfl
@[simp] theorem modHost_md (s : State) (f : HostSt → HostSt) : (modHost s f).md = s.md := rfl
@[simp] theorem modHost_sec (s : State) (f : HostSt → HostSt) : (modHost s f).sec = s.sec := rfl
@[simp] theorem modHost_pins (s : State) (f : HostSt → HostSt) : (modHost s f).pins = s.pins := rfl
@[simp] theorem modHost_out (s : State) (f : HostSt → HostSt) : (modHost s f).out = s.out := rfl
@[simp] theorem modHost_care (s : State) (f : HostSt → HostSt) : (modHost s f).care = s.care := rfl

@[simp] theorem modDue_pending (s : State) (f : Due → Due) : (modDue s f).pending = s.pending := rfl
@[simp] theorem modDue_free (s : State) (f : Due → Due) : (modDue s f).free = s.free := rfl
@[simp] theorem modDue_due (s : State) (f : Due → Due) : (modDue s f).due = f s.due := rfl
@[simp] theorem modDue_regs (s : State) (f : Due → Due) : (modDue s f).regs = s.regs := rfl
@[simp] theorem modDue_gens (s : State) (f : Due → Due) : (modDue s f).gens = s.gens := rfl
@[simp] theorem modDue_objs (s : State) (f : Due → Due) : (modDue s f).objs = s.objs := rfl
@[simp] theorem modDue_frees (s : State) (f : Due → Due) : (modDue s f).frees = s.frees := rfl
@[simp] theorem modDue_regions (s : State) (f : Due → Due) : (modDue s f).regions = s.regions := rfl
@[simp] theorem modDue_arms (s : State) (f : Due → Due) : (modDue s f).arms = s.arms := rfl
@[simp] theorem modDue_joints (s : State) (f : Due → Due) : (modDue s f).joints = s.joints := rfl
@[simp] theorem modDue_srcs (s : State) (f : Due → Due) : (modDue s f).srcs = s.srcs := rfl
@[simp] theorem modDue_ryl (s : State) (f : Due → Due) : (modDue s f).ryl = s.ryl := rfl
@[simp] theorem modDue_cchans (s : State) (f : Due → Due) : (modDue s f).cchans = s.cchans := rfl
@[simp] theorem modDue_cnv (s : State) (f : Due → Due) : (modDue s f).cnv = s.cnv := rfl
@[simp] theorem modDue_fbchs (s : State) (f : Due → Due) : (modDue s f).fbchs = s.fbchs := rfl
@[simp] theorem modDue_swchs (s : State) (f : Due → Due) : (modDue s f).swchs = s.swchs := rfl
@[simp] theorem modDue_buses (s : State) (f : Due → Due) : (modDue s f).buses = s.buses := rfl
@[simp] theorem modDue_profiles (s : State) (f : Due → Due) : (modDue s f).profiles = s.profiles := rfl
@[simp] theorem modDue_gears (s : State) (f : Due → Due) : (modDue s f).gears = s.gears := rfl
@[simp] theorem modDue_stepIns (s : State) (f : Due → Due) : (modDue s f).stepIns = s.stepIns := rfl
@[simp] theorem modDue_drv (s : State) (f : Due → Due) : (modDue s f).drv = s.drv := rfl
@[simp] theorem modDue_problems (s : State) (f : Due → Due) : (modDue s f).problems = s.problems := rfl
@[simp] theorem modDue_sol (s : State) (f : Due → Due) : (modDue s f).sol = s.sol := rfl
@[simp] theorem modDue_pln (s : State) (f : Due → Due) : (modDue s f).pln = s.pln := rfl
@[simp] theorem modDue_grd (s : State) (f : Due → Due) : (modDue s f).grd = s.grd := rfl
@[simp] theorem modDue_host (s : State) (f : Due → Due) : (modDue s f).host = s.host := rfl
@[simp] theorem modDue_time (s : State) (f : Due → Due) : (modDue s f).time = s.time := rfl
@[simp] theorem modDue_line (s : State) (f : Due → Due) : (modDue s f).line = s.line := rfl
@[simp] theorem modDue_presses (s : State) (f : Due → Due) : (modDue s f).presses = s.presses := rfl
@[simp] theorem modDue_gsc (s : State) (f : Due → Due) : (modDue s f).gsc = s.gsc := rfl
@[simp] theorem modDue_flt (s : State) (f : Due → Due) : (modDue s f).flt = s.flt := rfl
@[simp] theorem modDue_hlt (s : State) (f : Due → Due) : (modDue s f).hlt = s.hlt := rfl
@[simp] theorem modDue_mbx (s : State) (f : Due → Due) : (modDue s f).mbx = s.mbx := rfl
@[simp] theorem modDue_mem (s : State) (f : Due → Due) : (modDue s f).mem = s.mem := rfl
@[simp] theorem modDue_md (s : State) (f : Due → Due) : (modDue s f).md = s.md := rfl
@[simp] theorem modDue_sec (s : State) (f : Due → Due) : (modDue s f).sec = s.sec := rfl
@[simp] theorem modDue_pins (s : State) (f : Due → Due) : (modDue s f).pins = s.pins := rfl
@[simp] theorem modDue_out (s : State) (f : Due → Due) : (modDue s f).out = s.out := rfl
@[simp] theorem modDue_care (s : State) (f : Due → Due) : (modDue s f).care = s.care := rfl

@[simp] theorem modRing_pending (s : State) (r : Nat) (f : Ring → Ring) : (modRing s r f).pending = s.pending := rfl
@[simp] theorem modRing_free (s : State) (r : Nat) (f : Ring → Ring) : (modRing s r f).free = s.free := rfl
@[simp] theorem modRing_due (s : State) (r : Nat) (f : Ring → Ring) : (modRing s r f).due = s.due := rfl
@[simp] theorem modRing_regs (s : State) (r : Nat) (f : Ring → Ring) : (modRing s r f).regs = s.regs := rfl
@[simp] theorem modRing_gens (s : State) (r : Nat) (f : Ring → Ring) : (modRing s r f).gens = s.gens := rfl
@[simp] theorem modRing_objs (s : State) (r : Nat) (f : Ring → Ring) : (modRing s r f).objs = s.objs := rfl
@[simp] theorem modRing_frees (s : State) (r : Nat) (f : Ring → Ring) : (modRing s r f).frees = s.frees := rfl
@[simp] theorem modRing_regions (s : State) (r : Nat) (f : Ring → Ring) : (modRing s r f).regions = s.regions := rfl
@[simp] theorem modRing_arms (s : State) (r : Nat) (f : Ring → Ring) : (modRing s r f).arms = s.arms := rfl
@[simp] theorem modRing_joints (s : State) (r : Nat) (f : Ring → Ring) : (modRing s r f).joints = s.joints := rfl
@[simp] theorem modRing_srcs (s : State) (r : Nat) (f : Ring → Ring) : (modRing s r f).srcs = s.srcs := rfl
@[simp] theorem modRing_ryl (s : State) (r : Nat) (f : Ring → Ring) : (modRing s r f).ryl = s.ryl := rfl
@[simp] theorem modRing_cchans (s : State) (r : Nat) (f : Ring → Ring) : (modRing s r f).cchans = s.cchans := rfl
@[simp] theorem modRing_cnv (s : State) (r : Nat) (f : Ring → Ring) : (modRing s r f).cnv = s.cnv := rfl
@[simp] theorem modRing_fbchs (s : State) (r : Nat) (f : Ring → Ring) : (modRing s r f).fbchs = s.fbchs := rfl
@[simp] theorem modRing_swchs (s : State) (r : Nat) (f : Ring → Ring) : (modRing s r f).swchs = s.swchs := rfl
@[simp] theorem modRing_buses (s : State) (r : Nat) (f : Ring → Ring) : (modRing s r f).buses = s.buses := rfl
@[simp] theorem modRing_profiles (s : State) (r : Nat) (f : Ring → Ring) : (modRing s r f).profiles = s.profiles := rfl
@[simp] theorem modRing_gears (s : State) (r : Nat) (f : Ring → Ring) : (modRing s r f).gears = s.gears := rfl
@[simp] theorem modRing_stepIns (s : State) (r : Nat) (f : Ring → Ring) : (modRing s r f).stepIns = s.stepIns := rfl
@[simp] theorem modRing_drv (s : State) (r : Nat) (f : Ring → Ring) : (modRing s r f).drv = s.drv := rfl
@[simp] theorem modRing_problems (s : State) (r : Nat) (f : Ring → Ring) : (modRing s r f).problems = s.problems := rfl
@[simp] theorem modRing_sol (s : State) (r : Nat) (f : Ring → Ring) : (modRing s r f).sol = s.sol := rfl
@[simp] theorem modRing_pln (s : State) (r : Nat) (f : Ring → Ring) : (modRing s r f).pln = s.pln := rfl
@[simp] theorem modRing_grd (s : State) (r : Nat) (f : Ring → Ring) : (modRing s r f).grd = s.grd := rfl
@[simp] theorem modRing_time (s : State) (r : Nat) (f : Ring → Ring) : (modRing s r f).time = s.time := rfl
@[simp] theorem modRing_line (s : State) (r : Nat) (f : Ring → Ring) : (modRing s r f).line = s.line := rfl
@[simp] theorem modRing_presses (s : State) (r : Nat) (f : Ring → Ring) : (modRing s r f).presses = s.presses := rfl
@[simp] theorem modRing_gsc (s : State) (r : Nat) (f : Ring → Ring) : (modRing s r f).gsc = s.gsc := rfl
@[simp] theorem modRing_flt (s : State) (r : Nat) (f : Ring → Ring) : (modRing s r f).flt = s.flt := rfl
@[simp] theorem modRing_hlt (s : State) (r : Nat) (f : Ring → Ring) : (modRing s r f).hlt = s.hlt := rfl
@[simp] theorem modRing_mbx (s : State) (r : Nat) (f : Ring → Ring) : (modRing s r f).mbx = s.mbx := rfl
@[simp] theorem modRing_mem (s : State) (r : Nat) (f : Ring → Ring) : (modRing s r f).mem = s.mem := rfl
@[simp] theorem modRing_md (s : State) (r : Nat) (f : Ring → Ring) : (modRing s r f).md = s.md := rfl
@[simp] theorem modRing_sec (s : State) (r : Nat) (f : Ring → Ring) : (modRing s r f).sec = s.sec := rfl
@[simp] theorem modRing_pins (s : State) (r : Nat) (f : Ring → Ring) : (modRing s r f).pins = s.pins := rfl
@[simp] theorem modRing_out (s : State) (r : Nat) (f : Ring → Ring) : (modRing s r f).out = s.out := rfl
@[simp] theorem modRing_care (s : State) (r : Nat) (f : Ring → Ring) : (modRing s r f).care = s.care := rfl

@[simp] theorem modPress_pending (s : State) (p : Nat) (f : Press → Press) : (modPress s p f).pending = s.pending := rfl
@[simp] theorem modPress_free (s : State) (p : Nat) (f : Press → Press) : (modPress s p f).free = s.free := rfl
@[simp] theorem modPress_due (s : State) (p : Nat) (f : Press → Press) : (modPress s p f).due = s.due := rfl
@[simp] theorem modPress_regs (s : State) (p : Nat) (f : Press → Press) : (modPress s p f).regs = s.regs := rfl
@[simp] theorem modPress_gens (s : State) (p : Nat) (f : Press → Press) : (modPress s p f).gens = s.gens := rfl
@[simp] theorem modPress_objs (s : State) (p : Nat) (f : Press → Press) : (modPress s p f).objs = s.objs := rfl
@[simp] theorem modPress_frees (s : State) (p : Nat) (f : Press → Press) : (modPress s p f).frees = s.frees := rfl
@[simp] theorem modPress_regions (s : State) (p : Nat) (f : Press → Press) : (modPress s p f).regions = s.regions := rfl
@[simp] theorem modPress_arms (s : State) (p : Nat) (f : Press → Press) : (modPress s p f).arms = s.arms := rfl
@[simp] theorem modPress_joints (s : State) (p : Nat) (f : Press → Press) : (modPress s p f).joints = s.joints := rfl
@[simp] theorem modPress_srcs (s : State) (p : Nat) (f : Press → Press) : (modPress s p f).srcs = s.srcs := rfl
@[simp] theorem modPress_ryl (s : State) (p : Nat) (f : Press → Press) : (modPress s p f).ryl = s.ryl := rfl
@[simp] theorem modPress_cchans (s : State) (p : Nat) (f : Press → Press) : (modPress s p f).cchans = s.cchans := rfl
@[simp] theorem modPress_cnv (s : State) (p : Nat) (f : Press → Press) : (modPress s p f).cnv = s.cnv := rfl
@[simp] theorem modPress_fbchs (s : State) (p : Nat) (f : Press → Press) : (modPress s p f).fbchs = s.fbchs := rfl
@[simp] theorem modPress_swchs (s : State) (p : Nat) (f : Press → Press) : (modPress s p f).swchs = s.swchs := rfl
@[simp] theorem modPress_buses (s : State) (p : Nat) (f : Press → Press) : (modPress s p f).buses = s.buses := rfl
@[simp] theorem modPress_profiles (s : State) (p : Nat) (f : Press → Press) : (modPress s p f).profiles = s.profiles := rfl
@[simp] theorem modPress_gears (s : State) (p : Nat) (f : Press → Press) : (modPress s p f).gears = s.gears := rfl
@[simp] theorem modPress_stepIns (s : State) (p : Nat) (f : Press → Press) : (modPress s p f).stepIns = s.stepIns := rfl
@[simp] theorem modPress_drv (s : State) (p : Nat) (f : Press → Press) : (modPress s p f).drv = s.drv := rfl
@[simp] theorem modPress_problems (s : State) (p : Nat) (f : Press → Press) : (modPress s p f).problems = s.problems := rfl
@[simp] theorem modPress_sol (s : State) (p : Nat) (f : Press → Press) : (modPress s p f).sol = s.sol := rfl
@[simp] theorem modPress_pln (s : State) (p : Nat) (f : Press → Press) : (modPress s p f).pln = s.pln := rfl
@[simp] theorem modPress_grd (s : State) (p : Nat) (f : Press → Press) : (modPress s p f).grd = s.grd := rfl
@[simp] theorem modPress_host (s : State) (p : Nat) (f : Press → Press) : (modPress s p f).host = s.host := rfl
@[simp] theorem modPress_time (s : State) (p : Nat) (f : Press → Press) : (modPress s p f).time = s.time := rfl
@[simp] theorem modPress_line (s : State) (p : Nat) (f : Press → Press) : (modPress s p f).line = s.line := rfl
@[simp] theorem modPress_gsc (s : State) (p : Nat) (f : Press → Press) : (modPress s p f).gsc = s.gsc := rfl
@[simp] theorem modPress_flt (s : State) (p : Nat) (f : Press → Press) : (modPress s p f).flt = s.flt := rfl
@[simp] theorem modPress_hlt (s : State) (p : Nat) (f : Press → Press) : (modPress s p f).hlt = s.hlt := rfl
@[simp] theorem modPress_mbx (s : State) (p : Nat) (f : Press → Press) : (modPress s p f).mbx = s.mbx := rfl
@[simp] theorem modPress_mem (s : State) (p : Nat) (f : Press → Press) : (modPress s p f).mem = s.mem := rfl
@[simp] theorem modPress_md (s : State) (p : Nat) (f : Press → Press) : (modPress s p f).md = s.md := rfl
@[simp] theorem modPress_sec (s : State) (p : Nat) (f : Press → Press) : (modPress s p f).sec = s.sec := rfl
@[simp] theorem modPress_pins (s : State) (p : Nat) (f : Press → Press) : (modPress s p f).pins = s.pins := rfl
@[simp] theorem modPress_out (s : State) (p : Nat) (f : Press → Press) : (modPress s p f).out = s.out := rfl
@[simp] theorem modPress_care (s : State) (p : Nat) (f : Press → Press) : (modPress s p f).care = s.care := rfl

@[simp] theorem modRegion_pending (s : State) (r : Nat) (f : Region → Region) : (modRegion s r f).pending = s.pending := rfl
@[simp] theorem modRegion_free (s : State) (r : Nat) (f : Region → Region) : (modRegion s r f).free = s.free := rfl
@[simp] theorem modRegion_due (s : State) (r : Nat) (f : Region → Region) : (modRegion s r f).due = s.due := rfl
@[simp] theorem modRegion_regs (s : State) (r : Nat) (f : Region → Region) : (modRegion s r f).regs = s.regs := rfl
@[simp] theorem modRegion_gens (s : State) (r : Nat) (f : Region → Region) : (modRegion s r f).gens = s.gens := rfl
@[simp] theorem modRegion_objs (s : State) (r : Nat) (f : Region → Region) : (modRegion s r f).objs = s.objs := rfl
@[simp] theorem modRegion_frees (s : State) (r : Nat) (f : Region → Region) : (modRegion s r f).frees = s.frees := rfl
@[simp] theorem modRegion_arms (s : State) (r : Nat) (f : Region → Region) : (modRegion s r f).arms = s.arms := rfl
@[simp] theorem modRegion_joints (s : State) (r : Nat) (f : Region → Region) : (modRegion s r f).joints = s.joints := rfl
@[simp] theorem modRegion_srcs (s : State) (r : Nat) (f : Region → Region) : (modRegion s r f).srcs = s.srcs := rfl
@[simp] theorem modRegion_ryl (s : State) (r : Nat) (f : Region → Region) : (modRegion s r f).ryl = s.ryl := rfl
@[simp] theorem modRegion_cchans (s : State) (r : Nat) (f : Region → Region) : (modRegion s r f).cchans = s.cchans := rfl
@[simp] theorem modRegion_cnv (s : State) (r : Nat) (f : Region → Region) : (modRegion s r f).cnv = s.cnv := rfl
@[simp] theorem modRegion_fbchs (s : State) (r : Nat) (f : Region → Region) : (modRegion s r f).fbchs = s.fbchs := rfl
@[simp] theorem modRegion_swchs (s : State) (r : Nat) (f : Region → Region) : (modRegion s r f).swchs = s.swchs := rfl
@[simp] theorem modRegion_buses (s : State) (r : Nat) (f : Region → Region) : (modRegion s r f).buses = s.buses := rfl
@[simp] theorem modRegion_profiles (s : State) (r : Nat) (f : Region → Region) : (modRegion s r f).profiles = s.profiles := rfl
@[simp] theorem modRegion_gears (s : State) (r : Nat) (f : Region → Region) : (modRegion s r f).gears = s.gears := rfl
@[simp] theorem modRegion_stepIns (s : State) (r : Nat) (f : Region → Region) : (modRegion s r f).stepIns = s.stepIns := rfl
@[simp] theorem modRegion_drv (s : State) (r : Nat) (f : Region → Region) : (modRegion s r f).drv = s.drv := rfl
@[simp] theorem modRegion_problems (s : State) (r : Nat) (f : Region → Region) : (modRegion s r f).problems = s.problems := rfl
@[simp] theorem modRegion_sol (s : State) (r : Nat) (f : Region → Region) : (modRegion s r f).sol = s.sol := rfl
@[simp] theorem modRegion_pln (s : State) (r : Nat) (f : Region → Region) : (modRegion s r f).pln = s.pln := rfl
@[simp] theorem modRegion_grd (s : State) (r : Nat) (f : Region → Region) : (modRegion s r f).grd = s.grd := rfl
@[simp] theorem modRegion_host (s : State) (r : Nat) (f : Region → Region) : (modRegion s r f).host = s.host := rfl
@[simp] theorem modRegion_time (s : State) (r : Nat) (f : Region → Region) : (modRegion s r f).time = s.time := rfl
@[simp] theorem modRegion_line (s : State) (r : Nat) (f : Region → Region) : (modRegion s r f).line = s.line := rfl
@[simp] theorem modRegion_presses (s : State) (r : Nat) (f : Region → Region) : (modRegion s r f).presses = s.presses := rfl
@[simp] theorem modRegion_gsc (s : State) (r : Nat) (f : Region → Region) : (modRegion s r f).gsc = s.gsc := rfl
@[simp] theorem modRegion_flt (s : State) (r : Nat) (f : Region → Region) : (modRegion s r f).flt = s.flt := rfl
@[simp] theorem modRegion_hlt (s : State) (r : Nat) (f : Region → Region) : (modRegion s r f).hlt = s.hlt := rfl
@[simp] theorem modRegion_mbx (s : State) (r : Nat) (f : Region → Region) : (modRegion s r f).mbx = s.mbx := rfl
@[simp] theorem modRegion_mem (s : State) (r : Nat) (f : Region → Region) : (modRegion s r f).mem = s.mem := rfl
@[simp] theorem modRegion_md (s : State) (r : Nat) (f : Region → Region) : (modRegion s r f).md = s.md := rfl
@[simp] theorem modRegion_sec (s : State) (r : Nat) (f : Region → Region) : (modRegion s r f).sec = s.sec := rfl
@[simp] theorem modRegion_pins (s : State) (r : Nat) (f : Region → Region) : (modRegion s r f).pins = s.pins := rfl
@[simp] theorem modRegion_out (s : State) (r : Nat) (f : Region → Region) : (modRegion s r f).out = s.out := rfl
@[simp] theorem modRegion_care (s : State) (r : Nat) (f : Region → Region) : (modRegion s r f).care = s.care := rfl

@[simp] theorem setRegAt_pending (s : State) (off req v : Nat) : (setRegAt s off req v).pending = s.pending := rfl
@[simp] theorem setRegAt_free (s : State) (off req v : Nat) : (setRegAt s off req v).free = s.free := rfl
@[simp] theorem setRegAt_due (s : State) (off req v : Nat) : (setRegAt s off req v).due = s.due := rfl
@[simp] theorem setRegAt_gens (s : State) (off req v : Nat) : (setRegAt s off req v).gens = s.gens := rfl
@[simp] theorem setRegAt_objs (s : State) (off req v : Nat) : (setRegAt s off req v).objs = s.objs := rfl
@[simp] theorem setRegAt_frees (s : State) (off req v : Nat) : (setRegAt s off req v).frees = s.frees := rfl
@[simp] theorem setRegAt_regions (s : State) (off req v : Nat) : (setRegAt s off req v).regions = s.regions := rfl
@[simp] theorem setRegAt_arms (s : State) (off req v : Nat) : (setRegAt s off req v).arms = s.arms := rfl
@[simp] theorem setRegAt_joints (s : State) (off req v : Nat) : (setRegAt s off req v).joints = s.joints := rfl
@[simp] theorem setRegAt_srcs (s : State) (off req v : Nat) : (setRegAt s off req v).srcs = s.srcs := rfl
@[simp] theorem setRegAt_ryl (s : State) (off req v : Nat) : (setRegAt s off req v).ryl = s.ryl := rfl
@[simp] theorem setRegAt_cchans (s : State) (off req v : Nat) : (setRegAt s off req v).cchans = s.cchans := rfl
@[simp] theorem setRegAt_cnv (s : State) (off req v : Nat) : (setRegAt s off req v).cnv = s.cnv := rfl
@[simp] theorem setRegAt_fbchs (s : State) (off req v : Nat) : (setRegAt s off req v).fbchs = s.fbchs := rfl
@[simp] theorem setRegAt_swchs (s : State) (off req v : Nat) : (setRegAt s off req v).swchs = s.swchs := rfl
@[simp] theorem setRegAt_buses (s : State) (off req v : Nat) : (setRegAt s off req v).buses = s.buses := rfl
@[simp] theorem setRegAt_profiles (s : State) (off req v : Nat) : (setRegAt s off req v).profiles = s.profiles := rfl
@[simp] theorem setRegAt_gears (s : State) (off req v : Nat) : (setRegAt s off req v).gears = s.gears := rfl
@[simp] theorem setRegAt_stepIns (s : State) (off req v : Nat) : (setRegAt s off req v).stepIns = s.stepIns := rfl
@[simp] theorem setRegAt_drv (s : State) (off req v : Nat) : (setRegAt s off req v).drv = s.drv := rfl
@[simp] theorem setRegAt_problems (s : State) (off req v : Nat) : (setRegAt s off req v).problems = s.problems := rfl
@[simp] theorem setRegAt_sol (s : State) (off req v : Nat) : (setRegAt s off req v).sol = s.sol := rfl
@[simp] theorem setRegAt_pln (s : State) (off req v : Nat) : (setRegAt s off req v).pln = s.pln := rfl
@[simp] theorem setRegAt_grd (s : State) (off req v : Nat) : (setRegAt s off req v).grd = s.grd := rfl
@[simp] theorem setRegAt_host (s : State) (off req v : Nat) : (setRegAt s off req v).host = s.host := rfl
@[simp] theorem setRegAt_time (s : State) (off req v : Nat) : (setRegAt s off req v).time = s.time := rfl
@[simp] theorem setRegAt_line (s : State) (off req v : Nat) : (setRegAt s off req v).line = s.line := rfl
@[simp] theorem setRegAt_presses (s : State) (off req v : Nat) : (setRegAt s off req v).presses = s.presses := rfl
@[simp] theorem setRegAt_gsc (s : State) (off req v : Nat) : (setRegAt s off req v).gsc = s.gsc := rfl
@[simp] theorem setRegAt_flt (s : State) (off req v : Nat) : (setRegAt s off req v).flt = s.flt := rfl
@[simp] theorem setRegAt_hlt (s : State) (off req v : Nat) : (setRegAt s off req v).hlt = s.hlt := rfl
@[simp] theorem setRegAt_mbx (s : State) (off req v : Nat) : (setRegAt s off req v).mbx = s.mbx := rfl
@[simp] theorem setRegAt_mem (s : State) (off req v : Nat) : (setRegAt s off req v).mem = s.mem := rfl
@[simp] theorem setRegAt_md (s : State) (off req v : Nat) : (setRegAt s off req v).md = s.md := rfl
@[simp] theorem setRegAt_sec (s : State) (off req v : Nat) : (setRegAt s off req v).sec = s.sec := rfl
@[simp] theorem setRegAt_pins (s : State) (off req v : Nat) : (setRegAt s off req v).pins = s.pins := rfl
@[simp] theorem setRegAt_out (s : State) (off req v : Nat) : (setRegAt s off req v).out = s.out := rfl
@[simp] theorem setRegAt_care (s : State) (off req v : Nat) : (setRegAt s off req v).care = s.care := rfl

@[simp] theorem setReg_pending (s : State) (off v : Nat) : (setReg s off v).pending = s.pending := rfl
@[simp] theorem setReg_free (s : State) (off v : Nat) : (setReg s off v).free = s.free := rfl
@[simp] theorem setReg_due (s : State) (off v : Nat) : (setReg s off v).due = s.due := rfl
@[simp] theorem setReg_gens (s : State) (off v : Nat) : (setReg s off v).gens = s.gens := rfl
@[simp] theorem setReg_objs (s : State) (off v : Nat) : (setReg s off v).objs = s.objs := rfl
@[simp] theorem setReg_frees (s : State) (off v : Nat) : (setReg s off v).frees = s.frees := rfl
@[simp] theorem setReg_regions (s : State) (off v : Nat) : (setReg s off v).regions = s.regions := rfl
@[simp] theorem setReg_arms (s : State) (off v : Nat) : (setReg s off v).arms = s.arms := rfl
@[simp] theorem setReg_joints (s : State) (off v : Nat) : (setReg s off v).joints = s.joints := rfl
@[simp] theorem setReg_srcs (s : State) (off v : Nat) : (setReg s off v).srcs = s.srcs := rfl
@[simp] theorem setReg_ryl (s : State) (off v : Nat) : (setReg s off v).ryl = s.ryl := rfl
@[simp] theorem setReg_cchans (s : State) (off v : Nat) : (setReg s off v).cchans = s.cchans := rfl
@[simp] theorem setReg_cnv (s : State) (off v : Nat) : (setReg s off v).cnv = s.cnv := rfl
@[simp] theorem setReg_fbchs (s : State) (off v : Nat) : (setReg s off v).fbchs = s.fbchs := rfl
@[simp] theorem setReg_swchs (s : State) (off v : Nat) : (setReg s off v).swchs = s.swchs := rfl
@[simp] theorem setReg_buses (s : State) (off v : Nat) : (setReg s off v).buses = s.buses := rfl
@[simp] theorem setReg_profiles (s : State) (off v : Nat) : (setReg s off v).profiles = s.profiles := rfl
@[simp] theorem setReg_gears (s : State) (off v : Nat) : (setReg s off v).gears = s.gears := rfl
@[simp] theorem setReg_stepIns (s : State) (off v : Nat) : (setReg s off v).stepIns = s.stepIns := rfl
@[simp] theorem setReg_drv (s : State) (off v : Nat) : (setReg s off v).drv = s.drv := rfl
@[simp] theorem setReg_problems (s : State) (off v : Nat) : (setReg s off v).problems = s.problems := rfl
@[simp] theorem setReg_sol (s : State) (off v : Nat) : (setReg s off v).sol = s.sol := rfl
@[simp] theorem setReg_pln (s : State) (off v : Nat) : (setReg s off v).pln = s.pln := rfl
@[simp] theorem setReg_grd (s : State) (off v : Nat) : (setReg s off v).grd = s.grd := rfl
@[simp] theorem setReg_host (s : State) (off v : Nat) : (setReg s off v).host = s.host := rfl
@[simp] theorem setReg_time (s : State) (off v : Nat) : (setReg s off v).time = s.time := rfl
@[simp] theorem setReg_line (s : State) (off v : Nat) : (setReg s off v).line = s.line := rfl
@[simp] theorem setReg_presses (s : State) (off v : Nat) : (setReg s off v).presses = s.presses := rfl
@[simp] theorem setReg_gsc (s : State) (off v : Nat) : (setReg s off v).gsc = s.gsc := rfl
@[simp] theorem setReg_flt (s : State) (off v : Nat) : (setReg s off v).flt = s.flt := rfl
@[simp] theorem setReg_hlt (s : State) (off v : Nat) : (setReg s off v).hlt = s.hlt := rfl
@[simp] theorem setReg_mbx (s : State) (off v : Nat) : (setReg s off v).mbx = s.mbx := rfl
@[simp] theorem setReg_mem (s : State) (off v : Nat) : (setReg s off v).mem = s.mem := rfl
@[simp] theorem setReg_md (s : State) (off v : Nat) : (setReg s off v).md = s.md := rfl
@[simp] theorem setReg_sec (s : State) (off v : Nat) : (setReg s off v).sec = s.sec := rfl
@[simp] theorem setReg_pins (s : State) (off v : Nat) : (setReg s off v).pins = s.pins := rfl
@[simp] theorem setReg_out (s : State) (off v : Nat) : (setReg s off v).out = s.out := rfl
@[simp] theorem setReg_care (s : State) (off v : Nat) : (setReg s off v).care = s.care := rfl

@[simp] theorem bump_pending (s : State) (off : Nat) : (bump s off).pending = s.pending := rfl
@[simp] theorem bump_free (s : State) (off : Nat) : (bump s off).free = s.free := rfl
@[simp] theorem bump_due (s : State) (off : Nat) : (bump s off).due = s.due := rfl
@[simp] theorem bump_gens (s : State) (off : Nat) : (bump s off).gens = s.gens := rfl
@[simp] theorem bump_objs (s : State) (off : Nat) : (bump s off).objs = s.objs := rfl
@[simp] theorem bump_frees (s : State) (off : Nat) : (bump s off).frees = s.frees := rfl
@[simp] theorem bump_regions (s : State) (off : Nat) : (bump s off).regions = s.regions := rfl
@[simp] theorem bump_arms (s : State) (off : Nat) : (bump s off).arms = s.arms := rfl
@[simp] theorem bump_joints (s : State) (off : Nat) : (bump s off).joints = s.joints := rfl
@[simp] theorem bump_srcs (s : State) (off : Nat) : (bump s off).srcs = s.srcs := rfl
@[simp] theorem bump_ryl (s : State) (off : Nat) : (bump s off).ryl = s.ryl := rfl
@[simp] theorem bump_cchans (s : State) (off : Nat) : (bump s off).cchans = s.cchans := rfl
@[simp] theorem bump_cnv (s : State) (off : Nat) : (bump s off).cnv = s.cnv := rfl
@[simp] theorem bump_fbchs (s : State) (off : Nat) : (bump s off).fbchs = s.fbchs := rfl
@[simp] theorem bump_swchs (s : State) (off : Nat) : (bump s off).swchs = s.swchs := rfl
@[simp] theorem bump_buses (s : State) (off : Nat) : (bump s off).buses = s.buses := rfl
@[simp] theorem bump_profiles (s : State) (off : Nat) : (bump s off).profiles = s.profiles := rfl
@[simp] theorem bump_gears (s : State) (off : Nat) : (bump s off).gears = s.gears := rfl
@[simp] theorem bump_stepIns (s : State) (off : Nat) : (bump s off).stepIns = s.stepIns := rfl
@[simp] theorem bump_drv (s : State) (off : Nat) : (bump s off).drv = s.drv := rfl
@[simp] theorem bump_problems (s : State) (off : Nat) : (bump s off).problems = s.problems := rfl
@[simp] theorem bump_sol (s : State) (off : Nat) : (bump s off).sol = s.sol := rfl
@[simp] theorem bump_pln (s : State) (off : Nat) : (bump s off).pln = s.pln := rfl
@[simp] theorem bump_grd (s : State) (off : Nat) : (bump s off).grd = s.grd := rfl
@[simp] theorem bump_host (s : State) (off : Nat) : (bump s off).host = s.host := rfl
@[simp] theorem bump_time (s : State) (off : Nat) : (bump s off).time = s.time := rfl
@[simp] theorem bump_line (s : State) (off : Nat) : (bump s off).line = s.line := rfl
@[simp] theorem bump_presses (s : State) (off : Nat) : (bump s off).presses = s.presses := rfl
@[simp] theorem bump_gsc (s : State) (off : Nat) : (bump s off).gsc = s.gsc := rfl
@[simp] theorem bump_flt (s : State) (off : Nat) : (bump s off).flt = s.flt := rfl
@[simp] theorem bump_hlt (s : State) (off : Nat) : (bump s off).hlt = s.hlt := rfl
@[simp] theorem bump_mbx (s : State) (off : Nat) : (bump s off).mbx = s.mbx := rfl
@[simp] theorem bump_mem (s : State) (off : Nat) : (bump s off).mem = s.mem := rfl
@[simp] theorem bump_md (s : State) (off : Nat) : (bump s off).md = s.md := rfl
@[simp] theorem bump_sec (s : State) (off : Nat) : (bump s off).sec = s.sec := rfl
@[simp] theorem bump_pins (s : State) (off : Nat) : (bump s off).pins = s.pins := rfl
@[simp] theorem bump_out (s : State) (off : Nat) : (bump s off).out = s.out := rfl
@[simp] theorem bump_care (s : State) (off : Nat) : (bump s off).care = s.care := rfl

@[simp] theorem passCycles_pending (s : State) (n : Nat) : (passCycles s n).pending = s.pending := rfl
@[simp] theorem passCycles_free (s : State) (n : Nat) : (passCycles s n).free = s.free := rfl
@[simp] theorem passCycles_due (s : State) (n : Nat) : (passCycles s n).due = s.due := rfl
@[simp] theorem passCycles_regs (s : State) (n : Nat) : (passCycles s n).regs = s.regs := rfl
@[simp] theorem passCycles_gens (s : State) (n : Nat) : (passCycles s n).gens = s.gens := rfl
@[simp] theorem passCycles_objs (s : State) (n : Nat) : (passCycles s n).objs = s.objs := rfl
@[simp] theorem passCycles_frees (s : State) (n : Nat) : (passCycles s n).frees = s.frees := rfl
@[simp] theorem passCycles_regions (s : State) (n : Nat) : (passCycles s n).regions = s.regions := rfl
@[simp] theorem passCycles_arms (s : State) (n : Nat) : (passCycles s n).arms = s.arms := rfl
@[simp] theorem passCycles_joints (s : State) (n : Nat) : (passCycles s n).joints = s.joints := rfl
@[simp] theorem passCycles_srcs (s : State) (n : Nat) : (passCycles s n).srcs = s.srcs := rfl
@[simp] theorem passCycles_ryl (s : State) (n : Nat) : (passCycles s n).ryl = s.ryl := rfl
@[simp] theorem passCycles_cchans (s : State) (n : Nat) : (passCycles s n).cchans = s.cchans := rfl
@[simp] theorem passCycles_cnv (s : State) (n : Nat) : (passCycles s n).cnv = s.cnv := rfl
@[simp] theorem passCycles_fbchs (s : State) (n : Nat) : (passCycles s n).fbchs = s.fbchs := rfl
@[simp] theorem passCycles_swchs (s : State) (n : Nat) : (passCycles s n).swchs = s.swchs := rfl
@[simp] theorem passCycles_buses (s : State) (n : Nat) : (passCycles s n).buses = s.buses := rfl
@[simp] theorem passCycles_profiles (s : State) (n : Nat) : (passCycles s n).profiles = s.profiles := rfl
@[simp] theorem passCycles_gears (s : State) (n : Nat) : (passCycles s n).gears = s.gears := rfl
@[simp] theorem passCycles_stepIns (s : State) (n : Nat) : (passCycles s n).stepIns = s.stepIns := rfl
@[simp] theorem passCycles_drv (s : State) (n : Nat) : (passCycles s n).drv = s.drv := rfl
@[simp] theorem passCycles_problems (s : State) (n : Nat) : (passCycles s n).problems = s.problems := rfl
@[simp] theorem passCycles_sol (s : State) (n : Nat) : (passCycles s n).sol = s.sol := rfl
@[simp] theorem passCycles_pln (s : State) (n : Nat) : (passCycles s n).pln = s.pln := rfl
@[simp] theorem passCycles_grd (s : State) (n : Nat) : (passCycles s n).grd = s.grd := rfl
@[simp] theorem passCycles_host (s : State) (n : Nat) : (passCycles s n).host = s.host := rfl
@[simp] theorem passCycles_line (s : State) (n : Nat) : (passCycles s n).line = s.line := rfl
@[simp] theorem passCycles_presses (s : State) (n : Nat) : (passCycles s n).presses = s.presses := rfl
@[simp] theorem passCycles_gsc (s : State) (n : Nat) : (passCycles s n).gsc = s.gsc := rfl
@[simp] theorem passCycles_flt (s : State) (n : Nat) : (passCycles s n).flt = s.flt := rfl
@[simp] theorem passCycles_hlt (s : State) (n : Nat) : (passCycles s n).hlt = s.hlt := rfl
@[simp] theorem passCycles_mbx (s : State) (n : Nat) : (passCycles s n).mbx = s.mbx := rfl
@[simp] theorem passCycles_mem (s : State) (n : Nat) : (passCycles s n).mem = s.mem := rfl
@[simp] theorem passCycles_md (s : State) (n : Nat) : (passCycles s n).md = s.md := rfl
@[simp] theorem passCycles_sec (s : State) (n : Nat) : (passCycles s n).sec = s.sec := rfl
@[simp] theorem passCycles_pins (s : State) (n : Nat) : (passCycles s n).pins = s.pins := rfl
@[simp] theorem passCycles_out (s : State) (n : Nat) : (passCycles s n).out = s.out := rfl
@[simp] theorem passCycles_care (s : State) (n : Nat) : (passCycles s n).care = s.care := rfl

@[simp] theorem modCnv_pending (s : State) (f : CnvSt → CnvSt) : (modCnv s f).pending = s.pending := rfl
@[simp] theorem modCnv_free (s : State) (f : CnvSt → CnvSt) : (modCnv s f).free = s.free := rfl
@[simp] theorem modCnv_due (s : State) (f : CnvSt → CnvSt) : (modCnv s f).due = s.due := rfl
@[simp] theorem modCnv_regs (s : State) (f : CnvSt → CnvSt) : (modCnv s f).regs = s.regs := rfl
@[simp] theorem modCnv_gens (s : State) (f : CnvSt → CnvSt) : (modCnv s f).gens = s.gens := rfl
@[simp] theorem modCnv_objs (s : State) (f : CnvSt → CnvSt) : (modCnv s f).objs = s.objs := rfl
@[simp] theorem modCnv_frees (s : State) (f : CnvSt → CnvSt) : (modCnv s f).frees = s.frees := rfl
@[simp] theorem modCnv_regions (s : State) (f : CnvSt → CnvSt) : (modCnv s f).regions = s.regions := rfl
@[simp] theorem modCnv_arms (s : State) (f : CnvSt → CnvSt) : (modCnv s f).arms = s.arms := rfl
@[simp] theorem modCnv_joints (s : State) (f : CnvSt → CnvSt) : (modCnv s f).joints = s.joints := rfl
@[simp] theorem modCnv_srcs (s : State) (f : CnvSt → CnvSt) : (modCnv s f).srcs = s.srcs := rfl
@[simp] theorem modCnv_ryl (s : State) (f : CnvSt → CnvSt) : (modCnv s f).ryl = s.ryl := rfl
@[simp] theorem modCnv_cchans (s : State) (f : CnvSt → CnvSt) : (modCnv s f).cchans = s.cchans := rfl
@[simp] theorem modCnv_cnv (s : State) (f : CnvSt → CnvSt) : (modCnv s f).cnv = f s.cnv := rfl
@[simp] theorem modCnv_fbchs (s : State) (f : CnvSt → CnvSt) : (modCnv s f).fbchs = s.fbchs := rfl
@[simp] theorem modCnv_swchs (s : State) (f : CnvSt → CnvSt) : (modCnv s f).swchs = s.swchs := rfl
@[simp] theorem modCnv_buses (s : State) (f : CnvSt → CnvSt) : (modCnv s f).buses = s.buses := rfl
@[simp] theorem modCnv_profiles (s : State) (f : CnvSt → CnvSt) : (modCnv s f).profiles = s.profiles := rfl
@[simp] theorem modCnv_gears (s : State) (f : CnvSt → CnvSt) : (modCnv s f).gears = s.gears := rfl
@[simp] theorem modCnv_stepIns (s : State) (f : CnvSt → CnvSt) : (modCnv s f).stepIns = s.stepIns := rfl
@[simp] theorem modCnv_drv (s : State) (f : CnvSt → CnvSt) : (modCnv s f).drv = s.drv := rfl
@[simp] theorem modCnv_problems (s : State) (f : CnvSt → CnvSt) : (modCnv s f).problems = s.problems := rfl
@[simp] theorem modCnv_sol (s : State) (f : CnvSt → CnvSt) : (modCnv s f).sol = s.sol := rfl
@[simp] theorem modCnv_pln (s : State) (f : CnvSt → CnvSt) : (modCnv s f).pln = s.pln := rfl
@[simp] theorem modCnv_grd (s : State) (f : CnvSt → CnvSt) : (modCnv s f).grd = s.grd := rfl
@[simp] theorem modCnv_host (s : State) (f : CnvSt → CnvSt) : (modCnv s f).host = s.host := rfl
@[simp] theorem modCnv_time (s : State) (f : CnvSt → CnvSt) : (modCnv s f).time = s.time := rfl
@[simp] theorem modCnv_line (s : State) (f : CnvSt → CnvSt) : (modCnv s f).line = s.line := rfl
@[simp] theorem modCnv_presses (s : State) (f : CnvSt → CnvSt) : (modCnv s f).presses = s.presses := rfl
@[simp] theorem modCnv_gsc (s : State) (f : CnvSt → CnvSt) : (modCnv s f).gsc = s.gsc := rfl
@[simp] theorem modCnv_flt (s : State) (f : CnvSt → CnvSt) : (modCnv s f).flt = s.flt := rfl
@[simp] theorem modCnv_hlt (s : State) (f : CnvSt → CnvSt) : (modCnv s f).hlt = s.hlt := rfl
@[simp] theorem modCnv_mbx (s : State) (f : CnvSt → CnvSt) : (modCnv s f).mbx = s.mbx := rfl
@[simp] theorem modCnv_mem (s : State) (f : CnvSt → CnvSt) : (modCnv s f).mem = s.mem := rfl
@[simp] theorem modCnv_md (s : State) (f : CnvSt → CnvSt) : (modCnv s f).md = s.md := rfl
@[simp] theorem modCnv_sec (s : State) (f : CnvSt → CnvSt) : (modCnv s f).sec = s.sec := rfl
@[simp] theorem modCnv_pins (s : State) (f : CnvSt → CnvSt) : (modCnv s f).pins = s.pins := rfl
@[simp] theorem modCnv_out (s : State) (f : CnvSt → CnvSt) : (modCnv s f).out = s.out := rfl
@[simp] theorem modCnv_care (s : State) (f : CnvSt → CnvSt) : (modCnv s f).care = s.care := rfl

@[simp] theorem modSol_pending (s : State) (f : SolSt → SolSt) : (modSol s f).pending = s.pending := rfl
@[simp] theorem modSol_free (s : State) (f : SolSt → SolSt) : (modSol s f).free = s.free := rfl
@[simp] theorem modSol_due (s : State) (f : SolSt → SolSt) : (modSol s f).due = s.due := rfl
@[simp] theorem modSol_regs (s : State) (f : SolSt → SolSt) : (modSol s f).regs = s.regs := rfl
@[simp] theorem modSol_gens (s : State) (f : SolSt → SolSt) : (modSol s f).gens = s.gens := rfl
@[simp] theorem modSol_objs (s : State) (f : SolSt → SolSt) : (modSol s f).objs = s.objs := rfl
@[simp] theorem modSol_frees (s : State) (f : SolSt → SolSt) : (modSol s f).frees = s.frees := rfl
@[simp] theorem modSol_regions (s : State) (f : SolSt → SolSt) : (modSol s f).regions = s.regions := rfl
@[simp] theorem modSol_arms (s : State) (f : SolSt → SolSt) : (modSol s f).arms = s.arms := rfl
@[simp] theorem modSol_joints (s : State) (f : SolSt → SolSt) : (modSol s f).joints = s.joints := rfl
@[simp] theorem modSol_srcs (s : State) (f : SolSt → SolSt) : (modSol s f).srcs = s.srcs := rfl
@[simp] theorem modSol_ryl (s : State) (f : SolSt → SolSt) : (modSol s f).ryl = s.ryl := rfl
@[simp] theorem modSol_cchans (s : State) (f : SolSt → SolSt) : (modSol s f).cchans = s.cchans := rfl
@[simp] theorem modSol_cnv (s : State) (f : SolSt → SolSt) : (modSol s f).cnv = s.cnv := rfl
@[simp] theorem modSol_fbchs (s : State) (f : SolSt → SolSt) : (modSol s f).fbchs = s.fbchs := rfl
@[simp] theorem modSol_swchs (s : State) (f : SolSt → SolSt) : (modSol s f).swchs = s.swchs := rfl
@[simp] theorem modSol_buses (s : State) (f : SolSt → SolSt) : (modSol s f).buses = s.buses := rfl
@[simp] theorem modSol_profiles (s : State) (f : SolSt → SolSt) : (modSol s f).profiles = s.profiles := rfl
@[simp] theorem modSol_gears (s : State) (f : SolSt → SolSt) : (modSol s f).gears = s.gears := rfl
@[simp] theorem modSol_stepIns (s : State) (f : SolSt → SolSt) : (modSol s f).stepIns = s.stepIns := rfl
@[simp] theorem modSol_drv (s : State) (f : SolSt → SolSt) : (modSol s f).drv = s.drv := rfl
@[simp] theorem modSol_problems (s : State) (f : SolSt → SolSt) : (modSol s f).problems = s.problems := rfl
@[simp] theorem modSol_sol (s : State) (f : SolSt → SolSt) : (modSol s f).sol = f s.sol := rfl
@[simp] theorem modSol_pln (s : State) (f : SolSt → SolSt) : (modSol s f).pln = s.pln := rfl
@[simp] theorem modSol_grd (s : State) (f : SolSt → SolSt) : (modSol s f).grd = s.grd := rfl
@[simp] theorem modSol_host (s : State) (f : SolSt → SolSt) : (modSol s f).host = s.host := rfl
@[simp] theorem modSol_time (s : State) (f : SolSt → SolSt) : (modSol s f).time = s.time := rfl
@[simp] theorem modSol_line (s : State) (f : SolSt → SolSt) : (modSol s f).line = s.line := rfl
@[simp] theorem modSol_presses (s : State) (f : SolSt → SolSt) : (modSol s f).presses = s.presses := rfl
@[simp] theorem modSol_gsc (s : State) (f : SolSt → SolSt) : (modSol s f).gsc = s.gsc := rfl
@[simp] theorem modSol_flt (s : State) (f : SolSt → SolSt) : (modSol s f).flt = s.flt := rfl
@[simp] theorem modSol_hlt (s : State) (f : SolSt → SolSt) : (modSol s f).hlt = s.hlt := rfl
@[simp] theorem modSol_mbx (s : State) (f : SolSt → SolSt) : (modSol s f).mbx = s.mbx := rfl
@[simp] theorem modSol_mem (s : State) (f : SolSt → SolSt) : (modSol s f).mem = s.mem := rfl
@[simp] theorem modSol_md (s : State) (f : SolSt → SolSt) : (modSol s f).md = s.md := rfl
@[simp] theorem modSol_sec (s : State) (f : SolSt → SolSt) : (modSol s f).sec = s.sec := rfl
@[simp] theorem modSol_pins (s : State) (f : SolSt → SolSt) : (modSol s f).pins = s.pins := rfl
@[simp] theorem modSol_out (s : State) (f : SolSt → SolSt) : (modSol s f).out = s.out := rfl
@[simp] theorem modSol_care (s : State) (f : SolSt → SolSt) : (modSol s f).care = s.care := rfl

@[simp] theorem modPln_pending (s : State) (f : PlnSt → PlnSt) : (modPln s f).pending = s.pending := rfl
@[simp] theorem modPln_free (s : State) (f : PlnSt → PlnSt) : (modPln s f).free = s.free := rfl
@[simp] theorem modPln_due (s : State) (f : PlnSt → PlnSt) : (modPln s f).due = s.due := rfl
@[simp] theorem modPln_regs (s : State) (f : PlnSt → PlnSt) : (modPln s f).regs = s.regs := rfl
@[simp] theorem modPln_gens (s : State) (f : PlnSt → PlnSt) : (modPln s f).gens = s.gens := rfl
@[simp] theorem modPln_objs (s : State) (f : PlnSt → PlnSt) : (modPln s f).objs = s.objs := rfl
@[simp] theorem modPln_frees (s : State) (f : PlnSt → PlnSt) : (modPln s f).frees = s.frees := rfl
@[simp] theorem modPln_regions (s : State) (f : PlnSt → PlnSt) : (modPln s f).regions = s.regions := rfl
@[simp] theorem modPln_arms (s : State) (f : PlnSt → PlnSt) : (modPln s f).arms = s.arms := rfl
@[simp] theorem modPln_joints (s : State) (f : PlnSt → PlnSt) : (modPln s f).joints = s.joints := rfl
@[simp] theorem modPln_srcs (s : State) (f : PlnSt → PlnSt) : (modPln s f).srcs = s.srcs := rfl
@[simp] theorem modPln_ryl (s : State) (f : PlnSt → PlnSt) : (modPln s f).ryl = s.ryl := rfl
@[simp] theorem modPln_cchans (s : State) (f : PlnSt → PlnSt) : (modPln s f).cchans = s.cchans := rfl
@[simp] theorem modPln_cnv (s : State) (f : PlnSt → PlnSt) : (modPln s f).cnv = s.cnv := rfl
@[simp] theorem modPln_fbchs (s : State) (f : PlnSt → PlnSt) : (modPln s f).fbchs = s.fbchs := rfl
@[simp] theorem modPln_swchs (s : State) (f : PlnSt → PlnSt) : (modPln s f).swchs = s.swchs := rfl
@[simp] theorem modPln_buses (s : State) (f : PlnSt → PlnSt) : (modPln s f).buses = s.buses := rfl
@[simp] theorem modPln_profiles (s : State) (f : PlnSt → PlnSt) : (modPln s f).profiles = s.profiles := rfl
@[simp] theorem modPln_gears (s : State) (f : PlnSt → PlnSt) : (modPln s f).gears = s.gears := rfl
@[simp] theorem modPln_stepIns (s : State) (f : PlnSt → PlnSt) : (modPln s f).stepIns = s.stepIns := rfl
@[simp] theorem modPln_drv (s : State) (f : PlnSt → PlnSt) : (modPln s f).drv = s.drv := rfl
@[simp] theorem modPln_problems (s : State) (f : PlnSt → PlnSt) : (modPln s f).problems = s.problems := rfl
@[simp] theorem modPln_sol (s : State) (f : PlnSt → PlnSt) : (modPln s f).sol = s.sol := rfl
@[simp] theorem modPln_pln (s : State) (f : PlnSt → PlnSt) : (modPln s f).pln = f s.pln := rfl
@[simp] theorem modPln_grd (s : State) (f : PlnSt → PlnSt) : (modPln s f).grd = s.grd := rfl
@[simp] theorem modPln_host (s : State) (f : PlnSt → PlnSt) : (modPln s f).host = s.host := rfl
@[simp] theorem modPln_time (s : State) (f : PlnSt → PlnSt) : (modPln s f).time = s.time := rfl
@[simp] theorem modPln_line (s : State) (f : PlnSt → PlnSt) : (modPln s f).line = s.line := rfl
@[simp] theorem modPln_presses (s : State) (f : PlnSt → PlnSt) : (modPln s f).presses = s.presses := rfl
@[simp] theorem modPln_gsc (s : State) (f : PlnSt → PlnSt) : (modPln s f).gsc = s.gsc := rfl
@[simp] theorem modPln_flt (s : State) (f : PlnSt → PlnSt) : (modPln s f).flt = s.flt := rfl
@[simp] theorem modPln_hlt (s : State) (f : PlnSt → PlnSt) : (modPln s f).hlt = s.hlt := rfl
@[simp] theorem modPln_mbx (s : State) (f : PlnSt → PlnSt) : (modPln s f).mbx = s.mbx := rfl
@[simp] theorem modPln_mem (s : State) (f : PlnSt → PlnSt) : (modPln s f).mem = s.mem := rfl
@[simp] theorem modPln_md (s : State) (f : PlnSt → PlnSt) : (modPln s f).md = s.md := rfl
@[simp] theorem modPln_sec (s : State) (f : PlnSt → PlnSt) : (modPln s f).sec = s.sec := rfl
@[simp] theorem modPln_pins (s : State) (f : PlnSt → PlnSt) : (modPln s f).pins = s.pins := rfl
@[simp] theorem modPln_out (s : State) (f : PlnSt → PlnSt) : (modPln s f).out = s.out := rfl
@[simp] theorem modPln_care (s : State) (f : PlnSt → PlnSt) : (modPln s f).care = s.care := rfl

@[simp] theorem modGrd_pending (s : State) (f : GrdSt → GrdSt) : (modGrd s f).pending = s.pending := rfl
@[simp] theorem modGrd_free (s : State) (f : GrdSt → GrdSt) : (modGrd s f).free = s.free := rfl
@[simp] theorem modGrd_due (s : State) (f : GrdSt → GrdSt) : (modGrd s f).due = s.due := rfl
@[simp] theorem modGrd_regs (s : State) (f : GrdSt → GrdSt) : (modGrd s f).regs = s.regs := rfl
@[simp] theorem modGrd_gens (s : State) (f : GrdSt → GrdSt) : (modGrd s f).gens = s.gens := rfl
@[simp] theorem modGrd_objs (s : State) (f : GrdSt → GrdSt) : (modGrd s f).objs = s.objs := rfl
@[simp] theorem modGrd_frees (s : State) (f : GrdSt → GrdSt) : (modGrd s f).frees = s.frees := rfl
@[simp] theorem modGrd_regions (s : State) (f : GrdSt → GrdSt) : (modGrd s f).regions = s.regions := rfl
@[simp] theorem modGrd_arms (s : State) (f : GrdSt → GrdSt) : (modGrd s f).arms = s.arms := rfl
@[simp] theorem modGrd_joints (s : State) (f : GrdSt → GrdSt) : (modGrd s f).joints = s.joints := rfl
@[simp] theorem modGrd_srcs (s : State) (f : GrdSt → GrdSt) : (modGrd s f).srcs = s.srcs := rfl
@[simp] theorem modGrd_ryl (s : State) (f : GrdSt → GrdSt) : (modGrd s f).ryl = s.ryl := rfl
@[simp] theorem modGrd_cchans (s : State) (f : GrdSt → GrdSt) : (modGrd s f).cchans = s.cchans := rfl
@[simp] theorem modGrd_cnv (s : State) (f : GrdSt → GrdSt) : (modGrd s f).cnv = s.cnv := rfl
@[simp] theorem modGrd_fbchs (s : State) (f : GrdSt → GrdSt) : (modGrd s f).fbchs = s.fbchs := rfl
@[simp] theorem modGrd_swchs (s : State) (f : GrdSt → GrdSt) : (modGrd s f).swchs = s.swchs := rfl
@[simp] theorem modGrd_buses (s : State) (f : GrdSt → GrdSt) : (modGrd s f).buses = s.buses := rfl
@[simp] theorem modGrd_profiles (s : State) (f : GrdSt → GrdSt) : (modGrd s f).profiles = s.profiles := rfl
@[simp] theorem modGrd_gears (s : State) (f : GrdSt → GrdSt) : (modGrd s f).gears = s.gears := rfl
@[simp] theorem modGrd_stepIns (s : State) (f : GrdSt → GrdSt) : (modGrd s f).stepIns = s.stepIns := rfl
@[simp] theorem modGrd_drv (s : State) (f : GrdSt → GrdSt) : (modGrd s f).drv = s.drv := rfl
@[simp] theorem modGrd_problems (s : State) (f : GrdSt → GrdSt) : (modGrd s f).problems = s.problems := rfl
@[simp] theorem modGrd_sol (s : State) (f : GrdSt → GrdSt) : (modGrd s f).sol = s.sol := rfl
@[simp] theorem modGrd_pln (s : State) (f : GrdSt → GrdSt) : (modGrd s f).pln = s.pln := rfl
@[simp] theorem modGrd_grd (s : State) (f : GrdSt → GrdSt) : (modGrd s f).grd = f s.grd := rfl
@[simp] theorem modGrd_host (s : State) (f : GrdSt → GrdSt) : (modGrd s f).host = s.host := rfl
@[simp] theorem modGrd_time (s : State) (f : GrdSt → GrdSt) : (modGrd s f).time = s.time := rfl
@[simp] theorem modGrd_line (s : State) (f : GrdSt → GrdSt) : (modGrd s f).line = s.line := rfl
@[simp] theorem modGrd_presses (s : State) (f : GrdSt → GrdSt) : (modGrd s f).presses = s.presses := rfl
@[simp] theorem modGrd_gsc (s : State) (f : GrdSt → GrdSt) : (modGrd s f).gsc = s.gsc := rfl
@[simp] theorem modGrd_flt (s : State) (f : GrdSt → GrdSt) : (modGrd s f).flt = s.flt := rfl
@[simp] theorem modGrd_hlt (s : State) (f : GrdSt → GrdSt) : (modGrd s f).hlt = s.hlt := rfl
@[simp] theorem modGrd_mbx (s : State) (f : GrdSt → GrdSt) : (modGrd s f).mbx = s.mbx := rfl
@[simp] theorem modGrd_mem (s : State) (f : GrdSt → GrdSt) : (modGrd s f).mem = s.mem := rfl
@[simp] theorem modGrd_md (s : State) (f : GrdSt → GrdSt) : (modGrd s f).md = s.md := rfl
@[simp] theorem modGrd_sec (s : State) (f : GrdSt → GrdSt) : (modGrd s f).sec = s.sec := rfl
@[simp] theorem modGrd_pins (s : State) (f : GrdSt → GrdSt) : (modGrd s f).pins = s.pins := rfl
@[simp] theorem modGrd_out (s : State) (f : GrdSt → GrdSt) : (modGrd s f).out = s.out := rfl
@[simp] theorem modGrd_care (s : State) (f : GrdSt → GrdSt) : (modGrd s f).care = s.care := rfl

@[simp] theorem modDrv_pending (s : State) (n : Nat) (f : DCore → DCore) : (modDrv s n f).pending = s.pending := rfl
@[simp] theorem modDrv_free (s : State) (n : Nat) (f : DCore → DCore) : (modDrv s n f).free = s.free := rfl
@[simp] theorem modDrv_due (s : State) (n : Nat) (f : DCore → DCore) : (modDrv s n f).due = s.due := rfl
@[simp] theorem modDrv_regs (s : State) (n : Nat) (f : DCore → DCore) : (modDrv s n f).regs = s.regs := rfl
@[simp] theorem modDrv_gens (s : State) (n : Nat) (f : DCore → DCore) : (modDrv s n f).gens = s.gens := rfl
@[simp] theorem modDrv_objs (s : State) (n : Nat) (f : DCore → DCore) : (modDrv s n f).objs = s.objs := rfl
@[simp] theorem modDrv_frees (s : State) (n : Nat) (f : DCore → DCore) : (modDrv s n f).frees = s.frees := rfl
@[simp] theorem modDrv_regions (s : State) (n : Nat) (f : DCore → DCore) : (modDrv s n f).regions = s.regions := rfl
@[simp] theorem modDrv_arms (s : State) (n : Nat) (f : DCore → DCore) : (modDrv s n f).arms = s.arms := rfl
@[simp] theorem modDrv_joints (s : State) (n : Nat) (f : DCore → DCore) : (modDrv s n f).joints = s.joints := rfl
@[simp] theorem modDrv_srcs (s : State) (n : Nat) (f : DCore → DCore) : (modDrv s n f).srcs = s.srcs := rfl
@[simp] theorem modDrv_ryl (s : State) (n : Nat) (f : DCore → DCore) : (modDrv s n f).ryl = s.ryl := rfl
@[simp] theorem modDrv_cchans (s : State) (n : Nat) (f : DCore → DCore) : (modDrv s n f).cchans = s.cchans := rfl
@[simp] theorem modDrv_cnv (s : State) (n : Nat) (f : DCore → DCore) : (modDrv s n f).cnv = s.cnv := rfl
@[simp] theorem modDrv_fbchs (s : State) (n : Nat) (f : DCore → DCore) : (modDrv s n f).fbchs = s.fbchs := rfl
@[simp] theorem modDrv_swchs (s : State) (n : Nat) (f : DCore → DCore) : (modDrv s n f).swchs = s.swchs := rfl
@[simp] theorem modDrv_buses (s : State) (n : Nat) (f : DCore → DCore) : (modDrv s n f).buses = s.buses := rfl
@[simp] theorem modDrv_profiles (s : State) (n : Nat) (f : DCore → DCore) : (modDrv s n f).profiles = s.profiles := rfl
@[simp] theorem modDrv_gears (s : State) (n : Nat) (f : DCore → DCore) : (modDrv s n f).gears = s.gears := rfl
@[simp] theorem modDrv_stepIns (s : State) (n : Nat) (f : DCore → DCore) : (modDrv s n f).stepIns = s.stepIns := rfl
@[simp] theorem modDrv_problems (s : State) (n : Nat) (f : DCore → DCore) : (modDrv s n f).problems = s.problems := rfl
@[simp] theorem modDrv_sol (s : State) (n : Nat) (f : DCore → DCore) : (modDrv s n f).sol = s.sol := rfl
@[simp] theorem modDrv_pln (s : State) (n : Nat) (f : DCore → DCore) : (modDrv s n f).pln = s.pln := rfl
@[simp] theorem modDrv_grd (s : State) (n : Nat) (f : DCore → DCore) : (modDrv s n f).grd = s.grd := rfl
@[simp] theorem modDrv_host (s : State) (n : Nat) (f : DCore → DCore) : (modDrv s n f).host = s.host := rfl
@[simp] theorem modDrv_time (s : State) (n : Nat) (f : DCore → DCore) : (modDrv s n f).time = s.time := rfl
@[simp] theorem modDrv_line (s : State) (n : Nat) (f : DCore → DCore) : (modDrv s n f).line = s.line := rfl
@[simp] theorem modDrv_presses (s : State) (n : Nat) (f : DCore → DCore) : (modDrv s n f).presses = s.presses := rfl
@[simp] theorem modDrv_gsc (s : State) (n : Nat) (f : DCore → DCore) : (modDrv s n f).gsc = s.gsc := rfl
@[simp] theorem modDrv_flt (s : State) (n : Nat) (f : DCore → DCore) : (modDrv s n f).flt = s.flt := rfl
@[simp] theorem modDrv_hlt (s : State) (n : Nat) (f : DCore → DCore) : (modDrv s n f).hlt = s.hlt := rfl
@[simp] theorem modDrv_mbx (s : State) (n : Nat) (f : DCore → DCore) : (modDrv s n f).mbx = s.mbx := rfl
@[simp] theorem modDrv_mem (s : State) (n : Nat) (f : DCore → DCore) : (modDrv s n f).mem = s.mem := rfl
@[simp] theorem modDrv_md (s : State) (n : Nat) (f : DCore → DCore) : (modDrv s n f).md = s.md := rfl
@[simp] theorem modDrv_sec (s : State) (n : Nat) (f : DCore → DCore) : (modDrv s n f).sec = s.sec := rfl
@[simp] theorem modDrv_pins (s : State) (n : Nat) (f : DCore → DCore) : (modDrv s n f).pins = s.pins := rfl
@[simp] theorem modDrv_out (s : State) (n : Nat) (f : DCore → DCore) : (modDrv s n f).out = s.out := rfl
@[simp] theorem modDrv_care (s : State) (n : Nat) (f : DCore → DCore) : (modDrv s n f).care = s.care := rfl

@[simp] theorem modPort_pending (s : State) (p : Nat) (f : RPort → RPort) : (modPort s p f).pending = s.pending := rfl
@[simp] theorem modPort_free (s : State) (p : Nat) (f : RPort → RPort) : (modPort s p f).free = s.free := rfl
@[simp] theorem modPort_due (s : State) (p : Nat) (f : RPort → RPort) : (modPort s p f).due = s.due := rfl
@[simp] theorem modPort_regs (s : State) (p : Nat) (f : RPort → RPort) : (modPort s p f).regs = s.regs := rfl
@[simp] theorem modPort_gens (s : State) (p : Nat) (f : RPort → RPort) : (modPort s p f).gens = s.gens := rfl
@[simp] theorem modPort_objs (s : State) (p : Nat) (f : RPort → RPort) : (modPort s p f).objs = s.objs := rfl
@[simp] theorem modPort_frees (s : State) (p : Nat) (f : RPort → RPort) : (modPort s p f).frees = s.frees := rfl
@[simp] theorem modPort_regions (s : State) (p : Nat) (f : RPort → RPort) : (modPort s p f).regions = s.regions := rfl
@[simp] theorem modPort_arms (s : State) (p : Nat) (f : RPort → RPort) : (modPort s p f).arms = s.arms := rfl
@[simp] theorem modPort_joints (s : State) (p : Nat) (f : RPort → RPort) : (modPort s p f).joints = s.joints := rfl
@[simp] theorem modPort_srcs (s : State) (p : Nat) (f : RPort → RPort) : (modPort s p f).srcs = s.srcs := rfl
@[simp] theorem modPort_cchans (s : State) (p : Nat) (f : RPort → RPort) : (modPort s p f).cchans = s.cchans := rfl
@[simp] theorem modPort_cnv (s : State) (p : Nat) (f : RPort → RPort) : (modPort s p f).cnv = s.cnv := rfl
@[simp] theorem modPort_fbchs (s : State) (p : Nat) (f : RPort → RPort) : (modPort s p f).fbchs = s.fbchs := rfl
@[simp] theorem modPort_swchs (s : State) (p : Nat) (f : RPort → RPort) : (modPort s p f).swchs = s.swchs := rfl
@[simp] theorem modPort_buses (s : State) (p : Nat) (f : RPort → RPort) : (modPort s p f).buses = s.buses := rfl
@[simp] theorem modPort_profiles (s : State) (p : Nat) (f : RPort → RPort) : (modPort s p f).profiles = s.profiles := rfl
@[simp] theorem modPort_gears (s : State) (p : Nat) (f : RPort → RPort) : (modPort s p f).gears = s.gears := rfl
@[simp] theorem modPort_stepIns (s : State) (p : Nat) (f : RPort → RPort) : (modPort s p f).stepIns = s.stepIns := rfl
@[simp] theorem modPort_drv (s : State) (p : Nat) (f : RPort → RPort) : (modPort s p f).drv = s.drv := rfl
@[simp] theorem modPort_problems (s : State) (p : Nat) (f : RPort → RPort) : (modPort s p f).problems = s.problems := rfl
@[simp] theorem modPort_sol (s : State) (p : Nat) (f : RPort → RPort) : (modPort s p f).sol = s.sol := rfl
@[simp] theorem modPort_pln (s : State) (p : Nat) (f : RPort → RPort) : (modPort s p f).pln = s.pln := rfl
@[simp] theorem modPort_grd (s : State) (p : Nat) (f : RPort → RPort) : (modPort s p f).grd = s.grd := rfl
@[simp] theorem modPort_host (s : State) (p : Nat) (f : RPort → RPort) : (modPort s p f).host = s.host := rfl
@[simp] theorem modPort_time (s : State) (p : Nat) (f : RPort → RPort) : (modPort s p f).time = s.time := rfl
@[simp] theorem modPort_line (s : State) (p : Nat) (f : RPort → RPort) : (modPort s p f).line = s.line := rfl
@[simp] theorem modPort_presses (s : State) (p : Nat) (f : RPort → RPort) : (modPort s p f).presses = s.presses := rfl
@[simp] theorem modPort_gsc (s : State) (p : Nat) (f : RPort → RPort) : (modPort s p f).gsc = s.gsc := rfl
@[simp] theorem modPort_flt (s : State) (p : Nat) (f : RPort → RPort) : (modPort s p f).flt = s.flt := rfl
@[simp] theorem modPort_hlt (s : State) (p : Nat) (f : RPort → RPort) : (modPort s p f).hlt = s.hlt := rfl
@[simp] theorem modPort_mbx (s : State) (p : Nat) (f : RPort → RPort) : (modPort s p f).mbx = s.mbx := rfl
@[simp] theorem modPort_mem (s : State) (p : Nat) (f : RPort → RPort) : (modPort s p f).mem = s.mem := rfl
@[simp] theorem modPort_md (s : State) (p : Nat) (f : RPort → RPort) : (modPort s p f).md = s.md := rfl
@[simp] theorem modPort_sec (s : State) (p : Nat) (f : RPort → RPort) : (modPort s p f).sec = s.sec := rfl
@[simp] theorem modPort_pins (s : State) (p : Nat) (f : RPort → RPort) : (modPort s p f).pins = s.pins := rfl
@[simp] theorem modPort_out (s : State) (p : Nat) (f : RPort → RPort) : (modPort s p f).out = s.out := rfl
@[simp] theorem modPort_care (s : State) (p : Nat) (f : RPort → RPort) : (modPort s p f).care = s.care := rfl

@[simp] theorem modSw_pending (s : State) (c : Nat) (f : Swch → Swch) : (modSw s c f).pending = s.pending := rfl
@[simp] theorem modSw_free (s : State) (c : Nat) (f : Swch → Swch) : (modSw s c f).free = s.free := rfl
@[simp] theorem modSw_due (s : State) (c : Nat) (f : Swch → Swch) : (modSw s c f).due = s.due := rfl
@[simp] theorem modSw_regs (s : State) (c : Nat) (f : Swch → Swch) : (modSw s c f).regs = s.regs := rfl
@[simp] theorem modSw_gens (s : State) (c : Nat) (f : Swch → Swch) : (modSw s c f).gens = s.gens := rfl
@[simp] theorem modSw_objs (s : State) (c : Nat) (f : Swch → Swch) : (modSw s c f).objs = s.objs := rfl
@[simp] theorem modSw_frees (s : State) (c : Nat) (f : Swch → Swch) : (modSw s c f).frees = s.frees := rfl
@[simp] theorem modSw_regions (s : State) (c : Nat) (f : Swch → Swch) : (modSw s c f).regions = s.regions := rfl
@[simp] theorem modSw_arms (s : State) (c : Nat) (f : Swch → Swch) : (modSw s c f).arms = s.arms := rfl
@[simp] theorem modSw_joints (s : State) (c : Nat) (f : Swch → Swch) : (modSw s c f).joints = s.joints := rfl
@[simp] theorem modSw_srcs (s : State) (c : Nat) (f : Swch → Swch) : (modSw s c f).srcs = s.srcs := rfl
@[simp] theorem modSw_ryl (s : State) (c : Nat) (f : Swch → Swch) : (modSw s c f).ryl = s.ryl := rfl
@[simp] theorem modSw_cchans (s : State) (c : Nat) (f : Swch → Swch) : (modSw s c f).cchans = s.cchans := rfl
@[simp] theorem modSw_cnv (s : State) (c : Nat) (f : Swch → Swch) : (modSw s c f).cnv = s.cnv := rfl
@[simp] theorem modSw_fbchs (s : State) (c : Nat) (f : Swch → Swch) : (modSw s c f).fbchs = s.fbchs := rfl
@[simp] theorem modSw_buses (s : State) (c : Nat) (f : Swch → Swch) : (modSw s c f).buses = s.buses := rfl
@[simp] theorem modSw_profiles (s : State) (c : Nat) (f : Swch → Swch) : (modSw s c f).profiles = s.profiles := rfl
@[simp] theorem modSw_gears (s : State) (c : Nat) (f : Swch → Swch) : (modSw s c f).gears = s.gears := rfl
@[simp] theorem modSw_stepIns (s : State) (c : Nat) (f : Swch → Swch) : (modSw s c f).stepIns = s.stepIns := rfl
@[simp] theorem modSw_drv (s : State) (c : Nat) (f : Swch → Swch) : (modSw s c f).drv = s.drv := rfl
@[simp] theorem modSw_problems (s : State) (c : Nat) (f : Swch → Swch) : (modSw s c f).problems = s.problems := rfl
@[simp] theorem modSw_sol (s : State) (c : Nat) (f : Swch → Swch) : (modSw s c f).sol = s.sol := rfl
@[simp] theorem modSw_pln (s : State) (c : Nat) (f : Swch → Swch) : (modSw s c f).pln = s.pln := rfl
@[simp] theorem modSw_grd (s : State) (c : Nat) (f : Swch → Swch) : (modSw s c f).grd = s.grd := rfl
@[simp] theorem modSw_host (s : State) (c : Nat) (f : Swch → Swch) : (modSw s c f).host = s.host := rfl
@[simp] theorem modSw_time (s : State) (c : Nat) (f : Swch → Swch) : (modSw s c f).time = s.time := rfl
@[simp] theorem modSw_line (s : State) (c : Nat) (f : Swch → Swch) : (modSw s c f).line = s.line := rfl
@[simp] theorem modSw_presses (s : State) (c : Nat) (f : Swch → Swch) : (modSw s c f).presses = s.presses := rfl
@[simp] theorem modSw_gsc (s : State) (c : Nat) (f : Swch → Swch) : (modSw s c f).gsc = s.gsc := rfl
@[simp] theorem modSw_flt (s : State) (c : Nat) (f : Swch → Swch) : (modSw s c f).flt = s.flt := rfl
@[simp] theorem modSw_hlt (s : State) (c : Nat) (f : Swch → Swch) : (modSw s c f).hlt = s.hlt := rfl
@[simp] theorem modSw_mbx (s : State) (c : Nat) (f : Swch → Swch) : (modSw s c f).mbx = s.mbx := rfl
@[simp] theorem modSw_mem (s : State) (c : Nat) (f : Swch → Swch) : (modSw s c f).mem = s.mem := rfl
@[simp] theorem modSw_md (s : State) (c : Nat) (f : Swch → Swch) : (modSw s c f).md = s.md := rfl
@[simp] theorem modSw_sec (s : State) (c : Nat) (f : Swch → Swch) : (modSw s c f).sec = s.sec := rfl
@[simp] theorem modSw_pins (s : State) (c : Nat) (f : Swch → Swch) : (modSw s c f).pins = s.pins := rfl
@[simp] theorem modSw_out (s : State) (c : Nat) (f : Swch → Swch) : (modSw s c f).out = s.out := rfl
@[simp] theorem modSw_care (s : State) (c : Nat) (f : Swch → Swch) : (modSw s c f).care = s.care := rfl

@[simp] theorem memWrite_pending (s : State) (a : Nat) (bs : List Byte) : (memWrite s a bs).pending = s.pending := rfl
@[simp] theorem memWrite_free (s : State) (a : Nat) (bs : List Byte) : (memWrite s a bs).free = s.free := rfl
@[simp] theorem memWrite_due (s : State) (a : Nat) (bs : List Byte) : (memWrite s a bs).due = s.due := rfl
@[simp] theorem memWrite_regs (s : State) (a : Nat) (bs : List Byte) : (memWrite s a bs).regs = s.regs := rfl
@[simp] theorem memWrite_gens (s : State) (a : Nat) (bs : List Byte) : (memWrite s a bs).gens = s.gens := rfl
@[simp] theorem memWrite_objs (s : State) (a : Nat) (bs : List Byte) : (memWrite s a bs).objs = s.objs := rfl
@[simp] theorem memWrite_frees (s : State) (a : Nat) (bs : List Byte) : (memWrite s a bs).frees = s.frees := rfl
@[simp] theorem memWrite_regions (s : State) (a : Nat) (bs : List Byte) : (memWrite s a bs).regions = s.regions := rfl
@[simp] theorem memWrite_arms (s : State) (a : Nat) (bs : List Byte) : (memWrite s a bs).arms = s.arms := rfl
@[simp] theorem memWrite_joints (s : State) (a : Nat) (bs : List Byte) : (memWrite s a bs).joints = s.joints := rfl
@[simp] theorem memWrite_srcs (s : State) (a : Nat) (bs : List Byte) : (memWrite s a bs).srcs = s.srcs := rfl
@[simp] theorem memWrite_ryl (s : State) (a : Nat) (bs : List Byte) : (memWrite s a bs).ryl = s.ryl := rfl
@[simp] theorem memWrite_cchans (s : State) (a : Nat) (bs : List Byte) : (memWrite s a bs).cchans = s.cchans := rfl
@[simp] theorem memWrite_cnv (s : State) (a : Nat) (bs : List Byte) : (memWrite s a bs).cnv = s.cnv := rfl
@[simp] theorem memWrite_fbchs (s : State) (a : Nat) (bs : List Byte) : (memWrite s a bs).fbchs = s.fbchs := rfl
@[simp] theorem memWrite_swchs (s : State) (a : Nat) (bs : List Byte) : (memWrite s a bs).swchs = s.swchs := rfl
@[simp] theorem memWrite_buses (s : State) (a : Nat) (bs : List Byte) : (memWrite s a bs).buses = s.buses := rfl
@[simp] theorem memWrite_profiles (s : State) (a : Nat) (bs : List Byte) : (memWrite s a bs).profiles = s.profiles := rfl
@[simp] theorem memWrite_gears (s : State) (a : Nat) (bs : List Byte) : (memWrite s a bs).gears = s.gears := rfl
@[simp] theorem memWrite_stepIns (s : State) (a : Nat) (bs : List Byte) : (memWrite s a bs).stepIns = s.stepIns := rfl
@[simp] theorem memWrite_drv (s : State) (a : Nat) (bs : List Byte) : (memWrite s a bs).drv = s.drv := rfl
@[simp] theorem memWrite_problems (s : State) (a : Nat) (bs : List Byte) : (memWrite s a bs).problems = s.problems := rfl
@[simp] theorem memWrite_sol (s : State) (a : Nat) (bs : List Byte) : (memWrite s a bs).sol = s.sol := rfl
@[simp] theorem memWrite_pln (s : State) (a : Nat) (bs : List Byte) : (memWrite s a bs).pln = s.pln := rfl
@[simp] theorem memWrite_grd (s : State) (a : Nat) (bs : List Byte) : (memWrite s a bs).grd = s.grd := rfl
@[simp] theorem memWrite_host (s : State) (a : Nat) (bs : List Byte) : (memWrite s a bs).host = s.host := rfl
@[simp] theorem memWrite_time (s : State) (a : Nat) (bs : List Byte) : (memWrite s a bs).time = s.time := rfl
@[simp] theorem memWrite_line (s : State) (a : Nat) (bs : List Byte) : (memWrite s a bs).line = s.line := rfl
@[simp] theorem memWrite_presses (s : State) (a : Nat) (bs : List Byte) : (memWrite s a bs).presses = s.presses := rfl
@[simp] theorem memWrite_gsc (s : State) (a : Nat) (bs : List Byte) : (memWrite s a bs).gsc = s.gsc := rfl
@[simp] theorem memWrite_flt (s : State) (a : Nat) (bs : List Byte) : (memWrite s a bs).flt = s.flt := rfl
@[simp] theorem memWrite_hlt (s : State) (a : Nat) (bs : List Byte) : (memWrite s a bs).hlt = s.hlt := rfl
@[simp] theorem memWrite_mbx (s : State) (a : Nat) (bs : List Byte) : (memWrite s a bs).mbx = s.mbx := rfl
@[simp] theorem memWrite_md (s : State) (a : Nat) (bs : List Byte) : (memWrite s a bs).md = s.md := rfl
@[simp] theorem memWrite_sec (s : State) (a : Nat) (bs : List Byte) : (memWrite s a bs).sec = s.sec := rfl
@[simp] theorem memWrite_pins (s : State) (a : Nat) (bs : List Byte) : (memWrite s a bs).pins = s.pins := rfl
@[simp] theorem memWrite_out (s : State) (a : Nat) (bs : List Byte) : (memWrite s a bs).out = s.out := rfl
@[simp] theorem memWrite_care (s : State) (a : Nat) (bs : List Byte) : (memWrite s a bs).care = s.care := rfl

end Sys2Proof.Machine
end

