-- ==== Sys2Proof/Laws/Finish.lean ====
section
/-!
SUPPORT. What a command leaves behind: which parts of the state the closing work of every command can touch, one lemma for each
function that it runs.
-/
namespace Sys2Proof.Machine

/-- The parts of the state that the closing work of a command leaves alone: the others are blanked out. -/
def rest (s : State) : State :=
  { s with regs := [], flt := {}, hlt := {}, mem := { s.mem with traces := [], queue := [] }, host := {}, gsc := {}, presses := [],
           drv := [], sol := {}, problems := [], pln := {}, ryl := [], swchs := [], regions := [], free := 0, out := {} }

theorem foldl_rest {α : Type} (g : State → α → State) (h : ∀ s x, rest (g s x) = rest s) (l : List α) (s : State) :
    rest (l.foldl g s) = rest s := by
  induction l generalizing s with
  | nil => rfl
  | cons x t ih => simp [ih, h]

theorem foldl_rest' {α : Type} (g : State → α → State) (h : ∀ s x, rest (g s x) = rest s) (l : List α) (s u : State)
    (hu : rest u = rest s) : rest (l.foldl g u) = rest s := (foldl_rest g h l u).trans hu

@[simp] theorem modPress_rest (s : State) (p : Nat) (f : Press → Press) : rest (modPress s p f) = rest s := rfl

@[simp] theorem modGsc_rest (s : State) (f : GscSt → GscSt) : rest (modGsc s f) = rest s := rfl

@[simp] theorem holdRegionNodes_rest (s : State) (r : Nat) : rest (holdRegionNodes s r) = rest s := rfl

@[simp] theorem addResets_rest (s : State) (rs : List Nat) : rest (addResets s rs) = rest s := by
  unfold addResets
  (try dsimp only)
  (repeat' split) <;> first | rfl | (simp; done) | (refine (foldl_rest _ (fun s x => ?_) _ _).trans ?_ <;> (try dsimp only) <;> (repeat' split) <;> first | rfl | (simp; done))

@[simp] theorem modSol_rest (s : State) (f : SolSt → SolSt) : rest (modSol s f) = rest s := rfl

@[simp] theorem modGang_rest (s : State) (l : Nat) (f : Gang → Gang) : rest (modGang s l f) = rest s := rfl

@[simp] theorem modSolLane_rest (s : State) (p : Nat) (f : Lane → Lane) : rest (modSolLane s p f) = rest s := rfl

@[simp] theorem modLanes_rest (s : State) (p : Nat) (f : Lane → Lane) : rest (modLanes s p f) = rest s :=
  foldl_rest _ (fun s q => modSolLane_rest s q f) _ _

@[simp] theorem laneWrite_rest (s : State) (l a : Nat) (ws : List Nat) : rest (laneWrite s l a ws) = rest s := by
  unfold laneWrite
  (try dsimp only)
  (repeat' split) <;> first | rfl | (simp; done) | (refine (foldl_rest _ (fun s x => ?_) _ _).trans ?_ <;> (try dsimp only) <;> (repeat' split) <;> first | rfl | (simp; done))

@[simp] theorem applyOps_rest (s : State) (l : Nat) : rest (applyOps s l) = rest s := by
  unfold applyOps
  (try dsimp only)
  (repeat' split) <;> first | rfl | (simp; done) | (refine (foldl_rest _ (fun s x => ?_) _ _).trans ?_ <;> (try dsimp only) <;> (repeat' split) <;> first | rfl | (simp; done))

@[simp] theorem boundRegions_rest (s : State) : rest (boundRegions s) = rest s := rfl

@[simp] theorem setRegAt_rest (s : State) (off req v : Nat) : rest (setRegAt s off req v) = rest s := rfl

@[simp] theorem setReg_rest (s : State) (off v : Nat) : rest (setReg s off v) = rest s := rfl

@[simp] theorem bump_rest (s : State) (off : Nat) : rest (bump s off) = rest s := rfl

@[simp] theorem bumpBy_rest (s : State) (off n : Nat) : rest (bumpBy s off n) = rest s := rfl

@[simp] theorem modRing_rest (s : State) (r : Nat) (f : Ring → Ring) : rest (modRing s r f) = rest s := rfl

@[simp] theorem closeAcceptance_rest (s : State) (a : Acc) : rest (closeAcceptance s a) = rest s := by
  unfold closeAcceptance
  dsimp only
  repeat' split
  all_goals rfl

@[simp] theorem putCompletion_rest (s : State) (pair : Nat) (c : Completion) : rest (putCompletion s pair c) = rest s := rfl

@[simp] theorem sendMsix_rest (s : State) (f v : Nat) : rest (sendMsix s f v) = rest s := by
  unfold sendMsix
  dsimp only
  repeat' split
  all_goals rfl

@[simp] theorem ringMessage_rest (s : State) (r : Nat) : rest (ringMessage s r) = rest s := by simp [ringMessage]

@[simp] theorem notifyRing_rest (s : State) (r : Nat) (urgent : Bool) : rest (notifyRing s r urgent) = rest s := by
  unfold notifyRing
  dsimp only
  (repeat' split) <;> first | rfl | (simp; done)

@[simp] theorem writeCompletion_rest (s : State) (a : Acc) (status handle detail flags release : Nat) :
    rest (writeCompletion s a status handle detail flags release) = rest s := by
  unfold writeCompletion
  dsimp only
  (repeat' split) <;> first | rfl | (simp; done)

@[simp] theorem complete_rest (s : State) (a : Acc) (status handle detail : Nat) :
    rest (complete s a status handle detail) = rest s := by simp [complete]

@[simp] theorem modHlt_rest (s : State) (f : HltSt → HltSt) : rest (modHlt s f) = rest s := rfl

@[simp] theorem darnQueue_rest (s : State) (c i : Nat) (failed : Bool) (acc : Option Acc) :
    rest (darnQueue s c i failed acc) = rest s := rfl

@[simp] theorem modNode_rest (s : State) (n : Nat) (f : Node → Node) : rest (modNode s n f) = rest s := rfl

@[simp] theorem putEvent_rest (s : State) (e : Nat) (er : EventRec) : rest (putEvent s e er) = rest s := rfl

@[simp] theorem deliverEvent_rest (fuel : Nat) (s : State) (e : Nat) (er : EventRec) :
    rest (deliverEvent fuel s e er) = rest s := by
  induction fuel generalizing s e er with
  | zero =>
    unfold deliverEvent
    dsimp only
    split
    · simp
    · split <;> simp
  | succ k ih =>
    unfold deliverEvent
    dsimp only
    split
    · simp
    · split
      · simp
      · exact foldl_rest' _ (fun s x => ih s x _) _ _ _ (by simp)

@[simp] theorem modProb_rest (s : State) (p : Nat) (f : Problem → Problem) : rest (modProb s p f) = rest s := rfl

@[simp] theorem deliverResult'_rest (s : State) (l : Nat) (r : KRun) (status cycles : Nat) :
    rest (deliverResult' s l r status cycles) = rest s := by simp [deliverResult']

@[simp] theorem draw_rest (s : State) : rest (draw s).2 = rest s := rfl

@[simp] theorem modFlt_rest (s : State) (f : FltSt → FltSt) : rest (modFlt s f) = rest s := rfl

@[simp] theorem traceQueue_rest (s : State) (r : TraceRec) : rest (traceQueue s r) = rest s := by
  unfold traceQueue
  dsimp only
  repeat' split
  all_goals rfl

@[simp] theorem traceSample_rest (s : State) (ch : Nat) (t : Trace) (wall flags a b : Nat) :
    rest (traceSample s ch t wall flags a b) = rest s := by
  unfold traceSample
  dsimp only
  split
  · rfl
  · split
    · exact (traceQueue_rest _ _).trans rfl
    · rfl

@[simp] theorem traceEvent_rest (s : State) (er : EventRec) : rest (traceEvent s er) = rest s := by
  unfold traceEvent
  refine foldl_rest _ (fun s e => ?_) _ _
  have h (u : State) (f : Trace → Trace) : rest (modMem u fun m => { m with traces := mmod m.traces e.1 f }) = rest u := rfl
  dsimp only
  split <;> split <;> simp [h]

@[simp] theorem routeEvent_rest (s : State) (er : EventRec) : rest (routeEvent s er) = rest s := by
  have h (l : List Nat) (x : State × Bool) : rest (l.foldl (fun (x : State × Bool) e =>
      (deliverEvent 64 x.1 e er, x.2 || decide (evHeld (ringAt x.1 e) < sizeA (ringAt x.1 e) - 1))) x).1 = rest x.1 := by
    induction l generalizing x with
    | nil => rfl
    | cons e t ih => exact (ih _).trans (deliverEvent_rest 64 x.1 e er)
  unfold routeEvent
  extract_lets region dst out
  have ho : rest out.1 = rest s := h dst (s, false)
  split
  · exact ho
  · exact (bump_rest _ _).trans ho

@[simp] theorem queueRecord_rest (s : State) (er : EventRec) : rest (queueRecord s er) = rest s := by
  unfold queueRecord
  dsimp only
  (repeat' split) <;> first | rfl | (simp; done)

@[simp] theorem writeRecord_rest (s : State) (er : EventRec) : rest (writeRecord s er) = rest s := by simp [writeRecord]

@[simp] theorem modLint_rest (s : State) (e : Nat) (f : Lint → Lint) : rest (modLint s e f) = rest s := rfl

@[simp] theorem lintReport_rest (s : State) (er : EventRec) (org : Nat) : rest (lintReport s er org) = rest s := by
  unfold lintReport
  dsimp only
  (repeat' split) <;> first | rfl | (simp; done)

@[simp] theorem report_rest (s : State) (r : Report) : rest (report s r) = rest s := by
  unfold report
  (repeat' split) <;> first | rfl | (simp; done)

@[simp] theorem raise_rest (s : State) (e : Event) (handle detail org : Nat) :
    rest (raise s e handle detail org) = rest s := by simp [raise]

@[simp] theorem deliver_rest (s : State) (i : Nat) (fires : Nat → Bool) : rest (deliver s i fires) = rest s := by
  unfold deliver
  rw [modNode_rest]
  refine foldl_rest' _ (fun s e => ?_) _ _ _ (foldl_rest _ (fun s e => by simp) _ _)
  dsimp only
  split <;> simp

theorem satShares_rest (lanes : List Nat) : ∀ (s : State) (n : Nat), rest (satShares s lanes n).2 = rest s := by
  induction lanes with
  | nil => intro s n; rfl
  | cons q t ih =>
    intro s n
    cases t with
    | nil => rfl
    | cons q' t' => exact (ih _ _).trans (draw_rest s)

theorem cyclesUsed_rest (s : State) (p : Nat) : rest (cyclesUsed s p).2 = rest s := draw_rest s

@[simp] theorem runEvents_rest (s : State) (l : Nat) (r : KRun) : rest (runEvents s l r) = rest s := by
  have shares (s : State) : rest ((satShares s (gangPhys s l) r.sats).1.foldl (fun s e =>
      (laneAndShadows s e.1).foldl (fun s q => bumpBy s (0x1B0018 + 0x400 * q) e.2) s)
      (bumpBy (satShares s (gangPhys s l) r.sats).2 0x1A001C r.sats)) = rest s := by
    refine (foldl_rest _ (fun s e => foldl_rest _ (fun s q => by simp) _ _) _ _).trans ?_
    simp [satShares_rest]
  unfold runEvents
  dsimp only
  (repeat' split) <;> simp [shares]

@[simp] theorem laneEnd_rest (s : State) (l : Nat) (r : KRun) (status used fin : Nat) :
    rest (laneEnd s l r status used fin) = rest s := by
  unfold laneEnd
  (try dsimp only)
  (repeat' split) <;> first | rfl | (simp; done) | (refine (foldl_rest _ (fun s x => ?_) _ _).trans ?_ <;> (try dsimp only) <;> (repeat' split) <;> first | rfl | (simp; done))

@[simp] theorem modWorker_rest (s : State) (w : Nat) (f : Worker → Worker) : rest (modWorker s w f) = rest s := rfl

@[simp] theorem modFlow_rest (s : State) (f : Nat) (g : Flow → Flow) : rest (modFlow s f g) = rest s := rfl

@[simp] theorem releaseWorker_rest (s : State) (i : Nat) : rest (releaseWorker s i) = rest s := by
  unfold releaseWorker
  dsimp only
  repeat' split
  all_goals rfl

@[simp] theorem endWaits_rest (s : State) (i : Nat) (ends : Wait → Option (Nat × Nat)) (step : Wait → Wait) :
    rest (endWaits s i ends step) = rest s := by
  unfold endWaits
  (try dsimp only)
  (repeat' split) <;> first | rfl | (simp; done) | (refine (foldl_rest _ (fun s x => ?_) _ _).trans ?_ <;> (try dsimp only) <;> (repeat' split) <;> first | rfl | (simp; done))

@[simp] theorem nodeFault_rest (s : State) (i cause : Nat) : rest (nodeFault s i cause) = rest s := by
  unfold nodeFault
  dsimp only
  (repeat' split) <;> first | rfl | (simp; done)

@[simp] theorem nodeDone_rest (s : State) (i : Nat) (fires : Nat → Bool) : rest (nodeDone s i fires) = rest s := by
  unfold nodeDone
  dsimp only
  (repeat' split) <;> first | rfl | (simp; done)

@[simp] theorem houseEnd_rest (s : State) (l status : Nat) : rest (houseEnd s l status) = rest s := by
  unfold houseEnd
  (repeat' split) <;> first | rfl | (simp; done)

@[simp] theorem startProblem_rest (s : State) (l p base : Nat) : rest (startProblem s l p base) = rest s := by
  unfold startProblem
  (try dsimp only)
  (repeat' split) <;> first | rfl | (simp; done) | (refine (foldl_rest _ (fun s x => ?_) _ _).trans ?_ <;> (try dsimp only) <;> (repeat' split) <;> first | rfl | (simp; done))

@[simp] theorem startNextProblem_rest (s : State) (l : Nat) : rest (startNextProblem s l) = rest s := by
  unfold startNextProblem
  dsimp only
  (repeat' split) <;> first | rfl | (simp; done)

@[simp] theorem endProblem_rest (s : State) (l : Nat) (r : KRun) (status cycles : Nat) :
    rest (endProblem s l r status cycles) = rest s := by
  unfold endProblem
  dsimp only
  (repeat' split) <;> first | rfl | (simp; done)

@[simp] theorem ledgerStore_rest (s : State) : rest (ledgerStore s) = rest s := rfl

@[simp] theorem ledgerFail_rest (s : State) : rest (ledgerFail s) = rest s := by simp [ledgerFail]

@[simp] theorem ledgerWrite_rest (s : State) : rest (ledgerWrite s) = rest s := by
  have h := draw_rest s
  unfold ledgerWrite
  dsimp only
  split <;> simp [h]

@[simp] theorem modInst_rest (s : State) (c i : Nat) (f : Inst → Inst) : rest (modInst s c i f) = rest s := rfl

@[simp] theorem setCode_rest (s : State) (c i code : Nat) : rest (setCode s c i code) = rest s := rfl

@[simp] theorem raiseLane_rest (s : State) (e : Event) (p : Nat) (b : Bool) : rest (raiseLane s e p b) = rest s := by simp [raiseLane]

@[simp] theorem modPort_rest (s : State) (p : Nat) (f : RPort → RPort) : rest (modPort s p f) = rest s := rfl

@[simp] theorem modLane_rest (s : State) (p : Nat) (b : Bool) (f : RLane → RLane) : rest (modLane s p b f) = rest s := rfl

@[simp] theorem laneRetire_rest (s : State) (p : Nat) (b : Bool) : rest (laneRetire s p b) = rest s := by simp [laneRetire]

@[simp] theorem laneReact_rest (s : State) (i : Nat) (failed : Bool) : rest (laneReact s i failed) = rest s := by
  unfold laneReact
  dsimp only
  (repeat' split) <;> first | rfl | (simp; done)

@[simp] theorem modPln_rest (s : State) (f : PlnSt → PlnSt) : rest (modPln s f) = rest s := rfl

@[simp] theorem planLaneLost_rest (s : State) (q : Nat) : rest (planLaneLost s q) = rest s := by
  unfold planLaneLost
  (repeat' split) <;> first | rfl | (simp; done)

@[simp] theorem logAdd_rest (s : State) (kind reason worn spare wear : Nat) :
    rest (logAdd s kind reason worn spare wear) = rest s := rfl

@[simp] theorem modSw_rest (s : State) (c : Nat) (f : Swch → Swch) : rest (modSw s c f) = rest s := rfl

@[simp] theorem modDrv_rest (s : State) (n : Nat) (f : DCore → DCore) : rest (modDrv s n f) = rest s := rfl

@[simp] theorem setList_rest (s : State) (l : Nat) (x : List Nat) : rest (setList s l x) = rest s := rfl

@[simp] theorem unlist_rest (s : State) (n : Nat) : rest (unlist s n) = rest s := rfl

@[simp] theorem withdraw_rest (s : State) (i : Nat) : rest (withdraw s i) = rest s := by
  unfold withdraw
  (try dsimp only)
  (repeat' split) <;> first | rfl | (simp; done) | (refine (foldl_rest _ (fun s x => ?_) _ _).trans ?_ <;> (try dsimp only) <;> (repeat' split) <;> first | rfl | (simp; done))

@[simp] theorem unitOff_rest (s : State) (c i : Nat) : rest (unitOff s c i) = rest s := by
  unfold unitOff
  dsimp only
  split
  · rfl
  · rw [modDrv_rest, modWorker_rest]
    exact foldl_rest _ (fun s k => by simp) _ _
  · rfl

@[simp] theorem retireInst_rest (s : State) (c i kind : Nat) : rest (retireInst s c i kind) = rest s := by simp [retireInst]

@[simp] theorem loseLane_rest (s : State) (q : Nat) : rest (loseLane s q) = rest s := by
  unfold loseLane
  dsimp only
  (repeat' split) <;> first | rfl | (simp; done) | (simp [cyclesUsed_rest]; done)

@[simp] theorem raiseNoSpare_rest (s : State) (e : Event) (c i : Nat) : rest (raiseNoSpare s e c i) = rest s := by
  unfold raiseNoSpare
  (try dsimp only)
  (repeat' split) <;> first | rfl | (simp; done) | (refine (foldl_rest _ (fun s x => ?_) _ _).trans ?_ <;> (try dsimp only) <;> (repeat' split) <;> first | rfl | (simp; done))

@[simp] theorem noSpareReact_rest (s : State) (c i : Nat) (failed : Bool) : rest (noSpareReact s c i failed) = rest s := by
  unfold noSpareReact
  (try dsimp only)
  (repeat' split) <;> first | rfl | (simp; done) | (refine (foldl_rest _ (fun s x => ?_) _ _).trans ?_ <;> (try dsimp only) <;> (repeat' split) <;> first | rfl | (simp; done))

@[simp] theorem wornReact_rest (s : State) (o : Nat) (failed : Bool) : rest (wornReact s o failed) = rest s := by
  unfold wornReact
  dsimp only
  (repeat' split) <;> first | rfl | (simp; done)

@[simp] theorem handleCrossed_rest (s : State) : rest (handleCrossed s) = rest s := by
  unfold handleCrossed
  (try dsimp only)
  (repeat' split) <;> first | rfl | (simp; done) | (refine (foldl_rest _ (fun s x => ?_) _ _).trans ?_ <;> (try dsimp only) <;> (repeat' split) <;> first | rfl | (simp; done))

@[simp] theorem judgeReady_rest (s : State) (i : Nat) (n : Node) : rest (judgeReady s i n) = rest s := by
  unfold judgeReady
  dsimp only
  repeat' split
  all_goals rfl

@[simp] theorem flowJoin_rest (s : State) (i : Nat) (n : Node) : rest (flowJoin s i n) = rest s := by
  unfold flowJoin
  (repeat' split) <;> first | rfl | (simp; done)

@[simp] theorem flowLeave_rest (s : State) (i : Nat) (n : Node) : rest (flowLeave s i n) = rest s := by
  unfold flowLeave
  (repeat' split) <;> first | rfl | (simp; done)

@[simp] theorem judgeNode_rest (s : State) (i : Nat) : rest (judgeNode s i) = rest s := by
  unfold judgeNode
  dsimp only
  (repeat' split) <;> first | rfl | (simp; done)

@[simp] theorem judgeNodes_rest (s : State) : rest (judgeNodes s) = rest s := by
  unfold judgeNodes
  dsimp only
  refine foldl_rest' _ (fun s i => judgeNode_rest s i) _ _ _ (foldl_rest' _ (fun s i => judgeNode_rest s i) _ _ _ ?_)
  refine foldl_rest _ (fun s i => ?_) _ _
  split <;> simp

@[simp] theorem noteStart_rest (s : State) (i : Nat) : rest (noteStart s i) = rest s := by
  unfold noteStart
  dsimp only
  split <;> rfl

@[simp] theorem startNext_rest (s : State) (w : Nat) (coreBusy : Bool) : rest (startNext s w coreBusy) = rest s := by
  unfold startNext
  dsimp only
  (repeat' split) <;> simp

@[simp] theorem graphStart_rest (s : State) (w i : Nat) : rest (graphStart s w i) = rest s := rfl

@[simp] theorem pumpWorker_rest (s : State) (w : Nat) : rest (pumpWorker s w) = rest s := by
  unfold pumpWorker
  dsimp only
  (repeat' split) <;> first | rfl | (simp; done)

@[simp] theorem houseDispatch_rest (s : State) (l : Nat) : rest (houseDispatch s l) = rest s := by
  unfold houseDispatch
  dsimp only
  (repeat' split) <;> first | rfl | (simp; done)

@[simp] theorem pumpWorkers_rest (s : State) : rest (pumpWorkers s) = rest s := by
  unfold pumpWorkers
  (try dsimp only)
  (repeat' split) <;> first | rfl | (simp; done) | (refine (foldl_rest _ (fun s x => ?_) _ _).trans ?_ <;> (try dsimp only) <;> (repeat' split) <;> first | rfl | (simp; done))

@[simp] theorem raiseIn_rest (s : State) (e : Event) (handle detail org : Nat) (scope : List Nat) :
    rest (raiseIn s e handle detail org scope) = rest s := by simp [raiseIn]

@[simp] theorem openRecovery_rest (s : State) : rest (openRecovery s) = rest s := rfl

@[simp] theorem warmJoin_rest (s : State) (w : WarmReq) : rest (warmJoin s w) = rest s := by
  unfold warmJoin
  (repeat' split) <;> first | rfl | (simp; done)

@[simp] theorem warmStart_rest (s : State) (w : WarmReq) : rest (warmStart s w) = rest s := by simp [warmStart]

@[simp] theorem warmPump_rest (s : State) : rest (warmPump s) = rest s := by
  unfold warmPump
  (try dsimp only)
  (repeat' split) <;> first | rfl | (simp; done) | (refine (foldl_rest _ (fun s x => ?_) _ _).trans ?_ <;> (try dsimp only) <;> (repeat' split) <;> first | rfl | (simp; done))

@[simp] theorem holdResets_rest (s : State) : rest (holdResets s) = rest s := by
  unfold holdResets
  dsimp only
  split <;> rfl

@[simp] theorem takeReports_rest (s : State) : rest (takeReports s) = rest s :=
  foldl_rest' (fun s (e : EventRec × Nat) => lintReport s e.1 e.2) (fun s e => lintReport_rest s e.1 e.2) _ s _ rfl

@[simp] theorem ledgerPump_rest (s : State) : rest (ledgerPump s) = rest s := by
  unfold ledgerPump
  split <;> simp

@[simp] theorem handleTake_rest (s : State) : rest (handleTake s) = rest s := by
  unfold handleTake
  (repeat' split) <;> rfl

@[simp] theorem closeReports_rest (s : State) : rest (closeReports s) = rest s := by simp [closeReports]

theorem closing_rest (s : State) : rest (closing s) = rest s := by simp [closing]

/-- The outputs and the bounds of the regions lie in what `rest` blanks out. -/
theorem shown_rest (u : State) (o : Outputs) : rest (boundRegions { u with out := o }) = rest u := rfl

@[simp] theorem finish_rest (s : State) : rest (finish s) = rest s := (shown_rest (closing s) _).trans (closing_rest s)

/-! ### The fields that the closing work leaves alone -/

theorem rest_due (s : State) : (rest s).due = s.due := rfl
theorem rest_gens (s : State) : (rest s).gens = s.gens := rfl
theorem rest_objs (s : State) : (rest s).objs = s.objs := rfl
theorem rest_frees (s : State) : (rest s).frees = s.frees := rfl
theorem rest_arms (s : State) : (rest s).arms = s.arms := rfl
theorem rest_joints (s : State) : (rest s).joints = s.joints := rfl
theorem rest_srcs (s : State) : (rest s).srcs = s.srcs := rfl
theorem rest_cchans (s : State) : (rest s).cchans = s.cchans := rfl
theorem rest_cnv (s : State) : (rest s).cnv = s.cnv := rfl
theorem rest_fbchs (s : State) : (rest s).fbchs = s.fbchs := rfl
theorem rest_buses (s : State) : (rest s).buses = s.buses := rfl
theorem rest_profiles (s : State) : (rest s).profiles = s.profiles := rfl
theorem rest_gears (s : State) : (rest s).gears = s.gears := rfl
theorem rest_stepIns (s : State) : (rest s).stepIns = s.stepIns := rfl
theorem rest_grd (s : State) : (rest s).grd = s.grd := rfl
theorem rest_time (s : State) : (rest s).time = s.time := rfl
theorem rest_line (s : State) : (rest s).line = s.line := rfl
theorem rest_mbx (s : State) : (rest s).mbx = s.mbx := rfl
theorem rest_md (s : State) : (rest s).md = s.md := rfl
theorem rest_sec (s : State) : (rest s).sec = s.sec := rfl
theorem rest_pins (s : State) : (rest s).pins = s.pins := rfl
theorem rest_care (s : State) : (rest s).care = s.care := rfl
theorem rest_dram (s : State) : (rest s).mem.dram = s.mem.dram := rfl

@[simp] theorem finish_due (s : State) : (finish s).due = s.due := by
  have h := congrArg State.due (finish_rest s)
  exact (rest_due _).symm.trans (h.trans (rest_due s))
@[simp] theorem finish_gens (s : State) : (finish s).gens = s.gens := by
  have h := congrArg State.gens (finish_rest s)
  exact (rest_gens _).symm.trans (h.trans (rest_gens s))
@[simp] theorem finish_objs (s : State) : (finish s).objs = s.objs := by
  have h := congrArg State.objs (finish_rest s)
  exact (rest_objs _).symm.trans (h.trans (rest_objs s))
@[simp] theorem finish_frees (s : State) : (finish s).frees = s.frees := by
  have h := congrArg State.frees (finish_rest s)
  exact (rest_frees _).symm.trans (h.trans (rest_frees s))
@[simp] theorem finish_arms (s : State) : (finish s).arms = s.arms := by
  have h := congrArg State.arms (finish_rest s)
  exact (rest_arms _).symm.trans (h.trans (rest_arms s))
@[simp] theorem finish_joints (s : State) : (finish s).joints = s.joints := by
  have h := congrArg State.joints (finish_rest s)
  exact (rest_joints _).symm.trans (h.trans (rest_joints s))
@[simp] theorem finish_srcs (s : State) : (finish s).srcs = s.srcs := by
  have h := congrArg State.srcs (finish_rest s)
  exact (rest_srcs _).symm.trans (h.trans (rest_srcs s))
@[simp] theorem finish_cchans (s : State) : (finish s).cchans = s.cchans := by
  have h := congrArg State.cchans (finish_rest s)
  exact (rest_cchans _).symm.trans (h.trans (rest_cchans s))
@[simp] theorem finish_cnv (s : State) : (finish s).cnv = s.cnv := by
  have h := congrArg State.cnv (finish_rest s)
  exact (rest_cnv _).symm.trans (h.trans (rest_cnv s))
@[simp] theorem finish_fbchs (s : State) : (finish s).fbchs = s.fbchs := by
  have h := congrArg State.fbchs (finish_rest s)
  exact (rest_fbchs _).symm.trans (h.trans (rest_fbchs s))
@[simp] theorem finish_buses (s : State) : (finish s).buses = s.buses := by
  have h := congrArg State.buses (finish_rest s)
  exact (rest_buses _).symm.trans (h.trans (rest_buses s))
@[simp] theorem finish_profiles (s : State) : (finish s).profiles = s.profiles := by
  have h := congrArg State.profiles (finish_rest s)
  exact (rest_profiles _).symm.trans (h.trans (rest_profiles s))
@[simp] theorem finish_gears (s : State) : (finish s).gears = s.gears := by
  have h := congrArg State.gears (finish_rest s)
  exact (rest_gears _).symm.trans (h.trans (rest_gears s))
@[simp] theorem finish_stepIns (s : State) : (finish s).stepIns = s.stepIns := by
  have h := congrArg State.stepIns (finish_rest s)
  exact (rest_stepIns _).symm.trans (h.trans (rest_stepIns s))
@[simp] theorem finish_grd (s : State) : (finish s).grd = s.grd := by
  have h := congrArg State.grd (finish_rest s)
  exact (rest_grd _).symm.trans (h.trans (rest_grd s))
@[simp] theorem finish_time (s : State) : (finish s).time = s.time := by
  have h := congrArg State.time (finish_rest s)
  exact (rest_time _).symm.trans (h.trans (rest_time s))
@[simp] theorem finish_line (s : State) : (finish s).line = s.line := by
  have h := congrArg State.line (finish_rest s)
  exact (rest_line _).symm.trans (h.trans (rest_line s))
@[simp] theorem finish_mbx (s : State) : (finish s).mbx = s.mbx := by
  have h := congrArg State.mbx (finish_rest s)
  exact (rest_mbx _).symm.trans (h.trans (rest_mbx s))
@[simp] theorem finish_md (s : State) : (finish s).md = s.md := by
  have h := congrArg State.md (finish_rest s)
  exact (rest_md _).symm.trans (h.trans (rest_md s))
@[simp] theorem finish_sec (s : State) : (finish s).sec = s.sec := by
  have h := congrArg State.sec (finish_rest s)
  exact (rest_sec _).symm.trans (h.trans (rest_sec s))
@[simp] theorem finish_pins (s : State) : (finish s).pins = s.pins := by
  have h := congrArg State.pins (finish_rest s)
  exact (rest_pins _).symm.trans (h.trans (rest_pins s))
@[simp] theorem finish_care (s : State) : (finish s).care = s.care := by
  have h := congrArg State.care (finish_rest s)
  exact (rest_care _).symm.trans (h.trans (rest_care s))
@[simp] theorem finish_dram (s : State) : (finish s).mem.dram = s.mem.dram := by
  have h := congrArg (fun x : State => x.mem.dram) (finish_rest s)
  exact (rest_dram _).symm.trans (h.trans (rest_dram s))

/-- The outputs depend on the mode and the pins alone. -/
theorem outputsOf_of (u v : State) (hm : u.md = v.md) (hp : u.pins = v.pins) : outputsOf u = outputsOf v := by
  unfold outputsOf pinAccepted bankOn; rw [hm, hp]

theorem shown_out (u : State) (o : Outputs) : (boundRegions { u with out := o }).out = o := rfl

/-- The outputs that a command leaves are those of the state's phase. -/
theorem finish_out (s : State) : (finish s).out = outputsOf s := by
  have hm := (rest_md _).symm.trans ((congrArg State.md (closing_rest s)).trans (rest_md s))
  have hp := (rest_pins _).symm.trans ((congrArg State.pins (closing_rest s)).trans (rest_pins s))
  exact (shown_out (closing s) _).trans (outputsOf_of _ _ hm hp)

/-! ### What a command leaves -/

theorem left_due (u : State) (p : List Instr) : ({ u with pending := p } : State).due = u.due := rfl
theorem left_gens (u : State) (p : List Instr) : ({ u with pending := p } : State).gens = u.gens := rfl
theorem left_objs (u : State) (p : List Instr) : ({ u with pending := p } : State).objs = u.objs := rfl
theorem left_frees (u : State) (p : List Instr) : ({ u with pending := p } : State).frees = u.frees := rfl
theorem left_arms (u : State) (p : List Instr) : ({ u with pending := p } : State).arms = u.arms := rfl
theorem left_joints (u : State) (p : List Instr) : ({ u with pending := p } : State).joints = u.joints := rfl
theorem left_srcs (u : State) (p : List Instr) : ({ u with pending := p } : State).srcs = u.srcs := rfl
theorem left_cchans (u : State) (p : List Instr) : ({ u with pending := p } : State).cchans = u.cchans := rfl
theorem left_cnv (u : State) (p : List Instr) : ({ u with pending := p } : State).cnv = u.cnv := rfl
theorem left_fbchs (u : State) (p : List Instr) : ({ u with pending := p } : State).fbchs = u.fbchs := rfl
theorem left_buses (u : State) (p : List Instr) : ({ u with pending := p } : State).buses = u.buses := rfl
theorem left_profiles (u : State) (p : List Instr) : ({ u with pending := p } : State).profiles = u.profiles := rfl
theorem left_gears (u : State) (p : List Instr) : ({ u with pending := p } : State).gears = u.gears := rfl
theorem left_stepIns (u : State) (p : List Instr) : ({ u with pending := p } : State).stepIns = u.stepIns := rfl
theorem left_grd (u : State) (p : List Instr) : ({ u with pending := p } : State).grd = u.grd := rfl
theorem left_time (u : State) (p : List Instr) : ({ u with pending := p } : State).time = u.time := rfl
theorem left_line (u : State) (p : List Instr) : ({ u with pending := p } : State).line = u.line := rfl
theorem left_mbx (u : State) (p : List Instr) : ({ u with pending := p } : State).mbx = u.mbx := rfl
theorem left_md (u : State) (p : List Instr) : ({ u with pending := p } : State).md = u.md := rfl
theorem left_sec (u : State) (p : List Instr) : ({ u with pending := p } : State).sec = u.sec := rfl
theorem left_pins (u : State) (p : List Instr) : ({ u with pending := p } : State).pins = u.pins := rfl
theorem left_care (u : State) (p : List Instr) : ({ u with pending := p } : State).care = u.care := rfl
theorem left_dram (u : State) (p : List Instr) : ({ u with pending := p } : State).mem.dram = u.mem.dram := rfl

theorem left_self (u : State) (p : List Instr) : ({ u with pending := p } : State).pending = p := rfl

@[simp] theorem leave_pending (s t : State) : (leave s t).pending = s.pending := left_self (finish t) s.pending
@[simp] theorem leave_due (s t : State) : (leave s t).due = t.due := (left_due (finish t) s.pending).trans (finish_due t)
@[simp] theorem leave_gens (s t : State) : (leave s t).gens = t.gens := (left_gens (finish t) s.pending).trans (finish_gens t)
@[simp] theorem leave_objs (s t : State) : (leave s t).objs = t.objs := (left_objs (finish t) s.pending).trans (finish_objs t)
@[simp] theorem leave_frees (s t : State) : (leave s t).frees = t.frees := (left_frees (finish t) s.pending).trans (finish_frees t)
@[simp] theorem leave_arms (s t : State) : (leave s t).arms = t.arms := (left_arms (finish t) s.pending).trans (finish_arms t)
@[simp] theorem leave_joints (s t : State) : (leave s t).joints = t.joints := (left_joints (finish t) s.pending).trans (finish_joints t)
@[simp] theorem leave_srcs (s t : State) : (leave s t).srcs = t.srcs := (left_srcs (finish t) s.pending).trans (finish_srcs t)
@[simp] theorem leave_cchans (s t : State) : (leave s t).cchans = t.cchans := (left_cchans (finish t) s.pending).trans (finish_cchans t)
@[simp] theorem leave_cnv (s t : State) : (leave s t).cnv = t.cnv := (left_cnv (finish t) s.pending).trans (finish_cnv t)
@[simp] theorem leave_fbchs (s t : State) : (leave s t).fbchs = t.fbchs := (left_fbchs (finish t) s.pending).trans (finish_fbchs t)
@[simp] theorem leave_buses (s t : State) : (leave s t).buses = t.buses := (left_buses (finish t) s.pending).trans (finish_buses t)
@[simp] theorem leave_profiles (s t : State) : (leave s t).profiles = t.profiles := (left_profiles (finish t) s.pending).trans (finish_profiles t)
@[simp] theorem leave_gears (s t : State) : (leave s t).gears = t.gears := (left_gears (finish t) s.pending).trans (finish_gears t)
@[simp] theorem leave_stepIns (s t : State) : (leave s t).stepIns = t.stepIns := (left_stepIns (finish t) s.pending).trans (finish_stepIns t)
@[simp] theorem leave_grd (s t : State) : (leave s t).grd = t.grd := (left_grd (finish t) s.pending).trans (finish_grd t)
@[simp] theorem leave_time (s t : State) : (leave s t).time = t.time := (left_time (finish t) s.pending).trans (finish_time t)
@[simp] theorem leave_line (s t : State) : (leave s t).line = t.line := (left_line (finish t) s.pending).trans (finish_line t)
@[simp] theorem leave_mbx (s t : State) : (leave s t).mbx = t.mbx := (left_mbx (finish t) s.pending).trans (finish_mbx t)
@[simp] theorem leave_md (s t : State) : (leave s t).md = t.md := (left_md (finish t) s.pending).trans (finish_md t)
@[simp] theorem leave_sec (s t : State) : (leave s t).sec = t.sec := (left_sec (finish t) s.pending).trans (finish_sec t)
@[simp] theorem leave_pins (s t : State) : (leave s t).pins = t.pins := (left_pins (finish t) s.pending).trans (finish_pins t)
@[simp] theorem leave_care (s t : State) : (leave s t).care = t.care := (left_care (finish t) s.pending).trans (finish_care t)
@[simp] theorem leave_dram (s t : State) : (leave s t).mem.dram = t.mem.dram := (left_dram (finish t) s.pending).trans (finish_dram t)

/-- A region that the closing work has bounded is in a state that the mode admits. -/
theorem boundRegions_admitted (s : State) : regionsAdmitted (boundRegions s) = true := by
  unfold regionsAdmitted boundRegions
  simp only [List.all_map, List.all_eq_true, Function.comp]
  intro e _
  split
  · assumption
  · cases s.md.mode <;> rfl

theorem left_admitted (u : State) (p : List Instr) : regionsAdmitted { u with pending := p } = regionsAdmitted u := rfl

theorem leave_admitted (s t : State) : regionsAdmitted (leave s t) = true :=
  (left_admitted (finish t) s.pending).trans (boundRegions_admitted { closing t with out := outputsOf (closing t) })

/-- Every command either is refused or leaves a state through its closing work. -/
theorem exec_leaves (c : Instr) (s t : State) (h : exec c s = .next t) : ∃ u, t = leave s u := by
  cases c <;> first
    | exact ⟨_, (Host.Outcome.next.inj h).symm⟩
    | (simp only [exec, execRylUplinkFrame, execSqFetchDone, execRepeatRecs] at h
       split at h
       · exact ⟨_, (Host.Outcome.next.inj h).symm⟩
       · cases h)

end Sys2Proof.Machine
end

