-- ==== Sys2Proof/Laws/Rows.lean ====
section
/-!
SUPPORT. The forms of the meanings: which rows are events, which are steps of a unit's own, which are work that is due, and which
instructions a core issues.
-/
namespace Sys2Proof.Machine

/-- With no report waiting the Lint Trap takes nothing. -/
theorem takeReports_none {s : State} (h : s.flt.arrived = []) : takeReports s = s := by
  have e : ({ s.flt with arrived := [] } : FltSt) = s.flt := by rw [← h]
  unfold takeReports
  rw [h]
  show { s with flt := { s.flt with arrived := [] } } = s
  rw [e]

/-- With no work of the boundary outstanding there is nothing to complete. -/
theorem settle_nothing {s : State} (h : NothingDue s) : settle s = s := by
  obtain ⟨h1, h2, h3, h4, h5, h6, _⟩ := h
  have d : duesPlan s = s := by simp [duesPlan, duesServo, pressesUpTo, duesBody, h1, h2, h3, h4]
  unfold settle
  rw [d]
  show takeReports (if s.due.plan = true then planWork s else s) = s
  rw [if_neg (by simp [h5])]
  exact takeReports_none h6

/-- Every command whose operands the hardware can be sent is of one of five forms. -/
theorem exec_form (c : Instr) (s : State) (h : wellFormed c = true) :
    (actsWhileHeld c = true ∧ ∃ f, exec c s = event f s) ∨ (∃ f, exec c s = event (unlessHeld f) s) ∨ (∃ f, exec c s = unitStep (unlessHeld f) s) ∨
      (∃ f, exec c s = dueStep (unlessHeld f) s) ∨ (∃ n f, exec c s = dueStep (onCore n f) s) := by
  cases c with
  | frameBoundary _ => exact .inr (.inr (.inr (.inl ⟨_, rfl⟩)))
  | servoTickBoundary => exact .inr (.inr (.inr (.inl ⟨_, rfl⟩)))
  | planTickBoundary => exact .inr (.inr (.inr (.inl ⟨_, rfl⟩)))
  | guardJudgingStart => exact .inr (.inr (.inr (.inl ⟨_, rfl⟩)))
  | planPressOpen => exact .inr (.inr (.inl ⟨_, rfl⟩))
  | guardFinalVerdict => exact .inr (.inr (.inl ⟨_, rfl⟩))
  | solverStart => exact .inr (.inr (.inl ⟨_, rfl⟩))
  | solverProblemEnd _ _ _ _ => exact .inr (.inl ⟨_, rfl⟩)
  | solverDeadline => exact .inr (.inr (.inl ⟨_, rfl⟩))
  | derateApply => exact .inr (.inr (.inr (.inl ⟨_, rfl⟩)))
  | rylUplinkFrame _ _ _ _ => exact .inr (.inl ⟨_, if_pos h⟩)
  | rylDetectTimeout _ => exact .inr (.inl ⟨_, rfl⟩)
  | rylHeadLost _ _ => exact .inr (.inr (.inl ⟨_, rfl⟩))
  | rylLaneDown _ _ => exact .inr (.inr (.inl ⟨_, rfl⟩))
  | rylSvcTimeout _ _ => exact .inr (.inr (.inl ⟨_, rfl⟩))
  | rylHeadCyclicDone _ _ => exact .inr (.inr (.inl ⟨_, rfl⟩))
  | safeOffPinAccept pin => exact .inl ⟨rfl, unlessOff fun s => pinAccept s pin, rfl⟩
  | safeOffPinRelease pin => exact .inl ⟨rfl, unlessOff fun s => pinRelease s pin, rfl⟩
  | killDiscrepancy => exact .inr (.inl ⟨_, rfl⟩)
  | powerOn banks pins => exact .inl ⟨rfl, fun s => powerOn s banks.toNat pins.toNat, rfl⟩
  | resetNAccept => exact .inl ⟨rfl, fun s => resetAccept s, rfl⟩
  | brownOut => exact .inl ⟨rfl, fun s => brownOut s, rfl⟩
  | perstNAssert => exact .inl ⟨rfl, fun s => perstAssert s, rfl⟩
  | flr _ => exact .inr (.inl ⟨_, rfl⟩)
  | busMasterClear _ => exact .inr (.inl ⟨_, rfl⟩)
  | busMasterSet _ => exact .inr (.inl ⟨_, rfl⟩)
  | vfEnableClear => exact .inr (.inl ⟨_, rfl⟩)
  | bootStageDone _ _ _ _ => exact .inr (.inl ⟨_, rfl⟩)
  | recoveryImageDone _ => exact .inr (.inl ⟨_, rfl⟩)
  | p0Restored => exact .inr (.inl ⟨_, rfl⟩)
  | partWake => exact .inr (.inl ⟨_, rfl⟩)
  | sysrefLoss => exact .inr (.inl ⟨_, rfl⟩)
  | temperatureReading _ => exact .inr (.inl ⟨_, rfl⟩)
  | supplyReading _ _ _ => exact .inr (.inl ⟨_, rfl⟩)
  | bankPowerChange bank on pins => exact .inl ⟨rfl, fun s => bankChange s bank on pins.toNat, rfl⟩
  | trgEdge _ _ => exact .inr (.inl ⟨_, rfl⟩)
  | stepEdge _ _ => exact .inr (.inl ⟨_, rfl⟩)
  | dinChange pin level => exact .inl ⟨rfl, unlessOff fun s => dinChange s pin level, rfl⟩
  | dinDebounceExpiry _ => exact .inr (.inl ⟨_, rfl⟩)
  | ptpMessageRx _ _ => exact .inr (.inl ⟨_, rfl⟩)
  | ptpSyncOffset _ _ _ _ => exact .inr (.inl ⟨_, rfl⟩)
  | ptpMasterLost => exact .inr (.inl ⟨_, rfl⟩)
  | ethGclSwitch _ => exact .inr (.inl ⟨_, rfl⟩)
  | linePubRx _ _ _ _ => exact .inr (.inl ⟨_, rfl⟩)
  | lineSourceStale _ => exact .inr (.inr (.inl ⟨_, rfl⟩))
  | trackFrameRx _ _ _ => exact .inr (.inl ⟨_, rfl⟩)
  | trackStreamLost _ => exact .inr (.inl ⟨_, rfl⟩)
  | fbkStandstill _ => exact .inr (.inr (.inl ⟨_, rfl⟩))
  | stepperReduceStart _ => exact .inr (.inr (.inl ⟨_, rfl⟩))
  | homeDebounceExpiry _ => exact .inr (.inl ⟨_, rfl⟩)
  | cnvResult _ _ _ => exact .inr (.inl ⟨_, rfl⟩)
  | cnvCalDone _ _ => exact .inr (.inl ⟨_, rfl⟩)
  | cnvRefReady => exact .inr (.inl ⟨_, rfl⟩)
  | cnvPlausCheck _ _ => exact .inr (.inl ⟨_, rfl⟩)
  | drvLoopsStart _ _ => exact .inr (.inr (.inl ⟨_, rfl⟩))
  | drvLoopPublish _ _ => exact .inr (.inr (.inl ⟨_, rfl⟩))
  | pressValidationDone _ => exact .inr (.inl ⟨_, rfl⟩)
  | pressMemberReady _ => exact .inr (.inl ⟨_, rfl⟩)
  | pressCommit _ => exact .inr (.inr (.inr (.inl ⟨_, rfl⟩)))
  | pressWaitExpiry _ => exact .inr (.inl ⟨_, rfl⟩)
  | nodePlacement => exact .inr (.inl ⟨_, rfl⟩)
  | nodeCompletion _ _ => exact .inr (.inl ⟨_, rfl⟩)
  | submitTemplate _ _ => exact .inr (.inl ⟨_, rfl⟩)
  | gscWaitTimeout _ => exact .inr (.inl ⟨_, rfl⟩)
  | fltRecordHandling => exact .inr (.inl ⟨_, rfl⟩)
  | lintWindowEnd _ => exact .inr (.inl ⟨_, rfl⟩)
  | supervisorWatchdogExpiry _ => exact .inr (.inl ⟨_, rfl⟩)
  | supervisorSelftestDone _ _ => exact .inr (.inl ⟨_, rfl⟩)
  | hostWatchdogExpiry => exact .inr (.inl ⟨_, rfl⟩)
  | wearDecay => exact .inr (.inl ⟨_, rfl⟩)
  | backgroundTestStart => exact .inr (.inl ⟨_, rfl⟩)
  | selfTestDone _ _ _ => exact .inr (.inl ⟨_, rfl⟩)
  | shadowTestDone _ _ => exact .inr (.inl ⟨_, rfl⟩)
  | darnStart => exact .inr (.inl ⟨_, rfl⟩)
  | noSpareRetire _ _ => exact .inr (.inl ⟨_, rfl⟩)
  | ledgerStateWrite _ => exact .inr (.inl ⟨_, rfl⟩)
  | patrolScrubRead _ => exact .inr (.inl ⟨_, rfl⟩)
  | pageRetireDone _ => exact .inr (.inl ⟨_, rfl⟩)
  | msixCoalTimer _ => exact .inr (.inl ⟨_, rfl⟩)
  | mbxCrossExpiry _ _ => exact .inr (.inl ⟨_, rfl⟩)
  | mbxWaitingDelivery _ => exact .inr (.inr (.inl ⟨_, rfl⟩))
  | ringDrainDone _ => exact .inr (.inl ⟨_, rfl⟩)
  | fenceRelease _ => exact .inr (.inl ⟨_, rfl⟩)
  | drvLoadDone _ _ => exact .inr (.inl ⟨_, rfl⟩)
  | problemCreateDone _ => exact .inr (.inl ⟨_, rfl⟩)
  | dbgSessionExpiry _ => exact .inr (.inl ⟨_, rfl⟩)
  | jtagDbgaccToken _ _ _ => exact .inr (.inl ⟨_, rfl⟩)
  | tapReset => exact .inl ⟨rfl, unlessOff fun s => tapReset s, rfl⟩
  | jtagInstruction ins => exact .inl ⟨rfl, unlessOff fun s => tapLoad s ins, rfl⟩
  | sqTailDoorbell _ _ _ => exact .inr (.inl ⟨_, rfl⟩)
  | cqHeadDoorbell _ _ _ => exact .inr (.inl ⟨_, rfl⟩)
  | eventHeadDoorbell _ _ _ => exact .inr (.inl ⟨_, rfl⟩)
  | sqFetchDone _ _ => exact .inr (.inl ⟨_, if_pos h⟩)
  | registerWrite _ _ _ _ _ => exact .inr (.inl ⟨_, rfl⟩)
  | registerLoRead _ _ => exact .inr (.inl ⟨_, rfl⟩)
  | adminPairEnable _ => exact .inr (.inl ⟨_, rfl⟩)
  | adminPairDisable _ => exact .inr (.inl ⟨_, rfl⟩)
  | timSnapTake _ => exact .inr (.inl ⟨_, rfl⟩)
  | timServoEnWrite _ _ => exact .inr (.inl ⟨_, rfl⟩)
  | timHoldoverForceWrite _ _ => exact .inr (.inl ⟨_, rfl⟩)
  | ethGclApply _ _ => exact .inr (.inl ⟨_, rfl⟩)
  | rylTrain _ _ => exact .inr (.inl ⟨_, rfl⟩)
  | rylEnWrite _ _ _ => exact .inr (.inl ⟨_, rfl⟩)
  | cnvRefOnWrite _ _ => exact .inr (.inl ⟨_, rfl⟩)
  | cnvCal _ _ => exact .inr (.inl ⟨_, rfl⟩)
  | cnvCfgWrite _ _ _ => exact .inr (.inl ⟨_, rfl⟩)
  | cnvSwtrigRegular _ _ => exact .inr (.inl ⟨_, rfl⟩)
  | cnvSwtrigInjected _ _ _ => exact .inr (.inl ⟨_, rfl⟩)
  | cnvTqPop _ => exact .inr (.inl ⟨_, rfl⟩)
  | grdEnWrite _ _ => exact .inr (.inl ⟨_, rfl⟩)
  | mbxSend _ _ _ => exact .inr (.inl ⟨_, rfl⟩)
  | mbxTxcancel _ => exact .inr (.inl ⟨_, rfl⟩)
  | mbxRx7Take _ _ => exact .inr (.inl ⟨_, rfl⟩)
  | lckRead _ _ _ => exact .inr (.inl ⟨_, rfl⟩)
  | lckWrite _ _ _ => exact .inr (.inl ⟨_, rfl⟩)
  | lckBreak _ _ => exact .inr (.inl ⟨_, rfl⟩)
  | modResetWrite _ _ => exact .inr (.inl ⟨_, rfl⟩)
  | modHostwdWrite _ _ => exact .inr (.inl ⟨_, rfl⟩)
  | modHostwdKick _ => exact .inr (.inl ⟨_, rfl⟩)
  | modRcvGo _ => exact .inr (.inl ⟨_, rfl⟩)
  | pwrOff _ => exact .inr (.inl ⟨_, rfl⟩)
  | memRetirePage _ _ => exact .inr (.inl ⟨_, rfl⟩)
  | dinCfgWrite _ _ _ => exact .inr (.inl ⟨_, rfl⟩)
  | dbgMdataAccess _ _ => exact .inr (.inl ⟨_, rfl⟩)
  | dbgHaltCore _ _ => exact .inr (.inl ⟨_, rfl⟩)
  | dbgResumeCore _ _ => exact .inr (.inl ⟨_, rfl⟩)
  | dbgStepCore _ _ => exact .inr (.inl ⟨_, rfl⟩)
  | dbgHaltLane _ _ => exact .inr (.inl ⟨_, rfl⟩)
  | dbgResumeLane _ _ => exact .inr (.inl ⟨_, rfl⟩)
  | dbgSetBreakpoint _ _ => exact .inr (.inl ⟨_, rfl⟩)
  | dbgClearBreakpoints _ _ => exact .inr (.inl ⟨_, rfl⟩)
  | nop _ => exact .inr (.inl ⟨_, rfl⟩)
  | destroy _ => exact .inr (.inl ⟨_, rfl⟩)
  | armCreate _ => exact .inr (.inl ⟨_, rfl⟩)
  | jointCreate _ => exact .inr (.inl ⟨_, rfl⟩)
  | jointScaleSet _ => exact .inr (.inl ⟨_, rfl⟩)
  | regionRelease _ => exact .inr (.inl ⟨_, rfl⟩)
  | regionResume _ => exact .inr (.inl ⟨_, rfl⟩)
  | regionHold _ => exact .inr (.inl ⟨_, rfl⟩)
  | regionService _ => exact .inr (.inl ⟨_, rfl⟩)
  | regionLeaveService _ => exact .inr (.inl ⟨_, rfl⟩)
  | modeSet _ => exact .inr (.inl ⟨_, rfl⟩)
  | linesrcCreate _ => exact .inr (.inl ⟨_, rfl⟩)
  | lineDesignate _ => exact .inr (.inl ⟨_, rfl⟩)
  | timeStepAuth _ => exact .inr (.inl ⟨_, rfl⟩)
  | rylHeadCyclic _ => exact .inr (.inl ⟨_, rfl⟩)
  | rylHeadAccess _ => exact .inr (.inl ⟨_, rfl⟩)
  | cchanCreate _ => exact .inr (.inl ⟨_, rfl⟩)
  | cchanSet _ => exact .inr (.inl ⟨_, rfl⟩)
  | cnvCalibrate _ => exact .inr (.inl ⟨_, rfl⟩)
  | fbchCreate _ => exact .inr (.inl ⟨_, rfl⟩)
  | fbchSet _ => exact .inr (.inl ⟨_, rfl⟩)
  | fbchSetPos _ => exact .inr (.inl ⟨_, rfl⟩)
  | sweSet _ => exact .inr (.inl ⟨_, rfl⟩)
  | sweHeadCal _ => exact .inr (.inl ⟨_, rfl⟩)
  | drvLoad _ => exact .inr (.inl ⟨_, rfl⟩)
  | drvSwap _ => exact .inr (.inl ⟨_, rfl⟩)
  | drvBind _ => exact .inr (.inl ⟨_, rfl⟩)
  | drvParam _ => exact .inr (.inl ⟨_, rfl⟩)
  | prfCreate _ => exact .inr (.inl ⟨_, rfl⟩)
  | prfSet _ => exact .inr (.inl ⟨_, rfl⟩)
  | prfQueue _ => exact .inr (.inl ⟨_, rfl⟩)
  | prfStop _ => exact .inr (.inl ⟨_, rfl⟩)
  | prfHome _ => exact .inr (.inl ⟨_, rfl⟩)
  | gearCreate _ => exact .inr (.inl ⟨_, rfl⟩)
  | gearSet _ => exact .inr (.inl ⟨_, rfl⟩)
  | solGang _ => exact .inr (.inl ⟨_, rfl⟩)
  | problemCreate _ => exact .inr (.inl ⟨_, rfl⟩)
  | problemBind _ => exact .inr (.inl ⟨_, rfl⟩)
  | problemWrite _ => exact .inr (.inl ⟨_, rfl⟩)
  | plnBranchSet _ => exact .inr (.inl ⟨_, rfl⟩)
  | plnReplan _ => exact .inr (.inl ⟨_, rfl⟩)
  | grdKinSet _ => exact .inr (.inl ⟨_, rfl⟩)
  | grdCapsuleSet _ => exact .inr (.inl ⟨_, rfl⟩)
  | grdStopSet _ => exact .inr (.inl ⟨_, rfl⟩)
  | trackCreate _ => exact .inr (.inl ⟨_, rfl⟩)
  | zoneCreate _ => exact .inr (.inl ⟨_, rfl⟩)
  | grdZoneSet _ => exact .inr (.inl ⟨_, rfl⟩)
  | pressOpen _ => exact .inr (.inl ⟨_, rfl⟩)
  | pressArm _ => exact .inr (.inl ⟨_, rfl⟩)
  | pressAbort _ => exact .inr (.inl ⟨_, rfl⟩)
  | nodeCreate _ => exact .inr (.inl ⟨_, rfl⟩)
  | nodeSet _ => exact .inr (.inl ⟨_, rfl⟩)
  | edgeSet _ => exact .inr (.inl ⟨_, rfl⟩)
  | flowCreate _ => exact .inr (.inl ⟨_, rfl⟩)
  | delayCreate _ => exact .inr (.inl ⟨_, rfl⟩)
  | delayArm _ => exact .inr (.inl ⟨_, rfl⟩)
  | gscToken _ => exact .inr (.inl ⟨_, rfl⟩)
  | gscWait _ => exact .inr (.inl ⟨_, rfl⟩)
  | ringCreate _ => exact .inr (.inl ⟨_, rfl⟩)
  | eventRoute _ => exact .inr (.inl ⟨_, rfl⟩)
  | traceCreate _ => exact .inr (.inl ⟨_, rfl⟩)
  | traceSet _ => exact .inr (.inl ⟨_, rfl⟩)
  | traceTrigger _ => exact .inr (.inl ⟨_, rfl⟩)
  | traceRearm _ => exact .inr (.inl ⟨_, rfl⟩)
  | mboxCreate _ => exact .inr (.inl ⟨_, rfl⟩)
  | hltDarn _ => exact .inr (.inl ⟨_, rfl⟩)
  | hltTest _ => exact .inr (.inl ⟨_, rfl⟩)
  | fltAck _ => exact .inr (.inl ⟨_, rfl⟩)
  | fltClearFaults _ => exact .inr (.inl ⟨_, rfl⟩)
  | fltClearQuarantine _ => exact .inr (.inl ⟨_, rfl⟩)
  | fltClearWarmStart _ => exact .inr (.inl ⟨_, rfl⟩)
  | secImageStageFw _ => exact .inr (.inl ⟨_, rfl⟩)
  | secImageRaiseFloor _ => exact .inr (.inl ⟨_, rfl⟩)
  | secImageProvision _ => exact .inr (.inl ⟨_, rfl⟩)
  | secImageField _ => exact .inr (.inl ⟨_, rfl⟩)
  | secImageReturn _ => exact .inr (.inl ⟨_, rfl⟩)
  | secImageReadCert _ => exact .inr (.inl ⟨_, rfl⟩)
  | secImageOwnerKey _ => exact .inr (.inl ⟨_, rfl⟩)
  | dbgOpen _ => exact .inr (.inl ⟨_, rfl⟩)
  | dbgClose _ => exact .inr (.inl ⟨_, rfl⟩)
  | draverNop _ _ => exact .inr (.inr (.inr (.inr ⟨_, _, rfl⟩)))
  | add _ _ _ _ _ => exact .inr (.inr (.inr (.inr ⟨_, _, rfl⟩)))
  | sub _ _ _ _ _ => exact .inr (.inr (.inr (.inr ⟨_, _, rfl⟩)))
  | addc _ _ _ _ _ => exact .inr (.inr (.inr (.inr ⟨_, _, rfl⟩)))
  | subc _ _ _ _ _ => exact .inr (.inr (.inr (.inr ⟨_, _, rfl⟩)))
  | adds _ _ _ _ _ => exact .inr (.inr (.inr (.inr ⟨_, _, rfl⟩)))
  | subs _ _ _ _ _ => exact .inr (.inr (.inr (.inr ⟨_, _, rfl⟩)))
  | and _ _ _ _ _ => exact .inr (.inr (.inr (.inr ⟨_, _, rfl⟩)))
  | or _ _ _ _ _ => exact .inr (.inr (.inr (.inr ⟨_, _, rfl⟩)))
  | xor _ _ _ _ _ => exact .inr (.inr (.inr (.inr ⟨_, _, rfl⟩)))
  | min _ _ _ _ _ => exact .inr (.inr (.inr (.inr ⟨_, _, rfl⟩)))
  | max _ _ _ _ _ => exact .inr (.inr (.inr (.inr ⟨_, _, rfl⟩)))
  | abs _ _ _ _ => exact .inr (.inr (.inr (.inr ⟨_, _, rfl⟩)))
  | shl _ _ _ _ _ => exact .inr (.inr (.inr (.inr ⟨_, _, rfl⟩)))
  | shr _ _ _ _ _ => exact .inr (.inr (.inr (.inr ⟨_, _, rfl⟩)))
  | shrl _ _ _ _ _ => exact .inr (.inr (.inr (.inr ⟨_, _, rfl⟩)))
  | cmp _ _ _ _ => exact .inr (.inr (.inr (.inr ⟨_, _, rfl⟩)))
  | addi _ _ _ _ _ => exact .inr (.inr (.inr (.inr ⟨_, _, rfl⟩)))
  | andi _ _ _ _ _ => exact .inr (.inr (.inr (.inr ⟨_, _, rfl⟩)))
  | ori _ _ _ _ _ => exact .inr (.inr (.inr (.inr ⟨_, _, rfl⟩)))
  | shli _ _ _ _ _ => exact .inr (.inr (.inr (.inr ⟨_, _, rfl⟩)))
  | shri _ _ _ _ _ => exact .inr (.inr (.inr (.inr ⟨_, _, rfl⟩)))
  | movlo _ _ _ _ => exact .inr (.inr (.inr (.inr ⟨_, _, rfl⟩)))
  | movhi _ _ _ _ _ => exact .inr (.inr (.inr (.inr ⟨_, _, rfl⟩)))
  | cmpi _ _ _ _ => exact .inr (.inr (.inr (.inr ⟨_, _, rfl⟩)))
  | mul _ _ _ _ _ => exact .inr (.inr (.inr (.inr ⟨_, _, rfl⟩)))
  | mac _ _ _ _ _ => exact .inr (.inr (.inr (.inr ⟨_, _, rfl⟩)))
  | msu _ _ _ _ _ => exact .inr (.inr (.inr (.inr ⟨_, _, rfl⟩)))
  | clra _ _ _ => exact .inr (.inr (.inr (.inr ⟨_, _, rfl⟩)))
  | mvga _ _ _ _ _ => exact .inr (.inr (.inr (.inr ⟨_, _, rfl⟩)))
  | mvgp _ _ _ _ _ _ => exact .inr (.inr (.inr (.inr ⟨_, _, rfl⟩)))
  | adda _ _ _ _ => exact .inr (.inr (.inr (.inr ⟨_, _, rfl⟩)))
  | sha _ _ _ _ => exact .inr (.inr (.inr (.inr ⟨_, _, rfl⟩)))
  | rnd _ _ _ _ _ => exact .inr (.inr (.inr (.inr ⟨_, _, rfl⟩)))
  | ext _ _ _ _ _ => exact .inr (.inr (.inr (.inr ⟨_, _, rfl⟩)))
  | rpt _ _ _ _ _ _ => exact .inr (.inr (.inr (.inr ⟨_, _, rfl⟩)))
  | ld _ _ _ _ _ _ _ => exact .inr (.inr (.inr (.inr ⟨_, _, rfl⟩)))
  | st _ _ _ _ _ _ => exact .inr (.inr (.inr (.inr ⟨_, _, rfl⟩)))
  | ldc _ _ _ _ _ _ _ => exact .inr (.inr (.inr (.inr ⟨_, _, rfl⟩)))
  | ftm _ _ _ _ _ _ _ _ _ _ => exact .inr (.inr (.inr (.inr ⟨_, _, rfl⟩)))
  | mvpa _ _ _ _ => exact .inr (.inr (.inr (.inr ⟨_, _, rfl⟩)))
  | mvpl _ _ _ _ => exact .inr (.inr (.inr (.inr ⟨_, _, rfl⟩)))
  | mvsg _ _ _ _ => exact .inr (.inr (.inr (.inr ⟨_, _, rfl⟩)))
  | mvgs _ _ _ _ => exact .inr (.inr (.inr (.inr ⟨_, _, rfl⟩)))
  | b _ _ _ _ => exact .inr (.inr (.inr (.inr ⟨_, _, rfl⟩)))
  | bl _ _ _ => exact .inr (.inr (.inr (.inr ⟨_, _, rfl⟩)))
  | j _ _ _ _ => exact .inr (.inr (.inr (.inr ⟨_, _, rfl⟩)))
  | exit _ _ => exact .inr (.inr (.inr (.inr ⟨_, _, rfl⟩)))
  | gemm _ _ _ _ _ => exact .inr (.inr (.inr (.inl ⟨_, rfl⟩)))
  | syrk _ _ => exact .inr (.inr (.inr (.inl ⟨_, rfl⟩)))
  | gemv _ _ => exact .inr (.inr (.inr (.inl ⟨_, rfl⟩)))
  | ldl _ _ => exact .inr (.inr (.inr (.inl ⟨_, rfl⟩)))
  | ldlsolve _ _ => exact .inr (.inr (.inr (.inl ⟨_, rfl⟩)))
  | axpby _ _ => exact .inr (.inr (.inr (.inl ⟨_, rfl⟩)))
  | clamp _ _ => exact .inr (.inr (.inr (.inl ⟨_, rfl⟩)))
  | recip _ _ => exact .inr (.inr (.inr (.inl ⟨_, rfl⟩)))
  | dot _ _ => exact .inr (.inr (.inr (.inl ⟨_, rfl⟩)))
  | copy _ _ => exact .inr (.inr (.inr (.inl ⟨_, rfl⟩)))
  | greduce _ _ => exact .inr (.inr (.inr (.inl ⟨_, rfl⟩)))
  | capdist _ _ => exact .inr (.inr (.inr (.inl ⟨_, rfl⟩)))
  | repeatRecs _ _ _ => exact .inr (.inr (.inr (.inl ⟨_, if_pos h⟩)))
  | mdatMclkOutput _ => exact .inr (.inr (.inl ⟨_, rfl⟩))
  | perstNRelease => exact .inl ⟨rfl, fun s => perstRelease s, rfl⟩
  | resetNRelease => exact .inl ⟨rfl, fun s => resetRelease s, rfl⟩
  | supervisorMemoryError _ => exact .inr (.inl ⟨_, rfl⟩)
  | ptpMessageTx _ _ => exact .inr (.inl ⟨_, rfl⟩)
  | ethGateInterval _ => exact .inr (.inl ⟨_, rfl⟩)
  | registerReadClear _ _ => exact .inr (.inl ⟨_, rfl⟩)
  | msixVectorUnmask _ _ => exact .inr (.inl ⟨_, rfl⟩)

end Sys2Proof.Machine
end

