-- ==== Sys2Proof/Laws/Finds.lean ====
section
/-!
SUPPORT. What a command does in the state that it finds: one lemma for each form of meaning, and the issue of one Draver instruction in a
context between instructions.
-/
namespace Sys2Proof.Machine

theorem event_finds {s a : State} (h : Finds s a) (f : State → State) : event (unlessHeld f) s = .next (leave s (f a)) := by
  obtain ⟨rfl, hh⟩ := h; simp [event, unlessHeld, hh]

theorem event_findsOn {s a : State} (h : FindsOn s a) (f : State → State) : event (unlessOff f) s = .next (leave s (f a)) := by
  obtain ⟨rfl, hh⟩ := h; simp [event, unlessOff, hh]

theorem event_findsReg {s a : State} {req off : Nat} (h : FindsReg s a req off) (f : State → State) :
    event (unlessHeld fun s => onReg req off f s) s = .next (leave s (f a)) := by
  rw [event_finds h.1]; simp [onReg, h.2]

theorem unitStep_finds {s a : State} (h : FindsUnit s a) (f : State → State) :
    unitStep (unlessHeld f) s = .next (leave s (f a)) := by
  obtain ⟨rfl, hh⟩ := h; simp [unitStep, unlessHeld, hh]

theorem dueStep_core {s : State} {n : Nat} (h : coreIssues s n = true) (f : State → State) :
    dueStep (onCore n f) s = .next (leave s (f s)) := by simp [dueStep, onCore, h]

/-- With no work outstanding and the clock stopped, an event finds the state as it stands but for the count of free values. -/
theorem atArrival_stopped {s : State} (h : NothingDue s) (hc : clockRuns s = false) : atArrival s = { s with free := s.free + 1 } := by
  have h1 : clockRuns { s with free := s.free + 1 } = false := hc
  have h2 : (s.mbx.boxes.any fun e => e.2.deliverDue.isSome) = false := by
    rw [List.any_eq_false]
    intro e he hs
    have := List.all_eq_true.mp h.2.2.2.2.2.2 e he
    cases hd : e.2.deliverDue <;> simp_all
  unfold atArrival
  rw [settle_nothing h]
  show (if (s.mbx.boxes.any fun e => e.2.deliverDue.isSome) = true then _ else arrive s) = _
  rw [if_neg (by simp [h2])]
  unfold arrive
  show (if clockRuns { s with free := s.free + 1 } = true then _ else { s with free := s.free + 1 }) = _
  rw [if_neg (by simp [h1])]

@[simp] theorem dstApply_empty (d : Nat) : dstApply d {} = d := by simp [dstApply]

/-- An instruction of a context between instructions, when it does not trap: the context moves on by its effect. -/
theorem drvRow_straight {s : State} {n : Nat} {gr : Bool} {x : DCtx} (h : FindsCore s n gr x) (i : DIns) (ht : insTrap x i = 0)
    (hT : (insFlow { issueNext (insEffect (drvAt s n) x i) with aOld := x.a }).trap = none)
    (hE : (insFlow { issueNext (insEffect (drvAt s n) x i) with aOld := x.a }).ended = false) :
    drvRow s n gr i = issued s n gr (insFlow { issueNext (insEffect (drvAt s n) x i) with aOld := x.a }) := by
  obtain ⟨_, hx, h1, h2, h3, h4, h5, h6, h7⟩ := h
  have hs (c : DCore) : issueStart c x = (c, x) := by simp [issueStart, h1]; rw [← h1]
  have hi : insIssue (drvAt s n) x i = (drvAt s n, insFlow { issueNext (insEffect (drvAt s n) x i) with aOld := x.a }) := by
    unfold insIssue; simp only [hs, h5, ht]; simp
  cases gr
  · simp only [ctxOf] at hx
    simp only [Bool.false_eq_true, if_false] at hx
    simp only [drvRow, Bool.false_eq_true, if_false, hx, h7, hi]
    cases hn : (drvAt s n).entered <;> simp [hT, hE, hn, issued, withCtx, modDrv]
  · simp only [ctxOf, if_true] at hx
    simp only [drvRow, if_true, Bool.false_eq_true, if_false, hx, h7, hi]
    simp [hT, issued, withCtx, modDrv]

/-- A context that wrote flags and neither branched nor repeats goes on at the next address. -/
theorem ranOn_flags {x y : DCtx} {o : DstOp} (hd : y.dstQ = [{}, {}, o]) (hb : y.br = none) (hl : y.lc = 0) (hs : y.skip = false)
    (hp : y.pc = x.pc) : insFlow { issueNext y with aOld := x.a } = ranOn x y o := by
  simp [issueNext, hd, insFlow, hb, hl, hs, hp, ranOn]

/-- A context that wrote no flags and neither branched nor repeats goes on at the next address. -/
theorem ranOn_plain {x y : DCtx} (hd : y.dstQ = [{}, {}]) (hb : y.br = none) (hl : y.lc = 0) (hs : y.skip = false)
    (hp : y.pc = x.pc) : insFlow { issueNext y with aOld := x.a } = ranOn x y {} := by
  simp [issueNext, hd, insFlow, hb, hl, hs, hp, ranOn]

end Sys2Proof.Machine
end

