-- ==== Sys2Proof/Laws/Maps.lean ====
section
/-!
SUPPORT. Laws of the keyed maps: reading after writing, and the canonical form.
-/
namespace Sys2Proof.Machine

@[simp] theorem mget_mput_self {α : Type} (m : Map α) (k : Nat) (v : α) : mget (mput m k v) k = some v := by
  induction m with
  | nil => simp [mput, mget]
  | cons e t ih =>
    obtain ⟨j, w⟩ := e
    unfold mput
    by_cases h : k < j
    · simp [h, mget]
    · by_cases g : j = k
      · simp [g, mget]
      · simp [h, g, mget, ih]

theorem mget_mput_other {α : Type} (m : Map α) (k k' : Nat) (v : α) (hk : k' ≠ k) : mget (mput m k v) k' = mget m k' := by
  induction m with
  | nil =>
    have h : ¬ k = k' := fun e => hk e.symm
    simp [mput, mget, h]
  | cons e t ih =>
    obtain ⟨j, w⟩ := e
    unfold mput
    by_cases h : k < j
    · have : ¬ k = k' := fun e => hk e.symm
      simp only [h, if_true, mget, this, if_false]
      by_cases g : k' < k
      · simp [g, Nat.lt_trans g h]
      · simp [g]
    · by_cases g : j = k
      · subst g
        have : ¬ j = k' := fun e => hk e.symm
        simp [mget, this]
      · simp [h, g, mget, ih]

@[simp] theorem mgetD_mput_self {α : Type} (m : Map α) (k : Nat) (v d : α) : mgetD (mput m k v) k d = v := by simp [mgetD]

theorem mgetD_mput_other {α : Type} (m : Map α) (k k' : Nat) (v d : α) (hk : k' ≠ k) : mgetD (mput m k v) k' d = mgetD m k' d := by
  simp [mgetD, mget_mput_other m k k' v hk]

@[simp] theorem mput_mput {α : Type} (m : Map α) (k : Nat) (v w : α) : mput (mput m k v) k w = mput m k w := by
  induction m with
  | nil => simp [mput]
  | cons e t ih =>
    obtain ⟨j, x⟩ := e
    simp only [mput]
    split <;> rename_i h
    · simp [mput]
    · split <;> rename_i g
      · simp [mput]
      · simp [mput, h, g, ih]

/-- A map is canonical with every key above a bound. -/
theorem mput_wf_above {α : Type} (m : Map α) (k b : Nat) (v : α) (hb : b < k) (h : mwf ((b, v) :: m) = true) :
    mwf ((b, v) :: mput m k v) = true := by
  induction m generalizing b with
  | nil => simpa [mput, mwf] using hb
  | cons e t ih =>
    obtain ⟨j, w⟩ := e
    simp only [mwf, Bool.and_eq_true, decide_eq_true_eq] at h
    obtain ⟨hj, ht⟩ := h
    simp only [mput]
    split <;> rename_i hk
    · simp [mwf, hb, hk, ht]
    · split <;> rename_i hg
      · subst hg
        cases t with
        | nil => simpa [mwf] using hj
        | cons e t =>
          obtain ⟨i, u⟩ := e
          simp only [mwf, Bool.and_eq_true, decide_eq_true_eq] at ht ⊢
          exact ⟨hj, ht⟩
      · have hjk : j < k := by omega
        have := ih j hjk (by
          cases t with
          | nil => rfl
          | cons e t => obtain ⟨i, u⟩ := e; simpa [mwf] using ht)
        cases hm : mput t k v with
        | nil => simpa [mwf] using hj
        | cons e t' =>
          obtain ⟨i, u⟩ := e
          rw [hm] at this
          simp only [mwf, Bool.and_eq_true, decide_eq_true_eq] at this ⊢
          exact ⟨hj, this⟩

end Sys2Proof.Machine
end

