-- ==== Sys2Proof/Laws/Memory.lean ====
section
/-!
SUPPORT. Laws of device DRAM: every memory operation keeps the canonical form, a read after a write gives the byte written, and a
write leaves every other byte alone.
-/
namespace Sys2Proof.Machine

/-- Writing a byte puts nothing below the least address of the list and the address written. -/
theorem memSet_head (m : List (Nat × Byte)) (a : Nat) (b : Byte) (k : Nat) (v : Byte) (hv : v ≠ 0#8) (hk : k < a)
    (h : memWf ((k, v) :: m) = true) (hs : memWf (memSet m a b) = true) : memWf ((k, v) :: memSet m a b) = true := by
  cases m with
  | nil =>
    simp only [memSet] at hs ⊢
    split <;> simp_all [memWf]
  | cons e t =>
    obtain ⟨j, w⟩ := e
    simp only [memWf, Bool.and_eq_true, decide_eq_true_eq] at h
    obtain ⟨⟨_, hj⟩, ht⟩ := h
    simp only [memSet] at hs ⊢
    by_cases h1 : a < j
    · simp only [h1, if_true] at hs ⊢
      by_cases hb : b = 0#8
      · simp only [hb, if_true] at hs ⊢; simp [memWf, hv, hj, hs]
      · simp only [hb, if_false] at hs ⊢; simp [memWf, hv, hk, hb, h1, ht]
    · simp only [h1, if_false] at hs ⊢
      by_cases h2 : j = a
      · simp only [h2, if_true] at hs ⊢
        by_cases hb : b = 0#8
        · simp only [hb, if_true] at hs ⊢
          cases t with
          | nil => simp [memWf, hv]
          | cons e t =>
            obtain ⟨i, u⟩ := e
            simp only [memWf, Bool.and_eq_true, decide_eq_true_eq] at ht
            have hi := ht.1.2
            have hki : k < i := by omega
            simp [memWf, hv, hs, hki]
        · simp only [hb, if_false] at hs ⊢; simp [memWf, hv, hk, hs]
      · simp only [h2, if_false] at hs ⊢; simp [memWf, hv, hj, hs]

/-- Writing a byte keeps the canonical form. -/
theorem memSet_wf (m : List (Nat × Byte)) (a : Nat) (b : Byte) (h : memWf m = true) : memWf (memSet m a b) = true := by
  induction m with
  | nil =>
    simp only [memSet]
    split <;> simp_all [memWf]
  | cons e t ih =>
    obtain ⟨k, v⟩ := e
    have hv : v ≠ 0#8 := by
      cases t with
      | nil => simpa [memWf] using h
      | cons e t => obtain ⟨j, w⟩ := e; simp only [memWf, Bool.and_eq_true, decide_eq_true_eq] at h; exact h.1.1
    have ht : memWf t = true := by
      cases t with
      | nil => rfl
      | cons e t => obtain ⟨j, w⟩ := e; simp only [memWf, Bool.and_eq_true] at h; exact h.2
    simp only [memSet]
    by_cases h1 : a < k
    · simp only [h1, if_true]
      by_cases hb : b = 0#8
      · simpa [hb] using h
      · simp only [hb, if_false]; simp [memWf, hb, h1, h]
    · simp only [h1, if_false]
      by_cases h2 : k = a
      · simp only [h2, if_true]
        by_cases hb : b = 0#8
        · simpa [hb] using ht
        · simp only [hb, if_false]
          cases t with
          | nil => simpa [memWf] using hb
          | cons e t =>
            obtain ⟨j, w⟩ := e
            simp only [memWf, Bool.and_eq_true, decide_eq_true_eq] at h ⊢
            exact ⟨⟨hb, by omega⟩, h.2⟩
      · simp only [h2, if_false]
        exact memSet_head t a b k v hv (by omega) h (ih ht)

/-- Writing bytes keeps the canonical form. -/
theorem memSets_wf (bs : List Byte) (m : List (Nat × Byte)) (a : Nat) (h : memWf m = true) : memWf (memSets m a bs) = true := by
  induction bs generalizing m a with
  | nil => simpa [memSets] using h
  | cons b t ih => exact ih _ _ (memSet_wf m a b h)

/-- Writing bytes at their addresses keeps the canonical form. -/
theorem memCells_wf (m : MemSt) (cs : List (Nat × Byte)) (h : memWf m.dram = true) : memWf (memCells m cs).dram = true := by
  unfold memCells
  dsimp only
  generalize m.dram = d at h
  induction cs generalizing d with
  | nil => exact h
  | cons c t ih => exact ih _ (memSet_wf d c.1 c.2 h)

/-- A write of device DRAM keeps the canonical form. -/
theorem memWrite_wf (s : State) (a : Nat) (bs : List Byte) (h : memWf s.mem.dram = true) : memWf (memWrite s a bs).mem.dram = true := by
  unfold memWrite
  dsimp only
  split
  · exact memSets_wf bs _ a h
  · exact memCells_wf _ _ h

/-- The memory after reset has the canonical form. -/
theorem reset_dram_wf : memWf State.reset.mem.dram = true := rfl

/-- Reading the byte written. -/
theorem memByte_memSet_self (m : List (Nat × Byte)) (a : Nat) (b : Byte) (h : memWf m = true) : memByte (memSet m a b) a = b := by
  induction m with
  | nil => simp only [memSet]; split <;> simp_all [memByte]
  | cons e t ih =>
    obtain ⟨k, v⟩ := e
    have ht : memWf t = true := by
      cases t with
      | nil => rfl
      | cons e t => obtain ⟨j, w⟩ := e; simp only [memWf, Bool.and_eq_true] at h; exact h.2
    simp only [memSet]
    by_cases h1 : a < k
    · by_cases hb : b = 0#8
      · have : ¬ k = a := by omega
        simp [h1, hb, memByte, this]
      · simp [h1, hb, memByte]
    · by_cases h2 : k = a
      · by_cases hb : b = 0#8
        · subst h2
          simp only [h1, if_false, if_true, hb]
          cases t with
          | nil => rfl
          | cons e t =>
            obtain ⟨j, w⟩ := e
            simp only [memWf, Bool.and_eq_true, decide_eq_true_eq] at h
            have hj : k < j := h.1.2
            have : ¬ j = k := by omega
            simp [memByte, this, hj]
        · simp [h1, h2, hb, memByte]
      · simp [h1, h2, memByte, ih ht]

/-- Reading another byte. -/
theorem memByte_memSet_other (m : List (Nat × Byte)) (a x : Nat) (b : Byte) (h : memWf m = true) (hx : x ≠ a) :
    memByte (memSet m a b) x = memByte m x := by
  induction m with
  | nil =>
    have h1 : ¬ a = x := fun e => hx e.symm
    simp only [memSet]; split <;> simp [memByte, h1]
  | cons e t ih =>
    obtain ⟨k, v⟩ := e
    have ht : memWf t = true := by
      cases t with
      | nil => rfl
      | cons e t => obtain ⟨j, w⟩ := e; simp only [memWf, Bool.and_eq_true] at h; exact h.2
    have hax : ¬ a = x := fun e => hx e.symm
    simp only [memSet]
    by_cases h1 : a < k
    · by_cases hb : b = 0#8
      · simp [h1, hb]
      · simp only [h1, hb, if_true, if_false]
        by_cases h3 : x < a
        · have h4 : ¬ k = x := by omega
          have h5 : x < k := by omega
          simp [memByte, hax, h3, h4, h5]
        · simp [memByte, hax, h3]
    · by_cases h2 : k = a
      · subst h2
        have hkx : ¬ k = x := hax
        by_cases hb : b = 0#8
        · simp only [h1, if_false, if_true, hb]
          by_cases h3 : x < k
          · cases t with
            | nil => simp [memByte, hkx, h3]
            | cons e t =>
              obtain ⟨j, w⟩ := e
              simp only [memWf, Bool.and_eq_true, decide_eq_true_eq] at h
              have hj : k < j := h.1.2
              have h6 : ¬ j = x := by omega
              have h7 : x < j := by omega
              simp [memByte, hkx, h3, h6, h7]
          · simp [memByte, hkx, h3]
        · simp [hb, memByte, hkx]
      · simp only [h1, h2, if_false]
        by_cases h4 : k = x
        · simp [memByte, h4]
        · by_cases h5 : x < k
          · simp [memByte, h4, h5]
          · simp [memByte, h4, h5, ih ht]

/-- A fold whose function leaves the start as it is leaves it. -/
theorem foldl_fixed {α β : Type} (f : α → β → α) (s : α) (h : ∀ l, f s l = s) (ls : List β) : ls.foldl f s = s := by
  induction ls with
  | nil => rfl
  | cons l t ih => rw [List.foldl_cons, h]; exact ih

/-- Without a line in error the ECC changes nothing. -/
theorem eccRead_clean (s : State) (ls : List Nat) (p : s.mem.poisoned = []) (w : s.mem.weak = []) : eccRead s ls = s :=
  foldl_fixed _ s (fun l => by simp only [p, w, List.contains_nil, Bool.false_eq_true, if_false]) ls

/-- The kept block is read without an effect where no line is in error. -/
theorem copyRead_clean (s : State) (a : Acc) (p : s.mem.poisoned = []) (w : s.mem.weak = []) : copyRead s a = s := by
  simp only [copyRead, eccRead_clean s _ p w, ite_self]

end Sys2Proof.Machine
end

