-- ==== Sys2Proof/Laws/PerInstr.lean ====
section
/-!
SUPPORT. What holds of each command as syntax, one lemma for each constructor of Instr.
-/
namespace Sys2Proof.Laws.Wf
open Sys2Proof

/-- A command that can act on a device held in cold reset has no operands that the hardware cannot be sent. -/
def Statement (i : Instr) : Prop := Sys2Proof.Machine.actsWhileHeld i = true → wellFormed i = true

theorem frameBoundary (a0 : FrameIn) : Statement (.frameBoundary a0) := fun _ => rfl
theorem servoTickBoundary : Statement (.servoTickBoundary) := fun _ => rfl
theorem planTickBoundary : Statement (.planTickBoundary) := fun _ => rfl
theorem guardJudgingStart : Statement (.guardJudgingStart) := fun _ => rfl
theorem planPressOpen : Statement (.planPressOpen) := fun _ => rfl
theorem guardFinalVerdict : Statement (.guardFinalVerdict) := fun _ => rfl
theorem solverStart : Statement (.solverStart) := fun _ => rfl
theorem solverProblemEnd (a0 : Fin 192) (a1 : Fin 3) (a2 : Fin 4) (a3 : BitVec 16) : Statement (.solverProblemEnd a0 a1 a2 a3) := fun _ => rfl
theorem solverDeadline : Statement (.solverDeadline) := fun _ => rfl
theorem derateApply : Statement (.derateApply) := fun _ => rfl
theorem rylUplinkFrame (a0 : Fin 16) (a1 : Fin 2) (a2 : BitVec 16) (a3 : List Byte) : Statement (.rylUplinkFrame a0 a1 a2 a3) := fun h => Bool.noConfusion h
theorem rylDetectTimeout (a0 : Fin 16) : Statement (.rylDetectTimeout a0) := fun _ => rfl
theorem rylHeadLost (a0 : Fin 16) (a1 : Fin 8) : Statement (.rylHeadLost a0 a1) := fun _ => rfl
theorem rylLaneDown (a0 : Fin 16) (a1 : Fin 2) : Statement (.rylLaneDown a0 a1) := fun _ => rfl
theorem rylSvcTimeout (a0 : Fin 16) (a1 : Fin 10) : Statement (.rylSvcTimeout a0 a1) := fun _ => rfl
theorem rylHeadCyclicDone (a0 : Fin 16) (a1 : Fin 8) : Statement (.rylHeadCyclicDone a0 a1) := fun _ => rfl
theorem safeOffPinAccept (a0 : Fin 2) : Statement (.safeOffPinAccept a0) := fun _ => rfl
theorem safeOffPinRelease (a0 : Fin 2) : Statement (.safeOffPinRelease a0) := fun _ => rfl
theorem killDiscrepancy : Statement (.killDiscrepancy) := fun _ => rfl
theorem powerOn (a0 : BitVec 6) (a1 : BitVec 64) : Statement (.powerOn a0 a1) := fun _ => rfl
theorem resetNAccept : Statement (.resetNAccept) := fun _ => rfl
theorem brownOut : Statement (.brownOut) := fun _ => rfl
theorem perstNAssert : Statement (.perstNAssert) := fun _ => rfl
theorem flr (a0 : Fin 16) : Statement (.flr a0) := fun _ => rfl
theorem busMasterClear (a0 : Fin 16) : Statement (.busMasterClear a0) := fun _ => rfl
theorem busMasterSet (a0 : Fin 16) : Statement (.busMasterSet a0) := fun _ => rfl
theorem vfEnableClear : Statement (.vfEnableClear) := fun _ => rfl
theorem bootStageDone (a0 : Bool) (a1 : Fin 10) (a2 : BitVec 32) (a3 : BootFacts) : Statement (.bootStageDone a0 a1 a2 a3) := fun _ => rfl
theorem recoveryImageDone (a0 : List Byte) : Statement (.recoveryImageDone a0) := fun _ => rfl
theorem p0Restored : Statement (.p0Restored) := fun _ => rfl
theorem partWake : Statement (.partWake) := fun _ => rfl
theorem sysrefLoss : Statement (.sysrefLoss) := fun _ => rfl
theorem temperatureReading (a0 : BitVec 16) : Statement (.temperatureReading a0) := fun _ => rfl
theorem supplyReading (a0 : Fin 10) (a1 : Bool) (a2 : BitVec 16) : Statement (.supplyReading a0 a1 a2) := fun _ => rfl
theorem bankPowerChange (a0 : Fin 6) (a1 : Bool) (a2 : BitVec 64) : Statement (.bankPowerChange a0 a1 a2) := fun _ => rfl
theorem trgEdge (a0 : Fin 8) (a1 : Bool) : Statement (.trgEdge a0 a1) := fun _ => rfl
theorem stepEdge (a0 : Fin 8) (a1 : Bool) : Statement (.stepEdge a0 a1) := fun _ => rfl
theorem dinChange (a0 : Fin 64) (a1 : Bool) : Statement (.dinChange a0 a1) := fun _ => rfl
theorem dinDebounceExpiry (a0 : Fin 64) : Statement (.dinDebounceExpiry a0) := fun _ => rfl
theorem ptpMessageRx (a0 : Fin 4) (a1 : PtpMsg) : Statement (.ptpMessageRx a0 a1) := fun _ => rfl
theorem ptpSyncOffset (a0 : Fin 4) (a1 : Int) (a2 : Word64) (a3 : BitVec 8) : Statement (.ptpSyncOffset a0 a1 a2 a3) := fun _ => rfl
theorem ptpMasterLost : Statement (.ptpMasterLost) := fun _ => rfl
theorem ethGclSwitch (a0 : Fin 4) : Statement (.ethGclSwitch a0) := fun _ => rfl
theorem linePubRx (a0 : Fin 4) (a1 : BitVec 128) (a2 : BitVec 16) (a3 : List Byte) : Statement (.linePubRx a0 a1 a2 a3) := fun _ => rfl
theorem lineSourceStale (a0 : Fin 16) : Statement (.lineSourceStale a0) := fun _ => rfl
theorem trackFrameRx (a0 : Fin 4) (a1 : BitVec 16) (a2 : List Byte) : Statement (.trackFrameRx a0 a1 a2) := fun _ => rfl
theorem trackStreamLost (a0 : Fin 8) : Statement (.trackStreamLost a0) := fun _ => rfl
theorem fbkStandstill (a0 : Fin 256) : Statement (.fbkStandstill a0) := fun _ => rfl
theorem stepperReduceStart (a0 : Fin 256) : Statement (.stepperReduceStart a0) := fun _ => rfl
theorem homeDebounceExpiry (a0 : Fin 256) : Statement (.homeDebounceExpiry a0) := fun _ => rfl
theorem cnvResult (a0 : Fin 9) (a1 : Int) (a2 : List Bool) : Statement (.cnvResult a0 a1 a2) := fun _ => rfl
theorem cnvCalDone (a0 : Fin 9) (a1 : Bool) : Statement (.cnvCalDone a0 a1) := fun _ => rfl
theorem cnvRefReady : Statement (.cnvRefReady) := fun _ => rfl
theorem cnvPlausCheck (a0 : Int) (a1 : Int) : Statement (.cnvPlausCheck a0 a1) := fun _ => rfl
theorem drvLoopsStart (a0 : Fin 18) (a1 : LoopsRun) : Statement (.drvLoopsStart a0 a1) := fun _ => rfl
theorem drvLoopPublish (a0 : Fin 18) (a1 : Fin 8) : Statement (.drvLoopPublish a0 a1) := fun _ => rfl
theorem pressValidationDone (a0 : Fin 16) : Statement (.pressValidationDone a0) := fun _ => rfl
theorem pressMemberReady (a0 : Fin 16) : Statement (.pressMemberReady a0) := fun _ => rfl
theorem pressCommit (a0 : Fin 16) : Statement (.pressCommit a0) := fun _ => rfl
theorem pressWaitExpiry (a0 : Fin 16) : Statement (.pressWaitExpiry a0) := fun _ => rfl
theorem nodePlacement : Statement (.nodePlacement) := fun _ => rfl
theorem nodeCompletion (a0 : Fin 8192) (a1 : NodeEnd) : Statement (.nodeCompletion a0 a1) := fun _ => rfl
theorem submitTemplate (a0 : Fin 8192) (a1 : List Byte) : Statement (.submitTemplate a0 a1) := fun _ => rfl
theorem gscWaitTimeout (a0 : Fin 64) : Statement (.gscWaitTimeout a0) := fun _ => rfl
theorem fltRecordHandling : Statement (.fltRecordHandling) := fun _ => rfl
theorem lintWindowEnd (a0 : Fin 256) : Statement (.lintWindowEnd a0) := fun _ => rfl
theorem supervisorWatchdogExpiry (a0 : Fin 4) : Statement (.supervisorWatchdogExpiry a0) := fun _ => rfl
theorem supervisorSelftestDone (a0 : Fin 4) (a1 : Bool) : Statement (.supervisorSelftestDone a0 a1) := fun _ => rfl
theorem hostWatchdogExpiry : Statement (.hostWatchdogExpiry) := fun _ => rfl
theorem wearDecay : Statement (.wearDecay) := fun _ => rfl
theorem backgroundTestStart : Statement (.backgroundTestStart) := fun _ => rfl
theorem selfTestDone (a0 : Fin 6) (a1 : BitVec 16) (a2 : Bool) : Statement (.selfTestDone a0 a1 a2) := fun _ => rfl
theorem shadowTestDone (a0 : Fin 6) (a1 : BitVec 16) : Statement (.shadowTestDone a0 a1) := fun _ => rfl
theorem darnStart : Statement (.darnStart) := fun _ => rfl
theorem noSpareRetire (a0 : Fin 6) (a1 : BitVec 16) : Statement (.noSpareRetire a0 a1) := fun _ => rfl
theorem ledgerStateWrite (a0 : Bool) : Statement (.ledgerStateWrite a0) := fun _ => rfl
theorem patrolScrubRead (a0 : Fin 3) : Statement (.patrolScrubRead a0) := fun _ => rfl
theorem pageRetireDone (a0 : BitVec 22) : Statement (.pageRetireDone a0) := fun _ => rfl
theorem msixCoalTimer (a0 : Fin 320) : Statement (.msixCoalTimer a0) := fun _ => rfl
theorem mbxCrossExpiry (a0 : Fin 64) (a1 : Fin 64) : Statement (.mbxCrossExpiry a0 a1) := fun _ => rfl
theorem mbxWaitingDelivery (a0 : Fin 64) : Statement (.mbxWaitingDelivery a0) := fun _ => rfl
theorem ringDrainDone (a0 : Fin 256) : Statement (.ringDrainDone a0) := fun _ => rfl
theorem fenceRelease (a0 : Fin 256) : Statement (.fenceRelease a0) := fun _ => rfl
theorem drvLoadDone (a0 : Fin 18) (a1 : DrvImage) : Statement (.drvLoadDone a0 a1) := fun _ => rfl
theorem problemCreateDone (a0 : List Byte) : Statement (.problemCreateDone a0) := fun _ => rfl
theorem dbgSessionExpiry (a0 : Fin 2) : Statement (.dbgSessionExpiry a0) := fun _ => rfl
theorem jtagDbgaccToken (a0 : Fin 3) (a1 : BitVec 16) (a2 : List Byte) : Statement (.jtagDbgaccToken a0 a1 a2) := fun _ => rfl
theorem tapReset : Statement (.tapReset) := fun _ => rfl
theorem jtagInstruction (a0 : Fin 4) : Statement (.jtagInstruction a0) := fun _ => rfl
theorem sqTailDoorbell (a0 : Fin 16) (a1 : Fin 256) (a2 : Word) : Statement (.sqTailDoorbell a0 a1 a2) := fun _ => rfl
theorem cqHeadDoorbell (a0 : Fin 16) (a1 : Fin 256) (a2 : Word) : Statement (.cqHeadDoorbell a0 a1 a2) := fun _ => rfl
theorem eventHeadDoorbell (a0 : Fin 16) (a1 : Fin 64) (a2 : Word) : Statement (.eventHeadDoorbell a0 a1 a2) := fun _ => rfl
theorem sqFetchDone (a0 : Fin 256) (a1 : List RawDesc) : Statement (.sqFetchDone a0 a1) := fun h => Bool.noConfusion h
theorem registerWrite (a0 : Fin 64) (a1 : Fin 3) (a2 : BitVec 30) (a3 : Fin 9) (a4 : Word) : Statement (.registerWrite a0 a1 a2 a3 a4) := fun _ => rfl
theorem registerLoRead (a0 : Fin 64) (a1 : RegRead) : Statement (.registerLoRead a0 a1) := fun _ => rfl
theorem adminPairEnable (a0 : Fin 16) : Statement (.adminPairEnable a0) := fun _ => rfl
theorem adminPairDisable (a0 : Fin 16) : Statement (.adminPairDisable a0) := fun _ => rfl
theorem timSnapTake (a0 : Fin 64) : Statement (.timSnapTake a0) := fun _ => rfl
theorem timServoEnWrite (a0 : Fin 64) (a1 : Bool) : Statement (.timServoEnWrite a0 a1) := fun _ => rfl
theorem timHoldoverForceWrite (a0 : Fin 64) (a1 : Bool) : Statement (.timHoldoverForceWrite a0 a1) := fun _ => rfl
theorem ethGclApply (a0 : Fin 64) (a1 : Fin 4) : Statement (.ethGclApply a0 a1) := fun _ => rfl
theorem rylTrain (a0 : Fin 64) (a1 : Fin 16) : Statement (.rylTrain a0 a1) := fun _ => rfl
theorem rylEnWrite (a0 : Fin 64) (a1 : Fin 16) (a2 : Bool) : Statement (.rylEnWrite a0 a1 a2) := fun _ => rfl
theorem cnvRefOnWrite (a0 : Fin 64) (a1 : Bool) : Statement (.cnvRefOnWrite a0 a1) := fun _ => rfl
theorem cnvCal (a0 : Fin 64) (a1 : Fin 9) : Statement (.cnvCal a0 a1) := fun _ => rfl
theorem cnvCfgWrite (a0 : Fin 64) (a1 : Fin 9) (a2 : Word) : Statement (.cnvCfgWrite a0 a1 a2) := fun _ => rfl
theorem cnvSwtrigRegular (a0 : Fin 64) (a1 : Fin 9) : Statement (.cnvSwtrigRegular a0 a1) := fun _ => rfl
theorem cnvSwtrigInjected (a0 : Fin 64) (a1 : Fin 9) (a2 : Fin 4) : Statement (.cnvSwtrigInjected a0 a1 a2) := fun _ => rfl
theorem cnvTqPop (a0 : Fin 64) : Statement (.cnvTqPop a0) := fun _ => rfl
theorem grdEnWrite (a0 : Fin 64) (a1 : Bool) : Statement (.grdEnWrite a0 a1) := fun _ => rfl
theorem mbxSend (a0 : Fin 64) (a1 : Fin 64) (a2 : Word) : Statement (.mbxSend a0 a1 a2) := fun _ => rfl
theorem mbxTxcancel (a0 : Fin 64) : Statement (.mbxTxcancel a0) := fun _ => rfl
theorem mbxRx7Take (a0 : Fin 64) (a1 : Fin 64) : Statement (.mbxRx7Take a0 a1) := fun _ => rfl
theorem lckRead (a0 : Fin 64) (a1 : BitVec 64) (a2 : Fin 64) : Statement (.lckRead a0 a1 a2) := fun _ => rfl
theorem lckWrite (a0 : Fin 64) (a1 : Fin 64) (a2 : Word) : Statement (.lckWrite a0 a1 a2) := fun _ => rfl
theorem lckBreak (a0 : Fin 64) (a1 : Fin 64) : Statement (.lckBreak a0 a1) := fun _ => rfl
theorem modResetWrite (a0 : Fin 64) (a1 : Word) : Statement (.modResetWrite a0 a1) := fun _ => rfl
theorem modHostwdWrite (a0 : Fin 64) (a1 : Word) : Statement (.modHostwdWrite a0 a1) := fun _ => rfl
theorem modHostwdKick (a0 : Fin 64) : Statement (.modHostwdKick a0) := fun _ => rfl
theorem modRcvGo (a0 : Fin 64) : Statement (.modRcvGo a0) := fun _ => rfl
theorem pwrOff (a0 : Fin 64) : Statement (.pwrOff a0) := fun _ => rfl
theorem memRetirePage (a0 : Fin 64) (a1 : Word) : Statement (.memRetirePage a0 a1) := fun _ => rfl
theorem dinCfgWrite (a0 : Fin 64) (a1 : Fin 64) (a2 : Word) : Statement (.dinCfgWrite a0 a1 a2) := fun _ => rfl
theorem dbgMdataAccess (a0 : Fin 2) (a1 : Option Word) : Statement (.dbgMdataAccess a0 a1) := fun _ => rfl
theorem dbgHaltCore (a0 : Fin 2) (a1 : Fin 18) : Statement (.dbgHaltCore a0 a1) := fun _ => rfl
theorem dbgResumeCore (a0 : Fin 2) (a1 : Fin 18) : Statement (.dbgResumeCore a0 a1) := fun _ => rfl
theorem dbgStepCore (a0 : Fin 2) (a1 : Fin 18) : Statement (.dbgStepCore a0 a1) := fun _ => rfl
theorem dbgHaltLane (a0 : Fin 2) (a1 : Fin 208) : Statement (.dbgHaltLane a0 a1) := fun _ => rfl
theorem dbgResumeLane (a0 : Fin 2) (a1 : Fin 208) : Statement (.dbgResumeLane a0 a1) := fun _ => rfl
theorem dbgSetBreakpoint (a0 : Fin 2) (a1 : Fin 18) : Statement (.dbgSetBreakpoint a0 a1) := fun _ => rfl
theorem dbgClearBreakpoints (a0 : Fin 2) (a1 : Fin 18) : Statement (.dbgClearBreakpoints a0 a1) := fun _ => rfl
theorem nop (a0 : Desc) : Statement (.nop a0) := fun _ => rfl
theorem destroy (a0 : Desc) : Statement (.destroy a0) := fun _ => rfl
theorem armCreate (a0 : Desc) : Statement (.armCreate a0) := fun _ => rfl
theorem jointCreate (a0 : Desc) : Statement (.jointCreate a0) := fun _ => rfl
theorem jointScaleSet (a0 : Desc) : Statement (.jointScaleSet a0) := fun _ => rfl
theorem regionRelease (a0 : Desc) : Statement (.regionRelease a0) := fun _ => rfl
theorem regionResume (a0 : Desc) : Statement (.regionResume a0) := fun _ => rfl
theorem regionHold (a0 : Desc) : Statement (.regionHold a0) := fun _ => rfl
theorem regionService (a0 : Desc) : Statement (.regionService a0) := fun _ => rfl
theorem regionLeaveService (a0 : Desc) : Statement (.regionLeaveService a0) := fun _ => rfl
theorem modeSet (a0 : Desc) : Statement (.modeSet a0) := fun _ => rfl
theorem linesrcCreate (a0 : Desc) : Statement (.linesrcCreate a0) := fun _ => rfl
theorem lineDesignate (a0 : Desc) : Statement (.lineDesignate a0) := fun _ => rfl
theorem timeStepAuth (a0 : Desc) : Statement (.timeStepAuth a0) := fun _ => rfl
theorem rylHeadCyclic (a0 : Desc) : Statement (.rylHeadCyclic a0) := fun _ => rfl
theorem rylHeadAccess (a0 : Desc) : Statement (.rylHeadAccess a0) := fun _ => rfl
theorem cchanCreate (a0 : Desc) : Statement (.cchanCreate a0) := fun _ => rfl
theorem cchanSet (a0 : Desc) : Statement (.cchanSet a0) := fun _ => rfl
theorem cnvCalibrate (a0 : Desc) : Statement (.cnvCalibrate a0) := fun _ => rfl
theorem fbchCreate (a0 : Desc) : Statement (.fbchCreate a0) := fun _ => rfl
theorem fbchSet (a0 : Desc) : Statement (.fbchSet a0) := fun _ => rfl
theorem fbchSetPos (a0 : Desc) : Statement (.fbchSetPos a0) := fun _ => rfl
theorem sweSet (a0 : Desc) : Statement (.sweSet a0) := fun _ => rfl
theorem sweHeadCal (a0 : Desc) : Statement (.sweHeadCal a0) := fun _ => rfl
theorem drvLoad (a0 : Desc) : Statement (.drvLoad a0) := fun _ => rfl
theorem drvSwap (a0 : Desc) : Statement (.drvSwap a0) := fun _ => rfl
theorem drvBind (a0 : Desc) : Statement (.drvBind a0) := fun _ => rfl
theorem drvParam (a0 : Desc) : Statement (.drvParam a0) := fun _ => rfl
theorem prfCreate (a0 : Desc) : Statement (.prfCreate a0) := fun _ => rfl
theorem prfSet (a0 : Desc) : Statement (.prfSet a0) := fun _ => rfl
theorem prfQueue (a0 : Desc) : Statement (.prfQueue a0) := fun _ => rfl
theorem prfStop (a0 : Desc) : Statement (.prfStop a0) := fun _ => rfl
theorem prfHome (a0 : Desc) : Statement (.prfHome a0) := fun _ => rfl
theorem gearCreate (a0 : Desc) : Statement (.gearCreate a0) := fun _ => rfl
theorem gearSet (a0 : Desc) : Statement (.gearSet a0) := fun _ => rfl
theorem solGang (a0 : Desc) : Statement (.solGang a0) := fun _ => rfl
theorem problemCreate (a0 : Desc) : Statement (.problemCreate a0) := fun _ => rfl
theorem problemBind (a0 : Desc) : Statement (.problemBind a0) := fun _ => rfl
theorem problemWrite (a0 : Desc) : Statement (.problemWrite a0) := fun _ => rfl
theorem plnBranchSet (a0 : Desc) : Statement (.plnBranchSet a0) := fun _ => rfl
theorem plnReplan (a0 : Desc) : Statement (.plnReplan a0) := fun _ => rfl
theorem grdKinSet (a0 : Desc) : Statement (.grdKinSet a0) := fun _ => rfl
theorem grdCapsuleSet (a0 : Desc) : Statement (.grdCapsuleSet a0) := fun _ => rfl
theorem grdStopSet (a0 : Desc) : Statement (.grdStopSet a0) := fun _ => rfl
theorem trackCreate (a0 : Desc) : Statement (.trackCreate a0) := fun _ => rfl
theorem zoneCreate (a0 : Desc) : Statement (.zoneCreate a0) := fun _ => rfl
theorem grdZoneSet (a0 : Desc) : Statement (.grdZoneSet a0) := fun _ => rfl
theorem pressOpen (a0 : Desc) : Statement (.pressOpen a0) := fun _ => rfl
theorem pressArm (a0 : Desc) : Statement (.pressArm a0) := fun _ => rfl
theorem pressAbort (a0 : Desc) : Statement (.pressAbort a0) := fun _ => rfl
theorem nodeCreate (a0 : Desc) : Statement (.nodeCreate a0) := fun _ => rfl
theorem nodeSet (a0 : Desc) : Statement (.nodeSet a0) := fun _ => rfl
theorem edgeSet (a0 : Desc) : Statement (.edgeSet a0) := fun _ => rfl
theorem flowCreate (a0 : Desc) : Statement (.flowCreate a0) := fun _ => rfl
theorem delayCreate (a0 : Desc) : Statement (.delayCreate a0) := fun _ => rfl
theorem delayArm (a0 : Desc) : Statement (.delayArm a0) := fun _ => rfl
theorem gscToken (a0 : Desc) : Statement (.gscToken a0) := fun _ => rfl
theorem gscWait (a0 : Desc) : Statement (.gscWait a0) := fun _ => rfl
theorem ringCreate (a0 : Desc) : Statement (.ringCreate a0) := fun _ => rfl
theorem eventRoute (a0 : Desc) : Statement (.eventRoute a0) := fun _ => rfl
theorem traceCreate (a0 : Desc) : Statement (.traceCreate a0) := fun _ => rfl
theorem traceSet (a0 : Desc) : Statement (.traceSet a0) := fun _ => rfl
theorem traceTrigger (a0 : Desc) : Statement (.traceTrigger a0) := fun _ => rfl
theorem traceRearm (a0 : Desc) : Statement (.traceRearm a0) := fun _ => rfl
theorem mboxCreate (a0 : Desc) : Statement (.mboxCreate a0) := fun _ => rfl
theorem hltDarn (a0 : Desc) : Statement (.hltDarn a0) := fun _ => rfl
theorem hltTest (a0 : Desc) : Statement (.hltTest a0) := fun _ => rfl
theorem fltAck (a0 : Desc) : Statement (.fltAck a0) := fun _ => rfl
theorem fltClearFaults (a0 : Desc) : Statement (.fltClearFaults a0) := fun _ => rfl
theorem fltClearQuarantine (a0 : Desc) : Statement (.fltClearQuarantine a0) := fun _ => rfl
theorem fltClearWarmStart (a0 : Desc) : Statement (.fltClearWarmStart a0) := fun _ => rfl
theorem secImageStageFw (a0 : Desc) : Statement (.secImageStageFw a0) := fun _ => rfl
theorem secImageRaiseFloor (a0 : Desc) : Statement (.secImageRaiseFloor a0) := fun _ => rfl
theorem secImageProvision (a0 : Desc) : Statement (.secImageProvision a0) := fun _ => rfl
theorem secImageField (a0 : Desc) : Statement (.secImageField a0) := fun _ => rfl
theorem secImageReturn (a0 : Desc) : Statement (.secImageReturn a0) := fun _ => rfl
theorem secImageReadCert (a0 : Desc) : Statement (.secImageReadCert a0) := fun _ => rfl
theorem secImageOwnerKey (a0 : Desc) : Statement (.secImageOwnerKey a0) := fun _ => rfl
theorem dbgOpen (a0 : Desc) : Statement (.dbgOpen a0) := fun _ => rfl
theorem dbgClose (a0 : Desc) : Statement (.dbgClose a0) := fun _ => rfl
theorem draverNop (a0 : Fin 18) (a1 : Bool) : Statement (.draverNop a0 a1) := fun _ => rfl
theorem add (a0 : Fin 18) (a1 : Bool) (a2 : Fin 32) (a3 : Fin 32) (a4 : Fin 32) : Statement (.add a0 a1 a2 a3 a4) := fun _ => rfl
theorem sub (a0 : Fin 18) (a1 : Bool) (a2 : Fin 32) (a3 : Fin 32) (a4 : Fin 32) : Statement (.sub a0 a1 a2 a3 a4) := fun _ => rfl
theorem addc (a0 : Fin 18) (a1 : Bool) (a2 : Fin 32) (a3 : Fin 32) (a4 : Fin 32) : Statement (.addc a0 a1 a2 a3 a4) := fun _ => rfl
theorem subc (a0 : Fin 18) (a1 : Bool) (a2 : Fin 32) (a3 : Fin 32) (a4 : Fin 32) : Statement (.subc a0 a1 a2 a3 a4) := fun _ => rfl
theorem adds (a0 : Fin 18) (a1 : Bool) (a2 : Fin 32) (a3 : Fin 32) (a4 : Fin 32) : Statement (.adds a0 a1 a2 a3 a4) := fun _ => rfl
theorem subs (a0 : Fin 18) (a1 : Bool) (a2 : Fin 32) (a3 : Fin 32) (a4 : Fin 32) : Statement (.subs a0 a1 a2 a3 a4) := fun _ => rfl
theorem and (a0 : Fin 18) (a1 : Bool) (a2 : Fin 32) (a3 : Fin 32) (a4 : Fin 32) : Statement (.and a0 a1 a2 a3 a4) := fun _ => rfl
theorem or (a0 : Fin 18) (a1 : Bool) (a2 : Fin 32) (a3 : Fin 32) (a4 : Fin 32) : Statement (.or a0 a1 a2 a3 a4) := fun _ => rfl
theorem xor (a0 : Fin 18) (a1 : Bool) (a2 : Fin 32) (a3 : Fin 32) (a4 : Fin 32) : Statement (.xor a0 a1 a2 a3 a4) := fun _ => rfl
theorem min (a0 : Fin 18) (a1 : Bool) (a2 : Fin 32) (a3 : Fin 32) (a4 : Fin 32) : Statement (.min a0 a1 a2 a3 a4) := fun _ => rfl
theorem max (a0 : Fin 18) (a1 : Bool) (a2 : Fin 32) (a3 : Fin 32) (a4 : Fin 32) : Statement (.max a0 a1 a2 a3 a4) := fun _ => rfl
theorem abs (a0 : Fin 18) (a1 : Bool) (a2 : Fin 32) (a3 : Fin 32) : Statement (.abs a0 a1 a2 a3) := fun _ => rfl
theorem shl (a0 : Fin 18) (a1 : Bool) (a2 : Fin 32) (a3 : Fin 32) (a4 : Fin 32) : Statement (.shl a0 a1 a2 a3 a4) := fun _ => rfl
theorem shr (a0 : Fin 18) (a1 : Bool) (a2 : Fin 32) (a3 : Fin 32) (a4 : Fin 32) : Statement (.shr a0 a1 a2 a3 a4) := fun _ => rfl
theorem shrl (a0 : Fin 18) (a1 : Bool) (a2 : Fin 32) (a3 : Fin 32) (a4 : Fin 32) : Statement (.shrl a0 a1 a2 a3 a4) := fun _ => rfl
theorem cmp (a0 : Fin 18) (a1 : Bool) (a2 : Fin 32) (a3 : Fin 32) : Statement (.cmp a0 a1 a2 a3) := fun _ => rfl
theorem addi (a0 : Fin 18) (a1 : Bool) (a2 : Fin 32) (a3 : Fin 32) (a4 : BitVec 16) : Statement (.addi a0 a1 a2 a3 a4) := fun _ => rfl
theorem andi (a0 : Fin 18) (a1 : Bool) (a2 : Fin 32) (a3 : Fin 32) (a4 : BitVec 16) : Statement (.andi a0 a1 a2 a3 a4) := fun _ => rfl
theorem ori (a0 : Fin 18) (a1 : Bool) (a2 : Fin 32) (a3 : Fin 32) (a4 : BitVec 16) : Statement (.ori a0 a1 a2 a3 a4) := fun _ => rfl
theorem shli (a0 : Fin 18) (a1 : Bool) (a2 : Fin 32) (a3 : Fin 32) (a4 : BitVec 6) : Statement (.shli a0 a1 a2 a3 a4) := fun _ => rfl
theorem shri (a0 : Fin 18) (a1 : Bool) (a2 : Fin 32) (a3 : Fin 32) (a4 : BitVec 6) : Statement (.shri a0 a1 a2 a3 a4) := fun _ => rfl
theorem movlo (a0 : Fin 18) (a1 : Bool) (a2 : Fin 32) (a3 : BitVec 16) : Statement (.movlo a0 a1 a2 a3) := fun _ => rfl
theorem movhi (a0 : Fin 18) (a1 : Bool) (a2 : Fin 32) (a3 : Fin 32) (a4 : BitVec 16) : Statement (.movhi a0 a1 a2 a3 a4) := fun _ => rfl
theorem cmpi (a0 : Fin 18) (a1 : Bool) (a2 : Fin 32) (a3 : BitVec 16) : Statement (.cmpi a0 a1 a2 a3) := fun _ => rfl
theorem mul (a0 : Fin 18) (a1 : Bool) (a2 : Fin 4) (a3 : Fin 32) (a4 : Fin 32) : Statement (.mul a0 a1 a2 a3 a4) := fun _ => rfl
theorem mac (a0 : Fin 18) (a1 : Bool) (a2 : Fin 4) (a3 : Fin 32) (a4 : Fin 32) : Statement (.mac a0 a1 a2 a3 a4) := fun _ => rfl
theorem msu (a0 : Fin 18) (a1 : Bool) (a2 : Fin 4) (a3 : Fin 32) (a4 : Fin 32) : Statement (.msu a0 a1 a2 a3 a4) := fun _ => rfl
theorem clra (a0 : Fin 18) (a1 : Bool) (a2 : Fin 4) : Statement (.clra a0 a1 a2) := fun _ => rfl
theorem mvga (a0 : Fin 18) (a1 : Bool) (a2 : Fin 4) (a3 : Fin 32) (a4 : BitVec 7) : Statement (.mvga a0 a1 a2 a3 a4) := fun _ => rfl
theorem mvgp (a0 : Fin 18) (a1 : Bool) (a2 : Fin 4) (a3 : Fin 32) (a4 : Fin 32) (a5 : BitVec 7) : Statement (.mvgp a0 a1 a2 a3 a4 a5) := fun _ => rfl
theorem adda (a0 : Fin 18) (a1 : Bool) (a2 : Fin 4) (a3 : Fin 4) : Statement (.adda a0 a1 a2 a3) := fun _ => rfl
theorem sha (a0 : Fin 18) (a1 : Bool) (a2 : Fin 4) (a3 : BitVec 7) : Statement (.sha a0 a1 a2 a3) := fun _ => rfl
theorem rnd (a0 : Fin 18) (a1 : Bool) (a2 : Fin 32) (a3 : Fin 4) (a4 : BitVec 6) : Statement (.rnd a0 a1 a2 a3 a4) := fun _ => rfl
theorem ext (a0 : Fin 18) (a1 : Bool) (a2 : Fin 32) (a3 : Fin 4) (a4 : BitVec 6) : Statement (.ext a0 a1 a2 a3 a4) := fun _ => rfl
theorem rpt (a0 : Fin 18) (a1 : Bool) (a2 : Fin 64) (a3 : Bool) (a4 : Fin 32) (a5 : Fin 4096) : Statement (.rpt a0 a1 a2 a3 a4 a5) := fun _ => rfl
theorem ld (a0 : Fin 18) (a1 : Bool) (a2 : Fin 32) (a3 : Fin 8) (a4 : Bool) (a5 : BitVec 16) (a6 : Fin 7) : Statement (.ld a0 a1 a2 a3 a4 a5 a6) := fun _ => rfl
theorem st (a0 : Fin 18) (a1 : Bool) (a2 : Fin 32) (a3 : Fin 8) (a4 : Bool) (a5 : BitVec 16) : Statement (.st a0 a1 a2 a3 a4 a5) := fun _ => rfl
theorem ldc (a0 : Fin 18) (a1 : Bool) (a2 : Fin 32) (a3 : Fin 8) (a4 : Bool) (a5 : BitVec 16) (a6 : Fin 7) : Statement (.ldc a0 a1 a2 a3 a4 a5 a6) := fun _ => rfl
theorem ftm (a0 : Fin 18) (a1 : Bool) (a2 : Fin 4) (a3 : Fin 8) (a4 : Fin 8) (a5 : Bool) (a6 : Bool) (a7 : BitVec 8) (a8 : BitVec 8) (a9 : Fin 7) : Statement (.ftm a0 a1 a2 a3 a4 a5 a6 a7 a8 a9) := fun _ => rfl
theorem mvpa (a0 : Fin 18) (a1 : Bool) (a2 : Fin 8) (a3 : BitVec 16) : Statement (.mvpa a0 a1 a2 a3) := fun _ => rfl
theorem mvpl (a0 : Fin 18) (a1 : Bool) (a2 : Fin 8) (a3 : BitVec 14) : Statement (.mvpl a0 a1 a2 a3) := fun _ => rfl
theorem mvsg (a0 : Fin 18) (a1 : Bool) (a2 : Fin 32) (a3 : Fin 16) : Statement (.mvsg a0 a1 a2 a3) := fun _ => rfl
theorem mvgs (a0 : Fin 18) (a1 : Bool) (a2 : Fin 16) (a3 : Fin 32) : Statement (.mvgs a0 a1 a2 a3) := fun _ => rfl
theorem b (a0 : Fin 18) (a1 : Bool) (a2 : Fin 16) (a3 : BitVec 13) : Statement (.b a0 a1 a2 a3) := fun _ => rfl
theorem bl (a0 : Fin 18) (a1 : Bool) (a2 : BitVec 13) : Statement (.bl a0 a1 a2) := fun _ => rfl
theorem j (a0 : Fin 18) (a1 : Bool) (a2 : Fin 16) (a3 : Fin 32) : Statement (.j a0 a1 a2 a3) := fun _ => rfl
theorem exit (a0 : Fin 18) (a1 : Bool) : Statement (.exit a0 a1) := fun _ => rfl
theorem gemm (a0 : Fin 192) (a1 : KRec) (a2 : Fin 3) (a3 : Fin 4) (a4 : BitVec 16) : Statement (.gemm a0 a1 a2 a3 a4) := fun _ => rfl
theorem syrk (a0 : Fin 192) (a1 : KRec) : Statement (.syrk a0 a1) := fun _ => rfl
theorem gemv (a0 : Fin 192) (a1 : KRec) : Statement (.gemv a0 a1) := fun _ => rfl
theorem ldl (a0 : Fin 192) (a1 : KRec) : Statement (.ldl a0 a1) := fun _ => rfl
theorem ldlsolve (a0 : Fin 192) (a1 : KRec) : Statement (.ldlsolve a0 a1) := fun _ => rfl
theorem axpby (a0 : Fin 192) (a1 : KRec) : Statement (.axpby a0 a1) := fun _ => rfl
theorem clamp (a0 : Fin 192) (a1 : KRec) : Statement (.clamp a0 a1) := fun _ => rfl
theorem recip (a0 : Fin 192) (a1 : KRec) : Statement (.recip a0 a1) := fun _ => rfl
theorem dot (a0 : Fin 192) (a1 : KRec) : Statement (.dot a0 a1) := fun _ => rfl
theorem copy (a0 : Fin 192) (a1 : KRec) : Statement (.copy a0 a1) := fun _ => rfl
theorem greduce (a0 : Fin 192) (a1 : KRec) : Statement (.greduce a0 a1) := fun _ => rfl
theorem capdist (a0 : Fin 192) (a1 : KRec) : Statement (.capdist a0 a1) := fun _ => rfl
theorem repeatRecs (a0 : Fin 192) (a1 : KRec) (a2 : List KRec) : Statement (.repeatRecs a0 a1 a2) := fun h => Bool.noConfusion h
theorem mdatMclkOutput (a0 : Fin 8) : Statement (.mdatMclkOutput a0) := fun _ => rfl
theorem perstNRelease : Statement (.perstNRelease) := fun _ => rfl
theorem resetNRelease : Statement (.resetNRelease) := fun _ => rfl
theorem supervisorMemoryError (a0 : Fin 4) : Statement (.supervisorMemoryError a0) := fun _ => rfl
theorem ptpMessageTx (a0 : Fin 4) (a1 : PtpMsg) : Statement (.ptpMessageTx a0 a1) := fun _ => rfl
theorem ethGateInterval (a0 : Fin 4) : Statement (.ethGateInterval a0) := fun _ => rfl
theorem registerReadClear (a0 : Fin 64) (a1 : RegRead) : Statement (.registerReadClear a0 a1) := fun _ => rfl
theorem msixVectorUnmask (a0 : Fin 16) (a1 : Fin 64) : Statement (.msixVectorUnmask a0 a1) := fun _ => rfl

end Sys2Proof.Laws.Wf
end

