-- ==== Sys2Proof/Tests/Slice0.lean ====
section
/-!
SUPPORT. Tests: states and operands that meet the hypotheses of each statement of Certificates/Slice0/Obligations.lean, clause by clause;
results that the manual's worked examples give; and operands that wellFormed refuses.
-/
set_option Elab.async false
namespace Sys2Proof.Tests
open Sys2Proof Sys2Proof.Machine

/-! ### States -/


/-- A device out of reset whose control clock does not run yet, so that no time passes between commands. -/
def w0 : State := { State.reset with md := { State.reset.md with held := false, off := false, mode := .run, stage := 1 } }
/-- The state in which an event finds a device whose clock does not run. -/
def seen (s : State) : State := { s with free := s.free + 1 }
/-- w0 held in reset. -/
def wHeld : State := { w0 with md := { w0.md with held := true } }
def inMode (m : Mode) (s : State) : State := { s with md := { s.md with mode := m } }
def withServo (v : Servo) (n : Nat) (s : State) : State := { s with time := { s.time with servo := v, lockCount := n } }
/-- Bytes of a number, the highest first. -/
def be (n v : Nat) : List Byte := (List.range n).reverse.map fun i => BitVec.ofNat 8 (v / 256 ^ i)
/-- A live object of a class at an index. -/
def live (c i : Nat) (s : State) : State := { s with objs := mput s.objs (objKey c i) { gen := 1, creator := 0 } }

/-- A servo in LOCKING on port 0 as a slave, 15 offsets in. -/
def wServo : State := withServo .locking 15 (setReg (setReg w0 0x50000 1) 0x40000 1)
/-- Publication source 0 of stream 7 on port 0. -/
def wPub : State :=
  let x : LineSrc := { pub := true, stream := 7, group := 5, ports := 1, lastSeq := some 8 }
  live cLINESRC 0 { withServo .locked 0 w0 with srcs := [(0, x)] }
def pubFrame : List Byte := be 4 0x4C505542 ++ be 4 0x01000007 ++ be 4 9 ++ be 36 0
/-- The guard runs with stream block 0 enabled for stream 3. -/
def wTrack : State :=
  let s := setReg (setReg (withServo .locked 0 w0) 0x210048 (47000 + 65536)) 0x210100 (1 + 3 * 65536)
  { s with grd := { s.grd with running := true, streams := [(0, { seq := some 5 })] } }
def trackBody : List Byte := be 4 0x4754524B ++ be 4 0x01000003 ++ be 4 6 ++ be 20 0
def trackFrame : List Byte := trackBody ++ be 4 (crc32 trackBody)

def onMd (f : ModSt → ModSt) (s : State) : State := { s with md := f s.md }
def onTime (f : TimeSt → TimeSt) (s : State) : State := { s with time := f s.time }
def onHost (f : HostSt → HostSt) (s : State) : State := { s with host := f s.host }
def onPins (f : PinSt → PinSt) (s : State) : State := { s with pins := f s.pins }
/-- w0 with the host's link up. -/
def wHost : State := onHost (fun h => { h with linkUp := true, crs := false }) w0
/-- DIN 0's bank is powered. -/
def wDin : State := onPins (fun p => { p with banks := 4 }) w0
/-- Boot has stopped at a stage with a cause, and the host reaches the MOD window. -/
def wBoot (stage fail : Nat) : State := onMd (fun m => { m with stage := stage, fail := fail }) (inMode .boot wHost)
/-- A descriptor of pair 0 from PF0, accepted. -/
def acc0 (op : Nat) (d : Desc) : Acc := { op := op, d := d, pair := 0, pos := 0, req := 32 }
def onCnv (f : CnvSt → CnvSt) (s : State) : State := { s with cnv := f s.cnv }
/-- Port 0 in a state, its two lanes and CRC enabled. -/
def wPort (x : RPort) : State := { setReg w0 0x60000 15 with ryl := [(0, x)] }
/-- An uplink frame whose cells carry no valid CRC-8, as it arrives. -/
def upFrame : List Byte :=
  let b := List.replicate 115 (0 : Byte)
  scramble (b ++ leBytes 4 (crc32 b))
/-- A RYL_HEAD_CYCLIC of one word, sent in one servo tick or in two in a row, of head position 8. -/
def cyc0 (both : Bool) : CycJob := { acc := acc0 0x0300 { ring := 0 }, first := 2, count := 1, sent := [(2, (0, both))] }
def wJob (both : Bool) : State := wPort { heads := [(8, { jobs := [cyc0 both] })] }
def svcReq (tries : Nat) (u : SvcFor) : SvcReq := { dest := 1, op := 0, reg := 0, data := 0, mask := 0, use := u, tries := tries }
/-- Converter 0 is enabled, its regular group has channel 0, its trigger sources are software's. -/
def wConv : State :=
  let s := setReg (setReg (setReg w0 0x80100 1) 0x8010C 2) 0x80110 2
  { s with cnv := { s.cnv with refReady := true, refSince := some 0, convs := [(0, { groups := [(0, [0]), (1, [0])] })] } }
/-- A sample of channel 0 that is in the pipeline of converter 0. -/
def flight0 : InFlight := { chan := 0, handle := handleOf w0 cCCHAN 0, entry := 0, cfg := {}, settle := false, at_ := 0 }
/-- Instance 0 of a class is retired. -/
def wRetired (c : Nat) (s : State) : State := { s with hlt := { s.hlt with insts := [(origin (tyOf c) 0, { code := 3 })] } }
/-- Three converters are enabled and the plausibility check takes the first. -/
def wCheck : State := onCnv (fun c => { c with refReady := true }) (setReg (setReg (setReg (setReg w0 0x80100 1) 0x80140 1) 0x80300 1) 0x80010 17)
/-- Channel 0 is a live input-clocked channel of modulator 0. -/
def wMdat : State :=
  let x : Cchan := { cfg := { source := 2, osr := 32 }, dec := { since := 32 } }
  live cCCHAN 0 { setReg w0 0x90010 0 with cchans := [(0, x)] }
/-- A core's graph context. -/
def wCtx (x : DCtx) : State := { w0 with drv := [(0, { graph := x })] }
/-- A core with one loop to run. -/
def wLoops : State := { w0 with drv := [(0, { queue := [0] })] }
/-- A core whose loop of slot 0 is live and in a phase. -/
def wSlot (ph dn frame : Nat) : State :=
  onTime (fun t => { t with frame := frame }) { w0 with drv := [(0, { slots := [(0, { live := some 0, phase := ph, doneAt := dn, pubAt := 12 })] })] }
/-- Joint 0 of arm 0, a stepper, at position 1 of port 0, and its arm in region 2. -/
def joint0 : Joint := { arm := 0, stepper := true, port := 0, pos := 1, fbch := none, scale := {}, swch := 0 }
def wArm (st : RegionState) (s : State) : State :=
  live cJOINT 0 (live cARM 0 { s with joints := [(0, joint0)], arms := [(0, { region := 2, aux := false })], regions := [(2, { st := st })] })
def onDue (f : Due → Due) (s : State) : State := { s with due := f s.due }
def onGrd (f : GrdSt → GrdSt) (s : State) : State := { s with grd := f s.grd }
def onSol (f : SolSt → SolSt) (s : State) : State := { s with sol := f s.sol }
def atFrame (n : Nat) (s : State) : State := onTime (fun t => { t with frame := n }) s
/-- A PLAN gang of one lane that runs problem 0. -/
def wRun : State := { onSol (fun x => { x with gangs := [(0, { role := 1, run := some { problem := 0, base := 0, issued := true } })] }) w0 with problems := [(0, {})] }
/-- Problem 0 waits on a PLAN gang of one lane at frame START. -/
def wLeft : State :=
  atFrame (solStart w0) { onSol (fun x => { x with gangs := [(0, { role := 1, left := [(0, 16)] })] }) w0 with problems := [(0, { vinit := List.replicate 16 3 })] }
/-- Lane 3 was lost in plan tick 0, and plan tick 2 begins. -/
def wLost : State := atFrame 2560 { w0 with pln := { w0.pln with lost := [(0, 3)] } }
/-- Slot 3 holds a press. -/
def wPress (p : Press) : State := { w0 with presses := [(3, p)] }
/-- The press of slot 3 is due in frame 5. -/
def wDue (p : Press) : State := onDue (fun d => { d with presses := [3] }) (atFrame 5 (wPress { p with phase := .ready, commit := some 5 }))
def onGsc (f : GscSt → GscSt) (s : State) : State := { s with gsc := f s.gsc }
/-- Node 0 is in a state; placements run. -/
def wNode (n : Node) : State := live cNODE 0 (onGsc (fun g => { g with nodes := [(0, n)] }) (setReg w0 0x230000 1))
def onFlt (f : FltSt → FltSt) (s : State) : State := { s with flt := f s.flt }
def onHlt (f : HltSt → HltSt) (s : State) : State := { s with hlt := f s.hlt }
def onMem (f : MemSt → MemSt) (s : State) : State := { s with mem := f s.mem }
def ev0 : EventRec := { wall := 0, code := 1, cls := 2, flags := 0, handle := 0, line := 0, count := 1, detail := 0 }
/-- A Lint Trap entry whose window ends at 1. -/
def lint0 (n : Nat) : Lint := { origin := 1, code := 1, cls := 2, count := 1, window := n, ends := 1, last := ev0 }
def wLint (n : Nat) : State := onTime (fun t => { t with elapsed := 1 }) (onFlt (fun f => { f with lint := [(255, lint0 n)] }) w0)
/-- Supervisor cores in quarantine, core 0 under test. -/
def wSup (l : List Nat) : State := onFlt (fun f => { f with sup := l.map fun n => (n, { quarantined := true, test := 1 }) }) (setReg w0 0x260000 1)
def test0 (spare : Option Nat) (blame : Option Nat) (met : Nat) (diff : Bool) : TestRun :=
  { cls := 4, inst := 16, spare := spare, acc := none, blame := blame, met := met, need := 5, diff := diff }
def wTest (t : TestRun) : State := onHlt (fun h => { h with tests := [t] }) w0
def darn0 : DarnReq := { cls := 4, worn := 3, failed := false }
def wDarn : State := atFrame 1 (onHlt (fun h => { h with queue := [darn0] }) w0)
/-- Pair 0 of PF0 is UP, with two descriptors available and a read under way. -/
def ring0 : Ring := { st := .up, log2a := 4, log2c := 4, sqTail := 2, fetching := true }
def wRing (r : Ring) : State := onHost (fun h => { h with rings := [(0, r)], busMaster := [(0, 0)] }) wHost
/-- Event ring 0 of PF0 is UP. -/
def wEvent : State := onHost (fun h => { h with rings := [(256, { st := .up, log2a := 4 })] }) wHost
def box0 : Mbox := { shared := true, receiver := 20, sender := 0, arrive := false }
def wBox (b : Mbox) : State := live cMBOX 0 { w0 with mbx := { w0.mbx with boxes := [(0, b)] } }
/-- Mailbox 0 has been emptied in this cycle, while the clock runs; requester 19 may wait on it. -/
def wEmptied (ws : List Waiting) : State :=
  onMd (fun m => { m with stage := 6 }) { wBox box0 with mbx := { boxes := [(0, { box0 with deliverDue := some (instant w0) })], waits := ws } }
def wait0 : Waiting := { req := 19, mbox := 0, words := [], notify := false, since := 0 }
/-- Mailboxes 0 and 1 are crossed since 0, and 4 µs have passed. -/
def wCross : State :=
  let b (r : Nat) : Mbox := { box0 with receiver := r, full := true }
  let w (r n : Nat) : Waiting := { req := r, mbox := n, words := [], notify := false, since := 0 }
  onTime (fun t => { t with elapsed := 4 * usU }) { w0 with mbx := { w0.mbx with boxes := [(0, b 19), (1, b 20)], waits := [w 20 0, w 19 1] } }
/-- The line of core 0's image copy in device DRAM is poisoned, and that of the kept problem block. -/
def wPoison (s : State) : State := onMem (fun m => { m with poisoned := [Config.imageCopy 0 / 64, Config.blockCopy 256 / 64] }) s
theorem memPoisoned_of_mem (s : State) (c n : Nat) (h : s.mem.poisoned.contains (c / 64) = true) (p : 0 < n) : memPoisoned s c n = true := by
  simp only [memPoisoned, List.any_eq_true]
  exact ⟨c / 64, by simpa using h, by simp; omega⟩
/-- SUBMIT node 0 is in flight, its template at address 0 and its ring the admin pair of PF0, which is UP. -/
def wSubmit (r : Ring) : State :=
  { wNode { st := .inFlight, op := 5, args := handleOf w0 cRING 0 * 2 ^ 160 } with host := (wRing r).host }
/-- The row of a register. -/
def rowOf (off : Nat) : RegRow := (regRow off).getD { base := 0, stride := 0, count := 0, reset := 0, fields := [], rc := false, perReq := false, who := 0, pair := 0 }
def onSec (f : SecSt → SecSt) (s : State) : State := { s with sec := f s.sec }
/-- Session 1 is open at level 2 over every region. -/
def wDbg : State := onSec (fun x => { x with sessions := [(1, { level := 2, regions := 0xFFFF, ends := none })] }) wHost
/-- Pair 0 of PF0 is UP and empty. -/
def wUp : State := wRing { st := .up, log2a := 4, log2c := 4 }
/-- Payload fields: first descriptor byte, count, value. -/
def pay (l : List (Nat × Nat × Nat)) : BitVec 384 := BitVec.ofNat 384 (l.foldl (fun v f => v + f.2.2 % 256 ^ f.2.1 * 256 ^ (f.1 - 16)) 0)
/-- A descriptor of pair 0. -/
def desc (target : Nat) (l : List (Nat × Nat × Nat)) : Desc := { ring := 0, target := BitVec.ofNat 32 target, payload := pay l }
/-- A scale record of a kind with a full scale, a gain and, for a joint, a ratio. -/
def scl (k : Nat) : Nat := k + 5 * 2 ^ 32 + 7 * 2 ^ 96 + (if k = 3 then 3 * 2 ^ 128 else 0)
/-- Channel 0 takes stream 0 of head position 1 of port 0. -/
def wChan : State := live cCCHAN 0 { wArm .safeOff w0 with cchans := [(0, { cfg := { source := 1, tag := 1, unit := 0, input := 1, osr := 64 } })], joints := [], objs := [(objKey cARM 0, { gen := 1, creator := 0 })] }
def on1 (c : Nat) (f : State → State) : State := live c 0 (f w0)
/-- A stepper at position 1 of port 0 with both of its winding currents and its bus voltage. -/
def wWind : State :=
  let ch (st k : Nat) : Cchan := { cfg := { source := 1, input := 1 + 16 * st, flags := 2, osr := 64 }, scale := { kind := k, fullScale := 5, gain := 7 } }
  live cCCHAN 2 (live cCCHAN 1 (live cCCHAN 0 { wArm .safeOff w0 with cchans := [(0, ch 0 1), (1, ch 1 1), (2, ch 3 2)] }))
/-- Profile 0 of joint 0, its region in SERVICE. -/
def wHome : State := live cPROFILE 0 { wArm .service w0 with profiles := [(0, { joint := some 0 })] }
/-- Problem 0 of some cycles beside a PLAN gang of one lane. -/
def wProb (n : Nat) : State := live cPROBLEM 0 { onSol (fun x => { x with gangs := [(0, { role := 1 })] }) w0 with problems := [(0, { cycles := n })] }
def delay0 : Delay := { wall := false, periodic := false, port := 0, node := 0, period := 0 }
/-- Delay 0 of node 0. -/
def wDelay : State := live cDELAY 0 (onGsc (fun g => { g with delays := [(0, delay0)] }) (wNode { inMask := 1 }))
def trace0 (st : Nat) : Trace := { source := 10, sel := 0, decim := 0, log2 := 12, object := 0, cont := false, pre := 0, trig := 1, group := 0, thresh := 0, key := 0, base := 0, st := st }
def wTrace (st : Nat) : State := live cTRACE 0 (onMem (fun m => { m with traces := [(0, trace0 st)] }) w0)
/-- Region 2 in a state. -/
def wReg (st : RegionState) : State := { w0 with regions := [(2, { st := st })] }
/-- A MODE_SET is due alone in a mode. -/
def wMode (m : Mode) (d : Desc) : State := onHost (fun h => { h with imm := [acc0 0x0110 d] }) (inMode m w0)
/-- The handle of the press of slot 3. -/
def hPress : Nat := handleOf w0 cPRESS 3
def quar0 (k : Nat) : Quarantine := { origin := 0x20003, handle := 0, kind := k }
/-- Instance 3 of an origin's kind is in quarantine, its supervisor test at a point. -/
def wQuar (k t : Nat) : State := onFlt (fun f => { f with quarantines := [quar0 k], sup := [(3, { quarantined := true, test := t })] }) w0
/-- Pair 0 is UP in PREPARE, with some security state. -/
def wPrep (f : SecSt → SecSt) : State := onSec f (inMode .prepare wUp)
/-- Every spare stands ready and has failed. -/
def spent : Map Inst := [1, 2, 3, 4, 5].flatMap fun c => (List.range (instances c - firstSpare c)).map fun i => (origin (tyOf c) (firstSpare c + i), { code := 1, failed := true })
def spentInst (c i : Nat) : Inst := mgetD spent (origin (tyOf c) i) { code := if firstSpare c ≤ i then 1 else 0 }
theorem spent_fails (c : Nat) : ∀ i, i < instances c → (spentInst c i).code = 1 → (spentInst c i).failed = true :=
  match c with
  | 0 => by decide +kernel
  | 1 => by decide +kernel
  | 2 => by decide +kernel
  | 3 => by decide +kernel
  | 4 => by decide +kernel
  | _ + 5 => (by decide +kernel : ∀ i, i < instances 5 → (spentInst 5 i).code = 1 → (spentInst 5 i).failed = true)
theorem testable_spent (s : State) (h : s.hlt.insts = spent) (c i : Nat) : testable s c i = false := by
  have e (j : Nat) : instAt s c j = spentInst c j := by simp [instAt, spentInst, h]
  have r : sparesReady s c = [] := by
    simp only [sparesReady, List.filter_eq_nil_iff, List.mem_range, e]
    intro j hj
    by_cases k : (spentInst c j).code = 1
    · simp [spent_fails c j hj k]
    · simp [k]
  unfold testable
  by_cases hi : i < instances c
  · by_cases k : (spentInst c i).code = 1
    · simp [e, k, spent_fails c i hi k]
    · simp [e, k, r]
  · simp [hi]
theorem findTest_spent (s : State) (h : s.hlt.insts = spent) : ∀ n x, findTest n s x = none
  | 0, _ => rfl
  | n + 1, x => by simp [findTest, testable_spent s h, findTest_spent s h n]
/-- A signature record of a signer that carries zeros. -/
def sig0 (signer : Nat) : List Byte := leBytes 4 0x31474953 ++ leBytes 1 signer ++ List.replicate 107 0
/-- An envelope of a kind around 16 bytes of zeros. -/
def envl (kind signer : Nat) : List Byte :=
  leBytes 4 0x4D49434B ++ leBytes 2 1 ++ leBytes 1 kind ++ leBytes 1 0 ++ leBytes 4 16 ++ List.replicate 68 0 ++ sig0 signer
/-- A block of one record, with a cycle count. -/
def block1 (cycles : Nat) : List Byte :=
  leBytes 4 0x424F5250 ++ leBytes 2 1 ++ leBytes 2 1 ++ leBytes 4 0 ++ leBytes 2 1 ++ leBytes 2 0 ++ leBytes 4 128 ++ leBytes 4 0 ++
    leBytes 4 128 ++ leBytes 4 4 ++ leBytes 4 0 ++ leBytes 4 (4 * 65536) ++ leBytes 4 1 ++ leBytes 4 cycles ++ List.replicate 64 0 ++
    leBytes 4 0 ++ leBytes 4 144 ++ leBytes 8 0 ++
    leBytes 4 1 ++ leBytes 4 65537 ++ leBytes 8 1 ++ sig0 0
/-- A problem block of 256 bytes is on its way. -/
def wCreate : State := onSol (fun x => { x with creates := [acc0 0x0901 (desc 0 [(24, 4, 256)])] }) w0

/-! ### Words that the manual writes out: its worked examples -/

/-- Chapters 1, 13, 15 and 17: handles of joints 15 and 26, of region 1, of a press in slot 3, of mailbox 4 and of event ring 256. -/
theorem test_handles :
    mkHandle cJOINT 15 1 = 0x0C003C01 ∧ mkHandle cJOINT 26 1 = 0x0C006801 ∧ mkHandle cREGION 1 1 = 0x04000401 ∧
      mkHandle cPRESS 3 41 = 0x34000C29 ∧ mkHandle cMBOX 4 1 = 0x3C001001 ∧ mkHandle cRING 256 1 = 0x38040001 := by decide

/-- Chapter 3: what position 5 of RYL4 is sent after training with 184 slots: EPOCH, UPASS and S of both lanes. -/
theorem test_headWindows :
    epochOf 184 (225 * 8000000) = 112 ∧ epochOf 184 (200 * 8000000) = 120 ∧ upassOf 184 (55625 * 80000) = -6 ∧
      upassOf 184 (63125 * 80000) = 18 ∧ windowOf 184 5 (55625 * 80000) = -6 ∧ windowOf 184 5 (63125 * 80000) = -3 := by decide

/-- Chapter 4: 5 A of 40 A from TAG 5, clean and with SETTLE. -/
theorem test_dmaWord : resultWord 0x100000 false false false 5 = 0x10000005 ∧ resultWord 0x100000 true false false 5 = 0x10000085 := by decide

/-- Chapter 5: joint 3 of arm 2 at a count of 1 234 567 and 25 000 counts/s: position, speed, electrical angle. -/
theorem test_jointPosition :
    let x : Fbch := { cfg := { type := 1, cpi := 8192, angleOff := 0x4000 }, count := 1234567, speed := (25000, 1) }
    let sc : Scale := { kind := 3, fullScale := 8192, offset := 0, gain := 0x40000000, ratio := 101 * 65536, polePairs := 5 }
    jointPosOf x sc = 0x17DFB7C33 ∧ jointVelOf x sc = 0x0007BC33 ∧ angleOf x sc = 0xC5180000 := by decide +kernel

/-- The loops of core D9 in chapter 7. -/
def bankD9 : DBank :=
  let l (w : Nat) : DrvLoop := { init := 0, alert := 0, run := 1, w := w, reinit := false }
  { loops := [(0, l 1800), (1, l 1800), (2, l 1800), (3, l 1400), (4, l 1400), (5, l 1400)] }
def wD9 : State := { w0 with drv := [(9, { bankA := bankD9, slots := (List.range 6).map fun k => (k, { joint := some k }) })] }
/-- Chapter 7: the publish frames of D9's slots and its budget. -/
theorem test_publishFrames : (List.range 6).map (Machine.pubFrame wD9 9 bankD9) = [27, 42, 57, 69, 81, 93] ∧ budgetUsed wD9 9 = 10872 := by decide +kernel

/-- Chapter 10: the twenty records of the nominal branch of arm 2 take 185 936 cycles. -/
theorem test_problemCycles :
    let r (kern m n k : Nat) : KRec := { kernel := BitVec.ofNat 8 kern, m := BitVec.ofNat 16 m, n := BitVec.ofNat 16 n, k := BitVec.ofNat 16 k }
    recCycles 1024
      [r 0x0A 288 0 0, r 0x0D 12 17 0, r 0x0D 16 8 0, r 1 12 6 12, r 1 6 6 12, r 4 6 0 0, r 5 6 13 0, r 1 12 12 12, r 1 12 12 12,
       r 1 12 12 6, r 3 12 0 13, r 0x0D 16 3 0, r 3 12 0 18, r 3 6 0 13, r 7 6 0 0, r 6 288 0 0, r 6 288 0 0, r 6 288 0 0,
       r 7 288 0 0, r 9 288 0 0] 1 = 185936 := by decide +kernel

/-- Chapter 11: a join that is 2 · 10^-8 rev off: ± 596.046 rev/s³. -/
theorem test_joinJerks : stepJerks 0 0 0 368934881474 0 0 = (0x02540BE4, -0x02540BE4, 0x02540BE4) := by decide +kernel

/-- Chapter 16: the Draver cores' map before and after the darn of D9 onto D16. -/
theorem test_careMap :
    leNat (careMap w0 0x0F 18) = 0x500000000 ∧
      leNat (careMap (onHlt (fun h => { h with insts := [(origin 0x0F 9, { code := 3 }), (origin 0x0F 16, { code := 2 })] }) w0) 0x0F 18) =
        0x6000C0000 := by decide +kernel

/-- Chapter 17: PF0 and core 2 read free lock 7 in one cycle with its pointer at 22: PF0 reads 0 and gets it, the core reads its holder 32, and the pointer moves to 33. -/
theorem test_lockContest :
    let s := lockRead { w0 with mbx := { w0.mbx with rot := [(7, 22)] } } 32 (2 ^ 21) 7
    s.host.readBack = [(21, 32), (32, 0)] ∧ lockAt s 7 = 32 ∧ s.mbx.rot = [(7, 33)] := by decide +kernel

/-! ### One step -/

/-- What a step from a queue of one command leaves of interest. -/
def after {α : Type} (s : State) (c : Instr) (f : State → α) : Option α :=
  match step { s with pending := [c] } with
  | .next t => some (f t)
  | _ => none

/-- R212: an addition wraps, and a saturating one does not. -/
theorem test_addWraps :
    after (wCtx { g := [0, 0xFFFFFFFF, 1, 7] }) (.add 0 true 3 1 2) (fun t => gAt (drvAt t 0).graph 3) = some 0 := by decide +kernel
theorem test_addsSaturates :
    after (wCtx { g := [0, 0x7FFFFFFF, 1, 7] }) (.adds 0 true 3 1 2) (fun t => gAt (drvAt t 0).graph 3) = some 0x7FFFFFFF := by decide +kernel
/-- R22, R23: a pin and a resume in one frame: SAFE_OFF ranks higher, and the resume completes with MODE. -/
theorem test_safeOffOutranks :
    let x := acc0 0x0101 (desc (mkHandle cREGION 2 1) [])
    settleRegion (wReg .hold) 2 .hold [{ target := .active, acc := some x }, { target := .safeOff }] =
      complete (setRegionState (wReg .hold) 2 .safeOff 250) x stMODE 0 0 := by decide +kernel

/-! ### Operands that the hardware cannot be sent -/

theorem test_shortUplinkFrame :
    wellFormed (.rylUplinkFrame 0 0 0 (List.replicate 118 0)) = false ∧
      exec (.rylUplinkFrame 0 0 0 (List.replicate 118 0)) w0 = .refused .illFormed := ⟨by decide, rfl⟩
theorem test_emptyFetch : wellFormed (.sqFetchDone 0 []) = false ∧ exec (.sqFetchDone 0 []) w0 = .refused .illFormed := ⟨by decide, rfl⟩
theorem test_emptyRepeat : wellFormed (.repeatRecs 0 {} []) = false ∧ exec (.repeatRecs 0 {} []) w0 = .refused .illFormed := ⟨by decide, rfl⟩

/-! ### States and operands that meet the hypotheses of each statement -/

theorem witness_StepRunsTheFrontCommand :
    ∃ (s : State), s.pending = [] :=
  ⟨w0, by decide +kernel⟩

theorem witness_WellFormedCommandsComplete :
    (∃ (c : Instr), wellFormed c = true) ∧
    (∃ (c : Instr), wellFormed c = false) :=
  ⟨⟨.servoTickBoundary, by decide +kernel⟩,
   ⟨.sqFetchDone 0 [], by decide +kernel⟩⟩

theorem witness_StepsKeepRegionsAdmitted :
    ∃ (s t : State) (e : Nat × Region), (∀ e ∈ s.regions, e.2.st = RegionState.empty ∨ e.2.st = RegionState.safeOff ∨ s.md.mode = Mode.run ∨ s.md.mode
      = Mode.hold ∧ e.2.st ≠ RegionState.active ∨ s.md.mode = Mode.service ∧ (e.2.st = RegionState.service ∨ e.2.st = RegionState.mending)) ∧ step s =
      Host.Outcome.next t ∧ e ∈ t.regions :=
  ⟨{ w0 with regions := [(3, { st := .safeOff })] }, { w0 with regions := [(3, { st := .safeOff })] }, (3, { st := .safeOff }), by decide +kernel,
    rfl, by decide +kernel⟩

theorem witness_OutputsFollowThePhase :
    (∃ (c : Instr) (s t : State), exec c s = Host.Outcome.next t ∧ t.md.held = true) ∧
    (∃ (c : Instr) (s t : State), exec c s = Host.Outcome.next t ∧ t.md.held = false ∧ t.md.mode = Mode.boot) ∧
    (∃ (c : Instr) (s t : State), exec c s = Host.Outcome.next t ∧ t.md.held = false ∧ t.md.mode ≠ Mode.boot ∧ (t.md.mode = Mode.run ∨ t.md.mode =
      Mode.hold ∨ t.md.mode = Mode.service) ∧ pinAccepted t = false) ∧
    (∃ (c : Instr) (s t : State), exec c s = Host.Outcome.next t ∧ t.md.held = false ∧ t.md.mode ≠ Mode.boot ∧ t.md.mode = Mode.dormant) ∧
    (∃ (c : Instr) (s t : State), exec c s = Host.Outcome.next t ∧ t.md.held = false ∧ t.md.mode ≠ Mode.boot ∧ (t.md.mode = Mode.prepare ∨ t.md.mode =
      Mode.safeOff ∨ pinAccepted t = true) ∧ t.md.mode ≠ Mode.dormant) :=
  ⟨⟨.planTickBoundary, wHeld, leave wHeld wHeld, rfl, by decide +kernel⟩,
   ⟨.planTickBoundary, inMode .boot w0, leave (inMode .boot w0) (inMode .boot w0), rfl, by decide +kernel, by decide +kernel⟩,
   ⟨.planTickBoundary, w0, leave w0 w0, rfl, by decide +kernel, by decide +kernel, by decide +kernel, by decide +kernel⟩,
   ⟨.planTickBoundary, inMode .dormant w0, leave (inMode .dormant w0) (inMode .dormant w0), rfl, by decide +kernel, by decide +kernel,
     by decide +kernel⟩,
   ⟨.planTickBoundary, inMode .prepare w0, leave (inMode .prepare w0) (inMode .prepare w0), rfl, by decide +kernel, by decide +kernel,
     by decide +kernel, by decide +kernel⟩⟩

theorem witness_WhatEveryCommandMayChange :
    ∃ (s : State), NothingDue s :=
  ⟨w0, by decide +kernel⟩

theorem witness_HeldDeviceTakesNothing :
    ∃ (c : Instr) (s : State), wellFormed c = true ∧ actsWhileHeld c = false ∧ s.md.held = true ∧ NothingDue s :=
  ⟨.servoTickBoundary, wHeld, by decide +kernel⟩

theorem witness_SnapshotTakesOneInstant :
    (∃ (s a : State) (req : Fin 64), FindsReg s a (req.val) 262272) ∧
    (∃ (s a : State) (req : Fin 64) (q : Nat), FindsReg s a (req.val) 262272 ∧ q ≠ req.val) :=
  ⟨⟨w0, seen w0, 1, by decide +kernel⟩,
   ⟨w0, seen w0, 1, 2, by decide +kernel⟩⟩

theorem witness_ServoFollowsOffsets :
    (∃ (s a : State) (p : Fin 4) (o : Int) (dom : BitVec 8), Finds s a ∧ ((bits (reg a (327680 + 4096 * p.val)) 0 2 = 1 ∨ bits (reg a (327680 + 4096 *
      p.val)) 0 2 = 3) ∧ (bits (reg a (327680 + 4096 * p.val)) 3 2 ≠ 3 ∨ bit (reg a (327680 + 4096 * p.val)) 6 = true) ∧ dom.toNat = (if bit (reg a
      (327680 + 4096 * p.val)) 6 = true then 0 else bits (reg a (327680 + 4096 * p.val)) 8 7)) ∧ bit (reg a 262144) 0 = true ∧ bit (reg a 262144) 2 =
      false ∧ ↑(o - sx 64 (reg64 a (327704 + 4096 * p.val))).natAbs ≤ ↑(reg a 262208) * 65536 ∧ (a.time.servo = Servo.locked ∨ a.time.servo =
      Servo.locking) ∧ (a.time.servo = Servo.locked ∨ (if ↑(o - sx 64 (reg64 a (327704 + 4096 * p.val))).natAbs ≤ ↑(reg a 262212) * 65536 then
      a.time.lockCount + 1 else 0) < 16)) ∧
    (∃ (s a : State) (p : Fin 4) (o : Int) (dom : BitVec 8) (q : Nat), Finds s a ∧ ((bits (reg a (327680 + 4096 * p.val)) 0 2 = 1 ∨ bits (reg a
      (327680 + 4096 * p.val)) 0 2 = 3) ∧ (bits (reg a (327680 + 4096 * p.val)) 3 2 ≠ 3 ∨ bit (reg a (327680 + 4096 * p.val)) 6 = true) ∧ dom.toNat =
      (if bit (reg a (327680 + 4096 * p.val)) 6 = true then 0 else bits (reg a (327680 + 4096 * p.val)) 8 7)) ∧ bit (reg a 262144) 0 = true ∧ bit (reg
      a 262144) 2 = false ∧ ↑(o - sx 64 (reg64 a (327704 + 4096 * p.val))).natAbs ≤ ↑(reg a 262208) * 65536 ∧ (a.time.servo = Servo.locked ∨
      a.time.servo = Servo.locking) ∧ q < 4) ∧
    (∃ (s a : State) (p : Fin 4) (o : Int) (dom : BitVec 8), Finds s a ∧ ((bits (reg a (327680 + 4096 * p.val)) 0 2 = 1 ∨ bits (reg a (327680 + 4096 *
      p.val)) 0 2 = 3) ∧ (bits (reg a (327680 + 4096 * p.val)) 3 2 ≠ 3 ∨ bit (reg a (327680 + 4096 * p.val)) 6 = true) ∧ dom.toNat = (if bit (reg a
      (327680 + 4096 * p.val)) 6 = true then 0 else bits (reg a (327680 + 4096 * p.val)) 8 7)) ∧ bit (reg a 262144) 0 = true ∧ bit (reg a 262144) 2 =
      false ∧ ↑(o - sx 64 (reg64 a (327704 + 4096 * p.val))).natAbs ≤ ↑(reg a 262208) * 65536 ∧ (a.time.servo = Servo.locked ∨ a.time.servo =
      Servo.locking) ∧ a.time.servo = Servo.locking ∧ 16 ≤ if ↑(o - sx 64 (reg64 a (327704 + 4096 * p.val))).natAbs ≤ ↑(reg a 262212) * 65536 then
      a.time.lockCount + 1 else 0) ∧
    (∃ (s a : State) (p : Fin 4) (dom : BitVec 8), Finds s a ∧ (bits (reg a (327680 + 4096 * p.val)) 0 2 = 0 ∨ bits (reg a (327680 + 4096 * p.val)) 0
      2 = 2 ∨ bits (reg a (327680 + 4096 * p.val)) 3 2 = 3 ∧ bit (reg a (327680 + 4096 * p.val)) 6 = false ∨ dom.toNat ≠ (if bit (reg a (327680 + 4096
      * p.val)) 6 = true then 0 else bits (reg a (327680 + 4096 * p.val)) 8 7))) ∧
    (∃ (s a : State) (p : Fin 4) (o : Int) (dom : BitVec 8), Finds s a ∧ ((bits (reg a (327680 + 4096 * p.val)) 0 2 = 1 ∨ bits (reg a (327680 + 4096 *
      p.val)) 0 2 = 3) ∧ (bits (reg a (327680 + 4096 * p.val)) 3 2 ≠ 3 ∨ bit (reg a (327680 + 4096 * p.val)) 6 = true) ∧ dom.toNat = (if bit (reg a
      (327680 + 4096 * p.val)) 6 = true then 0 else bits (reg a (327680 + 4096 * p.val)) 8 7)) ∧ bit (reg a 262144) 0 = true ∧ a.time.servo =
      Servo.locked ∧ ↑(reg a 262208) * 65536 < ↑(o - sx 64 (reg64 a (327704 + 4096 * p.val))).natAbs ∧ a.time.stepArmed = none) ∧
    (∃ (s a : State) (p : Fin 4) (o : Int) (dom : BitVec 8) (m : Nat), Finds s a ∧ ((bits (reg a (327680 + 4096 * p.val)) 0 2 = 1 ∨ bits (reg a
      (327680 + 4096 * p.val)) 0 2 = 3) ∧ (bits (reg a (327680 + 4096 * p.val)) 3 2 ≠ 3 ∨ bit (reg a (327680 + 4096 * p.val)) 6 = true) ∧ dom.toNat =
      (if bit (reg a (327680 + 4096 * p.val)) 6 = true then 0 else bits (reg a (327680 + 4096 * p.val)) 8 7)) ∧ bit (reg a 262144) 0 = true ∧
      a.time.servo = Servo.locked ∧ ↑(reg a 262208) * 65536 < ↑(o - sx 64 (reg64 a (327704 + 4096 * p.val))).natAbs ∧ a.time.stepArmed = some m ∧ (m =
      0 ∨ (o - sx 64 (reg64 a (327704 + 4096 * p.val))).natAbs ≤ m * 65536)) :=
  ⟨⟨withServo .locking 0 wServo, seen (withServo .locking 0 wServo), 0, 1, 0, by decide +kernel⟩,
   ⟨withServo .locking 0 wServo, seen (withServo .locking 0 wServo), 0, 1, 0, 0, by decide +kernel⟩,
   ⟨wServo, seen wServo, 0, 1, 0, by decide +kernel⟩,
   ⟨w0, seen w0, 0, 0, by decide +kernel⟩,
   ⟨withServo .locked 0 wServo, seen (withServo .locked 0 wServo), 0, 2 ^ 48, 0, by decide +kernel⟩,
   ⟨onTime (fun t => { t with stepArmed := some 0 }) (withServo .locked 0 wServo), seen (onTime (fun t => { t with stepArmed := some 0 }) (withServo
     .locked 0 wServo)), 0, 2 ^ 48, 0, 0, by decide +kernel⟩⟩

theorem witness_HoldoverCauses :
    (∃ (s a : State) (q : Nat), Finds s a ∧ q < 4) ∧
    (∃ (s a : State), Finds s a ∧ a.time.lostAt ≤ a.time.elapsed) ∧
    (∃ (s a : State), Finds s a ∧ a.time.elapsed < a.time.lostAt) ∧
    (∃ (s a : State) (req : Fin 64) (v : Bool) (i : Instr) (u : State), FindsReg s a (req.val) 262144 ∧ (i = Instr.timServoEnWrite req v ∧ u = setReg
      a 262144 (setBit (reg a 262144) 0 v) ∨ i = Instr.timHoldoverForceWrite req v ∧ u = setReg a 262144 (setBit (reg a 262144) 2 v)) ∧ a.time.servo =
      Servo.freerun) ∧
    (∃ (s a : State) (req : Fin 64) (v : Bool) (i : Instr) (u : State), FindsReg s a (req.val) 262144 ∧ (i = Instr.timServoEnWrite req v ∧ u = setReg
      a 262144 (setBit (reg a 262144) 0 v) ∨ i = Instr.timHoldoverForceWrite req v ∧ u = setReg a 262144 (setBit (reg a 262144) 2 v)) ∧ (bit (reg u
      262144) 0 = false ∨ bit (reg u 262144) 2 = true) ∧ (a.time.servo = Servo.locked ∨ a.time.servo = Servo.locking)) ∧
    (∃ (s a : State) (req : Fin 64) (v : Bool) (i : Instr) (u : State), FindsReg s a (req.val) 262144 ∧ (i = Instr.timServoEnWrite req v ∧ u = setReg
      a 262144 (setBit (reg a 262144) 0 v) ∨ i = Instr.timHoldoverForceWrite req v ∧ u = setReg a 262144 (setBit (reg a 262144) 2 v)) ∧ (¬(bit (reg u
      262144) 0 = false ∨ bit (reg u 262144) 2 = true)) ∧ a.time.servo = Servo.holdover ∧ a.time.holdCause = 3) :=
  ⟨⟨w0, seen w0, 0, by decide +kernel⟩,
   ⟨w0, seen w0, by decide +kernel⟩,
   ⟨onTime (fun t => { t with lostAt := 1 }) w0, seen (onTime (fun t => { t with lostAt := 1 }) w0), by decide +kernel⟩,
   ⟨w0, seen w0, 1, true, .timServoEnWrite 1 true, setReg (seen w0) 0x40000 (setBit (reg (seen w0) 0x40000) 0 true), by decide +kernel⟩,
   ⟨wServo, seen wServo, 1, false, .timServoEnWrite 1 false, setReg (seen wServo) 0x40000 0, by decide +kernel⟩,
   ⟨{ wServo with time := { wServo.time with servo := .holdover, holdCause := 3 } }, seen
     { wServo with time := { wServo.time with servo := .holdover, holdCause := 3 } }, 1, false, .timHoldoverForceWrite 1 false, setReg (seen
     { wServo with time := { wServo.time with servo := .holdover, holdCause := 3 } }) 0x40000 1, by decide +kernel⟩⟩

theorem witness_PtpMessagesAreStamped :
    (∃ (s a : State) (p : Fin 4) (m : PtpMsg), Finds s a ∧ portOff a p.val = false ∧ m.management = true) ∧
    (∃ (s a : State) (p : Fin 4) (m : PtpMsg), Finds s a ∧ portOff a p.val = false ∧ m.management = false ∧ m.event = true ∧ ((beNat (takeBytes m.body
      4 1) ≠ (if bit (reg a (327680 + 4096 * p.val)) 6 = true then 0 else bits (reg a (327680 + 4096 * p.val)) 8 7)) ∨ m.kind < 3)) ∧
    (∃ (s a : State) (p : Fin 4) (m : PtpMsg), Finds s a ∧ portOff a p.val = false ∧ m.management = false ∧ m.event = true ∧ m.kind = 3 ∧ beNat
      (takeBytes m.body 4 1) = (if bit (reg a (327680 + 4096 * p.val)) 6 = true then 0 else bits (reg a (327680 + 4096 * p.val)) 8 7) ∧ (bit (reg a
      (327680 + 4096 * p.val)) 2 = true ∨ bit (reg a (327680 + 4096 * p.val)) 6 = true)) ∧
    (∃ (s a : State) (p : Fin 4) (m : PtpMsg), Finds s a ∧ ptpSends a (p.val) m = false ∧ bits (reg a (327680 + 4096 * p.val)) 0 2 = 0 ∧ m.event =
      false) ∧
    (∃ (s a : State) (p : Fin 4) (m : PtpMsg), Finds s a ∧ ptpSends a (p.val) m = true ∧ (bit (reg a (327680 + 4096 * p.val)) 5 = false ∨ m.kind ≠ 0 ∧
      m.kind ≠ 3)) ∧
    (∃ (s a : State) (p : Fin 4) (m : PtpMsg), Finds s a ∧ ptpSends a (p.val) m = true ∧ bit (reg a (327680 + 4096 * p.val)) 5 = true ∧ (m.kind = 0 ∨
      m.kind = 3) ∧ bits (reg a (327680 + 4096 * p.val)) 3 2 = 1 ∧ bit (reg a (327680 + 4096 * p.val)) 6 = false) :=
  ⟨⟨wServo, seen wServo, 0, ⟨false, true, 13, [], 0⟩, by decide +kernel⟩,
   ⟨wServo, seen wServo, 0, ⟨true, false, 0, [], 0⟩, by decide +kernel⟩,
   ⟨setReg wServo 0x50000 5, seen (setReg wServo 0x50000 5), 0, ⟨true, false, 3, [], 0⟩, by decide +kernel⟩,
   ⟨setReg w0 0x50000 0, seen (setReg w0 0x50000 0), 0, ⟨false, false, 11, [], 0⟩, by decide +kernel⟩,
   ⟨setReg w0 0x50000 1, seen (setReg w0 0x50000 1), 0, ⟨false, false, 11, [], 0⟩, by decide +kernel⟩,
   ⟨setReg (withEth w0 0 { state := 6 }) 0x50000 0x2A, seen (setReg (withEth w0 0 { state := 6 }) 0x50000 0x2A), 0, ⟨true, false, 0, [], 0⟩,
     by decide +kernel⟩⟩

theorem witness_GateListsRun :
    (∃ (s a : State) (p : Fin 4) (req : Fin 64), FindsReg s a (req.val) (328192 + 4096 * p.val)) ∧
    (∃ (s a : State) (p : Fin 4) (l : List (Nat × Nat)) (b c : Nat), Finds s a ∧ (ethAt a p.val).admin = some (l, b, c) ∧ ptpNs a < (ethAt a
      p.val).adminStart) ∧
    (∃ (s a : State) (p : Fin 4) (l : List (Nat × Nat)) (b c : Nat), Finds s a ∧ (ethAt a p.val).admin = some (l, b, c) ∧ (ethAt a p.val).adminStart ≤
      ptpNs a) ∧
    (∃ (c : Nat), 0 < c) ∧
    (∃ (s a : State) (p : Fin 4), Finds s a ∧ bit (reg a (328192 + 4096 * p.val)) 8 = true ∧ (ethAt a p.val).oper ≠ [] ∧ (ethAt a p.val).cycleEnd ≤
      a.time.elapsed) ∧
    (∃ (s a : State) (p : Fin 4) (x : Nat × Nat), Finds s a ∧ bit (reg a (328192 + 4096 * p.val)) 8 = true ∧ (ethAt a p.val).oper ≠ [] ∧
      a.time.elapsed < (ethAt a p.val).cycleEnd ∧ (ethAt a p.val).entry + 1 < (ethAt a p.val).oper.length ∧ (ethAt a p.val).oper[(ethAt a
      p.val).entry]? = some x ∧ (ethAt a p.val).entryAt + x.2 * nsU ≤ a.time.elapsed) :=
  ⟨⟨w0, seen w0, 3, 1, by decide +kernel⟩,
   ⟨withEth w0 3 { admin := some ([(255, 10)], 0, 100), adminStart := 2 ^ 90 }, seen (withEth w0 3
     { admin := some ([(255, 10)], 0, 100), adminStart := 2 ^ 90 }), 3, [(255, 10)], 0, 100, by decide +kernel⟩,
   ⟨withEth w0 3 { admin := some ([(255, 10)], 0, 100) }, seen (withEth w0 3 { admin := some ([(255, 10)], 0, 100) }), 3, [(255, 10)], 0, 100,
     by decide +kernel⟩,
   ⟨100, by decide +kernel⟩,
   ⟨setReg (withEth w0 0 { oper := [(255, 10)], operCycle := 100 }) 0x50200 256, seen (setReg (withEth w0 0 { oper := [(255, 10)], operCycle := 100 })
     0x50200 256), 0, by decide +kernel⟩,
   ⟨onTime (fun t => { t with elapsed := 10 * nsU }) (setReg (withEth w0 0 { oper := [(255, 10), (1, 90)], operCycle := 100, cycleEnd := 100 * nsU })
     0x50200 256), seen (onTime (fun t => { t with elapsed := 10 * nsU }) (setReg (withEth w0 0
     { oper := [(255, 10), (1, 90)], operCycle := 100, cycleEnd := 100 * nsU }) 0x50200 256)), 0, (255, 10), by decide +kernel⟩⟩

theorem witness_PublicationsAndTracks :
    (∃ (s a : State) (f : List Byte), Finds s a ∧ (f.length ≠ 48 ∨ beNat (takeBytes f 0 4) ≠ 1280333122 ∨ beNat (takeBytes f 4 1) ≠ 1 ∨ beNat
      (takeBytes f 38 8) ≠ a.time.gm ∨ beNat (takeBytes f 46 1) ≠ a.time.domain ∨ a.time.servo = Servo.freerun)) ∧
    (∃ (s a : State) (p : Fin 4) (g : BitVec 128) (u : BitVec 16) (f : List Byte) (i q : Nat) (x : LineSrc), Finds s a ∧ (¬(f.length ≠ 48 ∨ beNat
      (takeBytes f 0 4) ≠ 1280333122 ∨ beNat (takeBytes f 4 1) ≠ 1 ∨ beNat (takeBytes f 38 8) ≠ a.time.gm ∨ beNat (takeBytes f 46 1) ≠ a.time.domain ∨
      a.time.servo = Servo.freerun)) ∧ pubTarget a (p.val) g.toNat u.toNat (beNat (takeBytes f 6 2)) = some i ∧ mget a.srcs i = some x ∧ x.lastSeq =
      some q ∧ 1 ≤ (beNat (takeBytes f 8 4) + 4294967296 - q) % 4294967296 ∧ (beNat (takeBytes f 8 4) + 4294967296 - q) % 4294967296 < 2147483648 ∧
      a.line.desig ≠ some i) ∧
    (∃ (s a : State) (i : Fin 16), FindsUnit s a ∧ isLive a cLINESRC i.val = true ∧ (srcAt a i.val).pub = true ∧ (srcAt a i.val).stale = false ∧
      ↑(srcAt a i.val).ageUs * ↑usU < a.time.ptp - (srcAt a i.val).t0 * ↑nsU) ∧
    (∃ (s a : State) (p : Fin 4) (u : BitVec 16), Finds s a ∧ (u.toNat ≠ bits (reg a 2162760) 0 16 ∨ bit (bits (reg a 2162760) 16 4) p.val = false)) ∧
    (∃ (s a : State) (p : Fin 4) (u : BitVec 16) (f : List Byte), Finds s a ∧ u.toNat = bits (reg a 2162760) 0 16 ∧ bit (bits (reg a 2162760) 16 4)
      p.val = true ∧ (¬(f.length = 36 + 32 * beNat (takeBytes f 5 1) ∧ beNat (takeBytes f 0 4) = 1196708427 ∧ beNat (takeBytes f 4 1) = 1 ∧ beNat
      (takeBytes f 5 1) ≤ 16 ∧ beNat (takeBytes f (32 + 32 * beNat (takeBytes f 5 1)) 4) = crc32 (List.take (32 + 32 * beNat (takeBytes f 5 1)) f)))) ∧
    (∃ (s a : State) (p : Fin 4) (u : BitVec 16) (f : List Byte) (i q : Nat), Finds s a ∧ u.toNat = bits (reg a 2162760) 0 16 ∧ bit (bits (reg a
      2162760) 16 4) p.val = true ∧ (f.length = 36 + 32 * beNat (takeBytes f 5 1) ∧ beNat (takeBytes f 0 4) = 1196708427 ∧ beNat (takeBytes f 4 1) = 1
      ∧ beNat (takeBytes f 5 1) ≤ 16 ∧ beNat (takeBytes f (32 + 32 * beNat (takeBytes f 5 1)) 4) = crc32 (List.take (32 + 32 * beNat (takeBytes f 5
      1)) f)) ∧ (List.filterMap id (List.map (fun i => trackRec f (32 + 32 * i)) (List.range (beNat (takeBytes f 5 1))))).length = beNat (takeBytes f
      5 1) ∧ (dedup (List.map Prod.fst (List.filterMap id (List.map (fun i => trackRec f (32 + 32 * i)) (List.range (beNat (takeBytes f 5
      1))))))).length = beNat (takeBytes f 5 1) ∧ beNat (takeBytes f 22 8) = a.time.gm ∧ beNat (takeBytes f 30 1) = a.time.domain ∧ a.time.servo ≠
      Servo.freerun ∧ ↑(beNat (takeBytes f 12 6)) * 1000000000 + ↑(beNat (takeBytes f 18 4)) ≤ ptpNs a + 1000 ∧ streamBlock a (beNat (takeBytes f 6
      2)) = some i ∧ (streamAt a i).seq = some q ∧ 1 ≤ (beNat (takeBytes f 8 4) + 4294967296 - q) % 4294967296 ∧ (beNat (takeBytes f 8 4) + 4294967296
      - q) % 4294967296 < 2147483648 ∧ bit (beNat (takeBytes f 31 1)) 0 = false) ∧
    (∃ (s a : State) (i : Fin 8), Finds s a ∧ a.grd.running = true ∧ bit (reg a (2162944 + 16 * i.val)) 0 = true ∧ (streamAt a i.val).lost = 0 ∧ reg a
      2162712 * usU ≤ a.time.elapsed - (streamAt a i.val).since) :=
  ⟨⟨w0, seen w0, [], by decide +kernel⟩,
   ⟨wPub, seen wPub, 0, 5, 47400, pubFrame, 0, 8, { pub := true, stream := 7, group := 5, ports := 1, lastSeq := some 8 }, by decide +kernel⟩,
   ⟨{ wPub with time := { wPub.time with ptp := 2 ^ 100 } }, { wPub with time := { wPub.time with ptp := 2 ^ 100 } }, 0, by decide +kernel⟩,
   ⟨w0, seen w0, 0, 0, by decide +kernel⟩,
   ⟨wTrack, seen wTrack, 0, 47000, [], by decide +kernel⟩,
   ⟨wTrack, seen wTrack, 0, 47000, trackFrame, 0, 5, by decide +kernel⟩,
   ⟨{ wTrack with time := { wTrack.time with elapsed := 2 ^ 100 } }, seen { wTrack with time := { wTrack.time with elapsed := 2 ^ 100 } }, 0,
     by decide +kernel⟩⟩

theorem witness_SafeOffPins :
    (∃ (s a : State), FindsOn s a) ∧
    (∃ (s a : State) (t : Nat), Finds s a ∧ a.md.discrep = some t ∧ t + 5 * msU < a.time.elapsed ∧ a.md.discrepRaised = false) ∧
    (∃ (s a : State) (t : Nat), Finds s a ∧ a.md.discrep = some t ∧ (a.time.elapsed ≤ t + 5 * msU ∨ a.md.discrepRaised = true)) :=
  ⟨⟨w0, seen (w0), by decide +kernel⟩,
   ⟨onTime (fun t => { t with elapsed := 5 * msU + 2 }) (onMd (fun m => { m with pinA := true, discrep := some 1 }) w0), seen (onTime (fun t =>
     { t with elapsed := 5 * msU + 2 }) (onMd (fun m => { m with pinA := true, discrep := some 1 }) w0)), 1, by decide +kernel⟩,
   ⟨onTime (fun t => { t with elapsed := 5 * msU + 1 }) (onMd (fun m => { m with pinA := true, discrep := some 1 }) w0), seen (onTime (fun t =>
     { t with elapsed := 5 * msU + 1 }) (onMd (fun m => { m with pinA := true, discrep := some 1 }) w0)), 1, by decide +kernel⟩⟩

theorem witness_DinStages :
    (∃ (s a : State) (n : Fin 64) (v : Bool), FindsOn s a ∧ a.md.held = false ∧ bankOn a (if n.val < 32 then 2 else 3) = true ∧ (dinAt a n.val).raw =
      (v != bit (reg a (69888 + 4 * n.val)) 18)) ∧
    (∃ (s a : State) (n : Fin 64) (v : Bool), FindsOn s a ∧ a.md.held = false ∧ bankOn a (if n.val < 32 then 2 else 3) = true ∧ (dinAt a n.val).raw ≠
      (v != bit (reg a (69888 + 4 * n.val)) 18) ∧ bits (reg a (69888 + 4 * n.val)) 8 10 = 0) ∧
    (∃ (s a : State) (n : Fin 64) (v : Bool), FindsOn s a ∧ a.md.held = false ∧ bankOn a (if n.val < 32 then 2 else 3) = true ∧ (dinAt a n.val).raw ≠
      (v != bit (reg a (69888 + 4 * n.val)) 18) ∧ bits (reg a (69888 + 4 * n.val)) 8 10 ≠ 0) ∧
    (∃ (s a : State) (n : Fin 64) (t : Nat), Finds s a ∧ (dinAt a n.val).ends = some t ∧ t ≤ a.time.elapsed) ∧
    (∃ (s a : State) (n : Fin 64), Finds s a ∧ (dinAt a n.val).ends = none) ∧
    (∃ (s a : State) (n req : Fin 64) (w : Word), FindsReg s a (req.val) (69888 + 4 * n.val) ∧ (req.val ≠ 32 ∨ 1000 < bits (BitVec.toNat w) 8 10)) ∧
    (∃ (s a : State) (n req : Fin 64) (w : Word), FindsReg s a (req.val) (69888 + 4 * n.val) ∧ req.val = 32 ∧ bits (BitVec.toNat w) 8 10 ≤ 1000 ∧
      BitVec.toNat w % 262144 ≠ reg a (69888 + 4 * n.val) % 262144) ∧
    (∃ (s a : State) (n req : Fin 64) (w : Word), FindsReg s a (req.val) (69888 + 4 * n.val) ∧ req.val = 32 ∧ bits (BitVec.toNat w) 8 10 ≤ 1000 ∧
      BitVec.toNat w % 262144 = reg a (69888 + 4 * n.val) % 262144 ∧ (dinAt a n.val).raw = (bankOn a (if n.val < 32 then 2 else 3) && (dinAt a
      n.val).pin != bit (BitVec.toNat w) 18)) :=
  ⟨⟨wDin, seen (wDin), 0, false, by decide +kernel⟩,
   ⟨wDin, seen (wDin), 0, true, by decide +kernel⟩,
   ⟨setReg wDin 0x11100 256, seen (setReg wDin 0x11100 256), 0, true, by decide +kernel⟩,
   ⟨onPins (fun p => { p with dins := [(0, { raw := true, ends := some 0 })] }) wDin, seen (onPins (fun p =>
     { p with dins := [(0, { raw := true, ends := some 0 })] }) wDin), 0, 0, by decide +kernel⟩,
   ⟨wDin, seen (wDin), 0, by decide +kernel⟩,
   ⟨wHost, seen (wHost), 0, 32, 256256, by decide +kernel⟩,
   ⟨wHost, seen (wHost), 0, 32, 256000, by decide +kernel⟩,
   ⟨wHost, seen (wHost), 0, 32, BitVec.ofNat 32 (reg w0 0x11100), by decide +kernel⟩⟩

theorem witness_ColdResets :
    (∃ (s a : State), atArrival s = a ∧ a.sec.resetHeld = true ∧ a.md.off = false ∧ a.profiles = []) ∧
    (∃ (s a : State), atArrival s = a) ∧
    (∃ (s a : State), atArrival s = a ∧ a.md.off = false ∧ a.sec.resetHeld = false) ∧
    (∃ (s a : State) (b : Fin 6), atArrival s = a ∧ a.md.held = true ∧ b ≠ 0) ∧
    (∃ (s a : State) (req : Fin 64) (w : Word), atArrival s = a ∧ a.md.held = false ∧ reqReach a (req.val) 65556 = true ∧ req.val = 32 ∧ w = 49181 ∧
      a.sec.resetHeld = false) ∧
    (∃ (s a : State) (req : Fin 64) (w : Word), atArrival s = a ∧ a.md.held = false ∧ reqReach a (req.val) 65556 = true ∧ (req.val ≠ 32 ∨ w ≠ 49181)) ∧
    (∃ (s a : State) (req : Fin 64), atArrival s = a ∧ a.md.held = false ∧ reqReach a (req.val) 67588 = true ∧ req.val = 32 ∧ a.md.mode =
      Mode.dormant) ∧
    (∃ (s a : State) (req : Fin 64), atArrival s = a ∧ a.md.held = false ∧ reqReach a (req.val) 67588 = true ∧ (req.val ≠ 32 ∨ a.md.mode ≠
      Mode.dormant)) :=
  ⟨⟨{ wHeld with sec := { wHeld.sec with resetHeld := true } }, seen ({ wHeld with sec := { wHeld.sec with resetHeld := true } }), by decide +kernel⟩,
   ⟨w0, seen (w0), by decide +kernel⟩,
   ⟨w0, seen (w0), by decide +kernel⟩,
   ⟨wHeld, seen (wHeld), 1, by decide +kernel⟩,
   ⟨wHost, seen (wHost), 32, 0x0000C01D, by decide +kernel⟩,
   ⟨wHost, seen (wHost), 32, 0x0000C01E, by decide +kernel⟩,
   ⟨inMode .dormant wHost, seen (inMode .dormant wHost), 32, by decide +kernel⟩,
   ⟨wHost, seen (wHost), 32, by decide +kernel⟩⟩

theorem witness_HostAndFunctionResets :
    (∃ (s a : State), atArrival s = a ∧ a.md.held = false) ∧
    (∃ (s a : State) (f : Fin 16), atArrival s = a ∧ hostLink a = true ∧ mhas a.host.busMaster f.val = false) ∧
    (∃ (s a : State) (f : Fin 16), atArrival s = a ∧ hostLink a = true ∧ mhas a.host.busMaster f.val = true) ∧
    (∃ (s a : State) (f : Fin 16), atArrival s = a ∧ hostLink a = true ∧ f ≠ 0) :=
  ⟨⟨w0, seen (w0), by decide +kernel⟩,
   ⟨wHost, seen (wHost), 1, by decide +kernel⟩,
   ⟨onHost (fun h => { h with busMaster := [(1, 0)] }) wHost, seen (onHost (fun h => { h with busMaster := [(1, 0)] }) wHost), 1, by decide +kernel⟩,
   ⟨wHost, seen (wHost), 1, by decide +kernel⟩⟩

theorem witness_BootStages :
    (∃ (s a : State), Finds s a ∧ a.md.mode = Mode.boot ∧ a.md.fail ≠ 0) ∧
    (∃ (s a : State) (ok : Bool), Finds s a ∧ a.md.mode = Mode.boot ∧ a.md.fail = 0 ∧ ok = true ∧ (a.md.stage = 1 ∨ a.md.stage = 4)) ∧
    (∃ (s a : State) (ok : Bool), Finds s a ∧ a.md.mode = Mode.boot ∧ a.md.fail = 0 ∧ ok = true ∧ a.md.stage = 2) ∧
    (∃ (s a : State) (ok : Bool), Finds s a ∧ a.md.mode = Mode.boot ∧ a.md.fail = 0 ∧ ok = false ∧ (a.md.stage = 1 ∨ a.md.stage = 2 ∨ a.md.stage = 4 ∨
      a.md.stage = 6)) ∧
    (∃ (s a : State) (req : Fin 64), Finds s a ∧ a.md.mode = Mode.boot ∧ reqReach a (req.val) 65588 = true ∧ req.val = 32 ∧ a.md.fail ≠ 0 ∧
      (a.md.stage = 2 ∨ a.md.stage = 3)) ∧
    (∃ (s a : State) (req : Fin 64), Finds s a ∧ a.md.mode = Mode.boot ∧ reqReach a (req.val) 65588 = true ∧ (req.val ≠ 32 ∨ a.md.fail = 0)) ∧
    (∃ (s a : State) (img : List Byte), Finds s a ∧ a.md.mode = Mode.boot ∧ a.md.rcvBusy = true ∧ (img.length ≠ reg a 65584 ∨ envelopeCheck
      { a with md := { a.md with rcvBusy := false } } 1 img ≠ 0)) :=
  ⟨⟨wBoot 1 6, seen (wBoot 1 6), by decide +kernel⟩,
   ⟨wBoot 1 0, seen (wBoot 1 0), true, by decide +kernel⟩,
   ⟨wBoot 2 0, atArrival (wBoot 2 0), true, ⟨rfl, by decide +kernel⟩, by decide +kernel, by decide +kernel, by decide +kernel, by decide +kernel⟩,
   ⟨wBoot 1 0, seen (wBoot 1 0), false, by decide +kernel⟩,
   ⟨wBoot 2 6, atArrival (wBoot 2 6), 32, ⟨rfl, by decide +kernel⟩, by decide +kernel, by decide +kernel, by decide +kernel, by decide +kernel,
     by decide +kernel⟩,
   ⟨wBoot 1 0, seen (wBoot 1 0), 32, by decide +kernel⟩,
   ⟨onMd (fun m => { m with rcvBusy := true }) (wBoot 1 6), seen (onMd (fun m => { m with rcvBusy := true }) (wBoot 1 6)), [0], by decide +kernel⟩⟩

theorem witness_WatchdogAndSupplies :
    (∃ (s a : State) (req : Fin 64), Finds s a ∧ reqReach a (req.val) 65560 = true ∧ req.val ≠ 32) ∧
    (∃ (s a : State) (req : Fin 64) (w : Word), Finds s a ∧ reqReach a (req.val) 65560 = true ∧ req.val = 32 ∧ BitVec.toNat w % 65536 = 0) ∧
    (∃ (s a : State) (req : Fin 64) (w : Word), Finds s a ∧ reqReach a (req.val) 65560 = true ∧ req.val = 32 ∧ 10 ≤ BitVec.toNat w % 65536 ∧
      BitVec.toNat w % 65536 ≤ 60000) ∧
    (∃ (s a : State) (req : Fin 64), Finds s a ∧ reqReach a (req.val) 65564 = true ∧ req.val = 32 ∧ a.md.hostwd ≠ none) ∧
    (∃ (s a : State) (req : Fin 64), Finds s a ∧ reqReach a (req.val) 65564 = true ∧ req.val ≠ 32) ∧
    (∃ (s a : State) (t : Nat), Finds s a ∧ a.md.hostwd = some t ∧ a.md.expired = false ∧ t + bits (reg a 65560) 0 16 * msU ≤ a.time.elapsed ∧
      (a.md.mode = Mode.run ∨ a.md.mode = Mode.hold ∨ a.md.mode = Mode.service)) ∧
    (∃ (s a : State) (t : Nat), Finds s a ∧ a.md.hostwd = some t ∧ a.md.expired = false ∧ t + bits (reg a 65560) 0 16 * msU ≤ a.time.elapsed ∧
      a.md.mode ≠ Mode.run ∧ a.md.mode ≠ Mode.hold ∧ a.md.mode ≠ Mode.service) ∧
    (∃ (s a : State) (t : BitVec 16), Finds s a ∧ sx 16 t.toNat ≤ 110 * 256 ∧ 105 * 256 ≤ sx 16 t.toNat ∧ a.pins.hotCount = 0) ∧
    (∃ (s a : State) (t : BitVec 16), Finds s a ∧ 110 * 256 < sx 16 t.toNat ∧ sx 16 t.toNat ≤ 120 * 256 ∧ a.pins.hot = false) ∧
    (∃ (s a : State) (t : BitVec 16), Finds s a ∧ 120 * 256 < sx 16 t.toNat ∧ a.pins.hot = true ∧ a.pins.hotCount = 1) ∧
    (∃ (s a : State) (r : Fin 10) (more : Bool) (mv : BitVec 16) (lo hi : Nat), Finds s a ∧ ((lo, hi) = if r = 0 then ((if a.pins.vcoreSet = 0 then
      750 else a.pins.vcoreSet) - 20, (if a.pins.vcoreSet = 0 then 750 else a.pins.vcoreSet) + 20) else if r = 1 then (1710, 1890) else if r = 2 then
      (810, 890) else if r = 3 then (1140, 1260) else (1650, 3630)) ∧ (mv.toNat < lo ∨ hi < mv.toNat ∨ mv.toNat = hi ∧ more = true)) ∧
    (∃ (s a : State) (r : Fin 10) (more : Bool) (mv : BitVec 16) (lo hi : Nat), Finds s a ∧ ((lo, hi) = if r = 0 then ((if a.pins.vcoreSet = 0 then
      750 else a.pins.vcoreSet) - 20, (if a.pins.vcoreSet = 0 then 750 else a.pins.vcoreSet) + 20) else if r = 1 then (1710, 1890) else if r = 2 then
      (810, 890) else if r = 3 then (1140, 1260) else (1650, 3630)) ∧ lo ≤ mv.toNat ∧ (mv.toNat < hi ∨ mv.toNat = hi ∧ more = false)) ∧
    (∃ (s a : State), Finds s a ∧ a.pins.sysref = true) ∧
    (∃ (s a : State), Finds s a ∧ a.md.waking ≠ []) :=
  ⟨⟨wHost, seen (wHost), 1, by decide +kernel⟩,
   ⟨wHost, seen (wHost), 32, 0, by decide +kernel⟩,
   ⟨wHost, seen (wHost), 32, 10, by decide +kernel⟩,
   ⟨onMd (fun m => { m with hostwd := some 0 }) wHost, seen (onMd (fun m => { m with hostwd := some 0 }) wHost), 32, by decide +kernel⟩,
   ⟨wHost, seen (wHost), 1, by decide +kernel⟩,
   ⟨onMd (fun m => { m with hostwd := some 0 }) w0, seen (onMd (fun m => { m with hostwd := some 0 }) w0), 0, by decide +kernel⟩,
   ⟨onMd (fun m => { m with hostwd := some 0 }) (inMode .safeOff w0), seen (onMd (fun m => { m with hostwd := some 0 }) (inMode .safeOff w0)), 0,
     by decide +kernel⟩,
   ⟨w0, seen (w0), 110 * 256, by decide +kernel⟩,
   ⟨w0, seen (w0), 120 * 256, by decide +kernel⟩,
   ⟨onPins (fun p => { p with hot := true, hotCount := 1 }) w0, seen (onPins (fun p => { p with hot := true, hotCount := 1 }) w0), 120 * 256 + 1,
     by decide +kernel⟩,
   ⟨w0, seen (w0), 9, true, 3630, 1650, 3630, by decide +kernel⟩,
   ⟨w0, seen (w0), 1, true, 1710, 1710, 1890, by decide +kernel⟩,
   ⟨w0, seen (w0), by decide +kernel⟩,
   ⟨onMd (fun m => { m with waking := [acc0 0 { ring := 0 }] }) w0, seen (onMd (fun m => { m with waking := [acc0 0 { ring := 0 }] }) w0),
     by decide +kernel⟩⟩

theorem witness_UplinkFrames :
    (∃ (s a : State) (p : Fin 16) (ln : Fin 2) (ch : List Byte), Finds s a ∧ ch.length = 119 ∧ (portSends (portAt a p.val) = false ∨ laneOn a (p.val)
      (decide (ln = 1)) = false)) ∧
    (∃ (s a : State) (p : Fin 16) (ln : Fin 2) (ch : List Byte), Finds s a ∧ ch.length = 119 ∧ portSends (portAt a p.val) = true ∧ laneOn a (p.val)
      (decide (ln = 1)) = true ∧ ¬leNat (takeBytes (scramble (takeBytes ch 0 119)) 115 4) = crc32 (List.take 115 (scramble (takeBytes ch 0 119)))) ∧
    (∃ (s a : State) (p : Fin 16) (ln : Fin 2) (ch : List Byte), Finds s a ∧ ch.length = 119 ∧ portSends (portAt a p.val) = true ∧ laneOn a (p.val)
      (decide (ln = 1)) = true ∧ leNat (takeBytes (scramble (takeBytes ch 0 119)) 115 4) = crc32 (List.take 115 (scramble (takeBytes ch 0 119))) ∧
      ((portAt a p.val).st = 2 ∨ (portAt a p.val).st = 3)) :=
  ⟨⟨w0, seen (w0), 0, 0, List.replicate 119 0, by decide +kernel⟩,
   ⟨wPort { st := 3 }, seen (wPort { st := 3 }), 0, 0, List.replicate 119 0, by decide +kernel⟩,
   ⟨wPort { st := 3 }, seen (wPort { st := 3 }), 0, 1, upFrame, by decide +kernel⟩⟩

theorem witness_LinkTrainingAndLosses :
    (∃ (s a : State) (p : Fin 16), Finds s a ∧ (portAt a p.val).st = 1 ∧ (portAt a p.val).since + 2 * msU ≤ a.time.elapsed ∧ (portAt a p.val).queue =
      [] ∧ (portAt a p.val).sent = []) ∧
    (∃ (s a : State) (p : Fin 16), Finds s a ∧ (portAt a p.val).st ≠ 1) ∧
    (∃ (s a : State) (p : Fin 16) (c : Fin 8), FindsUnit s a ∧ (portAt a p.val).st = 5 ∧ (portAt a p.val).present.contains (c.val + 1) = true ∧
      (headAt a (p.val) (c.val + 1)).lost = false ∧ 2 ≤ (headAt a (p.val) (c.val + 1)).missRun) ∧
    (∃ (s a : State) (p : Fin 16) (ln : Fin 2), FindsUnit s a ∧ portSends (portAt a p.val) = true ∧ (laneOf (portAt a p.val) (decide (ln = 1))).up =
      true ∧ 4 ≤ (laneOf (portAt a p.val) (decide (ln = 1))).bad ∧ ((portAt a p.val).st ≠ 3 ∨ (portAt a p.val).a.retired = true ∨ (portAt a
      p.val).b.retired = true)) ∧
    (∃ (s a : State) (p : Fin 16) (ln : Fin 2), FindsUnit s a ∧ portSends (portAt a p.val) = true ∧ (laneOf (portAt a p.val) (decide (ln = 1))).up =
      true ∧ 4 ≤ (laneOf (portAt a p.val) (decide (ln = 1))).bad ∧ (portAt a p.val).st = 3 ∧ (portAt a p.val).a.retired = false ∧ (portAt a
      p.val).b.retired = false) ∧
    (∃ (s a : State) (p : Fin 16) (req : Fin 64), FindsReg s a (req.val) (393216 + 4096 * p.val) ∧ bit (reg a (393216 + 4096 * p.val)) 0 = false ∧
      portSafe a p.val = true) ∧
    (∃ (s a : State) (p : Fin 16) (req : Fin 64), FindsReg s a (req.val) (393216 + 4096 * p.val) ∧ portSafe a p.val = false) ∧
    (∃ (s a : State) (p : Fin 16) (req : Fin 64), FindsReg s a (req.val) (393216 + 4096 * p.val) ∧ bit (reg a (393216 + 4096 * p.val)) 0 = true ∧
      portSafe a p.val = true ∧ (portAt a p.val).st = 0 ∧ (portAt a p.val).queue = [] ∧ (portAt a p.val).sent = []) :=
  ⟨⟨onTime (fun t => { t with elapsed := 2 * msU }) (wPort { st := 1 }), seen (onTime (fun t => { t with elapsed := 2 * msU }) (wPort { st := 1 })),
     0, by decide +kernel⟩,
   ⟨w0, seen (w0), 0, by decide +kernel⟩,
   ⟨wPort { st := 5, present := [8], heads := [(8, { missRun := 2 })] }, wPort { st := 5, present := [8], heads := [(8, { missRun := 2 })] }, 0, 7,
     by decide +kernel⟩,
   ⟨wPort { st := 5, b := { up := true, bad := 4 } }, wPort { st := 5, b := { up := true, bad := 4 } }, 0, 1, by decide +kernel⟩,
   ⟨wPort { st := 3, b := { up := true, bad := 4 } }, wPort { st := 3, b := { up := true, bad := 4 } }, 0, 1, by decide +kernel⟩,
   ⟨setReg w0 0x60000 0, seen (setReg w0 0x60000 0), 0, 1, by decide +kernel⟩,
   ⟨wArm .active (wPort {}), seen (wArm .active (wPort {})), 0, 1, by decide +kernel⟩,
   ⟨wPort {}, seen (wPort {}), 0, 1, by decide +kernel⟩⟩

theorem witness_ServiceTraffic :
    (∃ (s a : State) (p : Fin 16) (j : Fin 10) (e : SvcSent), FindsUnit s a ∧ (portAt a p.val).sent = [e] ∧ e.j = j.val ∧ e.bad = true ∧ e.req.tries <
      3) ∧
    (∃ (s a : State) (p : Fin 16) (j : Fin 10) (e : SvcSent) (acc : Machine.Acc), FindsUnit s a ∧ (portAt a p.val).sent = [e] ∧ e.j = j.val ∧ e.bad =
      true ∧ 3 ≤ e.req.tries ∧ e.req.use = SvcFor.access acc) ∧
    (∃ (s a : State) (p : Fin 16) (c : Fin 8) (j : CycJob), FindsUnit s a ∧ (headAt a (p.val) (c.val + 1)).jobs = [j] ∧ (∀ i < j.count, (mgetD j.sent
      (j.first + i) (0, false)).2 = true)) ∧
    (∃ (s a : State) (p : Fin 16) (c : Fin 8) (j : CycJob) (i : Nat), FindsUnit s a ∧ (headAt a (p.val) (c.val + 1)).jobs = [j] ∧ i < j.count ∧ (mgetD
      j.sent (j.first + i) (0, false)).2 = false) :=
  ⟨⟨wPort { st := 5, sent := [{ req := svcReq 2 (.access (acc0 0x0300 { ring := 0 })), tag := 1, tick := 0, j := 9, bad := true }] }, wPort
     { st := 5, sent := [{ req := svcReq 2 (.access (acc0 0x0300 { ring := 0 })), tag := 1, tick := 0, j := 9, bad := true }] }, 0, 9,
     { req := svcReq 2 (.access (acc0 0x0300 { ring := 0 })), tag := 1, tick := 0, j := 9, bad := true }, by decide +kernel⟩,
   ⟨wPort { st := 5, sent := [{ req := svcReq 3 (.access (acc0 0x0300 { ring := 0 })), tag := 1, tick := 0, j := 9, bad := true }] }, wPort
     { st := 5, sent := [{ req := svcReq 3 (.access (acc0 0x0300 { ring := 0 })), tag := 1, tick := 0, j := 9, bad := true }] }, 0, 9,
     { req := svcReq 3 (.access (acc0 0x0300 { ring := 0 })), tag := 1, tick := 0, j := 9, bad := true }, acc0 0x0300 { ring := 0 },
     by decide +kernel⟩,
   ⟨wJob true, wJob true, 0, 7, cyc0 true, by decide +kernel⟩,
   ⟨wJob false, wJob false, 0, 7, cyc0 false, 0, by decide +kernel⟩⟩

theorem witness_ConverterSetup :
    (∃ (s a : State) (req : Fin 64), FindsReg s a (req.val) 524288 ∧ a.cnv.refSince = none) ∧
    (∃ (s a : State) (t : Nat), Finds s a ∧ a.cnv.refSince = some t ∧ t + 3 * msU ≤ a.time.elapsed ∧ a.cnv.refReady = false ∧ (∀ m < 9, (convAt a
      m).calReq = false)) ∧
    (∃ (s a : State) (req : Fin 64) (n : Fin 9), FindsReg s a (req.val) (524548 + 64 * n.val) ∧ retired a 1 n.val = true) ∧
    (∃ (s a : State) (req : Fin 64) (n : Fin 9), FindsReg s a (req.val) (524548 + 64 * n.val) ∧ retired a 1 n.val = false ∧ a.cnv.refReady = true ∧
      (convAt (convFill 11 a n.val) n.val).calReq = false ∧ (convAt (convFill 11 a n.val) n.val).calBusy = false ∧ (convAt (convFill 11 a n.val)
      n.val).injRun = none ∧ (convAt (convFill 11 a n.val) n.val).pend = [] ∧ (convAt (convFill 11 a n.val) n.val).pipe = [] ∧ (convFill 11 a
      n.val).cnv.refReady = true) ∧
    (∃ (s a : State) (n : Fin 9), Finds s a ∧ (convAt a n.val).calBusy = true ∧ (convAt a n.val).calSince + calTime a n.val ≤ a.time.elapsed ∧ (convAt
      a n.val).calAccs = []) ∧
    (∃ (s a : State) (req : Fin 64) (n : Fin 9), FindsReg s a (req.val) (524544 + 64 * n.val) ∧ retired a 1 n.val = true) ∧
    (∃ (s a : State) (req : Fin 64) (n : Fin 9), FindsReg s a (req.val) (524544 + 64 * n.val) ∧ retired a 1 n.val = false ∧ hasEntries a n.val = true) ∧
    (∃ (s a : State) (req : Fin 64) (n : Fin 9) (w : Word), FindsReg s a (req.val) (524544 + 64 * n.val) ∧ retired a 1 n.val = false ∧ hasEntries a
      n.val = false ∧ bit (BitVec.toNat w) 1 = bit (reg a (524544 + 64 * n.val)) 1) :=
  ⟨⟨w0, seen (w0), 1, by decide +kernel⟩,
   ⟨onTime (fun t => { t with elapsed := 3 * msU }) (onCnv (fun c => { c with refSince := some 0 }) w0), seen (onTime (fun t =>
     { t with elapsed := 3 * msU }) (onCnv (fun c => { c with refSince := some 0 }) w0)), 0, by decide +kernel⟩,
   ⟨wRetired 1 w0, seen (wRetired 1 w0), 1, 0, by decide +kernel⟩,
   ⟨wConv, seen (wConv), 1, 0, by decide +kernel⟩,
   ⟨onTime (fun t => { t with elapsed := 2 ^ 100 }) (onCnv (fun c => { c with convs := [(0, { calBusy := true })] }) w0), seen (onTime (fun t =>
     { t with elapsed := 2 ^ 100 }) (onCnv (fun c => { c with convs := [(0, { calBusy := true })] }) w0)), 0, by decide +kernel⟩,
   ⟨wRetired 1 w0, seen (wRetired 1 w0), 1, 0, by decide +kernel⟩,
   ⟨wConv, seen (wConv), 1, 0, by decide +kernel⟩,
   ⟨w0, seen (w0), 1, 0, BitVec.ofNat 32 (reg w0 0x80100), by decide +kernel⟩⟩

theorem witness_ConversionTriggers :
    (∃ (s a : State) (req : Fin 64) (n : Fin 9), FindsReg s a (req.val) (524576 + 64 * n.val) ∧ bits (reg a (524556 + 64 * n.val + 4 * 0)) 0 4 = 0) ∧
    (∃ (s a : State) (req : Fin 64) (n : Fin 9), FindsReg s a (req.val) (524576 + 64 * n.val) ∧ bits (reg a (524556 + 64 * n.val + 4 * 0)) 0 4 ≠ 0 ∧
      bits (reg a (524556 + 64 * n.val + 4 * 0)) 0 4 < 14 ∧ convRuns a n.val = true ∧ mgetD (convAt (convFill 11 a n.val) n.val).groups 0 [] = []) ∧
    (∃ (s a : State) (req : Fin 64) (n : Fin 9), FindsReg s a (req.val) (524576 + 64 * n.val) ∧ bits (reg a (524556 + 64 * n.val + 4 * 0)) 0 4 ≠ 0 ∧
      bits (reg a (524556 + 64 * n.val + 4 * 0)) 0 4 < 14 ∧ convRuns a n.val = true ∧ mgetD (convAt (convFill 11 a n.val) n.val).groups 0 [] ≠ [] ∧
      (convAt (convFill 11 a n.val) n.val).regRun = false ∧ bits (reg a (524556 + 64 * n.val + 4 * 0)) 0 4 ≠ 1) ∧
    (∃ (s a : State) (req : Fin 64) (n : Fin 9), FindsReg s a (req.val) (524576 + 64 * n.val) ∧ bits (reg a (524556 + 64 * n.val + 4 * 0)) 0 4 ≠ 0 ∧
      bits (reg a (524556 + 64 * n.val + 4 * 0)) 0 4 < 14 ∧ convRuns a n.val = true ∧ mgetD (convAt (convFill 11 a n.val) n.val).groups 0 [] ≠ [] ∧
      ((convAt (convFill 11 a n.val) n.val).regRun = true ∨ bits (reg a (524556 + 64 * n.val + 4 * 0)) 0 4 = 1)) ∧
    (∃ (s a : State) (req : Fin 64) (n : Fin 9) (g : Fin 4), FindsReg s a (req.val) (524576 + 64 * n.val) ∧ bits (reg a (524556 + 64 * n.val + 4 *
      (g.val + 1))) 0 4 ≠ 0 ∧ bits (reg a (524556 + 64 * n.val + 4 * (g.val + 1))) 0 4 < 14 ∧ convRuns a n.val = true ∧ (convAt (convFill 11 a n.val)
      n.val).calReq = false ∧ (convAt (convFill 11 a n.val) n.val).calBusy = false ∧ (convAt (convFill 11 a n.val) n.val).injRun = none ∧ (convAt
      (convFill 11 a n.val) n.val).pend.contains (g.val + 1) = false ∧ mgetD (convAt (convFill 11 a n.val) n.val).groups (g.val + 1) [] ≠ []) ∧
    (∃ (s a : State) (req : Fin 64) (n : Fin 9) (g : Fin 4), FindsReg s a (req.val) (524576 + 64 * n.val) ∧ bits (reg a (524556 + 64 * n.val + 4 *
      (g.val + 1))) 0 4 ≠ 0 ∧ bits (reg a (524556 + 64 * n.val + 4 * (g.val + 1))) 0 4 < 14 ∧ convRuns a n.val = true ∧ (convAt (convFill 11 a n.val)
      n.val).calReq = false ∧ (convAt (convFill 11 a n.val) n.val).calBusy = false ∧ (convAt (convFill 11 a n.val) n.val).injRun = none ∧ (convAt
      (convFill 11 a n.val) n.val).pend.contains (g.val + 1) = true) ∧
    (∃ (s a : State) (pin : Fin 8) (rise : Bool), Finds s a ∧ (∀ m < 9, ∀ g < 5, (decide (bits (reg a (524556 + 64 * m + 4 * g)) 0 4 = 2 + pin.val) &&
      bit (bits (reg a (524556 + 64 * m + 4 * g)) 4 2) (if rise = true then 0 else 1)) = false)) ∧
    (∃ (s a : State) (n : Fin 9) (pin : Fin 8) (rise : Bool), Finds s a ∧ (decide (bits (reg a (524556 + 64 * n.val + 4 * 0)) 0 4 = 2 + pin.val) &&
      bit (bits (reg a (524556 + 64 * n.val + 4 * 0)) 4 2) (if rise = true then 0 else 1)) = true ∧ (∀ m < 9, ∀ g < 5, m ≠ n.val ∨ g ≠ 0 → (decide
      (bits (reg a (524556 + 64 * m + 4 * g)) 0 4 = 2 + pin.val) && bit (bits (reg a (524556 + 64 * m + 4 * g)) 4 2) (if rise = true then 0 else 1)) =
      false) ∧ convRuns a n.val = true ∧ mgetD (convAt (convFill 11 a n.val) n.val).groups 0 [] ≠ [] ∧ (convAt (convFill 11 a n.val) n.val).regRun =
      false) :=
  ⟨⟨setReg w0 0x8010C 0, seen (setReg w0 0x8010C 0), 1, 0, by decide +kernel⟩,
   ⟨onCnv (fun c => { c with convs := [] }) wConv, seen (onCnv (fun c => { c with convs := [] }) wConv), 1, 0, by decide +kernel⟩,
   ⟨wConv, seen (wConv), 1, 0, by decide +kernel⟩,
   ⟨setReg wConv 0x8010C 1, seen (setReg wConv 0x8010C 1), 1, 0, by decide +kernel⟩,
   ⟨wConv, seen (wConv), 1, 0, 0, by decide +kernel⟩,
   ⟨onCnv (fun c => { c with convs := [(0, { pend := [1], groups := [(1, [0])], sampleAt := 5 })] }) wConv, seen (onCnv (fun c =>
     { c with convs := [(0, { pend := [1], groups := [(1, [0])], sampleAt := 5 })] }) wConv), 1, 0, 0, by decide +kernel⟩,
   ⟨wConv, seen (wConv), 0, true, by decide +kernel⟩,
   ⟨setReg wConv 0x8010C (2 + 16), seen (setReg wConv 0x8010C (2 + 16)), 0, 0, true, by decide +kernel⟩⟩

theorem witness_ConversionResults :
    (∃ (s a : State) (n : Fin 9) (f : InFlight) (rest : List InFlight), Finds s a ∧ bit (reg a (524544 + 64 * n.val)) 1 = false ∧ (convAt a
      n.val).pipe = f :: rest ∧ shadowsOn a 1 n.val = [] ∧ liveHandle a f.handle = true) ∧
    (∃ (s a : State) (n : Fin 9) (f : InFlight) (rest : List InFlight), Finds s a ∧ bit (reg a (524544 + 64 * n.val)) 1 = false ∧ (convAt a
      n.val).pipe = f :: rest ∧ shadowsOn a 1 n.val = [] ∧ liveHandle a f.handle = false) ∧
    (∃ (s a : State) (n : Fin 9) (e c : Nat), Finds s a ∧ convRuns a n.val = true ∧ (convAt a n.val).calBusy = false ∧ (convAt a n.val).calReq = false
      ∧ (convAt a n.val).injRun = none ∧ (convAt a n.val).pend = [] ∧ (convAt a n.val).regRun = true ∧ (convAt a n.val).regEntry = e ∧ (convAt a
      n.val).pipe = [] ∧ (mgetD (convAt a n.val).groups 0 [])[e]? = some c ∧ a.cnv.refReady = true ∧ bit (reg a (524544 + 64 * n.val)) 1 = false) ∧
    (∃ (s a : State) (req : Fin 64), FindsReg s a (req.val) 524312 ∧ a.cnv.tq = []) ∧
    (∃ (s a : State) (req : Fin 64) (w t : Nat) (rest : List (Nat × Nat)), FindsReg s a (req.val) 524312 ∧ a.cnv.tq = (w, t) :: rest) ∧
    (∃ (s a : State), Finds s a ∧ bit (reg a 524304) 0 = false) ∧
    (∃ (s a : State) (v1 v2 : Int) (b n p : Nat), Finds s a ∧ bit (reg a 524304) 0 = true ∧ a.cnv.chkLast ≠ some (a.time.frame / 1280 / 2 ^ bits (reg
      a 524304) 1 3) ∧ nextCheck { a with cnv := { a.cnv with chkLast := some (a.time.frame / 1280 / 2 ^ bits (reg a 524304) 1 3) } } = some (b, n) ∧
      checkPartner { a with cnv := { a.cnv with chkLast := some (a.time.frame / 1280 / 2 ^ bits (reg a 524304) 1 3) } } n = some p ∧ (convAt a
      n).calBusy = false ∧ (convAt a p).calBusy = false ∧ convRuns a n = true ∧ convRuns a p = true ∧ a.cnv.refReady = true ∧ (checkValue a n v1).2 =
      false ∧ (checkValue a p v2).2 = false ∧ ((checkValue a n v1).1 - sx 32 (reg a 524296)).natAbs ≤ reg a 524300 ∧ ((checkValue a p v2).1 - sx 32
      (reg a 524296)).natAbs ≤ reg a 524300 ∧ ((checkValue a n v1).1 - (checkValue a p v2).1).natAbs ≤ reg a 524300) ∧
    (∃ (s a : State) (m : Fin 8) (i : Nat), FindsUnit s a ∧ (mkeys a.cchans fun i x => decide (x.cfg.source = 2) && decide (x.cfg.unit = m.val) &&
      isLive a cCCHAN i).head? = some i ∧ outPeriod a (chAt a i).cfg = 0 ∧ 0 < (chAt a i).cfg.osr * (if chFIR (chAt a i).cfg = true then 2 else 1) ∧
      ((chAt a i).cfg.osr * (if chFIR (chAt a i).cfg = true then 2 else 1)) ≤ (chAt a i).dec.since ∧ serves a 2 (physPair a (chAt a i).pair) = true) :=
  ⟨⟨live cCCHAN 0 (onCnv (fun c => { c with convs := [(0, { pipe := [flight0] })] }) wConv), seen (live cCCHAN 0 (onCnv (fun c =>
     { c with convs := [(0, { pipe := [flight0] })] }) wConv)), 0, flight0, [], by decide +kernel⟩,
   ⟨onCnv (fun c => { c with convs := [(0, { pipe := [flight0] })] }) wConv, seen (onCnv (fun c => { c with convs := [(0, { pipe := [flight0] })] })
     wConv), 0, flight0, [], by decide +kernel⟩,
   ⟨onCnv (fun c => { c with convs := [(0, { groups := [(0, [0])], regRun := true })] }) wConv, seen (onCnv (fun c =>
     { c with convs := [(0, { groups := [(0, [0])], regRun := true })] }) wConv), 0, 0, 0, by decide +kernel⟩,
   ⟨w0, seen (w0), 1, by decide +kernel⟩,
   ⟨onCnv (fun c => { c with tq := [(7, 9)] }) w0, seen (onCnv (fun c => { c with tq := [(7, 9)] }) w0), 1, 7, 9, [], by decide +kernel⟩,
   ⟨w0, seen (w0), by decide +kernel⟩,
   ⟨wCheck, seen (wCheck), 1250000000, 1250000000, 4, 0, 8, by decide +kernel⟩,
   ⟨wMdat, wMdat, 0, 0, by decide +kernel⟩⟩

theorem witness_FeedbackAndSteps :
    (∃ (s a : State) (f : Fin 256), FindsUnit s a ∧ isLive a cFBCH f.val = true ∧ (fbAt a f.val).speedSt ≠ 0 ∧ (fbAt a f.val).cfg.standstillMs * msU <
      a.time.elapsed - if 4 ≤ (fbAt a f.val).cfg.type then (fbAt a f.val).changed else match (fbAt a f.val).edges with | e :: tail => e.at_ | [] => 0) ∧
    (∃ (s a : State) (f : Fin 256), FindsUnit s a ∧ (a.time.elapsed - if 4 ≤ (fbAt a f.val).cfg.type then (fbAt a f.val).changed else match (fbAt a
      f.val).edges with | e :: tail => e.at_ | [] => 0) ≤ (fbAt a f.val).cfg.standstillMs * msU) ∧
    (∃ (s a : State) (p : Fin 256) (t j : Nat) (y : Joint), FindsUnit s a ∧ isLive a cPROFILE p.val = true ∧ (prfAt a p.val).restSince = some t ∧
      (prfAt a p.val).joint = some j ∧ mget a.joints j = some y ∧ y.stepper = true ∧ (prfAt a p.val).reduceAt = none ∧ (prfAt a p.val).cfg.standMs *
      msU ≤ a.time.elapsed - t) ∧
    (∃ (s a : State) (p : Fin 256) (t : Nat), Finds s a ∧ (prfAt a p.val).home.window = some t ∧ (prfAt a p.val).home.st ≠ 0 ∧ (prfAt a p.val).home.st
      ≠ 7 ∧ a.time.elapsed < t) ∧
    (∃ (s a : State) (p : Fin 256) (t : Nat), Finds s a ∧ (prfAt a p.val).home.window = some t ∧ (prfAt a p.val).home.st ≠ 0 ∧ (prfAt a p.val).home.st
      ≠ 7 ∧ t ≤ a.time.elapsed ∧ (prfAt a p.val).home.raw = (prfAt a p.val).home.confirmed) ∧
    (∃ (s a : State) (p : Fin 256) (t : Nat), Finds s a ∧ (prfAt a p.val).home.window = some t ∧ (prfAt a p.val).home.st ≠ 0 ∧ (prfAt a p.val).home.st
      ≠ 7 ∧ t ≤ a.time.elapsed ∧ (prfAt a p.val).home.raw ≠ (prfAt a p.val).home.confirmed) ∧
    (∃ (s a : State) (n : Fin 8), Finds s a ∧ (mkeys a.profiles fun x p => decide (p.cfg.source = 4) && decide (p.cfg.stepIn = n.val)) = [] ∧ bit
      (stepCfg a n.val) 0 = false) ∧
    (∃ (s a : State) (n : Fin 8), Finds s a ∧ (mkeys a.profiles fun x p => decide (p.cfg.source = 4) && decide (p.cfg.stepIn = n.val)) = [] ∧ bit
      (stepCfg a n.val) 0 = true ∧ Option.all (fun e => decide (100 * nsU ≤ a.time.elapsed - e.1)) (mgetD a.stepIns n.val
      { count := 0, last := none, overrun := false }).last = true) ∧
    (∃ (s a : State) (n : Fin 8) (t : Nat) (u : Bool), Finds s a ∧ (mkeys a.profiles fun x p => decide (p.cfg.source = 4) && decide (p.cfg.stepIn =
      n.val)) = [] ∧ bit (stepCfg a n.val) 0 = true ∧ (mgetD a.stepIns n.val { count := 0, last := none, overrun := false }).last = some (t, u) ∧
      a.time.elapsed - t < 100 * nsU ∧ (mgetD a.stepIns n.val { count := 0, last := none, overrun := false }).overrun = false) :=
  ⟨⟨onTime (fun t => { t with elapsed := 20 * msU + 1 }) (live cFBCH 0 { w0 with fbchs := [(0, { speedSt := 2 })] }), onTime (fun t =>
     { t with elapsed := 20 * msU + 1 }) (live cFBCH 0 { w0 with fbchs := [(0, { speedSt := 2 })] }), 0, by decide +kernel⟩,
   ⟨w0, w0, 0, by decide +kernel⟩,
   ⟨onTime (fun t => { t with elapsed := 200 * msU }) (live cPROFILE 0
     { w0 with profiles := [(0, { joint := some 0, restSince := some 0 })], joints := [(0, joint0)] }), onTime (fun t =>
     { t with elapsed := 200 * msU }) (live cPROFILE 0
     { w0 with profiles := [(0, { joint := some 0, restSince := some 0 })], joints := [(0, joint0)] }), 0, 0, 0, joint0, by decide +kernel⟩,
   ⟨{ w0 with profiles := [(0, { home := { st := 1, window := some 1 } })] }, seen
     ({ w0 with profiles := [(0, { home := { st := 1, window := some 1 } })] }), 0, 1, by decide +kernel⟩,
   ⟨{ w0 with profiles := [(0, { home := { st := 1, window := some 0 } })] }, seen
     ({ w0 with profiles := [(0, { home := { st := 1, window := some 0 } })] }), 0, 0, by decide +kernel⟩,
   ⟨{ w0 with profiles := [(0, { home := { st := 1, window := some 0, raw := true } })] }, seen
     ({ w0 with profiles := [(0, { home := { st := 1, window := some 0, raw := true } })] }), 0, 0, by decide +kernel⟩,
   ⟨w0, seen (w0), 0, by decide +kernel⟩,
   ⟨onTime (fun t => { t with elapsed := 100 * nsU }) { setReg w0 0x180010 1 with stepIns := [(0, { last := some (0, true) })] }, seen (onTime (fun t
     => { t with elapsed := 100 * nsU }) { setReg w0 0x180010 1 with stepIns := [(0, { last := some (0, true) })] }), 0, by decide +kernel⟩,
   ⟨onTime (fun t => { t with elapsed := 100 * nsU - 1 }) { setReg w0 0x180010 1 with stepIns := [(0, { last := some (0, true) })] }, seen (onTime
     (fun t => { t with elapsed := 100 * nsU - 1 }) { setReg w0 0x180010 1 with stepIns := [(0, { last := some (0, true) })] }), 0, 0, true,
     by decide +kernel⟩⟩

theorem witness_DraverArithmetic :
    ∃ (s : State) (n : Fin 18) (gr : Bool) (x : DCtx), FindsCore s (n.val) gr x :=
  ⟨w0, 0, false, {}, by decide +kernel⟩

theorem witness_DraverImmediates :
    ∃ (s : State) (n : Fin 18) (gr : Bool) (x : DCtx), FindsCore s (n.val) gr x :=
  ⟨w0, 17, false, {}, by decide +kernel⟩

theorem witness_DraverAccumulators :
    (∃ (s : State) (n : Fin 18) (gr : Bool) (x : DCtx), FindsCore s (n.val) gr x) ∧
    (∃ (s : State) (n : Fin 18) (gr : Bool) (x : DCtx) (k : BitVec 7), FindsCore s (n.val) gr x ∧ 0 ≤ k.toInt) ∧
    (∃ (s : State) (n : Fin 18) (gr : Bool) (x : DCtx) (k : BitVec 7), FindsCore s (n.val) gr x ∧ k.toInt < 0) :=
  ⟨⟨w0, 0, false, {}, by decide +kernel⟩,
   ⟨w0, 0, false, {}, 0, by decide +kernel⟩,
   ⟨w0, 0, false, {}, 127, by decide +kernel⟩⟩

theorem witness_DraverMemory :
    (∃ (s : State) (n : Fin 18) (gr : Bool) (p : Fin 8) (m : BitVec 16) (x : DCtx), FindsCore s (n.val) gr x ∧ accessTrap (x.p.getD (p.val) 0) (bits
      (x.p.getD (p.val) 0) 0 16) false false = 0 ∧ accessTrap (x.p.getD (p.val) 0) (modifyP (x.p.getD (p.val) 0) m.toInt) false false = 0 ∧ accessTrap
      (x.p.getD (p.val) 0) (bits (x.p.getD (p.val) 0) 0 16) false true = 0 ∧ accessTrap (x.p.getD (p.val) 0) (modifyP (x.p.getD (p.val) 0) m.toInt)
      false true = 0 ∧ accessTrap (x.p.getD (p.val) 0) (bits (x.p.getD (p.val) 0) 0 16) true false = 0 ∧ accessTrap (x.p.getD (p.val) 0) (modifyP
      (x.p.getD (p.val) 0) m.toInt) true false = 0) ∧
    (∃ (s : State) (n : Fin 18) (gr : Bool) (p : Fin 8) (x : DCtx) (q : Fin 8), FindsCore s (n.val) gr x ∧ p ≠ q ∧ accessTrap (x.p.getD (p.val) 0)
      (bits (x.p.getD (p.val) 0) 0 16) false false = 0 ∧ accessTrap (x.p.getD (q.val) 0) (bits (x.p.getD (q.val) 0) 0 16) true false = 0) ∧
    (∃ (s : State) (n : Fin 18) (gr : Bool) (x : DCtx), FindsCore s (n.val) gr x) ∧
    (∃ (s : State) (n : Fin 18) (gr : Bool) (p : Fin 8) (m : BitVec 16) (x : DCtx), FindsCore s (n.val) gr x ∧ accessTrap (x.p.getD (p.val) 0)
      (modifyP (x.p.getD (p.val) 0) m.toInt) false false ≠ 0 ∧ gr = true ∧ (workerAt s n.val).running = none) :=
  ⟨⟨w0, 0, false, 0, 0, {}, by decide +kernel⟩,
   ⟨w0, 0, false, 0, {}, 1, by decide +kernel⟩,
   ⟨w0, 0, false, {}, by decide +kernel⟩,
   ⟨wCtx { p := [0xFFFF, 0, 0, 0, 0, 0, 0, 0] }, 0, true, 0, 0, { p := [0xFFFF, 0, 0, 0, 0, 0, 0, 0] }, by decide +kernel⟩⟩

theorem witness_DraverFlow :
    (∃ (s : State) (n : Fin 18) (gr : Bool) (x : DCtx), FindsCore s (n.val) gr x) ∧
    (∃ (s : State) (n : Fin 18) (gr : Bool) (x : DCtx) (k : Fin 16), FindsCore s (n.val) gr x ∧ k.val < 12 ∧ condHolds (k.val) x.dst = some true) ∧
    (∃ (s : State) (n : Fin 18) (gr : Bool) (x : DCtx) (k : Fin 16), FindsCore s (n.val) gr x ∧ k.val < 12 ∧ condHolds (k.val) x.dst = some false) ∧
    (∃ (s : State) (n : Fin 18) (gr : Bool) (x : DCtx) (k : Fin 16), FindsCore s (n.val) gr x ∧ condHolds (k.val) x.dst = some true) ∧
    (∃ (s : State) (n : Fin 18) (gr : Bool) (x : DCtx) (body : Fin 64) (ga : Fin 32), FindsCore s (n.val) gr x ∧ x.pc + body.val + 1 ≤ 8191 ∧ 0 ≤ sx
      32 (gAt x ga.val) ∧ gAt x ga.val ≤ 4096) ∧
    (∃ (s : State) (n : Fin 18) (gr : Bool) (x : DCtx) (sr : Fin 16) (v : Nat), FindsCore s (n.val) gr x ∧ specialAt x sr.val = some v) ∧
    (∃ (s : State) (n : Fin 18) (gr : Bool) (x : DCtx) (sr : Fin 16), FindsCore s (n.val) gr x ∧ sr.val < 8) ∧
    (∃ (s : State) (n : Fin 18) (gr : Bool) (x : DCtx) (sr : Fin 16), FindsCore s (n.val) gr x ∧ sr.val = 11) ∧
    (∃ (s a : State) (n : Fin 18), FindsUnit s a ∧ ((drvAt a n.val).queue = [] ∨ (drvAt a n.val).halted ≠ [] ∨ serves a 4 n.val = false)) ∧
    (∃ (s a : State) (n : Fin 18), FindsUnit s a ∧ (drvAt a n.val).queue ≠ [] ∧ (drvAt a n.val).halted = [] ∧ serves a 4 n.val = true ∧ (drvAt a
      n.val).used = 0 ∧ (drvAt a n.val).entered = false ∧ (workerAt a n.val).running = none ∧ (drvAt a n.val).graph.pend = []) ∧
    (∃ (s a : State) (n : Fin 18) (w : BitVec 16), FindsUnit s a ∧ (drvAt a n.val).queue ≠ [] ∧ (drvAt a n.val).halted = [] ∧ serves a 4 n.val = true
      ∧ (drvAt a n.val).used = 0 ∧ (drvAt a n.val).entered = false ∧ (drvAt (toPreempt 16000 (graphIssue w.toNat a n.val) (n.val) 0).2
      n.val).graph.pend = []) ∧
    (∃ (s a : State) (n : Fin 18) (k : Fin 8) (j : Nat), FindsUnit s a ∧ serves a 4 n.val = true ∧ (slotAt (drvAt a n.val) k.val).live = some j ∧
      (a.time.frame + 1) % 160 ≠ (slotAt (drvAt a n.val) k.val).pubAt % 160) ∧
    (∃ (s a : State) (n : Fin 18) (k : Fin 8) (j : Nat), FindsUnit s a ∧ serves a 4 n.val = true ∧ (slotAt (drvAt a n.val) k.val).live = some j ∧
      (a.time.frame + 1) % 160 = (slotAt (drvAt a n.val) k.val).pubAt % 160 ∧ (slotAt (drvAt a n.val) k.val).phase = 2 ∧ (slotAt (drvAt a n.val)
      k.val).doneAt * 1000 ≤ ((slotAt (drvAt a n.val) k.val).pubAt - 1) * 118800) ∧
    (∃ (s a : State) (n : Fin 18) (k : Fin 8) (j : Nat), FindsUnit s a ∧ serves a 4 n.val = true ∧ (slotAt (drvAt a n.val) k.val).live = some j ∧
      (a.time.frame + 1) % 160 = (slotAt (drvAt a n.val) k.val).pubAt % 160 ∧ (slotAt (drvAt a n.val) k.val).phase = 2 ∧ ((slotAt (drvAt a n.val)
      k.val).pubAt - 1) * 118800 < (slotAt (drvAt a n.val) k.val).doneAt * 1000 ∧ ((slotAt (drvAt a n.val) k.val).pubAt - 1) * 120 < (slotAt (drvAt a
      n.val) k.val).doneAt) ∧
    (∃ (s a : State) (n : Fin 18) (k : Fin 8) (j : Nat), FindsUnit s a ∧ serves a 4 n.val = true ∧ (slotAt (drvAt a n.val) k.val).live = some j ∧
      (a.time.frame + 1) % 160 = (slotAt (drvAt a n.val) k.val).pubAt % 160 ∧ ((slotAt (drvAt a n.val) k.val).phase = 1 ∨ (slotAt (drvAt a n.val)
      k.val).phase = 3)) ∧
    (∃ (s a : State) (n : Fin 18), Finds s a ∧ (drvAt a n.val).load = none) ∧
    (∃ (s a : State) (n : Fin 18) (img : DrvImage) (acc : Machine.Acc) (first : Bool), Finds s a ∧ (drvAt a n.val).load = some (acc, first) ∧ (drvAt a
      n.val).swapDue = false ∧ img.envelope.length ≠ pf acc.d 32 4) ∧
    (∃ (s a : State) (n : Fin 18) (img : DrvImage) (acc : Machine.Acc) (first : Bool), Finds s a ∧ (drvAt a n.val).load = some (acc, first) ∧ (drvAt a
      n.val).swapDue = false ∧ img.envelope.length = pf acc.d 32 4 ∧ envelopeCheck
      { a with drv := mput a.drv n.val { (drvAt a n.val) with load := none } } 2 img.envelope = 0 ∧ memPoisoned
      { a with drv := mput a.drv n.val { (drvAt a n.val) with load := none } } (Config.imageCopy n.val) img.envelope.length = true) ∧
    (∃ (s a : State) (n : Fin 18) (img : DrvImage) (acc : Machine.Acc) (first : Bool), Finds s a ∧ (drvAt a n.val).load = some (acc, first) ∧ (drvAt a
      n.val).swapDue = false ∧ img.envelope.length = pf acc.d 32 4 ∧ envelopeCheck
      { a with drv := mput a.drv n.val { (drvAt a n.val) with load := none } } 2 img.envelope = 0 ∧ memPoisoned
      { a with drv := mput a.drv n.val { (drvAt a n.val) with load := none } } (Config.imageCopy n.val) img.envelope.length = false ∧ imageFail
      { a with drv := mput a.drv n.val { (drvAt a n.val) with load := none } } (n.val) img
      { ident := BitVec.toNat img.ident, code := wordMap 0 img.code, coef := wordMap 0 img.coef, loops := List.foldl (fun m e => mput m (↑e.1) e.2) [] img.loops, ops := img.ops }
      = 0) :=
  ⟨⟨w0, 0, false, {}, by decide +kernel⟩,
   ⟨w0, 0, false, {}, 0, by decide +kernel⟩,
   ⟨w0, 0, false, {}, 1, by decide +kernel⟩,
   ⟨w0, 0, false, {}, 0, by decide +kernel⟩,
   ⟨w0, 0, false, {}, 63, 0, by decide +kernel⟩,
   ⟨w0, 0, false, {}, 0, 0, by decide +kernel⟩,
   ⟨w0, 0, false, {}, 7, by decide +kernel⟩,
   ⟨w0, 0, false, {}, 11, by decide +kernel⟩,
   ⟨w0, w0, 0, by decide +kernel⟩,
   ⟨wLoops, wLoops, 0, by decide +kernel⟩,
   ⟨wLoops, wLoops, 0, 0, by decide +kernel⟩,
   ⟨wSlot 0 0 0, wSlot 0 0 0, 0, 0, 0, by decide +kernel⟩,
   ⟨wSlot 2 1306 11, wSlot 2 1306 11, 0, 0, 0, by decide +kernel⟩,
   ⟨wSlot 2 1321 11, wSlot 2 1321 11, 0, 0, 0, by decide +kernel⟩,
   ⟨wSlot 1 0 11, wSlot 1 0 11, 0, 0, 0, by decide +kernel⟩,
   ⟨w0, seen (w0), 0, by decide +kernel⟩,
   ⟨{ w0 with drv := [(0, { load := some (acc0 0 { ring := 0, payload := 1 <<< 128 }, true) })] }, seen
     ({ w0 with drv := [(0, { load := some (acc0 0 { ring := 0, payload := 1 <<< 128 }, true) })] }), 0, {}, acc0 0
     { ring := 0, payload := 1 <<< 128 }, true, by decide +kernel⟩,
   ⟨wPoison { w0 with drv := [(0, { load := some (acc0 0x0700 (desc 0 [(32, 4, 192)]), true) })] }, seen (wPoison
     { w0 with drv := [(0, { load := some (acc0 0x0700 (desc 0 [(32, 4, 192)]), true) })] }), 0, { envelope := envl 2 0 }, acc0 0x0700 (desc 0 [(32,
     4, 192)]), true, ⟨rfl, rfl⟩, by decide +kernel, by decide +kernel, by decide +kernel, by decide +kernel, memPoisoned_of_mem _ _ _
     (by simp [wPoison, onMem, seen]) (by decide +kernel)⟩,
   ⟨{ w0 with drv := [(0, { load := some (acc0 0x0700 (desc 0 [(32, 4, 192)]), true) })] }, seen
     ({ w0 with drv := [(0, { load := some (acc0 0x0700 (desc 0 [(32, 4, 192)]), true) })] }), 0, { envelope := envl 2 0 }, acc0 0x0700 (desc 0 [(32,
     4, 192)]), true, by decide +kernel⟩⟩

theorem witness_DraverPipeline :
    (∃ (s : State) (n : Fin 18) (gr : Bool) (x : DCtx), ctxOf (drvAt s n.val) gr = x ∧ x.br = none ∧ x.lc = 0 ∧ x.skip = false ∧ x.trap = none ∧
      x.ended = false ∧ coreIssues s n.val = false) ∧
    (∃ (s : State) (n : Fin 18) (gr : Bool) (x : DCtx) (o1 o2 : DstOp) (r v : Nat), ctxOf (drvAt s n.val) gr = x ∧ x.br = none ∧ x.lc = 0 ∧ x.skip =
      false ∧ x.trap = none ∧ x.ended = false ∧ coreIssues s n.val = true ∧ x.dstQ = [o1, o2] ∧ x.pend = [(1, DWrite.g r v)]) ∧
    (∃ (s : State) (n : Fin 18) (gr : Bool) (x : DCtx) (o1 o2 : DstOp) (k : Nat) (w : DWrite), ctxOf (drvAt s n.val) gr = x ∧ x.br = none ∧ x.lc = 0 ∧
      x.skip = false ∧ x.trap = none ∧ x.ended = false ∧ coreIssues s n.val = true ∧ x.dstQ = [o1, o2] ∧ 1 < k ∧ x.pend = [(k, w)]) ∧
    (∃ (s : State) (n : Fin 18) (gr : Bool) (x : DCtx) (o1 o2 : DstOp) (a v : Nat), ctxOf (drvAt s n.val) gr = x ∧ x.br = none ∧ x.lc = 0 ∧ x.skip =
      false ∧ x.trap = none ∧ x.ended = false ∧ coreIssues s n.val = true ∧ x.dstQ = [o1, o2] ∧ x.pend = [(1, DWrite.mem a v)] ∧ gr = true) :=
  ⟨⟨{ w0 with drv := [(0, { stopped := true })] }, 0, false, {}, by decide +kernel⟩,
   ⟨wCtx { pend := [(1, .g 1 5)] }, 0, true, { pend := [(1, .g 1 5)] }, {}, {}, 1, 5, by decide +kernel⟩,
   ⟨wCtx { pend := [(2, .g 1 5)] }, 0, true, { pend := [(2, .g 1 5)] }, {}, {}, 2, .g 1 5, by decide +kernel⟩,
   ⟨wCtx { pend := [(1, .mem 4 5)] }, 0, true, { pend := [(1, .mem 4 5)] }, {}, {}, 4, 5, by decide +kernel⟩⟩

theorem witness_FrameBoundaries :
    (∃ (s : State), s.md.held = false ∧ NothingDue s ∧ clockRuns s = true) ∧
    (∃ (s : State), s.md.held = false ∧ NothingDue s ∧ clockRuns s = false) ∧
    (∃ (s : State), s.md.held = false ∧ s.due.presses = [] ∧ s.due.judge = false ∧ s.due.body = false ∧ s.due.servo = false) ∧
    (∃ (s : State), s.md.held = false ∧ s.due.presses = [] ∧ s.due.judge = false ∧ s.due.body = false ∧ s.due.servo = true ∧ s.pins.powerState = 2) ∧
    (∃ (s : State), s.md.held = false ∧ s.due.presses = [] ∧ s.due.judge = false ∧ s.due.body = false ∧ s.due.servo = true ∧ s.pins.powerState ≠ 2) ∧
    (∃ (s : State), s.md.held = false ∧ s.due.presses = [] ∧ s.due.judge = false ∧ s.due.body = false ∧ s.due.servo = false ∧ s.due.plan = false) ∧
    (∃ (s : State), s.md.held = false ∧ s.due.presses = [] ∧ s.due.judge = false ∧ s.due.body = false ∧ s.due.servo = false ∧ s.due.plan = true ∧
      s.pins.powerState = 2) ∧
    (∃ (s : State), s.md.held = false ∧ s.due.presses = [] ∧ s.due.judge = false ∧ s.due.body = false ∧ s.due.servo = false ∧ s.due.plan = true ∧
      s.pins.powerState ≠ 2 ∧ plnOn (solverTick (replanCommit (planJoin (swPlanTick { s with due := { s.due with plan := false } })))) = false) ∧
    (∃ (s : State), s.md.held = false ∧ s.due.presses = [] ∧ s.due.judge = false ∧ s.due.body = false ∧ s.due.servo = false ∧ s.due.plan = true ∧
      s.pins.powerState ≠ 2 ∧ plnOn (solverTick (replanCommit (planJoin (swPlanTick { s with due := { s.due with plan := false } })))) = true) ∧
    (∃ (s : State), s.md.held = false ∧ s.due.presses = [] ∧ s.due.judge = false ∧ s.due.body = false) ∧
    (∃ (s : State), s.md.held = false ∧ s.due.presses = [] ∧ s.due.judge = true) ∧
    (∃ (s : State), s.md.held = false ∧ s.due.presses = [] ∧ s.due.judge = false ∧ s.due.body = true) :=
  ⟨⟨onMd (fun m => { m with stage := 6 }) (atFrame 1295 (onGrd (fun g => { g with running := true, cycle := some 1280 }) w0)), by decide +kernel⟩,
   ⟨w0, by decide +kernel⟩,
   ⟨w0, by decide +kernel⟩,
   ⟨onPins (fun p => { p with powerState := 2 }) (onDue (fun d => { d with servo := true }) w0), by decide +kernel⟩,
   ⟨onDue (fun d => { d with servo := true }) w0, by decide +kernel⟩,
   ⟨w0, by decide +kernel⟩,
   ⟨onPins (fun p => { p with powerState := 2 }) (onDue (fun d => { d with plan := true }) w0), by decide +kernel⟩,
   ⟨onDue (fun d => { d with plan := true }) w0, by decide +kernel⟩,
   ⟨setReg (onDue (fun d => { d with plan := true }) w0) 0x200000 1, by decide +kernel⟩,
   ⟨w0, by decide +kernel⟩,
   ⟨onDue (fun d => { d with judge := true, body := true }) w0, by decide +kernel⟩,
   ⟨onDue (fun d => { d with body := true }) w0, by decide +kernel⟩⟩

theorem witness_FrameWorkCompletes :
    (∃ (s : State), s.md.held = false ∧ NothingDue s ∧ clockRuns s = true) ∧
    (∃ (s : State), s.md.held = false ∧ s.due.presses = [] ∧ s.due.judge = false ∧ s.due.body = false ∧ s.due.servo = true) ∧
    (∃ (s : State), s.md.held = false ∧ s.due.presses = [] ∧ s.due.judge = false ∧ s.due.body = false ∧ s.due.servo = false ∧ s.due.plan = true) ∧
    (∃ (s : State), s.md.held = false ∧ s.due.presses = [] ∧ s.due.judge = true) ∧
    (∃ (s : State), s.md.held = false ∧ NothingDue s ∧ s.pln.lost ≠ [] ∧ tickFrame s = 0) ∧
    (∃ (s a : State), s.md.held = false ∧ settle s = a ∧ a.md.held = false) ∧
    (∃ (s a : State), s.md.held = false ∧ Finds s a) ∧
    (∃ (s a : State) (r : Fin 64), s.md.held = false ∧ Finds s a ∧ reqReach a (r.val) 262272 = true) ∧
    (∃ (s a : State) (cs : List Byte), s.md.held = false ∧ Finds s a ∧ cs.length = 119) ∧
    (∃ (s a : State), s.md.held = false ∧ Finds s a ∧ hostLink a = true) ∧
    (∃ (s a : State), s.md.held = false ∧ atArrival s = a) :=
  ⟨⟨onMd (fun m => { m with stage := 6 }) w0, by decide +kernel⟩,
   ⟨onDue (fun d => { d with servo := true }) w0, by decide +kernel⟩,
   ⟨onDue (fun d => { d with plan := true }) w0, by decide +kernel⟩,
   ⟨onDue (fun d => { d with judge := true, body := true }) w0, by decide +kernel⟩,
   ⟨wLost, by decide +kernel⟩,
   ⟨w0, settle w0, by decide +kernel⟩,
   ⟨w0, seen (w0), by decide +kernel⟩,
   ⟨w0, seen (w0), 1, by decide +kernel⟩,
   ⟨w0, seen (w0), List.replicate 119 0, by decide +kernel⟩,
   ⟨wHost, seen (wHost), by decide +kernel⟩,
   ⟨w0, atArrival w0, by decide +kernel⟩⟩

theorem witness_PlanTickSteps :
    (∃ (s a : State), FindsUnit s a ∧ tickFrame a = 16 ∧ plnOn a = true ∧ (pressAt a 0).phase = Phase.free ∧ 1280 ≤ a.time.frame) ∧
    (∃ (s a : State), FindsUnit s a ∧ (tickFrame a ≠ 16 ∨ plnOn a = false ∨ (pressAt a 0).phase ≠ Phase.free ∨ a.time.frame < 1280) ∧ (a.grd.cycle =
      none ∨ a.grd.running = false ∨ tickFrame a ≠ 1272)) ∧
    (∃ (s a : State) (f : Nat), FindsUnit s a ∧ a.grd.cycle = some f ∧ a.grd.running = true ∧ tickFrame a = 1272 ∧ f / 1280 = a.time.frame / 1280 ∧
      xchkLost a = none ∧ (pressAt (inCycle (fun v => List.foldl (fun u x => finalArm u f false x) v v.grd.shotOrder) a) 0).phase ≠ Phase.armed) ∧
    (∃ (s a : State) (f : Nat), FindsUnit s a ∧ a.grd.cycle = some f ∧ a.grd.running = true ∧ tickFrame a = 1272 ∧ f / 1280 = a.time.frame / 1280 ∧
      xchkLost a = none ∧ (pressAt (inCycle (fun v => List.foldl (fun u x => finalArm u f false x) v v.grd.shotOrder) a) 0).phase = Phase.armed) ∧
    (∃ (s : State), s.md.held = false ∧ NothingDue s ∧ ((s.pln.lost.any fun e => decide (e.1 + 2 ≤ s.time.frame / 1280)) = false ∨ tickFrame s ≠ 0)) ∧
    (∃ (s : State), s.md.held = false ∧ NothingDue s ∧ (s.pln.lost.any fun e => decide (e.1 + 2 ≤ s.time.frame / 1280)) = true ∧ tickFrame s = 0) ∧
    (∃ (s a : State) (req : Fin 64), FindsReg s a (req.val) 2162688 ∧ a.md.mode ≠ Mode.prepare) ∧
    (∃ (s a : State) (req : Fin 64), FindsReg s a (req.val) 2162688 ∧ grdOn a = true) ∧
    (∃ (s a : State) (req : Fin 64), FindsReg s a (req.val) 2162688 ∧ a.md.mode = Mode.prepare) ∧
    (∃ (s a : State) (req : Fin 64), FindsReg s a (req.val) 2162688 ∧ a.md.mode = Mode.prepare ∧ grdOn a = false ∧ (∃ n ∈ guardLanes a, (lmapAt a n).2
      = true ∨ 191 < n ∨ (gangAt a (gangOf a n)).role ≠ 0 ∨ gangBound (gangAt a (gangOf a n)) = true)) ∧
    (∃ (s a : State) (req : Fin 64), FindsReg s a (req.val) 2162688 ∧ a.md.mode = Mode.prepare ∧ grdOn a = false ∧ (∀ n ∈ guardLanes a, (lmapAt a n).2
      = false ∧ n ≤ 191 ∧ (gangAt a (gangOf a n)).role = 0 ∧ gangBound (gangAt a (gangOf a n)) = false)) :=
  ⟨⟨setReg (atFrame 1296 w0) 0x200000 1, setReg (atFrame 1296 w0) 0x200000 1, by decide +kernel⟩,
   ⟨w0, w0, by decide +kernel⟩,
   ⟨onGrd (fun g => { g with running := true, cycle := some 16 }) (atFrame 1272 w0), onGrd (fun g => { g with running := true, cycle := some 16 })
     (atFrame 1272 w0), 16, by decide +kernel⟩,
   ⟨{ onGrd (fun g => { g with running := true, cycle := some 16 }) (atFrame 1272 w0) with presses := [(0, { phase := .armed })] },
     { onGrd (fun g => { g with running := true, cycle := some 16 }) (atFrame 1272 w0) with presses := [(0, { phase := .armed })] }, 16,
     by decide +kernel⟩,
   ⟨w0, by decide +kernel⟩,
   ⟨wLost, by decide +kernel⟩,
   ⟨w0, seen (w0), 1, by decide +kernel⟩,
   ⟨setReg w0 0x210000 1, seen (setReg w0 0x210000 1), 1, by decide +kernel⟩,
   ⟨inMode .prepare w0, seen (inMode .prepare w0), 1, by decide +kernel⟩,
   ⟨onSol (fun x => { x with lmap := [(184, (184, true))] }) (inMode .prepare w0), seen (onSol (fun x => { x with lmap := [(184, (184, true))] })
     (inMode .prepare w0)), 1, by decide +kernel⟩,
   ⟨inMode .prepare w0, seen (inMode .prepare w0), 1, by decide +kernel⟩⟩

theorem witness_SolverRecords :
    (∃ (s : State) (lane : Fin 192), s.md.held = false ∧ (gangAt s (gangOf s lane.val)).run = none) ∧
    (∃ (s : State) (lane : Fin 192) (run : KRun), s.md.held = false ∧ (gangAt s (gangOf s lane.val)).run = some run ∧ gangServes s (gangOf s lane.val)
      = true) ∧
    (∃ (s : State) (lane : Fin 192) (r : KRec) (run : KRun), s.md.held = false ∧ (gangAt s (gangOf s lane.val)).run = some run ∧ gangServes s (gangOf
      s lane.val) = true ∧ (∀ x ∈ List.map (fun i => isum (List.map (fun w => memWord w (run.base + r.a.toNat + i)) (kctxOf s (gangOf s lane.val)
      run).mems)) (List.range r.m.toNat), satS 32 x = x)) ∧
    (∃ (s : State) (lane : Fin 192) (run : KRun) (body : List KRec), s.md.held = false ∧ (gangAt s (gangOf s lane.val)).run = some run ∧ gangServes s
      (gangOf s lane.val) = true ∧ repeatBodyOk body = true) :=
  ⟨⟨w0, 0, by decide +kernel⟩,
   ⟨wRun, 0, { problem := 0, base := 0, issued := true }, by decide +kernel⟩,
   ⟨wRun, 0, { m := 2, n := 1, k := 3, b := 8, c := 16 }, { problem := 0, base := 0, issued := true }, by decide +kernel⟩,
   ⟨wRun, 0, { problem := 0, base := 0, issued := true }, [{ kernel := 10, m := 1, n := 4, k := 4 }], by decide +kernel⟩⟩

theorem witness_ProblemsRun :
    (∃ (s a : State), FindsUnit s a ∧ tickFrame a ≠ solStart a ∧ tickFrame a ≠ solDeadline a) ∧
    (∃ (s a : State) (l p base : Nat) (rest : List (Nat × Nat)), FindsUnit s a ∧ tickFrame a = solStart a ∧ gangsOf a 1 = [l] ∧ (gangAt a l).run =
      none ∧ (gangAt a l).left = (p, base) :: rest ∧ gangServes a l = true) ∧
    (∃ (s a : State) (l : Nat), FindsUnit s a ∧ tickFrame a = solDeadline a ∧ gangsOf a 1 = [l] ∧ (gangAt a l).run = none) ∧
    (∃ (s a : State) (lane : Fin 192) (run : KRun), Finds s a ∧ (gangAt a (gangOf a lane.val)).run = some run ∧ gangServes a (gangOf a lane.val) =
      true ∧ run.issued = true) ∧
    (∃ (s a : State) (lane : Fin 192), Finds s a ∧ (gangAt a (gangOf a lane.val)).run = none) :=
  ⟨⟨atFrame 1279 w0, atFrame 1279 w0, by decide +kernel⟩,
   ⟨wLeft, wLeft, 0, 0, 16, [], by decide +kernel⟩,
   ⟨atFrame (solDeadline w0) (onSol (fun x => { x with gangs := [(0, { role := 1 })] }) w0), atFrame (solDeadline w0) (onSol (fun x =>
     { x with gangs := [(0, { role := 1 })] }) w0), 0, by decide +kernel⟩,
   ⟨wRun, seen (wRun), 0, { problem := 0, base := 0, issued := true }, by decide +kernel⟩,
   ⟨w0, seen (w0), 0, by decide +kernel⟩⟩

theorem witness_PressSteps :
    (∃ (s a : State) (slot : Fin 16), Finds s a ∧ (pressAt a slot.val).phase = Phase.armed ∧ (pressAt a slot.val).checked = false ∧ slot ≠ 0) ∧
    (∃ (s a : State) (slot : Fin 16), Finds s a ∧ ((pressAt a slot.val).phase ≠ Phase.armed ∨ (pressAt a slot.val).checked = true ∨ slot = 0)) ∧
    (∃ (s a : State) (slot : Fin 16), Finds s a ∧ ((pressAt a slot.val).phase ≠ Phase.armed ∨ (pressAt a slot.val).checked = false ∨ pressWaits a
      slot.val = true)) ∧
    (∃ (s a : State) (slot : Fin 16), Finds s a ∧ (pressAt a slot.val).phase = Phase.armed ∧ (pressAt a slot.val).checked = true ∧ pressWaits a
      slot.val = false) ∧
    (∃ (s a : State) (slot : Fin 16), Finds s a ∧ slot = 1 ∧ darnDiffers a = true) ∧
    (∃ (s a : State) (slot : Fin 16), Finds s a ∧ (slot ≠ 1 ∨ darnDiffers a = false) ∧ (pressAt a slot.val).phase = Phase.armed ∧ (pressAt a
      slot.val).axis = 0 ∧ slot ≠ 0 ∧ (pressAt a slot.val).armElapsed + reg a 2228228 * msU ≤ a.time.elapsed) ∧
    (∃ (s a : State) (slot : Fin 16), Finds s a ∧ (slot ≠ 1 ∨ darnDiffers a = false) ∧ ((pressAt a slot.val).phase ≠ Phase.armed ∨ (pressAt a
      slot.val).axis ≠ 0 ∨ slot = 0 ∨ a.time.elapsed < (pressAt a slot.val).armElapsed + reg a 2228228 * msU)) ∧
    (∃ (s : State) (slot : Fin 16), s.md.held = false ∧ s.due.presses = [slot.val]) ∧
    (∃ (a : State) (slot : Fin 16), 3 ≤ slot.val ∧ (pressAt a slot.val).phase ≠ Phase.free) ∧
    (∃ (slot : Fin 16), 3 ≤ slot.val) :=
  ⟨⟨wPress { phase := .armed }, seen (wPress { phase := .armed }), 3, by decide +kernel⟩,
   ⟨w0, seen (w0), 3, by decide +kernel⟩,
   ⟨w0, seen (w0), 3, by decide +kernel⟩,
   ⟨wPress { phase := .armed, checked := true }, seen (wPress { phase := .armed, checked := true }), 3, by decide +kernel⟩,
   ⟨onHlt (fun h => { h with darn := some (darn0, 16, 0, 0, 4) }) w0, seen (onHlt (fun h => { h with darn := some (darn0, 16, 0, 0, 4) }) w0), 1,
     by decide +kernel⟩,
   ⟨onTime (fun t => { t with elapsed := reg w0 0x220004 * msU }) (wPress { phase := .armed }), seen (onTime (fun t =>
     { t with elapsed := reg w0 0x220004 * msU }) (wPress { phase := .armed })), 3, by decide +kernel⟩,
   ⟨w0, seen (w0), 3, by decide +kernel⟩,
   ⟨wDue {}, 3, by decide +kernel⟩,
   ⟨wPress { phase := .armed }, 3, by decide +kernel⟩,
   ⟨3, by decide +kernel⟩⟩

theorem witness_GraphSteps :
    (∃ (s a : State), Finds s a ∧ placing (judgeNodes a) = false) ∧
    (∃ (s a : State), Finds s a ∧ placing (judgeNodes a) = true ∧ placeable (reportNoWorker (judgeNodes a)) = none) ∧
    (∃ (s a : State) (i w : Nat), Finds s a ∧ placing (judgeNodes a) = true ∧ placeable (reportNoWorker (judgeNodes a)) = some (i, w) ∧ mhas
      (reportNoWorker (judgeNodes a)).gsc.nodes i = true ∧ w = 28) ∧
    (∃ (s a : State) (i w : Nat), Finds s a ∧ placing (judgeNodes a) = true ∧ placeable (reportNoWorker (judgeNodes a)) = some (i, w) ∧ w ≠ 28) ∧
    (∃ (s a : State) (i : Fin 8192), Finds s a ∧ mhas a.gsc.nodes i.val = true) ∧
    (∃ (s a : State) (i : Fin 8192), Finds s a ∧ (nodeAt a i.val).st ≠ NodeState.inFlight) ∧
    (∃ (s a : State) (i : Fin 8192), Finds s a ∧ (nodeAt a i.val).st = NodeState.inFlight ∧ (nodeAt a i.val).op = 1) ∧
    (∃ (s a : State) (i : Fin 8192), Finds s a ∧ (nodeAt a i.val).st = NodeState.inFlight ∧ (nodeAt a i.val).op = 2) ∧
    (∃ (s a : State) (i : Fin 8192), Finds s a ∧ (nodeAt a i.val).st = NodeState.inFlight ∧ (nodeAt a i.val).op = 3 ∧ (workerAt a (nodeAt a
      i.val).worker).quarantined = true) ∧
    (∃ (s a : State) (i : Fin 8192) (engine : Bool), Finds s a ∧ (nodeAt a i.val).st = NodeState.inFlight ∧ (nodeAt a i.val).op = 3 ∧ (workerAt a
      (nodeAt a i.val).worker).quarantined = false ∧ engine = true) ∧
    (∃ (s a : State) (i : Fin 8192) (engine : Bool) (r : Option (List Byte)) (b : State) (bs : List Byte), Finds s a ∧ (nodeAt a i.val).st =
      NodeState.inFlight ∧ (nodeAt a i.val).op = 3 ∧ (workerAt a (nodeAt a i.val).worker).quarantined = false ∧ engine = false ∧ dmaBlocked a (nodeAt
      a i.val) = false ∧ dmaRead a (bits (nodeAt a i.val).args 0 8) (bits (nodeAt a i.val).args 64 64) (bits (nodeAt a i.val).args 32 32) = (r, b) ∧ r
      = some bs) ∧
    (∃ (s a : State) (i : Fin 8192) (engine : Bool) (r : Option (List Byte)) (b : State), Finds s a ∧ (nodeAt a i.val).st = NodeState.inFlight ∧
      (nodeAt a i.val).op = 3 ∧ (workerAt a (nodeAt a i.val).worker).quarantined = false ∧ engine = false ∧ dmaBlocked a (nodeAt a i.val) = false ∧
      dmaRead a (bits (nodeAt a i.val).args 0 8) (bits (nodeAt a i.val).args 64 64) (bits (nodeAt a i.val).args 32 32) = (r, b) ∧ r = none) ∧
    (∃ (s a : State) (i : Fin 8192), Finds s a ∧ (nodeAt a i.val).st = NodeState.inFlight ∧ (nodeAt a i.val).op = 4) ∧
    (∃ (s a : State) (i : Fin 8192), Finds s a ∧ (nodeAt a i.val).st = NodeState.inFlight ∧ (nodeAt a i.val).op = 5 ∧ (nodeAt a i.val).ended = true) ∧
    (∃ (s a : State) (i : Fin 8192), Finds s a ∧ (nodeAt a i.val).st = NodeState.inFlight ∧ (nodeAt a i.val).op = 5 ∧ (nodeAt a i.val).ended = false) ∧
    (∃ (s a : State) (i : Fin 8192), Finds s a ∧ ((nodeAt a i.val).st ≠ NodeState.inFlight ∨ (nodeAt a i.val).op ≠ 5 ∨ (nodeAt a i.val).ended = true ∨
      (nodeAt a i.val).sent = true ∨ liveHandle a (bits (nodeAt a i.val).args 160 32) = false ∨ (ringAt a (hIdx (bits (nodeAt a i.val).args 160
      32))).st ≠ RingState.up ∨ busMasterOn a (ringAt a (hIdx (bits (nodeAt a i.val).args 160 32))).owner = false)) ∧
    (∃ (s a : State) (i : Fin 8192) (q : Fin 256), Finds s a ∧ hIdx (bits (nodeAt a i.val).args 160 32) = q.val ∧ (nodeAt a i.val).st =
      NodeState.inFlight ∧ (nodeAt a i.val).op = 5 ∧ (nodeAt a i.val).ended = false ∧ (nodeAt a i.val).sent = false ∧ liveHandle a (bits (nodeAt a
      i.val).args 160 32) = true ∧ (ringAt a (hIdx (bits (nodeAt a i.val).args 160 32))).st = RingState.up ∧ busMasterOn a (ringAt a (hIdx (bits
      (nodeAt a i.val).args 160 32))).owner = true ∧ memPoisoned a (bits (nodeAt a i.val).args 64 64) 64 = true) ∧
    (∃ (s a : State) (i : Fin 8192) (data : List Byte) (q : Fin 256), Finds s a ∧ hIdx (bits (nodeAt a i.val).args 160 32) = q.val ∧ (nodeAt a
      i.val).st = NodeState.inFlight ∧ (nodeAt a i.val).op = 5 ∧ (nodeAt a i.val).ended = false ∧ (nodeAt a i.val).sent = false ∧ liveHandle a (bits
      (nodeAt a i.val).args 160 32) = true ∧ (ringAt a (hIdx (bits (nodeAt a i.val).args 160 32))).st = RingState.up ∧ busMasterOn a (ringAt a (hIdx
      (bits (nodeAt a i.val).args 160 32))).owner = true ∧ memPoisoned a (bits (nodeAt a i.val).args 64 64) 64 = false ∧ acceptsNow
      { (eccRead a (linesOf (bits (nodeAt a i.val).args 64 64) 64)) with host := { (eccRead a (linesOf (bits (nodeAt a i.val).args 64 64) 64)).host with rings := mput (eccRead a (linesOf (bits (nodeAt a i.val).args 64 64) 64)).host.rings (hIdx (bits (nodeAt a i.val).args 160 32)) { (ringAt (eccRead a (linesOf (bits (nodeAt a i.val).args 64 64) 64)) (hIdx (bits (nodeAt a i.val).args 160 32))) with waiting := (ringAt (eccRead a (linesOf (bits (nodeAt a i.val).args 64 64) 64)) (hIdx (bits (nodeAt a i.val).args 160 32))).waiting ++ [{ op := (descOf q { raw := BitVec.ofNat 512 (leNat (memRead a (bits (nodeAt a i.val).args 64 64) 64)), data := data }).1, seq := (descOf q { raw := BitVec.ofNat 512 (leNat (memRead a (bits (nodeAt a i.val).args 64 64) 64)), data := data }).2.1, d := (descOf q { raw := BitVec.ofNat 512 (leNat (memRead a (bits (nodeAt a i.val).args 64 64) 64)), data := data }).2.2, pos := (descOf q { raw := BitVec.ofNat 512 (leNat (memRead a (bits (nodeAt a i.val).args 64 64) 64)), data := data }).2.1, node := some i.val }] } }, gsc := { (eccRead a (linesOf (bits (nodeAt a i.val).args 64 64) 64)).gsc with nodes := mmod (eccRead a (linesOf (bits (nodeAt a i.val).args 64 64) 64)).gsc.nodes i.val fun n => { n with sent := true } } }
      (hIdx (bits (nodeAt a i.val).args 160 32)) = true) ∧
    (∃ (s a : State) (i : Fin 8192) (data : List Byte) (q : Fin 256), Finds s a ∧ hIdx (bits (nodeAt a i.val).args 160 32) = q.val ∧ (nodeAt a
      i.val).st = NodeState.inFlight ∧ (nodeAt a i.val).op = 5 ∧ (nodeAt a i.val).ended = false ∧ (nodeAt a i.val).sent = false ∧ liveHandle a (bits
      (nodeAt a i.val).args 160 32) = true ∧ (ringAt a (hIdx (bits (nodeAt a i.val).args 160 32))).st = RingState.up ∧ busMasterOn a (ringAt a (hIdx
      (bits (nodeAt a i.val).args 160 32))).owner = true ∧ memPoisoned a (bits (nodeAt a i.val).args 64 64) 64 = false ∧ acceptsNow
      { (eccRead a (linesOf (bits (nodeAt a i.val).args 64 64) 64)) with host := { (eccRead a (linesOf (bits (nodeAt a i.val).args 64 64) 64)).host with rings := mput (eccRead a (linesOf (bits (nodeAt a i.val).args 64 64) 64)).host.rings (hIdx (bits (nodeAt a i.val).args 160 32)) { (ringAt (eccRead a (linesOf (bits (nodeAt a i.val).args 64 64) 64)) (hIdx (bits (nodeAt a i.val).args 160 32))) with waiting := (ringAt (eccRead a (linesOf (bits (nodeAt a i.val).args 64 64) 64)) (hIdx (bits (nodeAt a i.val).args 160 32))).waiting ++ [{ op := (descOf q { raw := BitVec.ofNat 512 (leNat (memRead a (bits (nodeAt a i.val).args 64 64) 64)), data := data }).1, seq := (descOf q { raw := BitVec.ofNat 512 (leNat (memRead a (bits (nodeAt a i.val).args 64 64) 64)), data := data }).2.1, d := (descOf q { raw := BitVec.ofNat 512 (leNat (memRead a (bits (nodeAt a i.val).args 64 64) 64)), data := data }).2.2, pos := (descOf q { raw := BitVec.ofNat 512 (leNat (memRead a (bits (nodeAt a i.val).args 64 64) 64)), data := data }).2.1, node := some i.val }] } }, gsc := { (eccRead a (linesOf (bits (nodeAt a i.val).args 64 64) 64)).gsc with nodes := mmod (eccRead a (linesOf (bits (nodeAt a i.val).args 64 64) 64)).gsc.nodes i.val fun n => { n with sent := true } } }
      (hIdx (bits (nodeAt a i.val).args 160 32)) = false) ∧
    (∃ (s a : State) (k : Fin 64) (w : Wait) (t : Nat), Finds s a ∧ waitTimeoutOk a = true ∧ a.gsc.waits[k.val]? = some w ∧ w.until_ = some t ∧ t ≤
      a.time.elapsed) ∧
    (∃ (s a : State) (k : Fin 64) (w : Wait) (t : Nat), Finds s a ∧ waitTimeoutOk a = true ∧ a.gsc.waits[k.val]? = some w ∧ w.until_ = some t ∧
      a.time.elapsed < t) :=
  ⟨⟨setReg w0 0x230000 0, seen (setReg w0 0x230000 0), by decide +kernel⟩,
   ⟨wNode { op := 6, st := .idle }, seen (wNode { op := 6, st := .idle }), by decide +kernel⟩,
   ⟨wNode { op := 6, states := 255, tokens := [(0, 1)] }, seen (wNode { op := 6, states := 255, tokens := [(0, 1)] }), 0, 28, by decide +kernel⟩,
   ⟨wNode { op := 4, states := 255, tokens := [(0, 1)] }, seen (wNode { op := 4, states := 255, tokens := [(0, 1)] }), 0, 26, by decide +kernel⟩,
   ⟨wNode { st := .inFlight, op := 3, worker := 18 }, seen (wNode { st := .inFlight, op := 3, worker := 18 }), 0, by decide +kernel⟩,
   ⟨wNode {}, seen (wNode {}), 0, by decide +kernel⟩,
   ⟨wNode { st := .inFlight, op := 1 }, seen (wNode { st := .inFlight, op := 1 }), 0, by decide +kernel⟩,
   ⟨wNode { st := .inFlight, op := 2, worker := 64 }, seen (wNode { st := .inFlight, op := 2, worker := 64 }), 0, by decide +kernel⟩,
   ⟨onGsc (fun g => { g with workers := [(18, { quarantined := true })] }) (wNode { st := .inFlight, op := 3, worker := 18 }), seen (onGsc (fun g =>
     { g with workers := [(18, { quarantined := true })] }) (wNode { st := .inFlight, op := 3, worker := 18 })), 0, by decide +kernel⟩,
   ⟨wNode { st := .inFlight, op := 3, worker := 18 }, seen (wNode { st := .inFlight, op := 3, worker := 18 }), 0, true, by decide +kernel⟩,
   ⟨wNode { st := .inFlight, op := 3, worker := 18 }, seen (wNode { st := .inFlight, op := 3, worker := 18 }), 0, false, some [], seen (wNode
     { st := .inFlight, op := 3, worker := 18 }), [], by decide +kernel⟩,
   ⟨onMem (fun m => { m with poisoned := [0] }) (wNode { st := .inFlight, op := 3, worker := 18, args := 1 + 8 * 2 ^ 32 }), seen (onMem (fun m =>
     { m with poisoned := [0] }) (wNode { st := .inFlight, op := 3, worker := 18, args := 1 + 8 * 2 ^ 32 })), 0, false, none, (dmaRead (seen (onMem
     (fun m => { m with poisoned := [0] }) (wNode { st := .inFlight, op := 3, worker := 18, args := 1 + 8 * 2 ^ 32 }))) 1 0 8).2, by decide +kernel⟩,
   ⟨wNode { st := .inFlight, op := 4 }, seen (wNode { st := .inFlight, op := 4 }), 0, by decide +kernel⟩,
   ⟨wNode { st := .inFlight, op := 5, ended := true }, seen (wNode { st := .inFlight, op := 5, ended := true }), 0, by decide +kernel⟩,
   ⟨wNode { st := .inFlight, op := 5 }, seen (wNode { st := .inFlight, op := 5 }), 0, by decide +kernel⟩,
   ⟨wNode {}, seen (wNode {}), 0, by decide +kernel⟩,
   ⟨onMem (fun m => { m with poisoned := [0] }) (wSubmit ring0), seen (onMem (fun m => { m with poisoned := [0] }) (wSubmit ring0)), 0, 0,
     by decide +kernel⟩,
   ⟨wSubmit ring0, seen (wSubmit ring0), 0, [], 0, by decide +kernel⟩,
   ⟨wSubmit { ring0 with waiting := [{ op := 1, seq := 0, d := { ring := 0 }, pos := 0 }] }, seen (wSubmit
     { ring0 with waiting := [{ op := 1, seq := 0, d := { ring := 0 }, pos := 0 }] }), 0, [], 0, by decide +kernel⟩,
   ⟨setReg (inMode .prepare (onGsc (fun g => { g with waits := [{ acc := acc0 0 { ring := 0 }, node := 0, left := 1, until_ := some 0 }] }) w0)) 0 0,
     seen (setReg (inMode .prepare (onGsc (fun g => { g with waits := [{ acc := acc0 0 { ring := 0 }, node := 0, left := 1, until_ := some 0 }] })
     w0)) 0 0), 0, { acc := acc0 0 { ring := 0 }, node := 0, left := 1, until_ := some 0 }, 0, by decide +kernel⟩,
   ⟨inMode .prepare (onGsc (fun g => { g with waits := [{ acc := acc0 0 { ring := 0 }, node := 0, left := 1, until_ := some 1 }] }) w0), seen (inMode
     .prepare (onGsc (fun g => { g with waits := [{ acc := acc0 0 { ring := 0 }, node := 0, left := 1, until_ := some 1 }] }) w0)), 0,
     { acc := acc0 0 { ring := 0 }, node := 0, left := 1, until_ := some 1 }, 1, by decide +kernel⟩⟩

theorem witness_FaultCollectorSteps :
    (∃ (s a : State), Finds s a ∧ topQueue a = none ∧ a.flt.handling = []) ∧
    (∃ (s a : State) (c : Nat) (below : List Nat), Finds s a ∧ ((topQueue a = some c ∧ a.flt.handling = below ∧ ∀ (d : ℕ), below.head? = some d → d <
      c) ∨ a.flt.handling = c :: below ∧ ∀ (d : ℕ), topQueue a = some d → d ≤ c) ∧ (a.hlt.toWrite = false ∨ Option.any hltRecord (mgetD a.flt.queues c
      []).head? = false)) ∧
    (∃ (s a : State) (c : Nat) (below : List Nat), Finds s a ∧ ((topQueue a = some c ∧ a.flt.handling = below ∧ ∀ (d : ℕ), below.head? = some d → d <
      c) ∨ a.flt.handling = c :: below ∧ ∀ (d : ℕ), topQueue a = some d → d ≤ c) ∧ a.hlt.toWrite = true ∧ Option.any hltRecord (mgetD a.flt.queues c
      []).head? = true) ∧
    (∃ (s a : State) (e : Fin 256), Finds s a ∧ mget a.flt.lint e.val = none) ∧
    (∃ (s a : State) (e : Fin 256) (l : Lint), Finds s a ∧ mget a.flt.lint e.val = some l ∧ a.time.elapsed < l.ends) ∧
    (∃ (s a : State) (e : Fin 256) (l : Lint), Finds s a ∧ mget a.flt.lint e.val = some l ∧ l.ends ≤ a.time.elapsed ∧ l.window = 0) ∧
    (∃ (s a : State) (e : Fin 256) (l : Lint), Finds s a ∧ mget a.flt.lint e.val = some l ∧ l.ends ≤ a.time.elapsed ∧ l.window ≠ 0) ∧
    (∃ (s a : State) (n : Fin 4) (c : Nat) (i : Instr), Finds s a ∧ (i = Instr.supervisorWatchdogExpiry n ∧ c = 1 ∨ i = Instr.supervisorMemoryError n
      ∧ c = 2 ∧ ∀ l ∈ a.mem.poisoned, 8388608 ≤ l) ∧ (supAt a n.val).quarantined = true) ∧
    (∃ (s a : State) (n : Fin 4) (c : Nat) (i : Instr), Finds s a ∧ (i = Instr.supervisorWatchdogExpiry n ∧ c = 1 ∨ i = Instr.supervisorMemoryError n
      ∧ c = 2 ∧ ∀ l ∈ a.mem.poisoned, 8388608 ≤ l) ∧ (supAt a n.val).quarantined = false ∧ autoWarm (raise a Event.fltSupervisor 0 (origin 27 n.val +
      c * 4294967296) (origin 27 n.val)) = false) ∧
    (∃ (s a : State) (n : Fin 4) (c : Nat) (i : Instr), Finds s a ∧ (i = Instr.supervisorWatchdogExpiry n ∧ c = 1 ∨ i = Instr.supervisorMemoryError n
      ∧ c = 2 ∧ ∀ l ∈ a.mem.poisoned, 8388608 ≤ l) ∧ (supAt a n.val).quarantined = false ∧ autoWarm (raise a Event.fltSupervisor 0 (origin 27 n.val +
      c * 4294967296) (origin 27 n.val)) = true ∧ (supsServing (raise a Event.fltSupervisor 0 (origin 27 n.val + c * 4294967296) (origin 27
      n.val))).length < 3) ∧
    (∃ (s a : State) (n : Fin 4) (c : Nat) (i : Instr), Finds s a ∧ (i = Instr.supervisorWatchdogExpiry n ∧ c = 1 ∨ i = Instr.supervisorMemoryError n
      ∧ c = 2 ∧ ∀ l ∈ a.mem.poisoned, 8388608 ≤ l) ∧ (supAt a n.val).quarantined = false ∧ autoWarm (raise a Event.fltSupervisor 0 (origin 27 n.val +
      c * 4294967296) (origin 27 n.val)) = true ∧ 3 ≤ (supsServing (raise a Event.fltSupervisor 0 (origin 27 n.val + c * 4294967296) (origin 27
      n.val))).length ∧ List.filter (fun r => decide (regionSt (raise a Event.fltSupervisor 0 (origin 27 n.val + c * 4294967296) (origin 27 n.val)) r
      ≠ RegionState.empty)) (List.filter (fun r => decide ((regionAt (raise a Event.fltSupervisor 0 (origin 27 n.val + c * 4294967296) (origin 27
      n.val)) r).hosted = n.val)) (List.range 16)) = []) ∧
    (∃ (s a : State) (n : Fin 4) (c : Nat) (i : Instr), Finds s a ∧ (i = Instr.supervisorWatchdogExpiry n ∧ c = 1 ∨ i = Instr.supervisorMemoryError n
      ∧ c = 2 ∧ ∀ l ∈ a.mem.poisoned, 8388608 ≤ l) ∧ (supAt a n.val).quarantined = false ∧ autoWarm (raise a Event.fltSupervisor 0 (origin 27 n.val +
      c * 4294967296) (origin 27 n.val)) = true ∧ 3 ≤ (supsServing (raise a Event.fltSupervisor 0 (origin 27 n.val + c * 4294967296) (origin 27
      n.val))).length ∧ List.filter (fun r => decide (regionSt (raise a Event.fltSupervisor 0 (origin 27 n.val + c * 4294967296) (origin 27 n.val)) r
      ≠ RegionState.empty)) (List.filter (fun r => decide ((regionAt (raise a Event.fltSupervisor 0 (origin 27 n.val + c * 4294967296) (origin 27
      n.val)) r).hosted = n.val)) (List.range 16)) ≠ []) ∧
    (∃ (s a : State) (n : Fin 4), Finds s a ∧ (supAt a n.val).quarantined = true ∧ (supAt a n.val).test = 1) ∧
    (∃ (s a : State) (n : Fin 4), Finds s a ∧ ((supAt a n.val).quarantined = false ∨ (supAt a n.val).test ≠ 1)) :=
  ⟨⟨w0, seen (w0), by decide +kernel⟩,
   ⟨onFlt (fun f => { f with queues := [(5, [ev0])] }) w0, seen (onFlt (fun f => { f with queues := [(5, [ev0])] }) w0), 5, [], by decide +kernel⟩,
   ⟨onHlt (fun h => { h with toWrite := true }) (onFlt (fun f => { f with queues := [(2, [{ ev0 with code := 0x1E0 }])], handling := [2, 1] }) w0),
     seen (onHlt (fun h => { h with toWrite := true }) (onFlt (fun f => { f with queues := [(2, [{ ev0 with code := 0x1E0 }])], handling := [2, 1] })
     w0)), 2, [1], by decide +kernel⟩,
   ⟨w0, seen (w0), 255, by decide +kernel⟩,
   ⟨onTime (fun t => { t with elapsed := 0 }) (wLint 0), seen (onTime (fun t => { t with elapsed := 0 }) (wLint 0)), 255, lint0 0, by decide +kernel⟩,
   ⟨wLint 0, seen (wLint 0), 255, lint0 0, by decide +kernel⟩,
   ⟨wLint 2, seen (wLint 2), 255, lint0 2, by decide +kernel⟩,
   ⟨wSup [0], seen (wSup [0]), 0, 1, .supervisorWatchdogExpiry 0, by decide +kernel⟩,
   ⟨setReg w0 0x260000 0, seen (setReg w0 0x260000 0), 0, 1, .supervisorWatchdogExpiry 0, by decide +kernel⟩,
   ⟨wSup [1, 2], seen (wSup [1, 2]), 0, 2, .supervisorMemoryError 0, by decide +kernel⟩,
   ⟨wSup [1], seen (wSup [1]), 0, 2, .supervisorMemoryError 0, by decide +kernel⟩,
   ⟨{ wSup [1] with regions := [(4, { st := .hold })] }, seen ({ wSup [1] with regions := [(4, { st := .hold })] }), 0, 2, .supervisorMemoryError 0,
     by decide +kernel⟩,
   ⟨wSup [0], seen (wSup [0]), 0, by decide +kernel⟩,
   ⟨w0, seen (w0), 0, by decide +kernel⟩⟩

theorem witness_WearAndTests :
    (∃ (s a : State), Finds s a ∧ a.time.elapsed / (3600 * secU) ≤ a.hlt.hour) ∧
    (∃ (s a : State), Finds s a ∧ a.hlt.hour < a.time.elapsed / (3600 * secU)) ∧
    (∃ (s a : State), Finds s a ∧ (bit (reg a 2424832) 1 = false ∨ a.time.elapsed / (2 ^ bits (reg a 2424832) 4 4 * secU) = 0 ∨ a.hlt.lastTest = some
      (a.time.elapsed / (2 ^ bits (reg a 2424832) 4 4 * secU)))) ∧
    (∃ (s a : State), Finds s a ∧ bit (reg a 2424832) 1 = true ∧ a.time.elapsed / (2 ^ bits (reg a 2424832) 4 4 * secU) ≠ 0 ∧ a.hlt.lastTest ≠ some
      (a.time.elapsed / (2 ^ bits (reg a 2424832) 4 4 * secU)) ∧ findTest 931
      { a with hlt := { a.hlt with lastTest := some (a.time.elapsed / (2 ^ bits (reg a 2424832) 4 4 * secU)) } } a.hlt.nextTest = none) ∧
    (∃ (s a : State) (x : Nat × Nat), Finds s a ∧ bit (reg a 2424832) 1 = true ∧ a.time.elapsed / (2 ^ bits (reg a 2424832) 4 4 * secU) ≠ 0 ∧
      a.hlt.lastTest ≠ some (a.time.elapsed / (2 ^ bits (reg a 2424832) 4 4 * secU)) ∧ findTest 931
      { a with hlt := { a.hlt with lastTest := some (a.time.elapsed / (2 ^ bits (reg a 2424832) 4 4 * secU)) } } a.hlt.nextTest = some x) ∧
    (∃ (s a : State) (c : Fin 6) (i : BitVec 16), Finds s a ∧ testOf a (c.val) i.toNat false = none) ∧
    (∃ (s a : State) (c : Fin 6) (i : BitVec 16) (t : TestRun), Finds s a ∧ testOf a (c.val) i.toNat false = some t ∧ t.acc = none ∧ t.blame = none) ∧
    (∃ (s a : State) (c : Fin 6) (i : BitVec 16) (t : TestRun) (live : Nat), Finds s a ∧ testOf a (c.val) i.toNat false = some t ∧ t.acc = none ∧
      t.blame = some live) ∧
    (∃ (s a : State) (c : Fin 6) (i : BitVec 16) (t : TestRun), Finds s a ∧ testOf a (c.val) i.toNat false = some t ∧ t.acc = none) ∧
    (∃ (s a : State) (c : Fin 6) (i : BitVec 16), Finds s a ∧ testOf a (c.val) i.toNat true = none) ∧
    (∃ (s a : State) (c : Fin 6) (i : BitVec 16) (t : TestRun), Finds s a ∧ testOf a (c.val) i.toNat true = some t ∧ t.acc = none ∧ t.diff = false ∧
      t.met < t.need) ∧
    (∃ (s a : State) (c : Fin 6) (i : BitVec 16) (t : TestRun), Finds s a ∧ testOf a (c.val) i.toNat true = some t ∧ t.acc = none ∧ t.diff = false ∧
      t.need ≤ t.met) ∧
    (∃ (s a : State) (c : Fin 6) (i : BitVec 16) (t : TestRun), Finds s a ∧ testOf a (c.val) i.toNat true = some t ∧ t.acc = none ∧ t.diff = true) ∧
    (∃ (s a : State), Finds s a ∧ (¬(a.hlt.rewrite = true ∨ a.hlt.wrote + 3600 * secU ≤ a.time.elapsed))) ∧
    (∃ (s a : State), Finds s a ∧ (a.hlt.rewrite = true ∨ a.hlt.wrote + 3600 * secU ≤ a.time.elapsed)) :=
  ⟨⟨w0, seen (w0), by decide +kernel⟩,
   ⟨onTime (fun t => { t with elapsed := 3600 * secU }) w0, seen (onTime (fun t => { t with elapsed := 3600 * secU }) w0), by decide +kernel⟩,
   ⟨w0, seen (w0), by decide +kernel⟩,
   ⟨onHlt (fun h => { h with insts := spent }) (onTime (fun t => { t with elapsed := 2 ^ 80 }) (setReg w0 0x250000 2)), seen (onHlt (fun h =>
     { h with insts := spent }) (onTime (fun t => { t with elapsed := 2 ^ 80 }) (setReg w0 0x250000 2))), by decide +kernel, by decide +kernel,
     by decide +kernel, by decide +kernel, findTest_spent _ rfl _ _⟩,
   ⟨onTime (fun t => { t with elapsed := 2 ^ 80 }) (setReg w0 0x250000 2), seen (onTime (fun t => { t with elapsed := 2 ^ 80 }) (setReg w0 0x250000
     2)), ((findTest 931 w0 (1, 0)).getD (0, 0)), by decide +kernel⟩,
   ⟨w0, seen (w0), 4, 16, by decide +kernel⟩,
   ⟨wTest (test0 none none 0 false), seen (wTest (test0 none none 0 false)), 4, 16, test0 none none 0 false, by decide +kernel⟩,
   ⟨wTest (test0 none (some 3) 0 false), seen (wTest (test0 none (some 3) 0 false)), 4, 16, test0 none (some 3) 0 false, 3, by decide +kernel⟩,
   ⟨wTest (test0 none none 0 false), seen (wTest (test0 none none 0 false)), 4, 16, test0 none none 0 false, by decide +kernel⟩,
   ⟨w0, seen (w0), 4, 16, by decide +kernel⟩,
   ⟨wTest (test0 (some 17) none 4 false), seen (wTest (test0 (some 17) none 4 false)), 4, 16, test0 (some 17) none 4 false, by decide +kernel⟩,
   ⟨wTest (test0 (some 17) none 5 false), seen (wTest (test0 (some 17) none 5 false)), 4, 16, test0 (some 17) none 5 false, by decide +kernel⟩,
   ⟨wTest (test0 (some 17) none 0 true), seen (wTest (test0 (some 17) none 0 true)), 4, 16, test0 (some 17) none 0 true, by decide +kernel⟩,
   ⟨w0, seen (w0), by decide +kernel⟩,
   ⟨onHlt (fun h => { h with rewrite := true }) w0, seen (onHlt (fun h => { h with rewrite := true }) w0), by decide +kernel⟩⟩

theorem witness_DarnsAndRetirement :
    (∃ (s a : State), Finds s a ∧ (a.hlt.queue = [] ∨ (pressAt a 1).phase ≠ Phase.free ∨ darnOpen a = true ∨ a.md.mode = Mode.dormant ∨ a.md.mode =
      Mode.boot ∨ a.time.frame ≤ a.md.changeFrame)) ∧
    (∃ (s a : State) (r : DarnReq) (rest : List DarnReq), Finds s a ∧ a.hlt.queue = r :: rest ∧ (pressAt a 1).phase = Phase.free ∧ darnOpen a = false
      ∧ a.md.mode ≠ Mode.dormant ∧ a.md.mode ≠ Mode.boot ∧ a.md.changeFrame < a.time.frame ∧ serves a r.cls r.worn = false) ∧
    (∃ (s a : State) (r : DarnReq) (rest : List DarnReq) (sp : Nat), Finds s a ∧ a.hlt.queue = r :: rest ∧ (pressAt a 1).phase = Phase.free ∧
      a.hlt.darn = none ∧ a.md.mode ≠ Mode.dormant ∧ a.md.mode ≠ Mode.boot ∧ a.md.changeFrame < a.time.frame ∧ serves a r.cls r.worn = true ∧ (r.spare
      = some sp ∧ sp ∈ darnSpares a r.cls ∨ r.spare = none ∧ (darnSpares a r.cls).head? = some sp) ∧ (∀ t ∈ a.hlt.tests, t.cls ≠ r.cls ∨ t.inst ≠ sp ∧
      t.spare ≠ some sp) ∧ servesNothing a r.cls r.worn = true) ∧
    (∃ (s a : State) (c : Fin 6) (i : BitVec 16), Finds s a ∧ List.find? (fun e => decide (e.1 = origin (tyOf c.val) i.toNat)) a.hlt.stopping = none) ∧
    (∃ (s a : State) (c : Fin 6) (i : BitVec 16) (k limit : Nat), Finds s a ∧ List.find? (fun e => decide (e.1 = origin (tyOf c.val) i.toNat))
      a.hlt.stopping = some (k, limit) ∧ jointsStill a (servedJoints a (c.val) i.toNat) = false ∧ a.time.elapsed < limit) ∧
    (∃ (s a : State) (c : Fin 6) (i : BitVec 16) (k limit : Nat), Finds s a ∧ List.find? (fun e => decide (e.1 = origin (tyOf c.val) i.toNat))
      a.hlt.stopping = some (k, limit) ∧ (jointsStill a (servedJoints a (c.val) i.toNat) = true ∨ limit ≤ a.time.elapsed)) :=
  ⟨⟨w0, seen (w0), by decide +kernel⟩,
   ⟨onHlt (fun h => { h with queue := [{ darn0 with worn := 16 }] }) (atFrame 1 w0), seen (onHlt (fun h =>
     { h with queue := [{ darn0 with worn := 16 }] }) (atFrame 1 w0)), { darn0 with worn := 16 }, [], by decide +kernel⟩,
   ⟨wDarn, seen (wDarn), darn0, [], 16, by decide +kernel⟩,
   ⟨w0, seen (w0), 3, 0, by decide +kernel⟩,
   ⟨onHlt (fun h => { h with stopping := [(origin (tyOf 4) 3, 1)] })
     { w0 with joints := [(0, { joint0 with fbch := some 0 })], fbchs := [(0, { speedSt := 2 })], drv := [(3, { slots := [(0, { joint := some 0 })] })] },
     seen (onHlt (fun h => { h with stopping := [(origin (tyOf 4) 3, 1)] })
     { w0 with joints := [(0, { joint0 with fbch := some 0 })], fbchs := [(0, { speedSt := 2 })], drv := [(3, { slots := [(0, { joint := some 0 })] })] }),
     4, 3, origin (tyOf 4) 3, 1, by decide +kernel⟩,
   ⟨onHlt (fun h => { h with stopping := [(origin (tyOf 4) 3, 0)] }) w0, seen (onHlt (fun h => { h with stopping := [(origin (tyOf 4) 3, 0)] }) w0),
     4, 3, origin (tyOf 4) 3, 0, by decide +kernel⟩⟩

theorem witness_MemoryUpkeep :
    (∃ (s a : State), Finds s a ∧ (¬(bit (reg a 2588676) 0 = true ∧ a.pins.powerState < 2 ∧ a.md.mode ≠ Mode.boot ∧ a.mem.scrubAt ≤ a.time.elapsed))) ∧
    (∃ (s a : State), Finds s a ∧ (bit (reg a 2588676) 0 = true ∧ a.pins.powerState < 2 ∧ a.md.mode ≠ Mode.boot ∧ a.mem.scrubAt ≤ a.time.elapsed) ∧
      a.mem.scrubPos + 64 < 17179869184 ∧ scrubLine a.mem.scrubPos ∉ a.mem.poisoned ∧ scrubLine a.mem.scrubPos ∉ a.mem.weak) ∧
    (∃ (s a : State), Finds s a ∧ (bit (reg a 2588676) 0 = true ∧ a.pins.powerState < 2 ∧ a.md.mode ≠ Mode.boot ∧ a.mem.scrubAt ≤ a.time.elapsed) ∧
      17179869184 ≤ a.mem.scrubPos + 64 ∧ scrubLine a.mem.scrubPos ∉ a.mem.poisoned ∧ scrubLine a.mem.scrubPos ∉ a.mem.weak) ∧
    (∃ (s a : State) (page : BitVec 22), Finds s a ∧ page.toNat ∉ a.mem.retiring) ∧
    (∃ (s a : State) (page : BitVec 22), Finds s a ∧ page.toNat ∈ a.mem.retiring) ∧
    (∃ (s a : State) (req : Fin 64) (w : Word), FindsReg s a (req.val) 2588692 ∧ (4063232 ≤ BitVec.toNat w ∨ BitVec.toNat w ∈ a.mem.retiring)) ∧
    (∃ (s a : State) (req : Fin 64) (w : Word), FindsReg s a (req.val) 2588692 ∧ BitVec.toNat w < 4063232 ∧ BitVec.toNat w ∉ a.mem.retiring ∧
      sparesUsed a + a.mem.retiring.length < 4096) ∧
    (∃ (s a : State) (req : Fin 64) (w : Word), FindsReg s a (req.val) 2588692 ∧ BitVec.toNat w < 4063232 ∧ BitVec.toNat w ∉ a.mem.retiring ∧ 4096 ≤
      sparesUsed a + a.mem.retiring.length) ∧
    (∃ (s : State) (x : Nat) (bs : List Byte), dramWf s = true ∧ (∀ (a : ℕ), x ≤ a ∧ a < x + bs.length → a / 4096 ∉ s.mem.retiring)) ∧
    (∃ (s : State) (x : Nat) (bs : List Byte) (a : Nat), dramWf s = true ∧ (x ≤ a ∧ a < x + bs.length) ∧ a / 4096 ∉ s.mem.retiring) ∧
    (∃ (s : State) (x : Nat) (bs : List Byte) (a : Nat), dramWf s = true ∧ (¬(x ≤ a ∧ a < x + bs.length) ∨ a / 4096 ∈ s.mem.retiring)) ∧
    (∃ (s : State), dramWf s = true) :=
  ⟨⟨setReg w0 0x278004 0, seen (setReg w0 0x278004 0), by decide +kernel⟩,
   ⟨setReg w0 0x278004 1, seen (setReg w0 0x278004 1), by decide +kernel⟩,
   ⟨onMem (fun m => { m with scrubPos := 0x3FFFFFFC0 }) (setReg w0 0x278004 1), seen (onMem (fun m => { m with scrubPos := 0x3FFFFFFC0 }) (setReg w0
     0x278004 1)), by decide +kernel⟩,
   ⟨w0, seen (w0), 3, by decide +kernel⟩,
   ⟨onMem (fun m => { m with retiring := [3], poisoned := [192, 5], dram := [(12288, 7), (12352, 8)] }) w0, seen (onMem (fun m =>
     { m with retiring := [3], poisoned := [192, 5], dram := [(12288, 7), (12352, 8)] }) w0), 3, by decide +kernel⟩,
   ⟨w0, seen (w0), 1, 0x3E0000, by decide +kernel⟩,
   ⟨w0, seen (w0), 1, 0x3DFFFF, by decide +kernel⟩,
   ⟨onMem (fun m => { m with remap := [(8, 4095)] }) w0, seen (onMem (fun m => { m with remap := [(8, 4095)] }) w0), 1, 1, by decide +kernel⟩,
   ⟨onMem (fun m => { m with dram := [(5, 9)], poisoned := [0, 2] }) w0, 64, List.replicate 64 1, by decide +kernel, fun _ _ => List.not_mem_nil⟩,
   ⟨onMem (fun m => { m with dram := [(5, 9)], poisoned := [0, 2], retiring := [1] }) w0, 64, List.replicate 64 1, 100, by decide +kernel⟩,
   ⟨onMem (fun m => { m with retiring := [0] }) w0, 64, List.replicate 64 1, 100, by decide +kernel⟩,
   ⟨onMem (fun m => { m with retiring := [0] }) w0, by decide +kernel⟩⟩

theorem witness_RingSteps :
    (∃ (s a : State) (f : Fin 16) (p : Fin 256) (w : Word), Finds s a ∧ hostLink a = true ∧ a.md.mode ≠ Mode.boot ∧ (ringAt a p.val).st = RingState.up
      ∧ (ringAt a p.val).owner = f.val ∧ BitVec.toNat w < 2 ^ (ringAt a p.val).log2a ∧ BitVec.toNat w < 65536 ∧ BitVec.toNat w < 2 ^ (ringAt a
      p.val).log2c) ∧
    (∃ (s a : State) (f : Fin 16) (p : Fin 256) (w : Word), Finds s a ∧ hostLink a = true ∧ a.md.mode ≠ Mode.boot ∧ ((ringAt a p.val).st ≠
      RingState.up ∨ (ringAt a p.val).owner ≠ f.val ∨ 65536 ≤ BitVec.toNat w ∨ 2 ^ (ringAt a p.val).log2a ≤ BitVec.toNat w) ∧ ((ringAt a p.val).st ≠
      RingState.up ∨ (ringAt a p.val).owner ≠ f.val ∨ 65536 ≤ BitVec.toNat w ∨ 2 ^ (ringAt a p.val).log2c ≤ BitVec.toNat w)) ∧
    (∃ (s a : State) (f : Fin 16) (e : Fin 64) (w : Word), Finds s a ∧ hostLink a = true ∧ a.md.mode ≠ Mode.boot ∧ (ringAt a (256 + e.val)).st =
      RingState.up ∧ (ringAt a (256 + e.val)).owner = f.val ∧ BitVec.toNat w < 2 ^ (ringAt a (256 + e.val)).log2a ∧ BitVec.toNat w < 65536) ∧
    (∃ (s a : State) (f : Fin 16) (e : Fin 64) (w : Word), Finds s a ∧ hostLink a = true ∧ a.md.mode ≠ Mode.boot ∧ ((ringAt a (256 + e.val)).st ≠
      RingState.up ∨ (ringAt a (256 + e.val)).owner ≠ f.val ∨ 65536 ≤ BitVec.toNat w ∨ 2 ^ (ringAt a (256 + e.val)).log2a ≤ BitVec.toNat w)) ∧
    (∃ (s a : State) (p : Fin 256) (ds : List RawDesc), Finds s a ∧ hostLink a = true ∧ a.md.mode ≠ Mode.boot ∧ 1 ≤ ds.length ∧ ds.length ≤ 8 ∧
      (¬((ringAt a p.val).st = RingState.up ∧ (ringAt a p.val).fetching = true ∧ busMasterOn a (ringAt a p.val).owner = true ∧ cqRoom (ringAt a p.val)
      = true ∧ ds.length ≤ sqAvail (ringAt a p.val)))) ∧
    (∃ (s a : State) (p : Fin 256) (ds : List RawDesc), Finds s a ∧ hostLink a = true ∧ a.md.mode ≠ Mode.boot ∧ 1 ≤ ds.length ∧ ds.length ≤ 8 ∧
      ((ringAt a p.val).st = RingState.up ∧ (ringAt a p.val).fetching = true ∧ busMasterOn a (ringAt a p.val).owner = true ∧ cqRoom (ringAt a p.val) =
      true ∧ ds.length ≤ sqAvail (ringAt a p.val))) ∧
    (∃ (s a : State) (p : Fin 256), Finds s a ∧ (ringAt a p.val).open_ = 0) ∧
    (∃ (s a : State) (p : Fin 256), Finds s a ∧ (ringAt a p.val).open_ ≠ 0) ∧
    (∃ (s a : State) (p : Fin 256), Finds s a ∧ ((ringAt a p.val).st ≠ RingState.draining ∨ (ringAt a p.val).resv ≠ ownDrain (p.val) (ringAt a
      p.val))) ∧
    (∃ (s a : State) (p : Fin 256), Finds s a ∧ (ringAt a p.val).st = RingState.draining ∧ (ringAt a p.val).resv = ownDrain (p.val) (ringAt a p.val)) ∧
    (∃ (s a : State) (f : Fin 16), Finds s a ∧ reqReach a (32 + f.val) (fnBlock f.val + 20) = true ∧ (bit (reg a (fnBlock f.val + 20)) 0 = true ∨ ¬(4
      ≤ bits (reg a (fnBlock f.val + 16)) 0 4 ∧ bits (reg a (fnBlock f.val + 16)) 0 4 ≤ 12 ∧ 4 ≤ bits (reg a (fnBlock f.val + 16)) 4 4 ∧ bits (reg a
      (fnBlock f.val + 16)) 4 4 ≤ 14 ∧ bits (reg a (fnBlock f.val + 16)) 8 6 < if f = 0 then 64 else 16))) ∧
    (∃ (s a : State) (f : Fin 16), Finds s a ∧ reqReach a (32 + f.val) (fnBlock f.val + 20) = true ∧ bit (reg a (fnBlock f.val + 20)) 0 = false ∧ (4 ≤
      bits (reg a (fnBlock f.val + 16)) 0 4 ∧ bits (reg a (fnBlock f.val + 16)) 0 4 ≤ 12 ∧ 4 ≤ bits (reg a (fnBlock f.val + 16)) 4 4 ∧ bits (reg a
      (fnBlock f.val + 16)) 4 4 ≤ 14 ∧ bits (reg a (fnBlock f.val + 16)) 8 6 < if f = 0 then 64 else 16)) ∧
    (∃ (s a : State) (f : Fin 16), Finds s a ∧ reqReach a (32 + f.val) (fnBlock f.val + 20) = true ∧ bit (reg a (fnBlock f.val + 20)) 0 = false) ∧
    (∃ (s a : State) (f : Fin 16), Finds s a ∧ reqReach a (32 + f.val) (fnBlock f.val + 20) = true ∧ bit (reg a (fnBlock f.val + 20)) 0 = true ∧
      (pairHolder a f.val).isSome = true) ∧
    (∃ (s a : State) (f : Fin 16), Finds s a ∧ reqReach a (32 + f.val) (fnBlock f.val + 20) = true ∧ bit (reg a (fnBlock f.val + 20)) 0 = true ∧
      pairHolder a f.val = none ∧ (ringAt a f.val).st = RingState.up) ∧
    (∃ (s a : State) (r : Fin 320), Finds s a ∧ ((ringAt a r.val).st = RingState.down ∨ (ringAt a r.val).pend = 0 ∨ (ringAt a r.val).coalTimeUs = 0 ∨
      a.time.elapsed < (ringAt a r.val).pendSince + (ringAt a r.val).coalTimeUs * usU)) ∧
    (∃ (s a : State) (r : Fin 320), Finds s a ∧ (ringAt a r.val).st ≠ RingState.down ∧ (ringAt a r.val).pend ≠ 0 ∧ (ringAt a r.val).coalTimeUs ≠ 0 ∧
      (ringAt a r.val).pendSince + (ringAt a r.val).coalTimeUs * usU ≤ a.time.elapsed) ∧
    (∃ (s a : State) (f v : Nat), Finds s a ∧ a.host.unmasked.contains (64 * f + v) = false) ∧
    (∃ (s a : State) (f v : Nat), Finds s a ∧ a.host.unmasked.contains (64 * f + v) = true ∧ mget a.host.msix (64 * f + v) = none) ∧
    (∃ (s a : State) (f v n i : Nat), Finds s a ∧ a.host.unmasked.contains (64 * f + v) = true ∧ mget a.host.msix (64 * f + v) = some (n, i) ∧ i =
      instant a) ∧
    (∃ (s a : State) (f v n i : Nat), Finds s a ∧ a.host.unmasked.contains (64 * f + v) = true ∧ mget a.host.msix (64 * f + v) = some (n, i) ∧ i ≠
      instant a) ∧
    (∃ (s a : State) (f : Fin 16) (v : Fin 64), Finds s a ∧ hostLink a = true ∧ a.md.mode ≠ Mode.boot ∧ f ≠ 0 ∧ 16 ≤ v.val) ∧
    (∃ (s a : State) (f : Fin 16) (v : Fin 64), Finds s a ∧ hostLink a = true ∧ a.md.mode ≠ Mode.boot ∧ (f = 0 ∨ v.val < 16) ∧ 64 * f.val + v.val ∉
      a.host.pba) ∧
    (∃ (s a : State) (f : Fin 16) (v : Fin 64), Finds s a ∧ hostLink a = true ∧ a.md.mode ≠ Mode.boot ∧ (f = 0 ∨ v.val < 16) ∧ 64 * f.val + v.val ∈
      a.host.pba) :=
  ⟨⟨wRing ring0, seen (wRing ring0), 0, 0, 15, by decide +kernel⟩,
   ⟨wRing ring0, seen (wRing ring0), 0, 0, 16, by decide +kernel⟩,
   ⟨wEvent, seen (wEvent), 0, 0, 15, by decide +kernel⟩,
   ⟨wEvent, seen (wEvent), 0, 0, 16, by decide +kernel⟩,
   ⟨wHost, seen (wHost), 0, [{ raw := 0 }], by decide +kernel⟩,
   ⟨wRing ring0, seen (wRing ring0), 0, [{ raw := 0 }, { raw := 0 }], by decide +kernel⟩,
   ⟨w0, seen (w0), 0, by decide +kernel⟩,
   ⟨wRing { ring0 with open_ := 1 }, seen (wRing { ring0 with open_ := 1 }), 0, by decide +kernel⟩,
   ⟨w0, seen (w0), 0, by decide +kernel⟩,
   ⟨wRing { st := .draining }, seen (wRing { st := .draining }), 0, by decide +kernel⟩,
   ⟨setReg wHost (fnBlock 0 + 0x10) 0x33, seen (setReg wHost (fnBlock 0 + 0x10) 0x33), 0, by decide +kernel⟩,
   ⟨setReg wHost (fnBlock 0 + 0x10) 0x44, seen (setReg wHost (fnBlock 0 + 0x10) 0x44), 0, by decide +kernel⟩,
   ⟨wHost, seen (wHost), 0, by decide +kernel⟩,
   ⟨setReg { wRing ring0 with presses := [(3, { phase := .open_, pair := 0 })] } (fnBlock 0 + 0x14) 1, seen (setReg
     { wRing ring0 with presses := [(3, { phase := .open_, pair := 0 })] } (fnBlock 0 + 0x14) 1), 0, by decide +kernel⟩,
   ⟨setReg (wRing ring0) (fnBlock 0 + 0x14) 1, seen (setReg (wRing ring0) (fnBlock 0 + 0x14) 1), 0, by decide +kernel⟩,
   ⟨w0, seen (w0), 0, by decide +kernel⟩,
   ⟨onTime (fun t => { t with elapsed := 4 * usU }) (wRing { ring0 with pend := 1, coalTimeUs := 4 }), seen (onTime (fun t =>
     { t with elapsed := 4 * usU }) (wRing { ring0 with pend := 1, coalTimeUs := 4 })), 0, by decide +kernel⟩,
   ⟨w0, seen (w0), 0, 63, by decide +kernel⟩,
   ⟨onHost (fun h => { h with unmasked := [63] }) w0, seen (onHost (fun h => { h with unmasked := [63] }) w0), 0, 63, by decide +kernel⟩,
   ⟨onHost (fun h => { h with unmasked := [63], msix := [(63, 1, instant w0)] }) w0, seen (onHost (fun h =>
     { h with unmasked := [63], msix := [(63, 1, instant w0)] }) w0), 0, 63, 1, instant w0, by decide +kernel⟩,
   ⟨onHost (fun h => { h with unmasked := [63], msix := [(63, 1, instant w0 + 1)] }) w0, seen (onHost (fun h =>
     { h with unmasked := [63], msix := [(63, 1, instant w0 + 1)] }) w0), 0, 63, 1, instant w0 + 1, by decide +kernel⟩,
   ⟨wHost, seen (wHost), 1, 16, by decide +kernel⟩,
   ⟨wHost, seen (wHost), 1, 15, by decide +kernel⟩,
   ⟨onHost (fun h => { h with pba := [79] }) wHost, seen (onHost (fun h => { h with pba := [79] }) wHost), 1, 15, by decide +kernel⟩⟩

theorem witness_MailboxesAndLocks :
    (∃ (s a : State) (req n : Fin 64), Finds s a ∧ reqReach a (req.val) (2363452 + 64 * n.val) = false) ∧
    (∃ (s a : State) (req n : Fin 64), FindsReg s a (req.val) (2363404 + 64 * n.val) ∧ mbxReach req.val = false) ∧
    (∃ (s a : State) (req n : Fin 64), FindsReg s a (req.val) (2363404 + 64 * n.val) ∧ mbxReach req.val = true ∧ (∃ x ∈ a.mbx.waits, x.req = req.val)) ∧
    (∃ (s a : State) (req n : Fin 64), FindsReg s a (req.val) (2363404 + 64 * n.val) ∧ mbxReach req.val = true ∧ (∀ x ∈ a.mbx.waits, x.req ≠ req.val)
      ∧ mget a.mbx.boxes n.val = none) ∧
    (∃ (s a : State) (req n : Fin 64) (w : Word) (b : Mbox), FindsReg s a (req.val) (2363404 + 64 * n.val) ∧ mbxReach req.val = true ∧ (∀ x ∈
      a.mbx.waits, x.req ≠ req.val) ∧ mget a.mbx.boxes n.val = some b ∧ (3 < BitVec.toNat w ∨ admits b req.val = false)) ∧
    (∃ (s a : State) (req n : Fin 64) (w : Word) (b : Mbox), FindsReg s a (req.val) (2363404 + 64 * n.val) ∧ mbxReach req.val = true ∧ (∀ x ∈
      a.mbx.waits, x.req ≠ req.val) ∧ mget a.mbx.boxes n.val = some b ∧ BitVec.toNat w ≤ 3 ∧ admits b req.val = true ∧ b.full = false ∧ b.takenAt ≠
      some (instant a) ∧ b.deliverDue = none) ∧
    (∃ (s a : State) (req n : Fin 64) (w : Word) (b : Mbox), FindsReg s a (req.val) (2363404 + 64 * n.val) ∧ mbxReach req.val = true ∧ (∀ x ∈
      a.mbx.waits, x.req ≠ req.val) ∧ mget a.mbx.boxes n.val = some b ∧ BitVec.toNat w ≤ 3 ∧ admits b req.val = true ∧ b.full = true ∧ (∀ (e : ℕ ×
      Bool), b.sentAt = some e → e.1 ≠ instant a ∨ b.from_ ≤ req.val) ∧ bit (BitVec.toNat w) 0 = false) ∧
    (∃ (s a : State) (req n : Fin 64) (w : Word) (b : Mbox), FindsReg s a (req.val) (2363404 + 64 * n.val) ∧ mbxReach req.val = true ∧ (∀ x ∈
      a.mbx.waits, x.req ≠ req.val) ∧ mget a.mbx.boxes n.val = some b ∧ BitVec.toNat w ≤ 3 ∧ admits b req.val = true ∧ b.full = true ∧ (∀ (e : ℕ ×
      Bool), b.sentAt = some e → e.1 ≠ instant a ∨ b.from_ ≤ req.val) ∧ bit (BitVec.toNat w) 0 = true) ∧
    (∃ (s a : State) (req n : Fin 64) (w : Word) (b : Mbox) (wasWait : Bool), FindsReg s a (req.val) (2363404 + 64 * n.val) ∧ mbxReach req.val = true
      ∧ (∀ x ∈ a.mbx.waits, x.req ≠ req.val) ∧ mget a.mbx.boxes n.val = some b ∧ BitVec.toNat w ≤ 3 ∧ admits b req.val = true ∧ b.full = true ∧
      b.sentAt = some (instant a, wasWait) ∧ req.val < b.from_) ∧
    (∃ (s a : State) (req n : Fin 64) (w : Word) (b : Mbox), FindsReg s a (req.val) (2363404 + 64 * n.val) ∧ mbxReach req.val = true ∧ (∀ x ∈
      a.mbx.waits, x.req ≠ req.val) ∧ mget a.mbx.boxes n.val = some b ∧ BitVec.toNat w ≤ 3 ∧ admits b req.val = true ∧ b.full = false ∧ b.takenAt =
      some (instant a) ∧ bit (BitVec.toNat w) 0 = false) ∧
    (∃ (s a : State) (req n : Fin 64) (w : Word) (b : Mbox), FindsReg s a (req.val) (2363404 + 64 * n.val) ∧ mbxReach req.val = true ∧ (∀ x ∈
      a.mbx.waits, x.req ≠ req.val) ∧ mget a.mbx.boxes n.val = some b ∧ BitVec.toNat w ≤ 3 ∧ admits b req.val = true ∧ b.full = false ∧ b.takenAt =
      some (instant a) ∧ bit (BitVec.toNat w) 0 = true) ∧
    (∃ (s a : State) (req : Fin 64), FindsReg s a (req.val) 2359348 ∧ (mbxReach req.val = false ∨ ∀ x ∈ a.mbx.waits, x.req ≠ req.val)) ∧
    (∃ (s a : State) (req : Fin 64) (x : Waiting), FindsReg s a (req.val) 2359348 ∧ mbxReach req.val = true ∧ List.find? (fun w => decide (w.req =
      req.val)) a.mbx.waits = some x) ∧
    (∃ (s a : State) (req n : Fin 64), FindsReg s a (req.val) (2363452 + 64 * n.val) ∧ (mbxReach req.val = false ∨ (boxAt a n.val).receiver ≠
      req.val)) ∧
    (∃ (s a : State) (req n : Fin 64), FindsReg s a (req.val) (2363452 + 64 * n.val) ∧ mbxReach req.val = true ∧ mhas a.mbx.boxes n.val = true ∧
      (boxAt a n.val).receiver = req.val ∧ (boxAt a n.val).full = true ∧ (boxAt a n.val).notify = false ∧ waitersOf a n.val = []) ∧
    (∃ (s a : State) (n : Fin 64), FindsUnit s a ∧ ((boxAt a n.val).deliverDue ≠ some (instant a) ∨ 63 ≤ a.time.cycle ∨ clockRuns a = false)) ∧
    (∃ (s a : State) (n : Fin 64), FindsUnit s a ∧ (boxAt a n.val).deliverDue = some (instant a) ∧ a.time.cycle < 63 ∧ clockRuns a = true ∧
      deliveriesDue (passCycles a 1) = [n.val] ∧ oldestWaiter (modBox (passCycles a 1) n.val fun b => { b with sentAt := none, deliverDue := none })
      n.val = none) ∧
    (∃ (s a : State) (n : Fin 64) (w : Waiting), FindsUnit s a ∧ (boxAt a n.val).deliverDue = some (instant a) ∧ a.time.cycle < 63 ∧ clockRuns a =
      true ∧ deliveriesDue (passCycles a 1) = [n.val] ∧ oldestWaiter (modBox (passCycles a 1) n.val fun b =>
      { b with sentAt := none, deliverDue := none }) n.val = some w) ∧
    (∃ (s a : State) (m n : Fin 64), Finds s a ∧ crossedSince a m.val n.val = none) ∧
    (∃ (s a : State) (m n : Fin 64) (t : Nat), Finds s a ∧ crossedSince a m.val n.val = some t ∧ (a.time.elapsed < t + 4 * usU ∨ (boxAt a
      m.val).crossed = some n.val ∧ (boxAt a n.val).crossed = some m.val)) ∧
    (∃ (s a : State) (m n : Fin 64) (t : Nat), Finds s a ∧ crossedSince a m.val n.val = some t ∧ t + 4 * usU ≤ a.time.elapsed ∧ (¬((boxAt a
      m.val).crossed = some n.val ∧ (boxAt a n.val).crossed = some m.val))) ∧
    (∃ (s a : State) (req n : Fin 64), Finds s a ∧ reqReach a (req.val) (2392064 + 4 * n.val) = false) ∧
    (∃ (s a : State) (req n : Fin 64), FindsReg s a (req.val) (2392064 + 4 * n.val) ∧ freedNow a n.val = none ∧ lockAt a n.val ≠ 0 ∧ turnOf a n.val =
      none) ∧
    (∃ (s a : State) (req n : Fin 64) (others : BitVec 64), FindsReg s a (req.val) (2392064 + 4 * n.val) ∧ freedNow a n.val = none ∧ lockAt a n.val =
      0 ∧ turnOf a n.val = none ∧ mbxReach req.val = true ∧ others = 0) ∧
    (∃ (s a : State) (req n : Fin 64) (others : BitVec 64), FindsReg s a (req.val) (2392064 + 4 * n.val) ∧ freedNow a n.val = none ∧ lockAt a n.val =
      0 ∧ turnOf a n.val = none ∧ mbxReach req.val = false ∧ others = 0) ∧
    (∃ (s a : State) (req n : Fin 64) (others : BitVec 64) (rs : List Nat) (ptr w : Nat), FindsReg s a (req.val) (2392064 + 4 * n.val) ∧ freedNow a
      n.val = none ∧ (turnOf a n.val = none ∧ lockAt a n.val = 0 ∧ rs = List.filter mbxReach (dedup (req.val :: maskList others.toNat 64)) ∧ ptr =
      mgetD a.mbx.rot (n.val) 1 ∨ ∃ before, turnOf a n.val = some (before, ptr) ∧ rs = dedup (before ++ List.filter mbxReach (dedup (req.val ::
      maskList others.toNat 64)))) ∧ grantOf rs ptr = some w) ∧
    (∃ (s a : State) (req n : Fin 64), FindsReg s a (req.val) (2392064 + 4 * n.val) ∧ mbxReach req.val = false) ∧
    (∃ (s a : State) (req n : Fin 64) (w : Word), FindsReg s a (req.val) (2392064 + 4 * n.val) ∧ mbxReach req.val = true ∧ w = 0 ∧ lockHeld a n.val =
      req.val) ∧
    (∃ (s a : State) (req n : Fin 64) (w : Word), FindsReg s a (req.val) (2392064 + 4 * n.val) ∧ mbxReach req.val = true ∧ (w ≠ 0 ∨ lockHeld a n.val ≠
      req.val)) ∧
    (∃ (s a : State) (req : Fin 64), FindsReg s a (req.val) 2392576 ∧ req.val ≠ 32) ∧
    (∃ (s a : State) (req n : Fin 64), FindsReg s a (req.val) 2392576 ∧ req.val = 32 ∧ freedNow a n.val = none) ∧
    (∃ (x : Nat), x ≠ 0) :=
  ⟨⟨w0, seen (w0), 50, 0, by decide +kernel⟩,
   ⟨w0, seen (w0), 1, 0, by decide +kernel⟩,
   ⟨{ wBox box0 with mbx := { (wBox box0).mbx with waits := [wait0] } }, seen ({ wBox box0 with mbx := { (wBox box0).mbx with waits := [wait0] } }),
     19, 0, by decide +kernel⟩,
   ⟨w0, seen (w0), 19, 0, by decide +kernel⟩,
   ⟨wBox box0, seen (wBox box0), 19, 0, 4, box0, by decide +kernel⟩,
   ⟨wBox box0, seen (wBox box0), 19, 0, 3, box0, by decide +kernel⟩,
   ⟨wBox { box0 with full := true }, seen (wBox { box0 with full := true }), 19, 0, 0, { box0 with full := true }, by decide +kernel⟩,
   ⟨wBox { box0 with full := true }, seen (wBox { box0 with full := true }), 19, 0, 1, { box0 with full := true }, by decide +kernel⟩,
   ⟨wBox { box0 with full := true, from_ := 20, sentAt := some (instant w0, true) }, seen (wBox
     { box0 with full := true, from_ := 20, sentAt := some (instant w0, true) }), 19, 0, 1,
     { box0 with full := true, from_ := 20, sentAt := some (instant w0, true) }, true, by decide +kernel⟩,
   ⟨wBox { box0 with takenAt := some (instant w0) }, seen (wBox { box0 with takenAt := some (instant w0) }), 19, 0, 2,
     { box0 with takenAt := some (instant w0) }, by decide +kernel⟩,
   ⟨wBox { box0 with takenAt := some (instant w0) }, seen (wBox { box0 with takenAt := some (instant w0) }), 19, 0, 1,
     { box0 with takenAt := some (instant w0) }, by decide +kernel⟩,
   ⟨w0, seen (w0), 1, by decide +kernel⟩,
   ⟨{ wBox box0 with mbx := { (wBox box0).mbx with waits := [wait0] } }, seen ({ wBox box0 with mbx := { (wBox box0).mbx with waits := [wait0] } }),
     19, wait0, by decide +kernel⟩,
   ⟨wBox box0, seen (wBox box0), 19, 0, by decide +kernel⟩,
   ⟨wBox { box0 with full := true }, seen (wBox { box0 with full := true }), 20, 0, by decide +kernel⟩,
   ⟨wBox box0, wBox box0, 0, by decide +kernel⟩,
   ⟨wEmptied [], wEmptied [], 0, by decide +kernel⟩,
   ⟨wEmptied [wait0], wEmptied [wait0], 0, wait0, by decide +kernel⟩,
   ⟨w0, seen (w0), 0, 1, by decide +kernel⟩,
   ⟨onTime (fun t => { t with elapsed := 0 }) wCross, seen (onTime (fun t => { t with elapsed := 0 }) wCross), 0, 1, 0, by decide +kernel⟩,
   ⟨wCross, seen (wCross), 0, 1, 0, by decide +kernel⟩,
   ⟨w0, seen (w0), 50, 63, by decide +kernel⟩,
   ⟨setLock w0 63 2, seen (setLock w0 63 2), 19, 63, by decide +kernel⟩,
   ⟨w0, seen (w0), 19, 63, 0, by decide +kernel⟩,
   ⟨w0, seen (w0), 1, 63, 0, by decide +kernel⟩,
   ⟨w0, seen (w0), 20, 63, 0x80000, [20, 19], 1, 19, by decide +kernel, by decide +kernel, Or.inl (by decide +kernel), by decide +kernel⟩,
   ⟨w0, seen (w0), 1, 63, by decide +kernel⟩,
   ⟨setLock w0 63 19, seen (setLock w0 63 19), 19, 63, 0, by decide +kernel⟩,
   ⟨setLock w0 63 2, seen (setLock w0 63 2), 19, 63, 0, by decide +kernel⟩,
   ⟨w0, seen (w0), 19, by decide +kernel⟩,
   ⟨setLock wHost 63 2, seen (setLock wHost 63 2), 32, 63, by decide +kernel⟩,
   ⟨9, by decide +kernel⟩⟩

theorem witness_RegisterAccesses :
    (∃ (s a : State) (bar : Fin 3) (off : BitVec 30) (w : Fin 9), Finds s a ∧ (w ≠ 4 ∨ off.toNat % 4 ≠ 0 ∨ bar = 2)) ∧
    (∃ (s a : State) (req : Fin 64) (bar : Fin 3) (off : BitVec 30) (w : Fin 9), Finds s a ∧ w = 4 ∧ off.toNat % 4 = 0 ∧ bar = 0 ∧ reqReach a
      (req.val) off.toNat = false) ∧
    (∃ (s a : State) (req : Fin 64) (bar : Fin 3) (off : BitVec 30) (w : Fin 9) (x : Word), Finds s a ∧ w = 4 ∧ off.toNat % 4 = 0 ∧ bar = 0 ∧ reqReach
      a (req.val) off.toNat = true ∧ actionWrite a (req.val) off.toNat (BitVec.toNat x) = none ∧ regRow off.toNat = none) ∧
    (∃ (s a : State) (req : Fin 64) (bar : Fin 3) (off : BitVec 30) (w : Fin 9) (x : Word) (r : RegRow), Finds s a ∧ w = 4 ∧ off.toNat % 4 = 0 ∧ bar =
      0 ∧ reqReach a (req.val) off.toNat = true ∧ actionWrite a (req.val) off.toNat (BitVec.toNat x) = none ∧ regRow off.toNat = some r ∧ (mayWrite
      (req.val) off.toNat r = false ∨ r.rc = true)) ∧
    (∃ (s a : State) (req : Fin 64) (bar : Fin 3) (off : BitVec 30) (w : Fin 9) (x : Word) (r : RegRow), Finds s a ∧ w = 4 ∧ off.toNat % 4 = 0 ∧ bar =
      0 ∧ reqReach a (req.val) off.toNat = true ∧ actionWrite a (req.val) off.toNat (BitVec.toNat x) = none ∧ regRow off.toNat = some r ∧ mayWrite
      (req.val) off.toNat r = true ∧ r.rc = false ∧ r.pair = 0 ∧ 2490368 ≤ off.toNat ∧ off.toNat < 2555904) ∧
    (∃ (s a : State) (req : Fin 64) (bar : Fin 3) (off : BitVec 30) (w : Fin 9), Finds s a ∧ w = 4 ∧ off.toNat % 4 = 0 ∧ bar = 1 ∧ (req.val < 32 ∨ 48
      ≤ req.val ∨ hostLink a = false ∨ a.md.mode = Mode.boot)) ∧
    (∃ (s a : State) (req : Fin 64) (bar : Fin 3) (off : BitVec 30) (w : Fin 9), Finds s a ∧ w = 4 ∧ off.toNat % 4 = 0 ∧ bar = 1 ∧ 32 ≤ req.val ∧
      req.val < 48 ∧ hostLink a = true ∧ a.md.mode ≠ Mode.boot ∧ off.toNat < 4096 ∧ off.toNat % 16 = 0) ∧
    (∃ (s a : State) (req : Fin 64) (bar : Fin 3) (off : BitVec 30) (w : Fin 9), Finds s a ∧ w = 4 ∧ off.toNat % 4 = 0 ∧ bar = 1 ∧ 32 ≤ req.val ∧
      req.val < 48 ∧ hostLink a = true ∧ a.md.mode ≠ Mode.boot ∧ off.toNat < 4096 ∧ off.toNat % 16 = 4) ∧
    (∃ (s a : State) (req : Fin 64) (bar : Fin 3) (off : BitVec 30) (w : Fin 9) (x : Word), Finds s a ∧ w = 4 ∧ off.toNat % 4 = 0 ∧ bar = 1 ∧ 32 ≤
      req.val ∧ req.val < 48 ∧ hostLink a = true ∧ a.md.mode ≠ Mode.boot ∧ 49152 ≤ off.toNat ∧ off.toNat < 49152 + 16 * (if req.val - 32 = 0 then 64
      else 16) ∧ off.toNat % 16 = 12 ∧ bit (BitVec.toNat x) 0 = true) ∧
    (∃ (s a : State) (req : Fin 64) (bar : Fin 3) (off : BitVec 30) (w : Fin 9), Finds s a ∧ w = 4 ∧ off.toNat % 4 = 0 ∧ bar = 1 ∧ 32 ≤ req.val ∧
      req.val < 48 ∧ hostLink a = true ∧ a.md.mode ≠ Mode.boot ∧ 49152 ≤ off.toNat ∧ off.toNat < 49152 + 16 * (if req.val - 32 = 0 then 64 else 16) ∧
      off.toNat % 16 < 12) ∧
    (∃ (s a : State) (req : Fin 64) (bar : Fin 3) (off : BitVec 30) (w : Fin 9) (i : Instr), Finds s a ∧ (i = Instr.registerLoRead req
      { off := off, width := w, bar := bar } ∨ i = Instr.registerReadClear req { off := off, width := w, bar := bar }) ∧ bar ≠ 0 ∧ (w ≠ 4 ∨ off.toNat
      % 4 ≠ 0 ∨ req.val < 32 ∨ 47 < req.val ∨ hostLink a = false ∨ a.md.mode = Mode.boot)) ∧
    (∃ (s a : State) (req : Fin 64) (bar : Fin 3) (off : BitVec 30) (w : Fin 9) (i : Instr), Finds s a ∧ (i = Instr.registerLoRead req
      { off := off, width := w, bar := bar } ∨ i = Instr.registerReadClear req { off := off, width := w, bar := bar }) ∧ bar ≠ 0 ∧ w = 4 ∧ off.toNat %
      4 = 0 ∧ 32 ≤ req.val ∧ req.val ≤ 47 ∧ hostLink a = true ∧ a.md.mode ≠ Mode.boot ∧ bar = 1 ∧ off.toNat < 49152) ∧
    (∃ (s a : State) (req : Fin 64) (bar : Fin 3) (off : BitVec 30) (w : Fin 9) (i : Instr), Finds s a ∧ (i = Instr.registerLoRead req
      { off := off, width := w, bar := bar } ∨ i = Instr.registerReadClear req { off := off, width := w, bar := bar }) ∧ bar ≠ 0 ∧ w = 4 ∧ off.toNat %
      4 = 0 ∧ 32 ≤ req.val ∧ req.val ≤ 47 ∧ hostLink a = true ∧ a.md.mode ≠ Mode.boot ∧ bar = 1 ∧ 49152 ≤ off.toNat ∧ off.toNat < 49152 + 16 * (if
      req.val - 32 = 0 then 64 else 16) ∧ off.toNat % 16 < 12) ∧
    (∃ (s a : State) (req : Fin 64) (bar : Fin 3) (off : BitVec 30) (w : Fin 9) (i : Instr), Finds s a ∧ (i = Instr.registerLoRead req
      { off := off, width := w, bar := bar } ∨ i = Instr.registerReadClear req { off := off, width := w, bar := bar }) ∧ bar ≠ 0 ∧ w = 4 ∧ off.toNat %
      4 = 0 ∧ 32 ≤ req.val ∧ req.val ≤ 47 ∧ hostLink a = true ∧ a.md.mode ≠ Mode.boot ∧ bar = 1 ∧ 49152 ≤ off.toNat ∧ off.toNat < 49152 + 16 * (if
      req.val - 32 = 0 then 64 else 16) ∧ off.toNat % 16 = 12) ∧
    (∃ (s a : State) (req : Fin 64) (bar : Fin 3) (off : BitVec 30) (w : Fin 9) (i : Instr), Finds s a ∧ (i = Instr.registerLoRead req
      { off := off, width := w, bar := bar } ∨ i = Instr.registerReadClear req { off := off, width := w, bar := bar }) ∧ bar ≠ 0 ∧ w = 4 ∧ off.toNat %
      4 = 0 ∧ 32 ≤ req.val ∧ req.val ≤ 47 ∧ hostLink a = true ∧ a.md.mode ≠ Mode.boot ∧ bar = 2 ∧ req.val ≠ 32) ∧
    (∃ (s a : State) (req : Fin 64) (bar : Fin 3) (off : BitVec 30) (w : Fin 9) (i : Instr), Finds s a ∧ (i = Instr.registerLoRead req
      { off := off, width := w, bar := bar } ∨ i = Instr.registerReadClear req { off := off, width := w, bar := bar }) ∧ bar ≠ 0 ∧ w = 4 ∧ off.toNat %
      4 = 0 ∧ 32 ≤ req.val ∧ req.val ≤ 47 ∧ hostLink a = true ∧ a.md.mode ≠ Mode.boot ∧ bar = 2 ∧ req.val = 32 ∧ memPoisoned a (hamperBase +
      off.toNat) 4 = false ∧ (∀ l ∈ linesOf (hamperBase + off.toNat) 4, l ∉ a.mem.weak) ∧ (∀ l ∈ linesOf (hamperBase + off.toNat) 4, l ∉
      a.mem.poisoned)) ∧
    (∃ (s a : State) (req : Fin 64) (off : BitVec 30) (w : Fin 9) (i : Instr), Finds s a ∧ (i = Instr.registerLoRead req
      { off := off, width := w, bar := 0 } ∨ i = Instr.registerReadClear req { off := off, width := w, bar := 0 }) ∧ 16777216 ≤ off.toNat) ∧
    (∃ (s a : State) (req : Fin 64) (off : BitVec 30) (w : Fin 9) (i : Instr), Finds s a ∧ (i = Instr.registerLoRead req
      { off := off, width := w, bar := 0 } ∨ i = Instr.registerReadClear req { off := off, width := w, bar := 0 }) ∧ off.toNat < 16777216 ∧ (w ≠ 4 ∨
      off.toNat % 4 ≠ 0 ∨ reqReach { a with host := { a.host with poisonedRead := false } } (req.val) off.toNat = false)) ∧
    (∃ (s a : State) (req : Fin 64) (off : BitVec 30) (w : Fin 9) (i : Instr) (h : Nat), Finds s a ∧ (i = Instr.registerLoRead req
      { off := off, width := w, bar := 0 } ∨ i = Instr.registerReadClear req { off := off, width := w, bar := 0 }) ∧ off.toNat < 16777216 ∧ reqReach
      { a with host := { a.host with poisonedRead := false } } (req.val) off.toNat = true ∧ off.toNat ≠ 524312 ∧ off.toNat ≠ 131180 ∧ (off.toNat <
      2363392 ∨ 2392320 ≤ off.toNat) ∧ w = 4 ∧ off.toNat % 4 = 0 ∧ mget a.host.hiLatch (regKey off.toNat req.val) = some h) ∧
    (∃ (s a : State) (req : Fin 64) (off : BitVec 30) (w : Fin 9) (i : Instr), Finds s a ∧ (i = Instr.registerLoRead req
      { off := off, width := w, bar := 0 } ∨ i = Instr.registerReadClear req { off := off, width := w, bar := 0 }) ∧ off.toNat < 16777216 ∧ reqReach
      { a with host := { a.host with poisonedRead := false } } (req.val) off.toNat = true ∧ off.toNat ≠ 524312 ∧ off.toNat ≠ 131180 ∧ (off.toNat <
      2363392 ∨ 2392320 ≤ off.toNat) ∧ w = 4 ∧ off.toNat % 4 = 0 ∧ mget a.host.hiLatch (regKey off.toNat req.val) = none ∧ pairLo off.toNat = true) ∧
    (∃ (s a : State) (req : Fin 64) (off : BitVec 30) (w : Fin 9) (i : Instr) (r : RegRow), Finds s a ∧ (i = Instr.registerLoRead req
      { off := off, width := w, bar := 0 } ∨ i = Instr.registerReadClear req { off := off, width := w, bar := 0 }) ∧ off.toNat < 16777216 ∧ reqReach
      { a with host := { a.host with poisonedRead := false } } (req.val) off.toNat = true ∧ off.toNat ≠ 524312 ∧ off.toNat ≠ 131180 ∧ (off.toNat <
      2363392 ∨ 2392320 ≤ off.toNat) ∧ w = 4 ∧ off.toNat % 4 = 0 ∧ mget a.host.hiLatch (regKey off.toNat req.val) = none ∧ pairLo off.toNat = false ∧
      regRow off.toNat = some r ∧ r.rc = true ∧ answers { a with host := { a.host with poisonedRead := false } } (req.val) off.toNat = true) ∧
    (∃ (s a : State) (req : Fin 64) (off : BitVec 30) (w : Fin 9) (i : Instr) (r : RegRow), Finds s a ∧ (i = Instr.registerLoRead req
      { off := off, width := w, bar := 0 } ∨ i = Instr.registerReadClear req { off := off, width := w, bar := 0 }) ∧ off.toNat < 16777216 ∧ reqReach
      { a with host := { a.host with poisonedRead := false } } (req.val) off.toNat = true ∧ off.toNat ≠ 524312 ∧ off.toNat ≠ 131180 ∧ (off.toNat <
      2363392 ∨ 2392320 ≤ off.toNat) ∧ w = 4 ∧ off.toNat % 4 = 0 ∧ mget a.host.hiLatch (regKey off.toNat req.val) = none ∧ pairLo off.toNat = false ∧
      regRow off.toNat = some r ∧ r.rc = true ∧ answers { a with host := { a.host with poisonedRead := false } } (req.val) off.toNat = false) ∧
    (∃ (s a : State) (req : Fin 64) (off : BitVec 30) (w : Fin 9) (i : Instr) (r : RegRow), Finds s a ∧ (i = Instr.registerLoRead req
      { off := off, width := w, bar := 0 } ∨ i = Instr.registerReadClear req { off := off, width := w, bar := 0 }) ∧ off.toNat < 16777216 ∧ reqReach
      { a with host := { a.host with poisonedRead := false } } (req.val) off.toNat = true ∧ off.toNat ≠ 524312 ∧ off.toNat ≠ 131180 ∧ (off.toNat <
      2363392 ∨ 2392320 ≤ off.toNat) ∧ w = 4 ∧ off.toNat % 4 = 0 ∧ mget a.host.hiLatch (regKey off.toNat req.val) = none ∧ pairLo off.toNat = false ∧
      regRow off.toNat = some r ∧ r.rc = false) ∧
    (∃ (s a : State) (req : Fin 64) (off : BitVec 30) (w : Fin 9) (i : Instr), Finds s a ∧ (i = Instr.registerLoRead req
      { off := off, width := w, bar := 0 } ∨ i = Instr.registerReadClear req { off := off, width := w, bar := 0 }) ∧ off.toNat < 16777216 ∧ reqReach
      { a with host := { a.host with poisonedRead := false } } (req.val) off.toNat = true ∧ off.toNat ≠ 524312 ∧ off.toNat ≠ 131180 ∧ (off.toNat <
      2363392 ∨ 2392320 ≤ off.toNat) ∧ w = 4 ∧ off.toNat % 4 = 0 ∧ mget a.host.hiLatch (regKey off.toNat req.val) = none ∧ pairLo off.toNat = false ∧
      regRow off.toNat = none) :=
  ⟨⟨wHost, seen (wHost), 2, 0, 4, by decide +kernel⟩,
   ⟨wHost, seen (wHost), 33, 0, 0x260008, 4, by decide +kernel⟩,
   ⟨wHost, seen (wHost), 32, 0, 0xFFFFF0, 4, 0, by decide +kernel⟩,
   ⟨wHost, seen (wHost), 32, 0, 0x40074, 4, 0, rowOf 0x40074, by decide +kernel⟩,
   ⟨wHost, seen (wHost), 32, 0, 0x260008, 4, 0xFFFFFFFF, rowOf 0x260008, by decide +kernel⟩,
   ⟨wHost, seen (wHost), 48, 1, 0, 4, by decide +kernel⟩,
   ⟨wRing ring0, seen (wRing ring0), 32, 1, 0, 4, by decide +kernel⟩,
   ⟨wRing ring0, seen (wRing ring0), 32, 1, 4, 4, by decide +kernel⟩,
   ⟨onHost (fun h => { h with unmasked := [64 + 15] }) wHost, seen (onHost (fun h => { h with unmasked := [64 + 15] }) wHost), 33, 1, 0xC0FC, 4, 1,
     by decide +kernel⟩,
   ⟨wHost, seen (wHost), 33, 1, 0xC0F8, 4, by decide +kernel⟩,
   ⟨wHost, seen (wHost), 33, 1, 0xC001, 4, .registerLoRead 33 ⟨0xC001, 4, 1⟩, by decide +kernel⟩,
   ⟨wHost, seen (wHost), 33, 1, 0, 4, .registerLoRead 33 ⟨0, 4, 1⟩, by decide +kernel⟩,
   ⟨onHost (fun h => { h with msixTable := [(4 * (64 + 15) + 2, 9)] }) wHost, seen (onHost (fun h => { h with msixTable := [(4 * (64 + 15) + 2, 9)] })
     wHost), 33, 1, 0xC0F8, 4, .registerLoRead 33 ⟨0xC0F8, 4, 1⟩, by decide +kernel⟩,
   ⟨onHost (fun h => { h with unmasked := [64 + 15] }) wHost, seen (onHost (fun h => { h with unmasked := [64 + 15] }) wHost), 33, 1, 0xC0FC, 4,
     .registerReadClear 33 ⟨0xC0FC, 4, 1⟩, by decide +kernel⟩,
   ⟨wHost, seen (wHost), 33, 2, 0, 4, .registerLoRead 33 ⟨0, 4, 2⟩, by decide +kernel⟩,
   ⟨onMem (fun m => { m with dram := [(hamperBase + 5, 7)] }) wHost, seen (onMem (fun m => { m with dram := [(hamperBase + 5, 7)] }) wHost), 32, 2, 4,
     4, .registerLoRead 32 ⟨4, 4, 2⟩, by decide +kernel⟩,
   ⟨wHost, seen (wHost), 32, 0x1000000, 4, .registerLoRead 32 ⟨0x1000000, 4, 0⟩, by decide +kernel⟩,
   ⟨wHost, seen (wHost), 33, 0x260008, 4, .registerLoRead 33 ⟨0x260008, 4, 0⟩, by decide +kernel⟩,
   ⟨onHost (fun h => { h with hiLatch := [(regKey 0x40010 32, 7)] }) wHost, seen (onHost (fun h => { h with hiLatch := [(regKey 0x40010 32, 7)] })
     wHost), 32, 0x40010, 4, .registerLoRead 32 ⟨0x40010, 4, 0⟩, 7, by decide +kernel⟩,
   ⟨wHost, seen (wHost), 32, 0x4000C, 4, .registerLoRead 32 ⟨0x4000C, 4, 0⟩, by decide +kernel⟩,
   ⟨wHost, seen (wHost), 32, 0x40074, 4, .registerLoRead 32 ⟨0x40074, 4, 0⟩, rowOf 0x40074, by decide +kernel⟩,
   ⟨wHost, seen (wHost), 1, 0x240004, 4, .registerReadClear 1 ⟨0x240004, 4, 0⟩, rowOf 0x240004, by decide +kernel⟩,
   ⟨wHost, seen (wHost), 32, 0x260008, 4, .registerLoRead 32 ⟨0x260008, 4, 0⟩, rowOf 0x260008, by decide +kernel⟩,
   ⟨wHost, seen (wHost), 32, 0xFFFFF0, 4, .registerLoRead 32 ⟨0xFFFFF0, 4, 0⟩, by decide +kernel⟩⟩

theorem witness_DebugAccess :
    (∃ (s a : State) (k : Fin 2) (n : Fin 18), FindsReg s a (if k = 0 then 63 else 32) 131184 ∧ coreReach a k.val n.val = false) ∧
    (∃ (s a : State) (k : Fin 2) (n : Fin 18), FindsReg s a (if k = 0 then 63 else 32) 131184 ∧ coreReach a k.val n.val = true ∧ (drvAt a
      n.val).entered = false ∧ (drvAt a n.val).halted = [] ∧ (List.filter (fun b => decide (b.1 = n.val)) a.sec.breaks).length < 4) ∧
    (∃ (s a : State) (k : Fin 2) (n : Fin 18), FindsReg s a (if k = 0 then 63 else 32) 131184 ∧ coreReach a k.val n.val = true ∧ (drvAt a
      n.val).halted ≠ [] ∧ (drvAt a n.val).entered = true) ∧
    (∃ (s a : State) (k : Fin 2) (n : Fin 18), FindsReg s a (if k = 0 then 63 else 32) 131184 ∧ coreReach a k.val n.val = true ∧ (drvAt a
      n.val).halted ≠ [] ∧ (drvAt a n.val).entered = false) ∧
    (∃ (s a : State) (k : Fin 2) (n : Fin 18), FindsReg s a (if k = 0 then 63 else 32) 131184 ∧ coreReach a k.val n.val = true ∧ 4 ≤ (List.filter (fun
      b => decide (b.1 = n.val)) a.sec.breaks).length) ∧
    (∃ (s a : State) (k : Fin 2) (q : Fin 208), FindsReg s a (if k = 0 then 63 else 32) 131184 ∧ laneReach a k.val q.val = false) ∧
    (∃ (s a : State) (k : Fin 2) (q : Fin 208), FindsReg s a (if k = 0 then 63 else 32) 131184 ∧ laneReach a k.val q.val = true) ∧
    (∃ (s a : State) (k : Fin 2) (q : Fin 208) (n : Nat), FindsReg s a (if k = 0 then 63 else 32) 131184 ∧ logicalOf a q.val = some n ∧ (gangAt a
      (gangOf a n)).role = 2) ∧
    (∃ (s a : State) (k : Fin 2), FindsReg s a (if k = 0 then 63 else 32) 131184 ∧ sesLevel a k.val = 0) ∧
    (∃ (s a : State) (k : Fin 2), FindsReg s a (if k = 0 then 63 else 32) 131184 ∧ sesLevel a k.val ≠ 0 ∧ dbgIn (bits (regAt a 131168 (sesReq k.val))
      0 3) (bits (regAt a 131168 (sesReq k.val)) 8 8) (dbgAddr a k.val) = true) ∧
    (∃ (s a : State) (k : Fin 2), FindsReg s a (if k = 0 then 63 else 32) 131184 ∧ dbgReach a (k.val) (bits (regAt a 131168 (sesReq k.val)) 0 3) (bits
      (regAt a 131168 (sesReq k.val)) 8 8) = false) ∧
    (∃ (s a : State) (k : Fin 2), FindsReg s a (if k = 0 then 63 else 32) 131184 ∧ dbgReach a (k.val) (bits (regAt a 131168 (sesReq k.val)) 0 3) (bits
      (regAt a 131168 (sesReq k.val)) 8 8) = true ∧ dbgIn (bits (regAt a 131168 (sesReq k.val)) 0 3) (bits (regAt a 131168 (sesReq k.val)) 8 8)
      (dbgAddr a k.val) = true) ∧
    (∃ (s a : State) (k : Fin 2), FindsReg s a (if k = 0 then 63 else 32) 131184) ∧
    (∃ (s a : State) (k : Fin 2) (t : Nat), Finds s a ∧ ((mget a.sec.sessions k.val).bind fun x => x.ends) = some t ∧ a.time.elapsed < t) ∧
    (∃ (s a : State) (k : Fin 2) (t : Nat), Finds s a ∧ ((mget a.sec.sessions k.val).bind fun x => x.ends) = some t ∧ t ≤ a.time.elapsed) ∧
    (∃ (s a : State) (k : Fin 2), Finds s a ∧ ((mget a.sec.sessions k.val).bind fun x => x.ends) = none) ∧
    (∃ (s a : State) (level : Fin 3), Finds s a ∧ a.sec.tap = 2 ∧ level ≠ 0 ∧ a.md.mode ≠ Mode.boot) ∧
    (∃ (s a : State) (level : Fin 3), Finds s a ∧ (a.sec.tap ≠ 2 ∨ level = 0 ∨ a.md.mode = Mode.boot)) ∧
    (∃ (a : State) (ses : Nat), mhas a.sec.sessions ses = true ∧ a.drv = [] ∧ a.sol.lanes = []) ∧
    (∃ (s a : State), FindsOn s a ∧ mhas a.sec.sessions 0 = false) ∧
    (∃ (s a : State), FindsOn s a ∧ mhas a.sec.sessions 0 = true ∧ a.sec.tapResets = 0) ∧
    (∃ (s a : State), FindsOn s a ∧ mhas a.sec.sessions 0 = true ∧ 1 ≤ a.sec.tapResets) ∧
    (∃ (s a : State) (i : Fin 4), FindsOn s a ∧ (i ≠ 3 ∨ a.sec.lifecycle = 0 ∨ a.sec.lifecycle = 3 ∨ a.sec.resetHeld = true)) ∧
    (∃ (s a : State) (i : Fin 4), FindsOn s a ∧ i = 3 ∧ a.sec.lifecycle ≠ 0 ∧ a.sec.lifecycle ≠ 3 ∧ a.sec.resetHeld = false) :=
  ⟨⟨wHost, seen (wHost), 1, 0, by decide +kernel⟩,
   ⟨wDbg, seen (wDbg), 1, 0, by decide +kernel⟩,
   ⟨{ wDbg with drv := [(0, { halted := [1], entered := true })] }, seen ({ wDbg with drv := [(0, { halted := [1], entered := true })] }), 1, 0,
     by decide +kernel⟩,
   ⟨{ wDbg with drv := [(0, { halted := [1] })] }, seen ({ wDbg with drv := [(0, { halted := [1] })] }), 1, 0, by decide +kernel⟩,
   ⟨onSec (fun x => { x with breaks := [(0, 1, 1), (0, 2, 1), (0, 3, 1), (0, 4, 1)] }) wDbg, seen (onSec (fun x =>
     { x with breaks := [(0, 1, 1), (0, 2, 1), (0, 3, 1), (0, 4, 1)] }) wDbg), 1, 0, by decide +kernel⟩,
   ⟨wHost, seen (wHost), 1, 0, by decide +kernel⟩,
   ⟨onSol (fun x => { x with gangs := [(0, { size := 1, role := 1 })] }) wDbg, seen (onSol (fun x =>
     { x with gangs := [(0, { size := 1, role := 1 })] }) wDbg), 1, 0, by decide +kernel⟩,
   ⟨onSol (fun x => { x with gangs := [(184, { size := 4, role := 2 })] }) wDbg, seen (onSol (fun x =>
     { x with gangs := [(184, { size := 4, role := 2 })] }) wDbg), 1, 187, 187, by decide +kernel⟩,
   ⟨wHost, seen (wHost), 1, by decide +kernel⟩,
   ⟨setRegAt wDbg 0x20060 (sesReq 1) 3, seen (setRegAt wDbg 0x20060 (sesReq 1) 3), 1, by decide +kernel⟩,
   ⟨wHost, seen (wHost), 1, by decide +kernel⟩,
   ⟨setRegAt wDbg 0x20060 (sesReq 1) 3, seen (setRegAt wDbg 0x20060 (sesReq 1) 3), 1, by decide +kernel⟩,
   ⟨wDbg, seen (wDbg), 1, by decide +kernel⟩,
   ⟨onSec (fun x => { x with sessions := [(1, { level := 2, regions := 0, ends := some 1 })] }) w0, seen (onSec (fun x =>
     { x with sessions := [(1, { level := 2, regions := 0, ends := some 1 })] }) w0), 1, 1, by decide +kernel⟩,
   ⟨onTime (fun t => { t with elapsed := 1 }) (onSec (fun x => { x with sessions := [(1, { level := 2, regions := 0, ends := some 1 })] }) w0), seen
     (onTime (fun t => { t with elapsed := 1 }) (onSec (fun x => { x with sessions := [(1, { level := 2, regions := 0, ends := some 1 })] }) w0)), 1,
     1, by decide +kernel⟩,
   ⟨w0, seen (w0), 1, by decide +kernel⟩,
   ⟨onSec (fun x => { x with tap := 2 }) w0, seen (onSec (fun x => { x with tap := 2 }) w0), 1, by decide +kernel⟩,
   ⟨w0, seen (w0), 1, by decide +kernel⟩,
   ⟨wDbg, 1, by decide +kernel⟩,
   ⟨w0, seen (w0), by decide +kernel⟩,
   ⟨onSec (fun x => { x with sessions := [(0, { level := 1, regions := 0, ends := none })] }) w0, seen (onSec (fun x =>
     { x with sessions := [(0, { level := 1, regions := 0, ends := none })] }) w0), by decide +kernel⟩,
   ⟨onSec (fun x => { x with sessions := [(0, { level := 1, regions := 0, ends := none })], tapResets := 1 }) w0, seen (onSec (fun x =>
     { x with sessions := [(0, { level := 1, regions := 0, ends := none })], tapResets := 1 }) w0), by decide +kernel⟩,
   ⟨w0, seen (w0), 3, by decide +kernel⟩,
   ⟨onSec (fun x => { x with lifecycle := 1 }) w0, seen (onSec (fun x => { x with lifecycle := 1 }) w0), 3, by decide +kernel⟩⟩

theorem witness_DescriptorAcceptance :
    (∃ (s a : State) (d : Desc) (c : Instr) (op : Nat) (e : Desc), Finds s a ∧ (c, op, e) ∈ [(Instr.destroy d, 2, d), (Instr.armCreate d, 3, d),
      (Instr.jointCreate d, 4, d), (Instr.jointScaleSet d, 5, d), (Instr.regionRelease d, 256, d), (Instr.regionResume d, 257, d), (Instr.regionHold
      d, 258, d), (Instr.regionService d, 259, d), (Instr.regionLeaveService d, 260, d), (Instr.modeSet d, 272, d), (Instr.linesrcCreate d, 512, d),
      (Instr.lineDesignate d, 513, d), (Instr.cchanCreate d, 1024, d), (Instr.cchanSet d, 1025, d), (Instr.fbchCreate d, 1280, d), (Instr.fbchSet d,
      1281, d), (Instr.fbchSetPos d, 1282, d), (Instr.sweSet d, 1536, d), (Instr.drvSwap d, 1793, d), (Instr.drvBind d, 1794, d), (Instr.drvParam d,
      1795, d), (Instr.prfCreate d, 2048, d), (Instr.prfSet d, 2049, d), (Instr.prfQueue d, 2050, d), (Instr.prfHome d, 2052, d), (Instr.gearCreate d,
      2053, d), (Instr.gearSet d, 2054, d), (Instr.solGang d, 2304, d), (Instr.problemBind d, 2306, d), (Instr.problemWrite d, 2307, d),
      (Instr.plnBranchSet d, 2308, d), (Instr.grdKinSet d, 2560, d), (Instr.grdCapsuleSet d, 2561, d), (Instr.grdStopSet d, 2562, d),
      (Instr.trackCreate d, 2563, d), (Instr.zoneCreate d, 2564, d), (Instr.grdZoneSet d, 2565, d), (Instr.pressOpen d, 2816, d), (Instr.pressArm d,
      2817, d), (Instr.pressAbort d, 2818, d), (Instr.nodeCreate d, 3072, d), (Instr.nodeSet d, 3073, d), (Instr.edgeSet d, 3074, d),
      (Instr.flowCreate d, 3075, d), (Instr.delayCreate d, 3076, d), (Instr.delayArm d, 3077, d), (Instr.gscToken d, 3078, d), (Instr.ringCreate d,
      3328, d), (Instr.eventRoute d, 3329, d), (Instr.traceCreate d, 3584, d), (Instr.traceSet d, 3585, d), (Instr.traceTrigger d, 3586, withByte16 0
      d), (Instr.traceRearm d, 3586, withByte16 1 d), (Instr.mboxCreate d, 3840, d), (Instr.fltAck d, 4352, d), (Instr.fltClearFaults d, 4353,
      withByte16 1 d), (Instr.fltClearQuarantine d, 4353, withByte16 2 d), (Instr.fltClearWarmStart d, 4353, withByte16 3 d)] ∧ Admitted a op e) ∧
    (∃ (s a : State) (d : Desc) (c : Instr) (op : Nat) (e : Desc), Finds s a ∧ (c, op, e) ∈ [(Instr.destroy d, 2, d), (Instr.armCreate d, 3, d),
      (Instr.jointCreate d, 4, d), (Instr.jointScaleSet d, 5, d), (Instr.regionRelease d, 256, d), (Instr.regionResume d, 257, d), (Instr.regionHold
      d, 258, d), (Instr.regionService d, 259, d), (Instr.regionLeaveService d, 260, d), (Instr.modeSet d, 272, d), (Instr.linesrcCreate d, 512, d),
      (Instr.lineDesignate d, 513, d), (Instr.cchanCreate d, 1024, d), (Instr.cchanSet d, 1025, d), (Instr.fbchCreate d, 1280, d), (Instr.fbchSet d,
      1281, d), (Instr.fbchSetPos d, 1282, d), (Instr.sweSet d, 1536, d), (Instr.drvSwap d, 1793, d), (Instr.drvBind d, 1794, d), (Instr.drvParam d,
      1795, d), (Instr.prfCreate d, 2048, d), (Instr.prfSet d, 2049, d), (Instr.prfQueue d, 2050, d), (Instr.prfHome d, 2052, d), (Instr.gearCreate d,
      2053, d), (Instr.gearSet d, 2054, d), (Instr.solGang d, 2304, d), (Instr.problemBind d, 2306, d), (Instr.problemWrite d, 2307, d),
      (Instr.plnBranchSet d, 2308, d), (Instr.grdKinSet d, 2560, d), (Instr.grdCapsuleSet d, 2561, d), (Instr.grdStopSet d, 2562, d),
      (Instr.trackCreate d, 2563, d), (Instr.zoneCreate d, 2564, d), (Instr.grdZoneSet d, 2565, d), (Instr.pressOpen d, 2816, d), (Instr.pressArm d,
      2817, d), (Instr.pressAbort d, 2818, d), (Instr.nodeCreate d, 3072, d), (Instr.nodeSet d, 3073, d), (Instr.edgeSet d, 3074, d),
      (Instr.flowCreate d, 3075, d), (Instr.delayCreate d, 3076, d), (Instr.delayArm d, 3077, d), (Instr.gscToken d, 3078, d), (Instr.ringCreate d,
      3328, d), (Instr.eventRoute d, 3329, d), (Instr.traceCreate d, 3584, d), (Instr.traceSet d, 3585, d), (Instr.traceTrigger d, 3586, withByte16 0
      d), (Instr.traceRearm d, 3586, withByte16 1 d), (Instr.mboxCreate d, 3840, d), (Instr.fltAck d, 4352, d), (Instr.fltClearFaults d, 4353,
      withByte16 1 d), (Instr.fltClearQuarantine d, 4353, withByte16 2 d), (Instr.fltClearWarmStart d, 4353, withByte16 3 d)] ∧ ((ringAt a ↑e.ring).st
      ≠ RingState.up ∨ busMasterOn a (ringAt a ↑e.ring).owner = false)) ∧
    (∃ (s a : State) (d : Desc) (c : Instr) (op : Nat) (e : Desc), Finds s a ∧ (c, op, e) ∈ [(Instr.destroy d, 2, d), (Instr.armCreate d, 3, d),
      (Instr.jointCreate d, 4, d), (Instr.jointScaleSet d, 5, d), (Instr.regionRelease d, 256, d), (Instr.regionResume d, 257, d), (Instr.regionHold
      d, 258, d), (Instr.regionService d, 259, d), (Instr.regionLeaveService d, 260, d), (Instr.modeSet d, 272, d), (Instr.linesrcCreate d, 512, d),
      (Instr.lineDesignate d, 513, d), (Instr.cchanCreate d, 1024, d), (Instr.cchanSet d, 1025, d), (Instr.fbchCreate d, 1280, d), (Instr.fbchSet d,
      1281, d), (Instr.fbchSetPos d, 1282, d), (Instr.sweSet d, 1536, d), (Instr.drvSwap d, 1793, d), (Instr.drvBind d, 1794, d), (Instr.drvParam d,
      1795, d), (Instr.prfCreate d, 2048, d), (Instr.prfSet d, 2049, d), (Instr.prfQueue d, 2050, d), (Instr.prfHome d, 2052, d), (Instr.gearCreate d,
      2053, d), (Instr.gearSet d, 2054, d), (Instr.solGang d, 2304, d), (Instr.problemBind d, 2306, d), (Instr.problemWrite d, 2307, d),
      (Instr.plnBranchSet d, 2308, d), (Instr.grdKinSet d, 2560, d), (Instr.grdCapsuleSet d, 2561, d), (Instr.grdStopSet d, 2562, d),
      (Instr.trackCreate d, 2563, d), (Instr.zoneCreate d, 2564, d), (Instr.grdZoneSet d, 2565, d), (Instr.pressOpen d, 2816, d), (Instr.pressArm d,
      2817, d), (Instr.pressAbort d, 2818, d), (Instr.nodeCreate d, 3072, d), (Instr.nodeSet d, 3073, d), (Instr.edgeSet d, 3074, d),
      (Instr.flowCreate d, 3075, d), (Instr.delayCreate d, 3076, d), (Instr.delayArm d, 3077, d), (Instr.gscToken d, 3078, d), (Instr.ringCreate d,
      3328, d), (Instr.eventRoute d, 3329, d), (Instr.traceCreate d, 3584, d), (Instr.traceSet d, 3585, d), (Instr.traceTrigger d, 3586, withByte16 0
      d), (Instr.traceRearm d, 3586, withByte16 1 d), (Instr.mboxCreate d, 3840, d), (Instr.fltAck d, 4352, d), (Instr.fltClearFaults d, 4353,
      withByte16 1 d), (Instr.fltClearQuarantine d, 4353, withByte16 2 d), (Instr.fltClearWarmStart d, 4353, withByte16 3 d)] ∧ (ringAt a ↑e.ring).st
      = RingState.up ∧ busMasterOn a (ringAt a ↑e.ring).owner = true ∧ (ringAt a ↑e.ring).waiting = [] ∧ cqRoom (ringAt a ↑e.ring) = true ∧
      (e.flags.getLsbD 0 = false ∨ (ringAt a ↑e.ring).open_ = 0) ∧ a.host.accepted < 8 ∧ 4 ≤ e.flags.toNat) ∧
    (∃ (s a : State) (d : Desc) (c : Instr) (op : Nat) (e : Desc), Finds s a ∧ (c, op, e) ∈ [(Instr.destroy d, 2, d), (Instr.armCreate d, 3, d),
      (Instr.jointCreate d, 4, d), (Instr.jointScaleSet d, 5, d), (Instr.regionRelease d, 256, d), (Instr.regionResume d, 257, d), (Instr.regionHold
      d, 258, d), (Instr.regionService d, 259, d), (Instr.regionLeaveService d, 260, d), (Instr.modeSet d, 272, d), (Instr.linesrcCreate d, 512, d),
      (Instr.lineDesignate d, 513, d), (Instr.cchanCreate d, 1024, d), (Instr.cchanSet d, 1025, d), (Instr.fbchCreate d, 1280, d), (Instr.fbchSet d,
      1281, d), (Instr.fbchSetPos d, 1282, d), (Instr.sweSet d, 1536, d), (Instr.drvSwap d, 1793, d), (Instr.drvBind d, 1794, d), (Instr.drvParam d,
      1795, d), (Instr.prfCreate d, 2048, d), (Instr.prfSet d, 2049, d), (Instr.prfQueue d, 2050, d), (Instr.prfHome d, 2052, d), (Instr.gearCreate d,
      2053, d), (Instr.gearSet d, 2054, d), (Instr.solGang d, 2304, d), (Instr.problemBind d, 2306, d), (Instr.problemWrite d, 2307, d),
      (Instr.plnBranchSet d, 2308, d), (Instr.grdKinSet d, 2560, d), (Instr.grdCapsuleSet d, 2561, d), (Instr.grdStopSet d, 2562, d),
      (Instr.trackCreate d, 2563, d), (Instr.zoneCreate d, 2564, d), (Instr.grdZoneSet d, 2565, d), (Instr.pressOpen d, 2816, d), (Instr.pressArm d,
      2817, d), (Instr.pressAbort d, 2818, d), (Instr.nodeCreate d, 3072, d), (Instr.nodeSet d, 3073, d), (Instr.edgeSet d, 3074, d),
      (Instr.flowCreate d, 3075, d), (Instr.delayCreate d, 3076, d), (Instr.delayArm d, 3077, d), (Instr.gscToken d, 3078, d), (Instr.ringCreate d,
      3328, d), (Instr.eventRoute d, 3329, d), (Instr.traceCreate d, 3584, d), (Instr.traceSet d, 3585, d), (Instr.traceTrigger d, 3586, withByte16 0
      d), (Instr.traceRearm d, 3586, withByte16 1 d), (Instr.mboxCreate d, 3840, d), (Instr.fltAck d, 4352, d), (Instr.fltClearFaults d, 4353,
      withByte16 1 d), (Instr.fltClearQuarantine d, 4353, withByte16 2 d), (Instr.fltClearWarmStart d, 4353, withByte16 3 d)] ∧ (ringAt a ↑e.ring).st
      = RingState.up ∧ busMasterOn a (ringAt a ↑e.ring).owner = true ∧ (ringAt a ↑e.ring).waiting = [] ∧ cqRoom (ringAt a ↑e.ring) = true ∧
      (e.flags.getLsbD 0 = false ∨ (ringAt a ↑e.ring).open_ = 0) ∧ a.host.accepted < 8 ∧ e.flags.toNat < 4 ∧ e.press = 0 ∧ scopeDenies (taken a e)
      (accOf a op e) = true) ∧
    (∃ (s a : State) (d : Desc) (c : Instr) (op : Nat) (e : Desc), Finds s a ∧ (c, op, e) ∈ [(Instr.destroy d, 2, d), (Instr.armCreate d, 3, d),
      (Instr.jointCreate d, 4, d), (Instr.jointScaleSet d, 5, d), (Instr.regionRelease d, 256, d), (Instr.regionResume d, 257, d), (Instr.regionHold
      d, 258, d), (Instr.regionService d, 259, d), (Instr.regionLeaveService d, 260, d), (Instr.modeSet d, 272, d), (Instr.linesrcCreate d, 512, d),
      (Instr.lineDesignate d, 513, d), (Instr.cchanCreate d, 1024, d), (Instr.cchanSet d, 1025, d), (Instr.fbchCreate d, 1280, d), (Instr.fbchSet d,
      1281, d), (Instr.fbchSetPos d, 1282, d), (Instr.sweSet d, 1536, d), (Instr.drvSwap d, 1793, d), (Instr.drvBind d, 1794, d), (Instr.drvParam d,
      1795, d), (Instr.prfCreate d, 2048, d), (Instr.prfSet d, 2049, d), (Instr.prfQueue d, 2050, d), (Instr.prfHome d, 2052, d), (Instr.gearCreate d,
      2053, d), (Instr.gearSet d, 2054, d), (Instr.solGang d, 2304, d), (Instr.problemBind d, 2306, d), (Instr.problemWrite d, 2307, d),
      (Instr.plnBranchSet d, 2308, d), (Instr.grdKinSet d, 2560, d), (Instr.grdCapsuleSet d, 2561, d), (Instr.grdStopSet d, 2562, d),
      (Instr.trackCreate d, 2563, d), (Instr.zoneCreate d, 2564, d), (Instr.grdZoneSet d, 2565, d), (Instr.pressOpen d, 2816, d), (Instr.pressArm d,
      2817, d), (Instr.pressAbort d, 2818, d), (Instr.nodeCreate d, 3072, d), (Instr.nodeSet d, 3073, d), (Instr.edgeSet d, 3074, d),
      (Instr.flowCreate d, 3075, d), (Instr.delayCreate d, 3076, d), (Instr.delayArm d, 3077, d), (Instr.gscToken d, 3078, d), (Instr.ringCreate d,
      3328, d), (Instr.eventRoute d, 3329, d), (Instr.traceCreate d, 3584, d), (Instr.traceSet d, 3585, d), (Instr.traceTrigger d, 3586, withByte16 0
      d), (Instr.traceRearm d, 3586, withByte16 1 d), (Instr.mboxCreate d, 3840, d), (Instr.fltAck d, 4352, d), (Instr.fltClearFaults d, 4353,
      withByte16 1 d), (Instr.fltClearQuarantine d, 4353, withByte16 2 d), (Instr.fltClearWarmStart d, 4353, withByte16 3 d)] ∧ (ringAt a ↑e.ring).st
      = RingState.up ∧ busMasterOn a (ringAt a ↑e.ring).owner = true ∧ (ringAt a ↑e.ring).waiting = [] ∧ cqRoom (ringAt a ↑e.ring) = true ∧
      (e.flags.getLsbD 0 = false ∨ (ringAt a ↑e.ring).open_ = 0) ∧ a.host.accepted < 8 ∧ e.flags.toNat < 4 ∧ e.press = 0 ∧ scopeDenies (taken a e)
      (accOf a op e) = false ∧ acceptHandles (taken a e) (accOf a op e) = none ∧ dormantRefuses (taken a e) op = false ∧ scaleAccepted (taken a e)
      (accOf a op e) = false) ∧
    (∃ (s a : State) (d : Desc) (c : Instr) (op : Nat) (e : Desc) (st h : Nat), Finds s a ∧ (c, op, e) ∈ [(Instr.destroy d, 2, d), (Instr.armCreate d,
      3, d), (Instr.jointCreate d, 4, d), (Instr.jointScaleSet d, 5, d), (Instr.regionRelease d, 256, d), (Instr.regionResume d, 257, d),
      (Instr.regionHold d, 258, d), (Instr.regionService d, 259, d), (Instr.regionLeaveService d, 260, d), (Instr.modeSet d, 272, d),
      (Instr.linesrcCreate d, 512, d), (Instr.lineDesignate d, 513, d), (Instr.cchanCreate d, 1024, d), (Instr.cchanSet d, 1025, d), (Instr.fbchCreate
      d, 1280, d), (Instr.fbchSet d, 1281, d), (Instr.fbchSetPos d, 1282, d), (Instr.sweSet d, 1536, d), (Instr.drvSwap d, 1793, d), (Instr.drvBind d,
      1794, d), (Instr.drvParam d, 1795, d), (Instr.prfCreate d, 2048, d), (Instr.prfSet d, 2049, d), (Instr.prfQueue d, 2050, d), (Instr.prfHome d,
      2052, d), (Instr.gearCreate d, 2053, d), (Instr.gearSet d, 2054, d), (Instr.solGang d, 2304, d), (Instr.problemBind d, 2306, d),
      (Instr.problemWrite d, 2307, d), (Instr.plnBranchSet d, 2308, d), (Instr.grdKinSet d, 2560, d), (Instr.grdCapsuleSet d, 2561, d),
      (Instr.grdStopSet d, 2562, d), (Instr.trackCreate d, 2563, d), (Instr.zoneCreate d, 2564, d), (Instr.grdZoneSet d, 2565, d), (Instr.pressOpen d,
      2816, d), (Instr.pressArm d, 2817, d), (Instr.pressAbort d, 2818, d), (Instr.nodeCreate d, 3072, d), (Instr.nodeSet d, 3073, d), (Instr.edgeSet
      d, 3074, d), (Instr.flowCreate d, 3075, d), (Instr.delayCreate d, 3076, d), (Instr.delayArm d, 3077, d), (Instr.gscToken d, 3078, d),
      (Instr.ringCreate d, 3328, d), (Instr.eventRoute d, 3329, d), (Instr.traceCreate d, 3584, d), (Instr.traceSet d, 3585, d), (Instr.traceTrigger
      d, 3586, withByte16 0 d), (Instr.traceRearm d, 3586, withByte16 1 d), (Instr.mboxCreate d, 3840, d), (Instr.fltAck d, 4352, d),
      (Instr.fltClearFaults d, 4353, withByte16 1 d), (Instr.fltClearQuarantine d, 4353, withByte16 2 d), (Instr.fltClearWarmStart d, 4353, withByte16
      3 d)] ∧ (ringAt a ↑e.ring).st = RingState.up ∧ busMasterOn a (ringAt a ↑e.ring).owner = true ∧ (ringAt a ↑e.ring).waiting = [] ∧ cqRoom (ringAt
      a ↑e.ring) = true ∧ (e.flags.getLsbD 0 = false ∨ (ringAt a ↑e.ring).open_ = 0) ∧ a.host.accepted < 8 ∧ e.flags.toNat < 4 ∧ e.press = 0 ∧
      scopeDenies (taken a e) (accOf a op e) = false ∧ acceptHandles (taken a e) (accOf a op e) = some (st, h)) :=
  ⟨⟨wUp, seen (wUp), desc 0 [], .armCreate (desc 0 []), 0x0003, desc 0 [], by decide +kernel⟩,
   ⟨wHost, seen (wHost), desc 0 [], .armCreate (desc 0 []), 0x0003, desc 0 [], by decide +kernel⟩,
   ⟨wUp, seen (wUp), { ring := 0, flags := 4 }, .armCreate { ring := 0, flags := 4 }, 0x0003, { ring := 0, flags := 4 }, by decide +kernel⟩,
   ⟨onHost (fun h => { h with rings := [(0, { st := .up, owner := 1 })], busMaster := [(1, 0)] }) wUp, seen (onHost (fun h =>
     { h with rings := [(0, { st := .up, owner := 1 })], busMaster := [(1, 0)] }) wUp), desc 0 [], .modeSet (desc 0 []), 0x0110, desc 0 [],
     by decide +kernel⟩,
   ⟨wUp, seen (wUp), desc 0 [(16, 1, 1), (32, 1, 9)], .cchanCreate (desc 0 [(16, 1, 1), (32, 1, 9)]), 0x0400, desc 0 [(16, 1, 1), (32, 1, 9)],
     by decide +kernel⟩,
   ⟨wUp, seen (wUp), desc 1 [], .armCreate (desc 1 []), 0x0003, desc 1 [], 2, 1, by decide +kernel⟩⟩

theorem witness_DescriptorsThatActAtOnce :
    (∃ (s a : State) (d : Desc), Finds s a ∧ Admitted a 1 d ∧ d.payload = 0) ∧
    (∃ (s a : State) (d : Desc), Finds s a ∧ Admitted a 1 d ∧ d.payload ≠ 0) ∧
    (∃ (s a : State) (d : Desc), Finds s a ∧ Admitted a 514 d ∧ (onlyBytes d [(16, 9)] = false ∨ 1 < pf d 24 1)) ∧
    (∃ (s a : State) (d : Desc), Finds s a ∧ Admitted a 514 d ∧ onlyBytes d [(16, 9)] = true ∧ pf d 24 1 = 1) ∧
    (∃ (s a : State) (d : Desc), Finds s a ∧ Admitted a 514 d ∧ onlyBytes d [(16, 9)] = true ∧ pf d 24 1 = 0 ∧ a.time.stepArmed = none) ∧
    (∃ (s a : State) (d : Desc), Finds s a ∧ Admitted a 514 d ∧ onlyBytes d [(16, 9)] = true ∧ pf d 24 1 = 0 ∧ a.time.stepArmed ≠ none) ∧
    (∃ (s a : State) (d : Desc) (st h : Nat), Finds s a ∧ Admitted a 768 d ∧ cyclicCheck (taken a d) (accOf a 768 d) = some (st, h)) ∧
    (∃ (s a : State) (d : Desc), Finds s a ∧ Admitted a 768 d ∧ cyclicCheck (taken a d) (accOf a 768 d) = none) ∧
    (∃ (s a : State) (d : Desc), Finds s a ∧ Admitted a 769 d ∧ accessCheck (taken a d) (accOf a 769 d) = none ∧ portSends (portAt (taken a d) (pf d
      16 1)) = true) ∧
    (∃ (s a : State) (d : Desc), Finds s a ∧ Admitted a 769 d ∧ accessCheck (taken a d) (accOf a 769 d) = none ∧ portSends (portAt (taken a d) (pf d
      16 1)) = false) ∧
    (∃ (s a : State) (d : Desc), Finds s a ∧ Admitted a 1026 d ∧ calCheck (accOf a 1026 d) = none) ∧
    (∃ (s a : State) (d : Desc) (st h : Nat), Finds s a ∧ Admitted a 1026 d ∧ calCheck (accOf a 1026 d) = some (st, h)) ∧
    (∃ (s a : State) (d : Desc) (j : Joint), Finds s a ∧ Admitted a 1537 d ∧ sharesHandle (taken a d) (accOf a 1537 d) = false ∧ targetHeld (taken a
      d) (accOf a 1537 d) = none ∧ headCalCheck (taken a d) (accOf a 1537 d) = none ∧ mget (taken a d).joints (tIdx d) = some j) ∧
    (∃ (s a : State) (d : Desc), Finds s a ∧ Admitted a 1792 d ∧ drvLoadCheck (taken a d) (accOf a 1792 d) = none) ∧
    (∃ (s a : State) (d : Desc) (st h : Nat), Finds s a ∧ Admitted a 1792 d ∧ drvLoadCheck (taken a d) (accOf a 1792 d) = some (st, h)) ∧
    (∃ (s a : State) (d : Desc), Finds s a ∧ Admitted a 2305 d ∧ a.md.mode = Mode.dormant) ∧
    (∃ (s a : State) (d : Desc), Finds s a ∧ Admitted a 2305 d ∧ a.md.mode ≠ Mode.dormant ∧ problemCreateCheck (taken a d) (accOf a 2305 d) = none) ∧
    (∃ (s a : State) (d : Desc) (r : State × Nat), Finds s a ∧ Admitted a 2309 d ∧ replanCheck (taken a d) (accOf a 2309 d) = none ∧ replanResult
      (taken a d) (pf d 16 1) = some r) ∧
    (∃ (s a : State) (d : Desc), Finds s a ∧ Admitted a 3079 d ∧ sharesHandle (taken a d) (accOf a 3079 d) = false ∧ targetHeld (taken a d) (accOf a
      3079 d) = none ∧ pf d 16 2 ≠ 0 ∧ onlyBytes d [(16, 2), (20, 4)] = true ∧ (pf d 20 4 = 0 ∨ waitTimeoutOk (taken a d) = true) ∧ (taken a
      d).gsc.waits.length < 64 ∧ (nodeAt (taken a d) (tIdx d)).st ≠ NodeState.error) ∧
    (∃ (s a : State) (d : Desc) (c i : Nat), Finds s a ∧ Admitted a 4096 d ∧ hltDarnCheck (taken a d) (accOf a 4096 d) = none ∧ hltName d = (some c,
      i)) ∧
    (∃ (s a : State) (d : Desc) (c i : Nat), Finds s a ∧ Admitted a 4097 d ∧ hltTestCheck (taken a d) (accOf a 4097 d) = none ∧ partsAsleep (taken a
      d) (accOf a 4097 d) = false ∧ hltName d = (some c, i)) ∧
    (∃ (s a : State) (d : Desc), Finds s a ∧ Admitted a 2309 d ∧ replanCheck (taken a d) (accOf a 2309 d) = none ∧ replanResult (taken a d) (pf d 16
      1) = none) ∧
    (∃ (s a : State) (d : Desc) (c : Instr) (op : Nat), Finds s a ∧ (c, op) ∈ [(Instr.sweHeadCal d, 1537), (Instr.prfStop d, 2051), (Instr.gscWait d,
      3079)] ∧ Admitted a op d ∧ sharesHandle (taken a d) (accOf a op d) = true) :=
  ⟨⟨wUp, seen (wUp), desc 0 [], by decide +kernel⟩,
   ⟨wUp, seen (wUp), desc 0 [(63, 1, 1)], by decide +kernel⟩,
   ⟨wUp, seen (wUp), desc 0 [(24, 1, 2)], by decide +kernel⟩,
   ⟨wUp, seen (wUp), desc 0 [(24, 1, 1)], by decide +kernel⟩,
   ⟨wUp, seen (wUp), desc 0 [(16, 8, 9)], by decide +kernel⟩,
   ⟨onTime (fun t => { t with stepArmed := some 1 }) wUp, seen (onTime (fun t => { t with stepArmed := some 1 }) wUp), desc 0 [(16, 8, 9)],
     by decide +kernel⟩,
   ⟨wUp, seen (wUp), desc 0 [], 6, 0, by decide +kernel⟩,
   ⟨wUp, seen (wUp), desc 0 [(16, 1, 15), (17, 1, 8), (18, 1, 138), (19, 1, 22), (62, 2, 7)], by decide +kernel⟩,
   ⟨{ wUp with ryl := [(15, { st := 5 })] }, seen ({ wUp with ryl := [(15, { st := 5 })] }), desc 0 [(16, 1, 15), (17, 1, 8), (18, 1, 1)],
     by decide +kernel⟩,
   ⟨wUp, seen (wUp), desc 0 [(16, 1, 15), (17, 1, 8), (18, 1, 1)], by decide +kernel⟩,
   ⟨wUp, seen (wUp), desc 0 [(16, 1, 7)], by decide +kernel⟩,
   ⟨wUp, seen (wUp), desc 0 [(16, 1, 8)], 4, 0, by decide +kernel⟩,
   ⟨wArm .service wUp, seen (wArm .service wUp), desc (mkHandle cJOINT 0 1) [(16, 1, 1)], joint0, by decide +kernel⟩,
   ⟨wUp, seen (wUp), desc 0 [(16, 1, 17), (17, 1, 1)], by decide +kernel⟩,
   ⟨wUp, seen (wUp), desc 0 [(16, 1, 18)], 6, 0, by decide +kernel⟩,
   ⟨inMode .dormant wUp, seen (inMode .dormant wUp), desc 0 [], by decide +kernel⟩,
   ⟨wUp, seen (wUp), desc 0 [], by decide +kernel⟩,
   ⟨wUp, seen (wUp), desc 0 [(16, 1, 4)], (replanResult (taken (seen wUp) (desc 0 [(16, 1, 4)])) 4).getD (w0, 0), by decide +kernel⟩,
   ⟨live cNODE 0 (onGsc (fun g => { g with nodes := [(0, {})] }) wUp), seen (live cNODE 0 (onGsc (fun g => { g with nodes := [(0, {})] }) wUp)), desc
     (mkHandle cNODE 0 1) [(16, 2, 1)], by decide +kernel⟩,
   ⟨wUp, seen (wUp), desc 0 [(16, 2, tyOf 4), (18, 2, 3)], 4, 3, by decide +kernel⟩,
   ⟨wUp, seen (wUp), desc 0 [(16, 2, tyOf 4), (18, 2, 17)], 4, 17, by decide +kernel⟩,
   ⟨live cARM 0
     { wUp with arms := [(0, { region := 2, aux := false })], regions := [(2, {})], pln := { wUp.pln with arms := [(0, { br := [(0, {})] })] } }, seen
     (live cARM 0
     { wUp with arms := [(0, { region := 2, aux := false })], regions := [(2, {})], pln := { wUp.pln with arms := [(0, { br := [(0, {})] })] } }),
     desc 0 [(16, 1, 4)], by decide +kernel⟩,
   ⟨onHost (fun h => { h with imm := [acc0 0x0801 (desc (mkHandle cPROFILE 0 1) [])] }) (live cPROFILE 0 { wUp with profiles := [(0, {})] }), seen
     (onHost (fun h => { h with imm := [acc0 0x0801 (desc (mkHandle cPROFILE 0 1) [])] }) (live cPROFILE 0 { wUp with profiles := [(0, {})] })), desc
     (mkHandle cPROFILE 0 1) [], .prfStop (desc (mkHandle cPROFILE 0 1) []), 0x0803, by decide +kernel⟩⟩

theorem witness_DeviceHeadRegisters :
    (∃ (s a : State) (d : Desc), Finds s a ∧ Admitted a 769 d ∧ pf d 16 1 ≤ 15 ∧ 1 ≤ pf d 17 1 ∧ pf d 17 1 ≤ 8 ∧ onlyBytes d [(16, 3), (20, 2), (24,
      8)] = true ∧ pf d 20 2 ≤ 255 ∧ pf d 18 1 = 2) ∧
    (∃ (s a : State) (d : Desc), Finds s a ∧ Admitted a 769 d ∧ pf d 16 1 ≤ 15 ∧ 1 ≤ pf d 17 1 ∧ pf d 17 1 ≤ 8 ∧ onlyBytes d [(16, 3), (20, 2), (24,
      8)] = true ∧ pf d 20 2 ≤ 255 ∧ pf d 18 1 = 1 ∧ pf d 24 8 = 0 ∧ portSends (portAt (taken a d) (pf d 16 1)) = true) :=
  ⟨⟨wUp, seen (wUp), desc 0 [(16, 1, 15), (17, 1, 8), (18, 1, 2), (20, 2, 0xFF)], by decide +kernel⟩,
   ⟨{ wUp with ryl := [(15, { st := 5 })] }, seen ({ wUp with ryl := [(15, { st := 5 })] }), desc 0 [(16, 1, 15), (17, 1, 8), (18, 1, 1), (20, 2,
     0xFF)], by decide +kernel⟩⟩

theorem witness_ProfileStop :
    ∃ (s a : State) (d : Desc), Finds s a ∧ Admitted a 2051 d ∧ d.payload = 0 ∧ sharesHandle (taken a d) (accOf a 2051 d) = false ∧ targetHeld (taken
      a d) (accOf a 2051 d) = none :=
  ⟨live cPROFILE 0 { wUp with profiles := [(0, { v := 5, mot := .idle, queue := [] })] }, seen (live cPROFILE 0
    { wUp with profiles := [(0, { v := 5, mot := .idle, queue := [] })] }), desc (mkHandle cPROFILE 0 1) [], by decide +kernel⟩

theorem witness_CreatesTakeEffect :
    (∃ (u : State) (x : Machine.Acc), u.md.mode = Mode.dormant ∧ handlesRefuse u x (liveHandle u) = none ∧ targetHeld u x = none ∧ (createClass
      x.op).isSome = true) ∧
    (∃ (u : State) (x : Machine.Acc) (st h : Nat), handlesRefuse u x (liveHandle u) = none ∧ gatedParts u x = [] ∧ (createClass x.op).isSome = true ∧
      immCheck u x = some (st, h)) ∧
    (∃ (u : State) (x : Machine.Acc), x.op = 3075 ∧ tgt x.d = 0 ∧ x.d.payload = 0 ∧ u.md.mode ≠ Mode.dormant ∧ classFree cFLOW (freeList u cFLOW) =
      none) ∧
    (∃ (u : State) (x : Machine.Acc) (c i : Nat) (f : FreeList), Fit u x ∧ createClass x.op = some c ∧ classFree c (freeList u c) = some (i, f) ∧ x.op
      = 3) ∧
    (∃ (u : State) (x : Machine.Acc) (c i : Nat) (f : FreeList), Fit u x ∧ createClass x.op = some c ∧ classFree c (freeList u c) = some (i, f) ∧ x.op
      = 4) ∧
    (∃ (u : State) (x : Machine.Acc) (c i : Nat) (f : FreeList), Fit u x ∧ createClass x.op = some c ∧ classFree c (freeList u c) = some (i, f) ∧ x.op
      = 512) ∧
    (∃ (u : State) (x : Machine.Acc) (c i : Nat) (f : FreeList), Fit u x ∧ createClass x.op = some c ∧ classFree c (freeList u c) = some (i, f) ∧ x.op
      = 1024 ∧ mget (indexTaken u c i f (fnOf x.req)).cchans i = none ∧ pf x.d 16 1 ≠ 3) ∧
    (∃ (u : State) (x : Machine.Acc) (c i : Nat) (f : FreeList), Fit u x ∧ createClass x.op = some c ∧ classFree c (freeList u c) = some (i, f) ∧ x.op
      = 1280) ∧
    (∃ (u : State) (x : Machine.Acc) (c i : Nat) (f : FreeList), Fit u x ∧ createClass x.op = some c ∧ classFree c (freeList u c) = some (i, f) ∧ x.op
      = 2048) ∧
    (∃ (u : State) (x : Machine.Acc) (c i : Nat) (f : FreeList), Fit u x ∧ createClass x.op = some c ∧ classFree c (freeList u c) = some (i, f) ∧ x.op
      = 2053) ∧
    (∃ (u : State) (x : Machine.Acc) (c i : Nat) (f : FreeList), Fit u x ∧ createClass x.op = some c ∧ classFree c (freeList u c) = some (i, f) ∧ x.op
      = 2563 ∧ capacityRefuse
      { (indexTaken u c i f (fnOf x.req)) with grd := { (indexTaken u c i f (fnOf x.req)).grd with tracks := mput (indexTaken u c i f (fnOf x.req)).grd.tracks i { stream := pf x.d 16 1, slot := pf x.d 17 1, seen := false, st := 0, data := none, age := 0, margin := 2147483647 } } }
      = none) ∧
    (∃ (u : State) (x : Machine.Acc) (c i : Nat) (f : FreeList), Fit u x ∧ createClass x.op = some c ∧ classFree c (freeList u c) = some (i, f) ∧ x.op
      = 2564 ∧ capacityRefuse
      { (indexTaken u c i f (fnOf x.req)) with grd := { (indexTaken u c i f (fnOf x.req)).grd with zones := mput (indexTaken u c i f (fnOf x.req)).grd.zones i (zoneOf x.d) } }
      = none) ∧
    (∃ (u : State) (x : Machine.Acc) (c i : Nat) (f : FreeList), Fit u x ∧ createClass x.op = some c ∧ classFree c (freeList u c) = some (i, f) ∧ x.op
      = 3072) ∧
    (∃ (u : State) (x : Machine.Acc) (c i : Nat) (f : FreeList), Fit u x ∧ createClass x.op = some c ∧ classFree c (freeList u c) = some (i, f) ∧ x.op
      = 3075) ∧
    (∃ (u : State) (x : Machine.Acc) (c i : Nat) (f : FreeList), Fit u x ∧ createClass x.op = some c ∧ classFree c (freeList u c) = some (i, f) ∧ x.op
      = 3076) ∧
    (∃ (u : State) (x : Machine.Acc) (c i : Nat) (f : FreeList), Fit u x ∧ createClass x.op = some c ∧ classFree c (freeList u c) = some (i, f) ∧ x.op
      = 3584) ∧
    (∃ (u : State) (x : Machine.Acc) (c i : Nat) (f : FreeList), Fit u x ∧ createClass x.op = some c ∧ classFree c (freeList u c) = some (i, f) ∧ x.op
      = 3840) :=
  ⟨⟨inMode .dormant w0, acc0 0x0003 (desc 0 []), by decide +kernel⟩,
   ⟨w0, acc0 0x0003 (desc 0 []), 6, 0, by decide +kernel⟩,
   ⟨{ w0 with frees := [(cFLOW, { fresh := 4096 })] }, acc0 0x0C03 (desc 0 []), by decide +kernel⟩,
   ⟨w0, acc0 0x0003 (desc 0 [(16, 1, 1), (17, 1, 2)]), cARM, 0, { fresh := 1 }, by decide +kernel⟩,
   ⟨wChan, acc0 0x0004 (desc 0 [(16, 4, mkHandle cARM 0 1), (20, 1, 2), (21, 1, 0), (22, 1, 1), (32, 32, scl 3)]), cJOINT, 0, { fresh := 1 },
     by decide +kernel⟩,
   ⟨w0, acc0 0x0200 (desc 0 [(16, 1, 2), (32, 1, 0xFF), (50, 1, 1)]), cLINESRC, 0, { fresh := 1 }, by decide +kernel⟩,
   ⟨w0, acc0 0x0400 (desc 0 [(16, 1, 1), (19, 1, 1), (22, 2, 64), (32, 32, scl 1)]), cCCHAN, 0, { fresh := 1 }, by decide +kernel⟩,
   ⟨w0, acc0 0x0500 (desc 0 [(16, 1, 2), (17, 1, 1)]), cFBCH, 0, { fresh := 1 }, by decide +kernel⟩,
   ⟨w0, acc0 0x0800 (desc 0 [(20, 1, 1), (24, 4, 1), (28, 4, 1), (32, 4, 1), (36, 4, 1), (40, 4, 1)]), cPROFILE, 0, { fresh := 1 }, by decide +kernel⟩,
   ⟨live cPROFILE 0 { w0 with profiles := [(0, {})] }, acc0 0x0805 (desc 0 [(16, 4, mkHandle cPROFILE 0 1), (20, 1, 1)]), cGEAR, 0, { fresh := 1 },
     by decide +kernel⟩,
   ⟨w0, acc0 0x0A03 (desc 0 [(16, 1, 7), (17, 1, 15)]), cTRACK, 0, { fresh := 1 }, by decide +kernel⟩,
   ⟨w0, acc0 0x0A04 (desc 0 [(16, 1, 1), (44, 4, 5)]), cZONE, 0, { fresh := 1 }, by decide +kernel⟩,
   ⟨w0, acc0 0x0C00 (desc 0 [(16, 1, 6), (18, 1, 255), (29, 1, 1)]), cNODE, 0, { fresh := 1 }, by decide +kernel⟩,
   ⟨w0, acc0 0x0C03 (desc 0 []), cFLOW, 0, { fresh := 1 }, by decide +kernel⟩,
   ⟨live cNODE 0 { w0 with gsc := { w0.gsc with nodes := [(0, { inMask := 1 })] } }, acc0 0x0C04 (desc 0 [(16, 1, 1), (20, 4, mkHandle cNODE 0 1)]),
     cDELAY, 0, { fresh := 1 }, by decide +kernel⟩,
   ⟨w0, acc0 0x0E00 (desc 0 [(16, 1, 10), (19, 1, 12), (26, 1, 1)]), cTRACE, 0, { fresh := 1 }, by decide +kernel⟩,
   ⟨w0, acc0 0x0F00 (desc 0 [(16, 1, 1), (17, 1, 19), (18, 1, 32)]), cMBOX, 0, { fresh := 1 }, by decide +kernel⟩⟩

theorem witness_SettingsTakeEffect :
    (∃ (u : State) (x : Machine.Acc), Fit u x ∧ x.op = 5) ∧
    (∃ (u : State) (x : Machine.Acc), Fit u x ∧ x.op = 513) ∧
    (∃ (u : State) (x : Machine.Acc), Fit u x ∧ x.op = 1025) ∧
    (∃ (u : State) (x : Machine.Acc), Fit u x ∧ x.op = 1281) ∧
    (∃ (u : State) (x : Machine.Acc), Fit u x ∧ x.op = 1282) ∧
    (∃ (u : State) (x : Machine.Acc) (j : Joint), Fit u x ∧ x.op = 1536 ∧ mget u.joints (tIdx x.d) = some j) ∧
    (∃ (u : State) (x : Machine.Acc), Fit u x ∧ x.op = 1793 ∧ drvBudgetOk (modDrv u (pf x.d 16 1) fun c =>
      { c with staged := false, swapDue := true }) (pf x.d 16 1) = true) ∧
    (∃ (u : State) (x : Machine.Acc), Fit u x ∧ x.op = 1794 ∧ (pf x.d 20 4 = 0 ∨ drvBudgetOk (modSlot u (pf x.d 16 1) (pf x.d 17 1) fun y =>
      { y with joint := if pf x.d 20 4 = 0 then none else some (hIdx (pf x.d 20 4)), initNext := (if pf x.d 20 4 = 0 then none else some (hIdx (pf x.d 20 4))).isSome, late := false, missed := 0, trapped := false, flags := 0 })
      (pf x.d 16 1) = true)) ∧
    (∃ (u : State) (x : Machine.Acc), Fit u x ∧ x.op = 1795) ∧
    (∃ (u : State) (x : Machine.Acc), Fit u x ∧ x.op = 2049) ∧
    (∃ (u : State) (x : Machine.Acc), Fit u x ∧ x.op = 2050) ∧
    (∃ (u : State) (x : Machine.Acc), Fit u x ∧ x.op = 2052) ∧
    (∃ (u : State) (x : Machine.Acc), Fit u x ∧ x.op = 2054) ∧
    (∃ (u : State) (x : Machine.Acc), Fit u x ∧ x.op = 2304) ∧
    (∃ (u : State) (x : Machine.Acc), Fit u x ∧ x.op = 2306 ∧ pf x.d 16 2 = 65535) ∧
    (∃ (u : State) (x : Machine.Acc), Fit u x ∧ x.op = 2306 ∧ pf x.d 16 2 ≠ 65535 ∧ (probAt u (tIdx x.d)).bound ≠ some (pf x.d 16 2) ∧ immCheck
      (copyRead u x) x = none ∧ (probAt (copyRead u x) (tIdx x.d)).bound ≠ some (pf x.d 16 2) ∧ gangBudgetOk (bindTo (copyRead u x) (tIdx x.d) (pf x.d
      16 2)) (pf x.d 16 2) = true) ∧
    (∃ (u : State) (x : Machine.Acc), Fit u x ∧ x.op = 2306 ∧ pf x.d 16 2 ≠ 65535 ∧ (probAt u (tIdx x.d)).bound ≠ some (pf x.d 16 2) ∧ immCheck
      (copyRead u x) x = none ∧ (probAt (copyRead u x) (tIdx x.d)).bound ≠ some (pf x.d 16 2) ∧ gangBudgetOk (bindTo (copyRead u x) (tIdx x.d) (pf x.d
      16 2)) (pf x.d 16 2) = false) ∧
    (∃ (u : State) (x : Machine.Acc), Fit u x ∧ x.op = 2307) ∧
    (∃ (u : State) (x : Machine.Acc), Fit u x ∧ x.op = 2308) ∧
    (∃ (u : State) (x : Machine.Acc), Fit u x ∧ x.op = 2560) ∧
    (∃ (u : State) (x : Machine.Acc), Fit u x ∧ x.op = 2561 ∧ (bit (pf x.d 18 1) 0 = false ∨ capacityRefuse (modGarm u (tIdx x.d) fun y =>
      { y with caps := if bit (pf x.d 18 1) 0 = true then mput y.caps (pf x.d 16 1) { link := pf x.d 17 1, a := v3f x.d 20, b := v3f x.d 32, r := pfs x.d 44 4 } else mdel y.caps (pf x.d 16 1) })
      = none)) ∧
    (∃ (u : State) (x : Machine.Acc), Fit u x ∧ x.op = 2562) ∧
    (∃ (u : State) (x : Machine.Acc), Fit u x ∧ x.op = 2565) ∧
    (∃ (u : State) (x : Machine.Acc), Fit u x ∧ x.op = 3073) ∧
    (∃ (u : State) (x : Machine.Acc), Fit u x ∧ x.op = 3074) ∧
    (∃ (u : State) (x : Machine.Acc), Fit u x ∧ x.op = 3077 ∧ pf x.d 16 1 = 1) ∧
    (∃ (u : State) (x : Machine.Acc), Fit u x ∧ x.op = 3077 ∧ pf x.d 16 1 ≠ 1) ∧
    (∃ (u : State) (x : Machine.Acc), Fit u x ∧ x.op = 3585) ∧
    (∃ (u : State) (x : Machine.Acc), Fit u x ∧ x.op = 3586 ∧ pf x.d 16 1 = 0) ∧
    (∃ (u : State) (x : Machine.Acc), Fit u x ∧ x.op = 3586 ∧ pf x.d 16 1 = 1) ∧
    (∃ (u : State) (x : Machine.Acc) (y : Trace), Fit u x ∧ x.op = 3586 ∧ pf x.d 16 1 = 1 ∧ mget u.mem.traces (tIdx x.d) = some y) :=
  ⟨⟨wArm .safeOff w0, acc0 0x0005 (desc (mkHandle cJOINT 0 1) [(32, 32, scl 3)]), by decide +kernel⟩,
   ⟨wPub, acc0 0x0201 (desc (mkHandle cLINESRC 0 1) [(16, 1, 1)]), by decide +kernel⟩,
   ⟨wChan, acc0 0x0401 (desc (mkHandle cCCHAN 0 1) [(16, 1, 1), (19, 1, 2), (22, 2, 64), (32, 32, scl 1)]), by decide +kernel⟩,
   ⟨live cFBCH 0 { w0 with fbchs := [(0, {})] }, acc0 0x0501 (desc (mkHandle cFBCH 0 1) [(16, 1, 2), (17, 1, 1)]), by decide +kernel⟩,
   ⟨live cFBCH 0 { w0 with fbchs := [(0, {})] }, acc0 0x0502 (desc (mkHandle cFBCH 0 1) [(16, 1, 5)]), by decide +kernel⟩,
   ⟨wWind, acc0 0x0600 (desc (mkHandle cJOINT 0 1) [(16, 1, 2), (17, 1, 2), (23, 1, 65), (24, 2, 1024), (26, 2, 16384), (28, 2, 5), (30, 2, 6), (36,
     4, 1)]), joint0, by decide +kernel⟩,
   ⟨{ w0 with drv := [(0, { staged := true })] }, acc0 0x0701 (desc 0 []), by decide +kernel⟩,
   ⟨wArm .safeOff { w0 with drv := [(0, { bankA := { loops := [(0, { init := 0, alert := 0, run := 1, w := 1, reinit := false })] } })] }, acc0 0x0702
     (desc 0 [(20, 4, mkHandle cJOINT 0 1)]), by decide +kernel⟩,
   ⟨w0, acc0 0x0703 (desc 0 [(18, 1, 15), (19, 1, 1), (20, 4, 9)]), by decide +kernel⟩,
   ⟨live cPROFILE 0 { w0 with profiles := [(0, {})] }, acc0 0x0801 (desc (mkHandle cPROFILE 0 1) [(20, 1, 1), (24, 4, 1), (28, 4, 1), (32, 4, 1), (36,
     4, 1), (40, 4, 1)]), by decide +kernel⟩,
   ⟨live cPROFILE 0 { w0 with profiles := [(0, {})] }, acc0 0x0802 (desc (mkHandle cPROFILE 0 1) [(16, 1, 2), (17, 1, 1), (24, 8, 7), (44, 8, 7)]),
     by decide +kernel⟩,
   ⟨wHome, acc0 0x0804 (desc (mkHandle cPROFILE 0 1) [(16, 1, 1), (32, 4, 1)]), by decide +kernel⟩,
   ⟨live cGEAR 0 { w0 with gears := [(0, {})] }, acc0 0x0806 (desc (mkHandle cGEAR 0 1) [(16, 8, 1)]), by decide +kernel⟩,
   ⟨w0, acc0 0x0900 (desc 0 [(18, 1, 4), (19, 1, 1)]), by decide +kernel⟩,
   ⟨wProb 0, acc0 0x0902 (desc (mkHandle cPROBLEM 0 1) [(16, 2, 0xFFFF)]), by decide +kernel⟩,
   ⟨wProb 0, acc0 0x0902 (desc (mkHandle cPROBLEM 0 1) [(16, 2, 0)]), by decide +kernel, by decide +kernel, by decide +kernel, by decide +kernel,
     (by rw [copyRead_clean _ _ rfl rfl]; decide +kernel), (by rw [copyRead_clean _ _ rfl rfl]; decide +kernel),
     (by rw [copyRead_clean _ _ rfl rfl]; decide +kernel)⟩,
   ⟨wProb 9999999, acc0 0x0902 (desc (mkHandle cPROBLEM 0 1) [(16, 2, 0)]), by decide +kernel, by decide +kernel, by decide +kernel,
     by decide +kernel, (by rw [copyRead_clean _ _ rfl rfl]; decide +kernel), (by rw [copyRead_clean _ _ rfl rfl]; decide +kernel),
     (by rw [copyRead_clean _ _ rfl rfl]; decide +kernel)⟩,
   ⟨wProb 0, acc0 0x0903 (desc (mkHandle cPROBLEM 0 1) [(16, 2, 3), (18, 1, 1), (20, 4, 5)]), by decide +kernel⟩,
   ⟨live cPROFILE 0 { wArm .safeOff w0 with profiles := [(0, { joint := some 0, cfg := { source := 2 } })] }, acc0 0x0904 (desc (mkHandle cARM 0 1)
     [(18, 1, 1)]), by decide +kernel⟩,
   ⟨wArm .safeOff w0, acc0 0x0A00 (desc (mkHandle cARM 0 1) [(16, 1, 255), (44, 4, 0x40000000)]), by decide +kernel⟩,
   ⟨wArm .safeOff w0, acc0 0x0A01 (desc (mkHandle cARM 0 1) [(18, 1, 1), (44, 4, 5)]), by decide +kernel⟩,
   ⟨wArm .safeOff w0, acc0 0x0A02 (desc (mkHandle cARM 0 1) [(22, 2, 1)]), by decide +kernel⟩,
   ⟨live cZONE 0 { w0 with grd := { w0.grd with zones := [(0, {})] } }, acc0 0x0A05 (desc (mkHandle cZONE 0 1) [(16, 1, 1), (44, 4, 5)]),
     by decide +kernel⟩,
   ⟨wNode {}, acc0 0x0C01 (desc (mkHandle cNODE 0 1) [(16, 1, 6), (18, 1, 255), (29, 1, 1)]), by decide +kernel⟩,
   ⟨wNode { inMask := 1 }, acc0 0x0C02 (desc (mkHandle cNODE 0 1) [(20, 4, mkHandle cNODE 0 1)]), by decide +kernel⟩,
   ⟨wDelay, acc0 0x0C05 (desc (mkHandle cDELAY 0 1) [(16, 1, 1)]), by decide +kernel⟩,
   ⟨wDelay, acc0 0x0C05 (desc (mkHandle cDELAY 0 1) [(24, 4, 77)]), by decide +kernel⟩,
   ⟨wTrace 1, acc0 0x0E01 (desc (mkHandle cTRACE 0 1) [(16, 1, 10), (19, 1, 12), (26, 1, 1)]), by decide +kernel⟩,
   ⟨wTrace 1, acc0 0x0E02 (desc (mkHandle cTRACE 0 1) []), by decide +kernel⟩,
   ⟨wTrace 4, acc0 0x0E02 (desc (mkHandle cTRACE 0 1) [(16, 1, 1)]), by decide +kernel⟩,
   ⟨wTrace 4, acc0 0x0E02 (desc (mkHandle cTRACE 0 1) [(16, 1, 1)]), trace0 4, by decide +kernel⟩⟩

theorem witness_RingsAndDestroys :
    (∃ (u : State) (x : Machine.Acc) (n : Nat) (f : FreeList), Fit u x ∧ x.op = 3328 ∧ ringFree u (decide (pf x.d 16 1 = 2)) = some (n, f)) ∧
    (∃ (u : State) (x : Machine.Acc), Fit u x ∧ x.op = 3329) ∧
    (∃ (u : State) (x : Machine.Acc), Fit u x ∧ x.op = 2 ∧ hCls (tgt x.d) = cRING ∧ tIdx x.d < 256) ∧
    (∃ (u : State) (x : Machine.Acc), Fit u x ∧ x.op = 2 ∧ hCls (tgt x.d) = cRING ∧ 256 ≤ tIdx x.d) ∧
    (∃ (u : State) (x : Machine.Acc), Fit u x ∧ x.op = 2 ∧ hCls (tgt x.d) ≠ cRING) ∧
    (∃ (u : State) (x y : Machine.Acc) (n : Nat), Fit u x ∧ y.op = 2 ∧ u.md.mode ≠ Mode.dormant ∧ handlesRefuse u y (liveHandle u) = none ∧ targetHeld
      u y = none ∧ y.d.payload = 0 ∧ hCls (tgt y.d) = cFLOW ∧ (mkeys u.gsc.nodes fun x z => decide (z.flow = some (tIdx y.d))).head? = some n) :=
  ⟨⟨wUp, acc0 0x0D00 (desc 0 [(16, 1, 2), (17, 1, 6)]), 256, { fresh := 1 }, by decide +kernel⟩,
   ⟨wEvent, acc0 0x0D01 (desc (mkHandle cRING 256 1) [(17, 1, 1), (20, 2, 511)]), by decide +kernel⟩,
   ⟨live cRING 20 (onHost (fun h => { h with rings := [(20, ring0)] }) wHost), acc0 0x0002 (desc (mkHandle cRING 20 1) []), by decide +kernel⟩,
   ⟨live cRING 256 wEvent, acc0 0x0002 (desc (mkHandle cRING 256 1) []), by decide +kernel⟩,
   ⟨wDelay, acc0 0x0002 (desc (mkHandle cDELAY 0 1) []), by decide +kernel⟩,
   ⟨live cFLOW 0 (wNode { flow := some 0 }), acc0 0x0C03 (desc 0 []), acc0 0x0002 (desc (mkHandle cFLOW 0 1) []), 0, by decide +kernel⟩⟩

theorem witness_MailboxDestroy :
    (∃ (u : State) (x : Machine.Acc), x.op = 2 ∧ hCls (tgt x.d) = cMBOX ∧ u.md.mode ≠ Mode.dormant ∧ handlesRefuse u x (liveHandle u) = none ∧
      targetHeld u x = none ∧ x.d.payload = 0 ∧ (∃ w ∈ u.mbx.waits, w.mbox = tIdx x.d)) ∧
    (∃ (u : State) (x : Machine.Acc), x.op = 2 ∧ hCls (tgt x.d) = cMBOX ∧ u.md.mode ≠ Mode.dormant ∧ handlesRefuse u x (liveHandle u) = none ∧
      targetHeld u x = none ∧ x.d.payload = 0 ∧ (∀ w ∈ u.mbx.waits, w.mbox ≠ tIdx x.d)) :=
  ⟨⟨live cMBOX 0 wCross, acc0 0x0002 (desc (mkHandle cMBOX 0 1) []), by decide +kernel⟩,
   ⟨wBox box0, acc0 0x0002 (desc (mkHandle cMBOX 0 1) []), by decide +kernel⟩⟩

theorem witness_TokensArrive :
    (∃ (u : State) (x : Machine.Acc) (n : Node), x.op = 3078 ∧ handlesRefuse u x (liveHandle u) = none ∧ targetHeld u x = none ∧ onlyBytes x.d [(16,
      1)] = true ∧ mget u.gsc.nodes (tIdx x.d) = some n ∧ pf x.d 16 1 ≤ 3 ∧ bit n.inMask (pf x.d 16 1) = true ∧ tokensAt n (pf x.d 16 1) + reservedAt
      n (pf x.d 16 1) < n.cap) ∧
    (∃ (u : State) (x : Machine.Acc) (n : Node), x.op = 3078 ∧ handlesRefuse u x (liveHandle u) = none ∧ targetHeld u x = none ∧ onlyBytes x.d [(16,
      1)] = true ∧ mget u.gsc.nodes (tIdx x.d) = some n ∧ pf x.d 16 1 ≤ 3 ∧ bit n.inMask (pf x.d 16 1) = true ∧ n.cap ≤ tokensAt n (pf x.d 16 1) +
      reservedAt n (pf x.d 16 1)) ∧
    (∃ (u : State) (x : Machine.Acc) (n : Node), x.op = 3078 ∧ handlesRefuse u x (liveHandle u) = none ∧ targetHeld u x = none ∧ onlyBytes x.d [(16,
      1)] = true ∧ mget u.gsc.nodes (tIdx x.d) = some n ∧ (3 < pf x.d 16 1 ∨ bit n.inMask (pf x.d 16 1) = false)) ∧
    (∃ (u : State) (x : Machine.Acc) (k : Nat) (y : Delay) (n : Node), x.op = 3078 ∧ handlesRefuse u x (liveHandle u) = none ∧ targetHeld u x = none ∧
      onlyBytes x.d [(16, 1)] = true ∧ mget u.gsc.delays k = some y ∧ mget u.gsc.nodes y.node = some n ∧ n.cap ≤ tokensAt n y.port + reservedAt n
      y.port ∧ y.periodic = false) ∧
    (∃ (u : State) (x : Machine.Acc) (k : Nat) (y : Delay) (n : Node), x.op = 3078 ∧ handlesRefuse u x (liveHandle u) = none ∧ targetHeld u x = none ∧
      onlyBytes x.d [(16, 1)] = true ∧ mget u.gsc.delays k = some y ∧ mget u.gsc.nodes y.node = some n ∧ n.cap ≤ tokensAt n y.port + reservedAt n
      y.port ∧ y.periodic = true) :=
  ⟨⟨wNode { inMask := 1 }, acc0 0x0C06 (desc (mkHandle cNODE 0 1) []), { inMask := 1 }, by decide +kernel⟩,
   ⟨wNode { inMask := 1, tokens := [(0, 1)] }, acc0 0x0C06 (desc (mkHandle cNODE 0 1) []), { inMask := 1, tokens := [(0, 1)] }, by decide +kernel⟩,
   ⟨wNode { inMask := 1 }, acc0 0x0C06 (desc (mkHandle cNODE 0 1) [(16, 1, 4)]), { inMask := 1 }, by decide +kernel⟩,
   ⟨onGsc (fun g => { g with nodes := [(0, { inMask := 1, tokens := [(0, 1)] })] }) wDelay, acc0 0x0C06 (desc (mkHandle cNODE 0 1) []), 0, delay0,
     { inMask := 1, tokens := [(0, 1)] }, by decide +kernel⟩,
   ⟨onGsc (fun g => { g with nodes := [(0, { inMask := 1, tokens := [(0, 1)] })], delays := [(0, { delay0 with periodic := true, period := 5 })] })
     wDelay, acc0 0x0C06 (desc (mkHandle cNODE 0 1) []), 0, { delay0 with periodic := true, period := 5 }, { inMask := 1, tokens := [(0, 1)] },
     by decide +kernel⟩⟩

theorem witness_RegionModeAndPressDescriptors :
    (∃ (u : State) (x : Machine.Acc), handlesRefuse u x (liveHandle u) = none ∧ x.op = 256 ∧ x.d.payload ≠ 0) ∧
    (∃ (u : State) (x : Machine.Acc), handlesRefuse u x (liveHandle u) = none ∧ x.op = 256 ∧ x.d.payload = 0 ∧ regionSt u (tIdx x.d) =
      RegionState.safeOff ∧ (u.md.mode = Mode.run ∨ u.md.mode = Mode.hold) ∧ pinAccepted u = false ∧ (regionAt u (tIdx x.d)).latched = [] ∧
      standingSafeOff u (tIdx x.d) = none ∧ standingHold u (tIdx x.d) = [] ∧ debugHolds u (tIdx x.d) = false) ∧
    (∃ (u : State) (x : Machine.Acc), handlesRefuse u x (liveHandle u) = none ∧ x.op = 256 ∧ x.d.payload = 0 ∧ (regionSt u (tIdx x.d) ≠
      RegionState.safeOff ∨ ¬(u.md.mode = Mode.run ∨ u.md.mode = Mode.hold) ∨ pinAccepted u = true ∨ (regionAt u (tIdx x.d)).latched ≠ [] ∨
      standingHold u (tIdx x.d) ≠ [])) ∧
    (∃ (u : State) (x : Machine.Acc), handlesRefuse u x (liveHandle u) = none ∧ x.op = 257 ∧ x.d.payload = 0 ∧ regionSt u (tIdx x.d) =
      RegionState.hold ∧ u.md.mode = Mode.run ∧ guardPassesStop u (tIdx x.d) = true ∧ (regionAt u (tIdx x.d)).warmHeld = false ∧ debugHolds u (tIdx
      x.d) = false ∧ factoryOnly u = false) ∧
    (∃ (u : State) (x : Machine.Acc), handlesRefuse u x (liveHandle u) = none ∧ x.op = 257 ∧ x.d.payload = 0 ∧ (regionSt u (tIdx x.d) ≠
      RegionState.hold ∨ u.md.mode ≠ Mode.run ∨ guardPassesStop u (tIdx x.d) = false ∨ (regionAt u (tIdx x.d)).warmHeld = true)) ∧
    (∃ (u : State) (x : Machine.Acc), handlesRefuse u x (liveHandle u) = none ∧ x.op = 258 ∧ x.d.payload = 0 ∧ regionSt u (tIdx x.d) =
      RegionState.active) ∧
    (∃ (u : State) (x : Machine.Acc), handlesRefuse u x (liveHandle u) = none ∧ x.op = 258 ∧ x.d.payload = 0 ∧ regionSt u (tIdx x.d) ≠
      RegionState.active) ∧
    (∃ (u : State) (x : Machine.Acc), handlesRefuse u x (liveHandle u) = none ∧ x.op = 259 ∧ onlyBytes x.d [(16, 2)] = true ∧ 250 < pf x.d 16 2) ∧
    (∃ (u : State) (x : Machine.Acc), handlesRefuse u x (liveHandle u) = none ∧ x.op = 259 ∧ onlyBytes x.d [(16, 2)] = true ∧ pf x.d 16 2 ≤ 250 ∧
      regionSt u (tIdx x.d) = RegionState.hold) ∧
    (∃ (u : State) (x : Machine.Acc), handlesRefuse u x (liveHandle u) = none ∧ x.op = 259 ∧ onlyBytes x.d [(16, 2)] = true ∧ pf x.d 16 2 ≤ 250 ∧
      regionSt u (tIdx x.d) = RegionState.service ∧ factoryOnly u = false) ∧
    (∃ (u : State) (x : Machine.Acc), handlesRefuse u x (liveHandle u) = none ∧ x.op = 259 ∧ onlyBytes x.d [(16, 2)] = true ∧ pf x.d 16 2 ≤ 250 ∧
      regionSt u (tIdx x.d) ≠ RegionState.hold ∧ regionSt u (tIdx x.d) ≠ RegionState.service) ∧
    (∃ (u : State) (x : Machine.Acc), handlesRefuse u x (liveHandle u) = none ∧ x.op = 260 ∧ x.d.payload = 0 ∧ regionSt u (tIdx x.d) =
      RegionState.service ∧ (u.md.mode = Mode.run ∨ u.md.mode = Mode.hold) ∧ debugHolds u (tIdx x.d) = false) ∧
    (∃ (u : State) (x : Machine.Acc), handlesRefuse u x (liveHandle u) = none ∧ x.op = 260 ∧ x.d.payload = 0 ∧ (regionSt u (tIdx x.d) ≠
      RegionState.service ∨ ¬(u.md.mode = Mode.run ∨ u.md.mode = Mode.hold) ∨ debugHolds u (tIdx x.d) = true)) ∧
    (∃ (u : State) (x : Machine.Acc) (c : RegionCause), c.acc = some x ∧ c.target ≠ RegionState.empty ∧ c.cap ≤ 250 ∧ (regionAt u (tIdx
      x.d)).mendingBy = none) ∧
    (∃ (u : State) (x : Machine.Acc) (q : State), x.op = 272 ∧ u.host.imm = [x] ∧ u.flt.fatalDue = none ∧ u.md.waking = [] ∧ modeForced u u.md.pinDue
      = 0 ∧ q = { u with host := { u.host with imm := [] }, md := { u.md with pinDue := false } } ∧ modeSetForm x.d = false) ∧
    (∃ (u : State) (x : Machine.Acc) (q : State) (k : Nat), x.op = 272 ∧ u.host.imm = [x] ∧ u.flt.fatalDue = none ∧ u.md.waking = [] ∧ modeForced u
      u.md.pinDue = 0 ∧ q = { u with host := { u.host with imm := [] }, md := { u.md with pinDue := false } } ∧ modeSetForm x.d = true ∧ modeReason q
      ((modeOf (pf x.d 16 1)).getD Mode.run) = k ∧ k ≠ 0) ∧
    (∃ (u : State) (x : Machine.Acc) (q : State), x.op = 272 ∧ u.host.imm = [x] ∧ u.flt.fatalDue = none ∧ u.md.waking = [] ∧ modeForced u u.md.pinDue
      = 0 ∧ q = { u with host := { u.host with imm := [] }, md := { u.md with pinDue := false } } ∧ modeSetForm x.d = true ∧ modeReason q ((modeOf (pf
      x.d 16 1)).getD Mode.run) = 0 ∧ u.md.mode = Mode.dormant ∧ u.md.wakeDue = false) ∧
    (∃ (u : State) (x : Machine.Acc) (q : State), x.op = 272 ∧ u.host.imm = [x] ∧ u.flt.fatalDue = none ∧ u.md.waking = [] ∧ modeForced u u.md.pinDue
      = 0 ∧ q = { u with host := { u.host with imm := [] }, md := { u.md with pinDue := false } } ∧ modeSetForm x.d = true ∧ modeReason q ((modeOf (pf
      x.d 16 1)).getD Mode.run) = 0 ∧ u.md.mode ≠ Mode.dormant) ∧
    (∃ (u : State) (x : Machine.Acc) (st h : Nat), handlesRefuse u x (liveHandle u) = none ∧ x.op = 2816 ∧ pressOpenCheck u x = some (st, h)) ∧
    (∃ (u : State) (x : Machine.Acc) (k : Nat), handlesRefuse u x (liveHandle u) = none ∧ x.op = 2816 ∧ pressOpenCheck u x = none ∧ 3 ≤ k ∧ k < 16 ∧
      (pressAt u k).phase = Phase.free ∧ (∀ j < k, 3 ≤ j → (pressAt u j).phase ≠ Phase.free) ∧ opensHeld x = false) ∧
    (∃ (u : State) (x : Machine.Acc) (k : Nat), handlesRefuse u x (liveHandle u) = none ∧ x.op = 2816 ∧ pressOpenCheck u x = none ∧ 3 ≤ k ∧ k < 16 ∧
      (pressAt u k).phase = Phase.free ∧ (∀ j < k, 3 ≤ j → (pressAt u j).phase ≠ Phase.free) ∧ opensHeld x = true) ∧
    (∃ (u : State) (x : Machine.Acc), handlesRefuse u x (liveHandle u) = none ∧ x.op = 2817 ∧ (tIdx x.d < 3 ∨ (pressAt u (tIdx x.d)).owner ≠ x.req)) ∧
    (∃ (u : State) (x : Machine.Acc), handlesRefuse u x (liveHandle u) = none ∧ x.op = 2817 ∧ 3 ≤ tIdx x.d ∧ (pressAt u (tIdx x.d)).owner = x.req ∧
      (¬(pf x.d 16 1 ≤ 2 ∧ pf x.d 17 1 ≤ 2 ∧ onlyBytes x.d [(16, 2), (24, 8)] = true ∧ (pf x.d 16 1 = 0 → pf x.d 24 8 = 0) ∧ (pf x.d 16 1 = 1 → pf x.d
      28 4 = 0)))) ∧
    (∃ (u : State) (x : Machine.Acc), handlesRefuse u x (liveHandle u) = none ∧ x.op = 2817 ∧ 3 ≤ tIdx x.d ∧ (pressAt u (tIdx x.d)).owner = x.req ∧
      (pf x.d 16 1 ≤ 2 ∧ pf x.d 17 1 ≤ 2 ∧ onlyBytes x.d [(16, 2), (24, 8)] = true ∧ (pf x.d 16 1 = 0 → pf x.d 24 8 = 0) ∧ (pf x.d 16 1 = 1 → pf x.d
      28 4 = 0)) ∧ (pressAt u (tIdx x.d)).phase ≠ Phase.open_) ∧
    (∃ (u : State) (x : Machine.Acc), handlesRefuse u x (liveHandle u) = none ∧ x.op = 2817 ∧ 3 ≤ tIdx x.d ∧ (pressAt u (tIdx x.d)).owner = x.req ∧
      (pf x.d 16 1 ≤ 2 ∧ pf x.d 17 1 ≤ 2 ∧ onlyBytes x.d [(16, 2), (24, 8)] = true ∧ (pf x.d 16 1 = 0 → pf x.d 24 8 = 0) ∧ (pf x.d 16 1 = 1 → pf x.d
      28 4 = 0)) ∧ (pressAt u (tIdx x.d)).phase = Phase.open_ ∧ (pressAt u (tIdx x.d)).poisoned = true) ∧
    (∃ (u : State) (x : Machine.Acc), handlesRefuse u x (liveHandle u) = none ∧ x.op = 2817 ∧ 3 ≤ tIdx x.d ∧ (pressAt u (tIdx x.d)).owner = x.req ∧
      (pf x.d 16 1 ≤ 2 ∧ pf x.d 17 1 ≤ 2 ∧ onlyBytes x.d [(16, 2), (24, 8)] = true ∧ (pf x.d 16 1 = 0 → pf x.d 24 8 = 0) ∧ (pf x.d 16 1 = 1 → pf x.d
      28 4 = 0)) ∧ (pressAt u (tIdx x.d)).phase = Phase.open_ ∧ (pressAt u (tIdx x.d)).poisoned = false) :=
  ⟨⟨wReg .safeOff, acc0 0x0100 (desc (mkHandle cREGION 2 1) [(16, 1, 1)]), by decide +kernel⟩,
   ⟨wReg .safeOff, acc0 0x0100 (desc (mkHandle cREGION 2 1) []), by decide +kernel⟩,
   ⟨wReg .hold, acc0 0x0100 (desc (mkHandle cREGION 2 1) []), by decide +kernel⟩,
   ⟨onSec (fun x => { x with lifecycle := 1 }) (wReg .hold), acc0 0x0101 (desc (mkHandle cREGION 2 1) []), by decide +kernel⟩,
   ⟨wReg .safeOff, acc0 0x0101 (desc (mkHandle cREGION 2 1) []), by decide +kernel⟩,
   ⟨wReg .active, acc0 0x0102 (desc (mkHandle cREGION 2 1) []), by decide +kernel⟩,
   ⟨wReg .hold, acc0 0x0102 (desc (mkHandle cREGION 2 1) []), by decide +kernel⟩,
   ⟨wReg .hold, acc0 0x0103 (desc (mkHandle cREGION 2 1) [(16, 2, 251)]), by decide +kernel⟩,
   ⟨wReg .hold, acc0 0x0103 (desc (mkHandle cREGION 2 1) [(16, 2, 250)]), by decide +kernel⟩,
   ⟨onSec (fun x => { x with lifecycle := 1 }) (wReg .service), acc0 0x0103 (desc (mkHandle cREGION 2 1) []), by decide +kernel⟩,
   ⟨wReg .active, acc0 0x0103 (desc (mkHandle cREGION 2 1) []), by decide +kernel⟩,
   ⟨wReg .service, acc0 0x0104 (desc (mkHandle cREGION 2 1) []), by decide +kernel⟩,
   ⟨wReg .active, acc0 0x0104 (desc (mkHandle cREGION 2 1) []), by decide +kernel⟩,
   ⟨wReg .active, acc0 0x0102 (desc (mkHandle cREGION 2 1) []), { target := .hold, acc := some (acc0 0x0102 (desc (mkHandle cREGION 2 1) [])) },
     by decide +kernel⟩,
   ⟨wMode .run (desc 0 [(16, 1, 6)]), acc0 0x0110 (desc 0 [(16, 1, 6)]), onHost (fun h => { h with imm := [] }) (wMode .run (desc 0 [])),
     by decide +kernel⟩,
   ⟨wMode .run (desc 0 []), acc0 0x0110 (desc 0 []), onHost (fun h => { h with imm := [] }) (wMode .run (desc 0 [])), 1, by decide +kernel⟩,
   ⟨wMode .dormant (desc 0 [(16, 1, 1)]), acc0 0x0110 (desc 0 [(16, 1, 1)]), onHost (fun h => { h with imm := [] }) (wMode .dormant (desc 0 [])),
     by decide +kernel⟩,
   ⟨wMode .run (desc 0 [(16, 1, 3)]), acc0 0x0110 (desc 0 [(16, 1, 3)]), onHost (fun h => { h with imm := [] }) (wMode .run (desc 0 [])),
     by decide +kernel⟩,
   ⟨w0, acc0 0x0B00 (desc 0 []), 6, 0, by decide +kernel⟩,
   ⟨wPress { phase := .open_ }, acc0 0x0B00 (desc 0 [(16, 1, 1), (17, 1, 5), (18, 1, 9)]), 4, by decide +kernel⟩,
   ⟨{ wPress { phase := .open_ } with regions := [(2, { st := .active }), (3, { st := .safeOff })] }, acc0 0x0B00 (desc 0 [(16, 1, 2), (17, 1, 2),
     (20, 2, 12)]), 4, by decide +kernel⟩,
   ⟨wPress { phase := .open_, owner := 33 }, acc0 0x0B01 (desc hPress []), by decide +kernel⟩,
   ⟨wPress { phase := .open_, owner := 32 }, acc0 0x0B01 (desc hPress [(16, 1, 3)]), by decide +kernel⟩,
   ⟨wPress { phase := .armed, owner := 32 }, acc0 0x0B01 (desc hPress []), by decide +kernel⟩,
   ⟨wPress { phase := .open_, owner := 32, poisoned := true }, acc0 0x0B01 (desc hPress [(16, 1, 1), (24, 4, 5)]), by decide +kernel⟩,
   ⟨wPress { phase := .open_, owner := 32 }, acc0 0x0B01 (desc hPress [(16, 1, 2), (24, 4, 5), (28, 4, 5)]), by decide +kernel⟩⟩

theorem witness_PressAbort :
    (∃ (s a : State) (d : Desc), Finds s a ∧ Admitted a 2818 d) ∧
    (∃ (u : State) (x : Machine.Acc), x.op = 2818 ∧ hCls (tgt x.d) = cPRESS ∧ liveHandle u (tgt x.d) = true ∧ 3 ≤ tIdx x.d ∧ (pressAt u (tIdx
      x.d)).owner = x.req ∧ x.d.payload = 0) ∧
    (∃ (u : State) (x : Machine.Acc), x.op = 2818 ∧ hCls (tgt x.d) = cPRESS ∧ liveHandle u (tgt x.d) = false) :=
  ⟨⟨{ wUp with presses := [(3, { phase := .armed, owner := 32 })] }, seen ({ wUp with presses := [(3, { phase := .armed, owner := 32 })] }), desc
     hPress [], by decide +kernel⟩,
   ⟨wPress { phase := .armed, owner := 32 }, acc0 0x0B02 (desc hPress []), by decide +kernel⟩,
   ⟨w0, acc0 0x0B02 (desc hPress []), by decide +kernel⟩⟩

theorem witness_FaultClears :
    (∃ (u : State) (x : Machine.Acc), handlesRefuse u x (liveHandle u) = none ∧ x.op = 4352 ∧ x.d.payload ≠ 0) ∧
    (∃ (u : State) (x : Machine.Acc), handlesRefuse u x (liveHandle u) = none ∧ x.op = 4352 ∧ x.d.payload = 0 ∧ (regionAt u (tIdx x.d)).warmHeld =
      false) ∧
    (∃ (u : State) (x : Machine.Acc), handlesRefuse u x (liveHandle u) = none ∧ x.op = 4352 ∧ x.d.payload = 0 ∧ (regionAt u (tIdx x.d)).warmHeld =
      true) ∧
    (∃ (u : State) (x : Machine.Acc), handlesRefuse u x (liveHandle u) = none ∧ x.op = 4353 ∧ onlyBytes x.d [(16, 1), (18, 6)] = true ∧ pf x.d 16 1 =
      1 ∧ pf x.d 20 4 = 0 ∧ (∀ r ∈ maskList (pf x.d 18 2) 16, standingSafeOff u r = none)) ∧
    (∃ (u : State) (x : Machine.Acc) (r c : Nat), handlesRefuse u x (liveHandle u) = none ∧ x.op = 4353 ∧ onlyBytes x.d [(16, 1), (18, 6)] = true ∧ pf
      x.d 16 1 = 1 ∧ pf x.d 20 4 = 0 ∧ maskList (pf x.d 18 2) 16 = [r] ∧ standingSafeOff u r = some c) ∧
    (∃ (u : State) (x : Machine.Acc), handlesRefuse u x (liveHandle u) = none ∧ x.op = 4353 ∧ onlyBytes x.d [(16, 1), (18, 6)] = true ∧ pf x.d 16 1 =
      2 ∧ pf x.d 18 2 = 0 ∧ x.req ≠ 32) ∧
    (∃ (u : State) (x : Machine.Acc), handlesRefuse u x (liveHandle u) = none ∧ x.op = 4353 ∧ onlyBytes x.d [(16, 1), (18, 6)] = true ∧ pf x.d 16 1 =
      2 ∧ pf x.d 18 2 = 0 ∧ x.req = 32 ∧ List.find? (fun q => decide (q.origin = pf x.d 20 4)) u.flt.quarantines = none) ∧
    (∃ (u : State) (x : Machine.Acc) (q : Quarantine), handlesRefuse u x (liveHandle u) = none ∧ x.op = 4353 ∧ onlyBytes x.d [(16, 1), (18, 6)] = true
      ∧ pf x.d 16 1 = 2 ∧ pf x.d 18 2 = 0 ∧ x.req = 32 ∧ List.find? (fun q => decide (q.origin = pf x.d 20 4)) u.flt.quarantines = some q ∧ q.kind = 1
      ∧ (supAt u (pf x.d 20 4 % 65536)).test = 1) ∧
    (∃ (u : State) (x : Machine.Acc) (q : Quarantine), handlesRefuse u x (liveHandle u) = none ∧ x.op = 4353 ∧ onlyBytes x.d [(16, 1), (18, 6)] = true
      ∧ pf x.d 16 1 = 2 ∧ pf x.d 18 2 = 0 ∧ x.req = 32 ∧ List.find? (fun q => decide (q.origin = pf x.d 20 4)) u.flt.quarantines = some q ∧ q.kind = 1
      ∧ (supAt u (pf x.d 20 4 % 65536)).test = 3) ∧
    (∃ (u : State) (x : Machine.Acc) (q : Quarantine), handlesRefuse u x (liveHandle u) = none ∧ x.op = 4353 ∧ onlyBytes x.d [(16, 1), (18, 6)] = true
      ∧ pf x.d 16 1 = 2 ∧ pf x.d 18 2 = 0 ∧ x.req = 32 ∧ List.find? (fun q => decide (q.origin = pf x.d 20 4)) u.flt.quarantines = some q ∧ 3 ≤
      q.kind) ∧
    (∃ (u : State) (x : Machine.Acc) (q : Quarantine), handlesRefuse u x (liveHandle u) = none ∧ x.op = 4353 ∧ onlyBytes x.d [(16, 1), (18, 6)] = true
      ∧ pf x.d 16 1 = 2 ∧ pf x.d 18 2 = 0 ∧ x.req = 32 ∧ List.find? (fun q => decide (q.origin = pf x.d 20 4)) u.flt.quarantines = some q ∧ q.kind = 1
      ∧ (supAt u (pf x.d 20 4 % 65536)).test ≠ 1 ∧ (supAt u (pf x.d 20 4 % 65536)).test ≠ 3) ∧
    (∃ (u : State) (x : Machine.Acc) (q : Quarantine), handlesRefuse u x (liveHandle u) = none ∧ x.op = 4353 ∧ onlyBytes x.d [(16, 1), (18, 6)] = true
      ∧ pf x.d 16 1 = 2 ∧ pf x.d 18 2 = 0 ∧ x.req = 32 ∧ List.find? (fun q => decide (q.origin = pf x.d 20 4)) u.flt.quarantines = some q ∧ q.kind =
      2) ∧
    (∃ (u : State) (x : Machine.Acc), handlesRefuse u x (liveHandle u) = none ∧ x.op = 4353 ∧ onlyBytes x.d [(16, 1), (18, 6)] = true ∧ pf x.d 16 1 =
      3 ∧ pf x.d 20 4 = 0 ∧ (u.md.mode = Mode.dormant ∨ u.md.mode = Mode.prepare)) ∧
    (∃ (u : State) (x : Machine.Acc), handlesRefuse u x (liveHandle u) = none ∧ x.op = 4353 ∧ onlyBytes x.d [(16, 1), (18, 6)] = true ∧ pf x.d 16 1 =
      3 ∧ pf x.d 20 4 = 0 ∧ u.md.mode ≠ Mode.dormant ∧ u.md.mode ≠ Mode.prepare) :=
  ⟨⟨wReg .hold, acc0 0x1100 (desc (mkHandle cREGION 2 1) [(16, 1, 1)]), by decide +kernel⟩,
   ⟨wReg .hold, acc0 0x1100 (desc (mkHandle cREGION 2 1) []), by decide +kernel⟩,
   ⟨{ w0 with regions := [(2, { st := .hold, warmHeld := true })] }, acc0 0x1100 (desc (mkHandle cREGION 2 1) []), by decide +kernel⟩,
   ⟨{ w0 with regions := [(2, { st := .hold, latched := [0x16C] })] }, acc0 0x1101 (desc 0 [(16, 1, 1), (18, 2, 4)]), by decide +kernel⟩,
   ⟨onFlt (fun f => { f with standing := [(0x16C, 2)] }) { w0 with regions := [(2, { st := .hold, latched := [0x16C, 3] })] }, acc0 0x1101 (desc 0
     [(16, 1, 1), (18, 2, 4)]), 2, 0x16C, by decide +kernel⟩,
   ⟨w0, { acc0 0x1101 (desc 0 [(16, 1, 2)]) with req := 33 }, by decide +kernel⟩,
   ⟨w0, acc0 0x1101 (desc 0 [(16, 1, 2)]), by decide +kernel⟩,
   ⟨wQuar 1 1, acc0 0x1101 (desc 0 [(16, 1, 2), (20, 4, 0x20003)]), quar0 1, by decide +kernel⟩,
   ⟨wQuar 1 3, acc0 0x1101 (desc 0 [(16, 1, 2), (20, 4, 0x20003)]), quar0 1, by decide +kernel⟩,
   ⟨wQuar 3 0, acc0 0x1101 (desc 0 [(16, 1, 2), (20, 4, 0x20003)]), quar0 3, by decide +kernel⟩,
   ⟨wQuar 1 2, acc0 0x1101 (desc 0 [(16, 1, 2), (20, 4, 0x20003)]), quar0 1, by decide +kernel⟩,
   ⟨wQuar 2 0, acc0 0x1101 (desc 0 [(16, 1, 2), (20, 4, 0x20003)]), quar0 2, by decide +kernel⟩,
   ⟨inMode .prepare w0, acc0 0x1101 (desc 0 [(16, 1, 3)]), by decide +kernel⟩,
   ⟨wReg .active, acc0 0x1101 (desc 0 [(16, 1, 3), (18, 2, 5)]), by decide +kernel⟩⟩

theorem witness_ImagesAndSessions :
    (∃ (s a : State) (d : Desc) (c : Instr) (k : Nat), Finds s a ∧ (c, k) ∈ [(Instr.secImageStageFw d, 1), (Instr.secImageRaiseFloor d, 2),
      (Instr.secImageProvision d, 3), (Instr.secImageField d, 4), (Instr.secImageReturn d, 5), (Instr.secImageReadCert d, 6), (Instr.secImageOwnerKey
      d, 7)] ∧ (Admitted a 4608 (withByte16 k d) ∧ secImageFormOk (withByte16 k d) = true) ∧ (¬(a.md.mode = Mode.prepare ∨ a.md.mode = Mode.dormant))) ∧
    (∃ (s a : State) (d : Desc) (c : Instr) (k : Nat), Finds s a ∧ (c, k) ∈ [(Instr.secImageStageFw d, 1), (Instr.secImageRaiseFloor d, 2),
      (Instr.secImageProvision d, 3), (Instr.secImageField d, 4), (Instr.secImageReturn d, 5), (Instr.secImageReadCert d, 6), (Instr.secImageOwnerKey
      d, 7)] ∧ Admitted a 4608 (withByte16 k d) ∧ secImageFormOk (withByte16 k d) = false) ∧
    (∃ (s a : State) (d : Desc), Finds s a ∧ (Admitted a 4608 (withByte16 1 d) ∧ secImageFormOk (withByte16 1 d) = true) ∧ (a.md.mode = Mode.prepare ∨
      a.md.mode = Mode.dormant) ∧ envelopeCheck (taken a (withByte16 1 d)) 1 (takeBytes d.data 0 (pf d 32 4)) ≠ 0) ∧
    (∃ (s a : State) (d : Desc), Finds s a ∧ (Admitted a 4608 (withByte16 2 d) ∧ secImageFormOk (withByte16 2 d) = true) ∧ (a.md.mode = Mode.prepare ∨
      a.md.mode = Mode.dormant) ∧ pf d 20 4 < if pf d 17 1 = 1 then a.sec.fwFloor else a.sec.usrFloor) ∧
    (∃ (s a : State) (d : Desc), Finds s a ∧ (Admitted a 4608 (withByte16 2 d) ∧ secImageFormOk (withByte16 2 d) = true) ∧ (a.md.mode = Mode.prepare ∨
      a.md.mode = Mode.dormant) ∧ (if pf d 17 1 = 1 then a.sec.fwFloor else a.sec.usrFloor) ≤ pf d 20 4) ∧
    (∃ (s a : State) (d : Desc), Finds s a ∧ (Admitted a 4608 (withByte16 3 d) ∧ secImageFormOk (withByte16 3 d) = true) ∧ (a.md.mode = Mode.prepare ∨
      a.md.mode = Mode.dormant) ∧ (a.sec.fused ≠ 0 ∨ a.sec.lifecycle ≠ 0)) ∧
    (∃ (s a : State) (d : Desc), Finds s a ∧ (Admitted a 4608 (withByte16 3 d) ∧ secImageFormOk (withByte16 3 d) = true) ∧ (a.md.mode = Mode.prepare ∨
      a.md.mode = Mode.dormant) ∧ a.sec.fused = 0 ∧ a.sec.lifecycle = 0 ∧ (takeBytes d.data 0 (pf d 32 4)).length = 97) ∧
    (∃ (s a : State) (d : Desc), Finds s a ∧ (Admitted a 4608 (withByte16 4 d) ∧ secImageFormOk (withByte16 4 d) = true) ∧ (a.md.mode = Mode.prepare ∨
      a.md.mode = Mode.dormant) ∧ (a.sec.fused ≠ 1 ∨ a.sec.lifecycle ≠ 1)) ∧
    (∃ (s a : State) (d : Desc), Finds s a ∧ (Admitted a 4608 (withByte16 4 d) ∧ secImageFormOk (withByte16 4 d) = true) ∧ (a.md.mode = Mode.prepare ∨
      a.md.mode = Mode.dormant) ∧ a.sec.fused = 1 ∧ a.sec.lifecycle = 1) ∧
    (∃ (s a : State) (d : Desc), Finds s a ∧ (Admitted a 4608 (withByte16 5 d) ∧ secImageFormOk (withByte16 5 d) = true) ∧ (a.md.mode = Mode.prepare ∨
      a.md.mode = Mode.dormant) ∧ (a.sec.fused = 1 ∨ a.sec.fused = 2) ∧ a.sec.lifecycle = a.sec.fused ∧ tokenFail (taken a (withByte16 5 d)) 1
      (takeBytes d.data 0 (pf d 32 4)) ≠ 0) ∧
    (∃ (s a : State) (d : Desc), Finds s a ∧ (Admitted a 4608 (withByte16 7 d) ∧ secImageFormOk (withByte16 7 d) = true) ∧ (a.md.mode = Mode.prepare ∨
      a.md.mode = Mode.dormant) ∧ (takeBytes d.data 0 (pf d 32 4)).length = 97 ∧ a.sec.ownerDigest ≠ some (keyDigest (takeBytes d.data 0 (pf d 32
      4)))) ∧
    (∃ (s a : State) (d : Desc), Finds s a ∧ Admitted a 4609 d ∧ (pf d 16 1 = 1 ∨ pf d 16 1 = 2) ∧ (pf d 16 1 = 1 → pf d 18 2 = 0) ∧ (pf d 32 4 = 0 ∨
      pf d 32 4 = 160) ∧ onlyBytes d [(16, 1), (18, 2), (24, 12)] = true) ∧
    (∃ (s a : State) (d : Desc), Finds s a ∧ Admitted a 4610 d ∧ onlyBytes d [(16, 1)] = true ∧ pf d 16 1 ≤ 1) ∧
    (∃ (s a : State), Finds s a ∧ a.sol.creates = []) ∧
    (∃ (s a : State) (block : List Byte) (y : Machine.Acc) (rest : List Machine.Acc), Finds s a ∧ a.sol.creates = y :: rest ∧ block.length ≠ pf y.d 24
      4) ∧
    (∃ (s a : State) (block : List Byte) (y : Machine.Acc) (rest : List Machine.Acc), Finds s a ∧ a.sol.creates = y :: rest ∧ block.length = pf y.d 24
      4 ∧ (blockCheck { a with sol := { a.sol with creates := rest } } block).1 ≠ 1 ∧ memPoisoned { a with sol := { a.sol with creates := rest } }
      (Config.blockCopy 256) block.length = true) ∧
    (∃ (s a : State) (block : List Byte) (y : Machine.Acc) (rest : List Machine.Acc), Finds s a ∧ a.sol.creates = y :: rest ∧ block.length = pf y.d 24
      4 ∧ 1 < (blockCheck { a with sol := { a.sol with creates := rest } } block).1 ∧ memPoisoned { a with sol := { a.sol with creates := rest } }
      (Config.blockCopy 256) block.length = false) ∧
    (∃ (s a : State) (block : List Byte) (y : Machine.Acc) (rest : List Machine.Acc), Finds s a ∧ a.sol.creates = y :: rest ∧ block.length = pf y.d 24
      4 ∧ (blockCheck { a with sol := { a.sol with creates := rest } } block).1 = 0 ∧ memPoisoned { a with sol := { a.sol with creates := rest } }
      (Config.blockCopy 256) block.length = false) :=
  ⟨⟨wUp, seen (wUp), desc 0 [], .secImageStageFw (desc 0 []), 1, by decide +kernel⟩,
   ⟨wUp, seen (wUp), desc 0 [(17, 1, 2)], .secImageStageFw (desc 0 [(17, 1, 2)]), 1, by decide +kernel⟩,
   ⟨wPrep id, seen (wPrep id), desc 0 [], by decide +kernel⟩,
   ⟨wPrep (fun x => { x with fwFloor := 5 }), seen (wPrep (fun x => { x with fwFloor := 5 })), desc 0 [(17, 1, 1), (20, 4, 4)], by decide +kernel⟩,
   ⟨wPrep (fun x => { x with fwFloor := 5 }), seen (wPrep (fun x => { x with fwFloor := 5 })), desc 0 [(17, 1, 1), (20, 4, 6)], by decide +kernel⟩,
   ⟨wPrep (fun x => { x with fused := 1 }), seen (wPrep (fun x => { x with fused := 1 })), desc 0 [], by decide +kernel⟩,
   ⟨wPrep id, seen (wPrep id), desc 0 [(32, 4, 97)], by decide +kernel⟩,
   ⟨wPrep id, seen (wPrep id), desc 0 [], by decide +kernel⟩,
   ⟨wPrep (fun x => { x with fused := 1, lifecycle := 1 }), seen (wPrep (fun x => { x with fused := 1, lifecycle := 1 })), desc 0 [],
     by decide +kernel⟩,
   ⟨wPrep (fun x => { x with fused := 1, lifecycle := 1 }), seen (wPrep (fun x => { x with fused := 1, lifecycle := 1 })), desc 0 [],
     by decide +kernel⟩,
   ⟨wPrep id, seen (wPrep id), desc 0 [(32, 4, 97)], by decide +kernel⟩,
   ⟨wUp, seen (wUp), desc 0 [(16, 1, 1)], by decide +kernel⟩,
   ⟨wUp, seen (wUp), desc 0 [(16, 1, 1)], by decide +kernel⟩,
   ⟨w0, seen (w0), by decide +kernel⟩,
   ⟨onSol (fun x => { x with creates := [acc0 0x0901 (desc 0 [(24, 4, 64)])] }) w0, seen (onSol (fun x =>
     { x with creates := [acc0 0x0901 (desc 0 [(24, 4, 64)])] }) w0), [], acc0 0x0901 (desc 0 [(24, 4, 64)]), [], by decide +kernel⟩,
   ⟨wPoison wCreate, seen (wPoison wCreate), block1 0, acc0 0x0901 (desc 0 [(24, 4, 256)]), [], ⟨rfl, rfl⟩, by decide +kernel, by decide +kernel,
     by decide +kernel, memPoisoned_of_mem _ _ _ (by simp [wPoison, onMem, seen]) (by decide +kernel)⟩,
   ⟨wCreate, seen (wCreate), block1 0, acc0 0x0901 (desc 0 [(24, 4, 256)]), [], by decide +kernel⟩,
   ⟨wCreate, seen (wCreate), block1 17, acc0 0x0901 (desc 0 [(24, 4, 256)]), [], by decide +kernel⟩⟩

/-! ### Hypotheses that rest on a signature: where it verifies, they are met -/

/-- The vendor's key verifies the image of the tests. -/
abbrev vendorSigned : Prop := Config.ecdsaVerifies Config.vendorKeyDigest (Config.sha384 ((envl 1 1).take 96)) 0 0 = true
theorem envelopeCheck_envl (s : State) (floor : s.sec.fwFloor = 0) (ok : vendorSigned) : envelopeCheck s 1 (envl 1 1) = 0 := by
  have form : envelopeOk (envl 1 1) 1 = true := by decide +kernel
  have sig : envelopeSig (envl 1 1) = 80 := by decide +kernel
  have signer : sigSigner (envl 1 1) 80 = 1 := by decide +kernel
  have plain : bit (leNat (takeBytes (envl 1 1) 7 1)) 0 = false := by decide +kernel
  have magic : leNat (takeBytes (envl 1 1) (80 + 0) 4) = 0x31474953 ∧ leNat (takeBytes (envl 1 1) (80 + 5) 3) = 0 ∧
      leNat (takeBytes (envl 1 1) (80 + 12) 4) = 0 ∧ 80 + 112 ≤ (envl 1 1).length := by decide +kernel
  have r : beNat (takeBytes (envl 1 1) (80 + 16) 48) = 0 := by decide +kernel
  have t : beNat (takeBytes (envl 1 1) (80 + 64) 48) = 0 := by decide +kernel
  have verified : sigVerifies s (envl 1 1) 80 = true := by
    simp only [sigVerifies, magic, signer, signerKey, r, t]
    exact ok
  simp [envelopeCheck, form, sig, imageCheck, signerPermitted, signer, verified, floor, plain]
theorem leBytes_succ (n v : Nat) : leBytes (n + 1) v = BitVec.ofNat 8 v :: leBytes n (v / 256) := by
  simp only [leBytes, List.range_succ_eq_map, List.map_cons, List.map_map, Nat.mul_zero, Nat.pow_zero, Nat.div_one]
  congr 1
  apply List.map_congr_left
  intro i _
  simp only [Function.comp, Nat.div_div_eq_div_mul]
  congr 2
  rw [Nat.mul_succ, Nat.pow_add, Nat.mul_comm]
theorem leNat_leBytes (n : Nat) : ∀ v, leNat (leBytes n v) = v % 256 ^ n := by
  induction n with
  | zero => intro v; simp [leBytes, leNat, Nat.mod_one]
  | succ n ih =>
    intro v
    rw [leBytes_succ, leNat, ih, Nat.pow_succ, Nat.mul_comm (256 ^ n), Nat.mod_mul]
    simp
/-- A token that closes a session's challenge of port 1, with a signature of zeros. -/
def token0 : List Byte :=
  leBytes 4 0x4E4B5444 ++ leBytes 4 1 ++ leBytes 16 Config.serial ++ leBytes 32 (Config.challenge 1 0) ++ leBytes 4 60 ++ List.replicate 100 0
/-- The owner's key, of digest 0, verifies that token. -/
abbrev ownerSigned : Prop := Config.ecdsaVerifies 0 (Config.sha384 (token0.take 64)) 0 0 = true
theorem tokenFail_token0 (s : State) (life : s.sec.lifecycle = 1) (key : s.sec.ownerDigest = some 0) (drawn : s.sec.drawn = [])
    (ok : ownerSigned) : tokenFail s 1 token0 = 0 := by
  have head : token0.length = 160 ∧ leNat (takeBytes token0 0 4) = 0x4E4B5444 ∧ leNat (takeBytes token0 4 1) = 1 ∧
      leNat (takeBytes token0 5 1) = 0 ∧ leNat (takeBytes token0 6 2) = 0 ∧ leNat (takeBytes token0 56 4) = 60 ∧
      leNat (takeBytes token0 60 4) = 0 ∧ beNat (takeBytes token0 64 48) = 0 ∧ beNat (takeBytes token0 112 48) = 0 :=
    ⟨rfl, rfl, rfl, rfl, rfl, rfl, rfl, rfl, rfl⟩
  have serial : leNat (takeBytes token0 8 16) = Config.serial % 2 ^ 128 := leNat_leBytes 16 Config.serial
  have nonce : leNat (takeBytes token0 24 32) = challengeOf s 1 % 2 ^ 256 := by
    simp only [challengeOf, drawn]
    exact leNat_leBytes 32 (Config.challenge 1 0)
  simp only [tokenFail, head, serial, nonce, life, key]
  simpa using ok
theorem takeBytes_all (bs : List Byte) (n : Nat) (h : bs.length = n) : takeBytes bs 0 n = bs := by
  subst h
  simp [takeBytes]
/-- A descriptor of 192 bytes of data, the image, and one of 160 bytes, the token. -/
def dImage : Desc := { desc 0 [(32, 4, 192)] with data := envl 1 1 }
def dToken : Desc := { desc 0 [(32, 4, 160)] with data := token0 }
def wReturn : State := wPrep fun x => { x with fused := 1, lifecycle := 1, ownerDigest := some 0 }
def wOwner : State := wPrep fun x => { x with ownerDigest := some (keyDigest (List.replicate 97 0)) }
/-- Where the vendor's key verifies the image, an image is staged or does not fit. -/
theorem witness_ImagesAndSessions_image (ok : vendorSigned) :
    (∃ (s a : State) (d : Desc), Finds s a ∧ (Admitted a 0x1200 (withByte16 1 d) ∧ secImageFormOk (withByte16 1 d) = true) ∧
      (a.md.mode = .prepare ∨ a.md.mode = .dormant) ∧ envelopeCheck (taken a (withByte16 1 d)) 1 (takeBytes d.data 0 (pf d 32 4)) = 0 ∧
      (if pf d 17 1 = 0 then a.sec.rangeA else a.sec.rangeB) < (takeBytes d.data 0 (pf d 32 4)).length) ∧
    (∃ (s a : State) (d : Desc), Finds s a ∧ (Admitted a 0x1200 (withByte16 1 d) ∧ secImageFormOk (withByte16 1 d) = true) ∧
      (a.md.mode = .prepare ∨ a.md.mode = .dormant) ∧ envelopeCheck (taken a (withByte16 1 d)) 1 (takeBytes d.data 0 (pf d 32 4)) = 0 ∧
      (takeBytes d.data 0 (pf d 32 4)).length ≤ if pf d 17 1 = 0 then a.sec.rangeA else a.sec.rangeB) :=
  have whole : takeBytes dImage.data 0 (pf dImage 32 4) = envl 1 1 := by decide +kernel
  ⟨⟨wPrep id, seen (wPrep id), dImage, by decide +kernel, by decide +kernel, by decide +kernel,
    by rw [whole]; exact envelopeCheck_envl _ rfl ok, by decide +kernel⟩,
   ⟨wPrep fun x => { x with rangeA := 192 }, seen (wPrep fun x => { x with rangeA := 192 }), dImage, by decide +kernel, by decide +kernel,
    by decide +kernel, by rw [whole]; exact envelopeCheck_envl _ rfl ok, by decide +kernel⟩⟩
/-- Where the owner's key verifies the token, a device may be returned. -/
theorem witness_ImagesAndSessions_token (ok : ownerSigned) :
    ∃ (s a : State) (d : Desc), Finds s a ∧ (Admitted a 0x1200 (withByte16 5 d) ∧ secImageFormOk (withByte16 5 d) = true) ∧
      (a.md.mode = .prepare ∨ a.md.mode = .dormant) ∧ (a.sec.fused = 1 ∨ a.sec.fused = 2) ∧ a.sec.lifecycle = a.sec.fused ∧
      tokenFail (taken a (withByte16 5 d)) 1 (takeBytes d.data 0 (pf d 32 4)) = 0 ∧
      leNat (takeBytes (takeBytes d.data 0 (pf d 32 4)) 5 1) = 0 :=
  have len : pf dToken 32 4 = 160 := by decide +kernel
  have whole : takeBytes dToken.data 0 (pf dToken 32 4) = token0 := by rw [len]; exact takeBytes_all token0 160 rfl
  ⟨wReturn, seen wReturn, dToken, by decide +kernel, by decide +kernel, by decide +kernel,
    by decide +kernel, by decide +kernel, by rw [whole]; exact tokenFail_token0 _ rfl rfl rfl ok, by rw [whole]; rfl⟩
/-- The certificate is longer than some buffers, or is none, and fits in some. -/
theorem witness_ImagesAndSessions_certificate :
    (0 < Config.certificate.length →
      ∃ (s a : State) (d : Desc), Finds s a ∧ (Admitted a 0x1200 (withByte16 6 d) ∧ secImageFormOk (withByte16 6 d) = true) ∧
        (a.md.mode = .prepare ∨ a.md.mode = .dormant) ∧ pf d 32 4 < Config.certificate.length) ∧
    (Config.certificate.length ≤ 4096 →
      ∃ (s a : State) (d : Desc), Finds s a ∧ (Admitted a 0x1200 (withByte16 6 d) ∧ secImageFormOk (withByte16 6 d) = true) ∧
        (a.md.mode = .prepare ∨ a.md.mode = .dormant) ∧ Config.certificate.length ≤ pf d 32 4) :=
  ⟨fun h => ⟨wPrep id, seen (wPrep id), desc 0 [], by decide +kernel, by decide +kernel, by decide +kernel,
     (by decide +kernel : pf (desc 0 []) 32 4 = 0).symm ▸ h⟩,
   fun h => ⟨wPrep id, seen (wPrep id), desc 0 [(32, 4, 4096)], by decide +kernel, by decide +kernel, by decide +kernel,
     (by decide +kernel : pf (desc 0 [(32, 4, 4096)]) 32 4 = 4096).symm ▸ h⟩⟩
theorem witness_ImagesAndSessions_ownerKey :
    ∃ (s a : State) (d : Desc), Finds s a ∧ (Admitted a 0x1200 (withByte16 7 d) ∧ secImageFormOk (withByte16 7 d) = true) ∧
      (a.md.mode = .prepare ∨ a.md.mode = .dormant) ∧ (takeBytes d.data 0 (pf d 32 4)).length = 97 ∧
      a.sec.ownerDigest = some (keyDigest (takeBytes d.data 0 (pf d 32 4))) :=
  have zeros : takeBytes (desc 0 [(32, 4, 97)]).data 0 (pf (desc 0 [(32, 4, 97)]) 32 4) = List.replicate 97 0 := by decide +kernel
  ⟨wOwner, seen wOwner, desc 0 [(32, 4, 97)], ⟨rfl, rfl⟩, by decide +kernel, by decide +kernel, by decide +kernel, by rw [zeros]; rfl⟩
/-- Where the vendor's key verifies the image, a recovery image is taken. -/
def wRecover : State := onMd (fun m => { m with rcvBusy := true }) (setReg (wBoot 1 6) 65584 192)
theorem witness_BootStages_image (ok : vendorSigned) :
    ∃ (s a : State) (img : List Byte), Finds s a ∧ a.md.mode = .boot ∧ a.md.rcvBusy = true ∧ img.length = reg a 65584 ∧
      envelopeCheck { a with md := { a.md with rcvBusy := false } } 1 img = 0 :=
  ⟨wRecover, seen wRecover, envl 1 1, by decide +kernel, by decide +kernel, by decide +kernel, by decide +kernel, envelopeCheck_envl _ rfl ok⟩

end Sys2Proof.Tests
end

section
namespace Sys2Proof.Machine

/-- R24's table, written out: a region state that a mode allows. -/
theorem modeAllows_iff (m : Mode) (st : RegionState) :
    modeAllows m st = true ↔ st = .empty ∨ st = .safeOff ∨ m = .run ∨ (m = .hold ∧ st ≠ .active) ∨
      (m = .service ∧ (st = .service ∨ st = .mending)) := by
  cases m <;> cases st <;> decide

/-- Every region is admitted exactly when its state stands in the row of R24 for the mode. -/
theorem regionsAdmitted_iff (u : State) :
    regionsAdmitted u = true ↔ ∀ e ∈ u.regions,
      e.2.st = .empty ∨ e.2.st = .safeOff ∨ u.md.mode = .run ∨ (u.md.mode = .hold ∧ e.2.st ≠ .active) ∨
        (u.md.mode = .service ∧ (e.2.st = .service ∨ e.2.st = .mending)) := by
  simp only [regionsAdmitted, List.all_eq_true, modeAllows_iff]

/-- A step from a queue that is not empty is the command at its front, which leaves a state through the closing work. -/
theorem step_cases {s t : State} (h : step s = .next t) : (s.pending = [] ∧ t = s) ∨ ∃ b u, t = leave b u := by
  unfold step at h
  split at h
  case h_1 hq => exact .inl ⟨hq, (Host.Outcome.next.inj h).symm⟩
  case h_2 c q hq => exact .inr ⟨_, exec_leaves c _ t h⟩

/-- Settles O3: the closing work of every command bounds the regions by the mode, and an idle step changes nothing. -/
theorem stepsKeepRegionsAdmitted : Obligations.StepsKeepRegionsAdmitted := by
  intro s t admitted hs hstep
  rcases step_cases hstep with ⟨_, rfl⟩ | ⟨b, u, rfl⟩
  · exact hs
  · exact (regionsAdmitted_iff _).1 (leave_admitted b u)

/-- Settles O4: the reset state is the empty one, so that every read gives the value that an absent entry stands for. -/
theorem resetState : Obligations.ResetState := by
  refine ⟨⟨rfl, rfl, rfl, rfl, rfl, ?_⟩, rfl, rfl, fun _ => rfl, fun _ _ => rfl, fun _ => rfl, rfl, rfl, rfl, rfl, rfl, rfl,
    fun _ => rfl, fun _ => rfl, fun _ => rfl⟩
  exact ⟨rfl, rfl, rfl, rfl, rfl, rfl, rfl⟩

end Sys2Proof.Machine
end

section
namespace Sys2Proof.Machine

/-! ### A descriptor arrives (R396 to R400) -/

/-- The checks of R398 over a descriptor that has been counted, and what they lead to. -/
def judged (t : State) (x : Acc) (seq : Nat) : State :=
  match ringRefuse x.op x.d seq x.pos x.submitted with
  | some det => completeRingCheck t x det
  | none =>
    if scopeDenies t x then refuseEarly t x rDENIED
    else if prs x.d ≠ 0 ∧ neverMember x.op x.d = true then refuseEarly t x rDENIED
    else match acceptHandles t x with
      | some r => refuseEarly t x r
      | none => dispatch t x

/-- An acceptance counts the descriptor, then judges it. -/
theorem acceptDesc_eq (s : State) (x : Acc) (seq : Nat) :
    acceptDesc s x seq =
      judged (bump (modHost (modRing s x.pair fun y => { y with resv := y.resv + 2, open_ := y.open_ + 1 })
        fun h => { h with accepted := h.accepted + 1 }) 0x30008) x seq := rfl

@[simp] theorem ringAt_modRing (s : State) (r : Nat) (f : Ring → Ring) : ringAt (modRing s r f) r = f (ringAt s r) := by
  simp [ringAt, modRing]

@[simp] theorem modRing_modRing (s : State) (r : Nat) (f g : Ring → Ring) :
    modRing (modRing s r f) r g = modRing s r fun x => g (f x) := by
  simp [modRing, ringAt]

/-- A pair after a descriptor that carries the SEQUENCE of its position has been fetched into it. -/
def fetchRing (op : Nat) (d : Desc) (x : Ring) : Ring :=
  { x with waiting := x.waiting ++ [{ op := op, seq := x.pos % 256, d := d, pos := x.pos }], pos := (x.pos + 1) % 65536,
           sqHead := if sqAvail x = 0 then x.sqHead else (x.sqHead + 1) % sizeA x }

theorem fetched_eq (a : State) (op : Nat) (d : Desc) :
    fetched a d.ring op ((ringAt a d.ring).pos % 256) d = modRing a d.ring (fetchRing op d) := rfl

theorem cqRoom_fetchRing (op : Nat) (d : Desc) (x : Ring) : cqRoom (fetchRing op d x) = cqRoom x := rfl

/-- A descriptor can be accepted as soon as it arrives on its pair (R399, R400). -/
structure Front (a : State) (d : Desc) : Prop where
  up : (ringAt a d.ring).st = .up
  master : busMasterOn a (ringAt a d.ring).owner = true
  alone : (ringAt a d.ring).waiting = []
  room : cqRoom (ringAt a d.ring) = true
  fence : d.flags.getLsbD 0 = false ∨ (ringAt a d.ring).open_ = 0
  turn : a.host.accepted < 8

/-- The fetched descriptor stands alone at the front of its pair. -/
theorem fetchRing_waiting {op : Nat} {d : Desc} {x : Ring} (h : x.waiting = []) :
    (fetchRing op d x).waiting = [{ op := op, seq := x.pos % 256, d := d, pos := x.pos }] := by
  simp [fetchRing, h]

theorem frontReady_fetchRing {a : State} {d : Desc} (h : Front a d) (op : Nat) :
    frontReady (fetchRing op d (ringAt a d.ring)) = true := by
  have hu : (fetchRing op d (ringAt a d.ring)).st = .up := h.up
  have ho : (fetchRing op d (ringAt a d.ring)).open_ = (ringAt a d.ring).open_ := rfl
  have hf := h.fence
  simp only [frontReady, hu, cqRoom_fetchRing, h.room, fetchRing_waiting h.alone, ho, decide_true, Bool.and_self, Bool.true_and,
    Bool.or_eq_true, Bool.not_eq_true', decide_eq_true_eq]
  exact hf

theorem acceptsNow_fetched {a : State} {d : Desc} (h : Front a d) (op : Nat) :
    acceptsNow (modRing a d.ring (fetchRing op d)) d.ring = true := by
  have ht : (modRing a d.ring (fetchRing op d)).host.accepted < 8 := h.turn
  simp only [acceptsNow, ringAt_modRing, fetchRing_waiting h.alone, frontReady_fetchRing h op, ht]
  rfl

/-- The pair of a descriptor that has been counted. -/
def takeRing (r : Ring) : Ring :=
  { r with pos := (r.pos + 1) % 65536, sqHead := if sqAvail r = 0 then r.sqHead else (r.sqHead + 1) % sizeA r,
           turn := r.turn - 1, resv := r.resv + 2, open_ := r.open_ + 1 }

theorem taken_eq (a : State) (d : Desc) :
    taken a d = bump (modHost (modRing a d.ring takeRing) fun h => { h with accepted := h.accepted + 1 }) 0x30008 := rfl

/-- Fetched onto an empty pair, taken from its front and counted, a descriptor leaves the pair with nothing waiting. -/
theorem takeRing_of_fetched {op : Nat} {d : Desc} {r : Ring} (h : r.waiting = []) :
    (fun y : Ring => { y with resv := y.resv + 2, open_ := y.open_ + 1 })
      { fetchRing op d r with waiting := [], turn := (fetchRing op d r).turn - 1 } = takeRing r := by
  cases r
  cases h
  rfl

/-- What is accepted at the front is what has arrived. -/
theorem accFor_fetched (a : State) (op : Nat) (d : Desc) :
    accFor (modRing a d.ring (fetchRing op d)) d.ring
      { op := op, seq := (ringAt a d.ring).pos % 256, d := d, pos := (ringAt a d.ring).pos } = accOf a op d := by
  have ho : (ringAt (modRing a d.ring (fetchRing op d)) d.ring).owner = (ringAt a d.ring).owner := by
    rw [ringAt_modRing]; rfl
  simp only [accFor, ho]
  rfl

/-- A descriptor that arrives where it can be accepted at once is taken and judged. -/
theorem arriveDesc_front {a : State} {d : Desc} (h : Front a d) (op : Nat) :
    arriveDesc a op d = judged (taken a d) (accOf a op d) ((ringAt a d.ring).pos % 256) := by
  have ready : (ringAt a d.ring).st = .up ∧ busMasterOn a (ringAt a d.ring).owner = true ∧ cqRoom (ringAt a d.ring) = true :=
    ⟨h.up, h.master, h.room⟩
  unfold arriveDesc
  dsimp only
  rw [if_pos ready, fetched_eq, if_pos (acceptsNow_fetched h op)]
  unfold acceptFront
  simp only [ringAt_modRing, fetchRing_waiting h.alone, accFor_fetched, acceptDesc_eq, taken_eq]
  rw [show (accOf a op d).pair = d.ring from rfl, modRing_modRing, modRing_modRing]
  congr 3
  unfold modRing
  rw [takeRing_of_fetched (op := op) (d := d) h.alone]

/-- Nothing arrives on a pair that is not UP, or whose function has no Bus Master Enable (R409, R411). -/
theorem arriveDesc_absent {a : State} {d : Desc}
    (h : (ringAt a d.ring).st ≠ .up ∨ busMasterOn a (ringAt a d.ring).owner = false) (op : Nat) : arriveDesc a op d = a := by
  unfold arriveDesc
  dsimp only
  rw [if_neg]
  rintro ⟨hu, hm, _⟩
  rcases h with h | h
  · exact h hu
  · simp [hm] at h

/-! ### What the checks lead to -/

/-- The opcodes that act at acceptance (R30). -/
def nowOps : List Nat :=
  [0x0001, 0x0202, 0x0300, 0x0301, 0x0402, 0x0601, 0x0700, 0x0803, 0x0901, 0x0905, 0x0C07, 0x1000, 0x1001, 0x1200, 0x1201, 0x1202]

/-- A descriptor of another opcode does not act at acceptance. -/
theorem actNow_eq_none {s : State} {x : Acc} (h : nowOps.contains x.op = false) : actNow s x = none := by
  unfold actNow
  dsimp only
  split <;> simp_all [nowOps]

theorem slotOf_eq_none {d : Desc} (h : d.press = 0) : slotOf d = none := by simp [slotOf, prs, h]

theorem refuseEarly_eq {t : State} {x : Acc} (h : x.d.press = 0) (r : Refuse) : refuseEarly t x r = complete t x r.1 0 r.2 := by
  simp [refuseEarly, slotOf_eq_none h]

theorem ringRefuse_flags {op seq pos : Nat} {d : Desc} (ho : opcodes.contains op = true) (h : 4 ≤ d.flags.toNat) :
    ringRefuse op d seq pos false = some (2 + 256 * (pos % 256)) := by
  have : d.flags.toNat / 4 ≠ 0 := by omega
  simp only [ringRefuse, ho, this, Bool.not_true, Bool.false_eq_true, if_false, ne_eq, not_false_eq_true, if_true]

theorem ringRefuse_eq_none {op pos : Nat} {d : Desc} (ho : opcodes.contains op = true) (h : d.flags.toNat < 4) :
    ringRefuse op d (pos % 256) pos false = none := by
  have : d.flags.toNat / 4 = 0 := by omega
  simp only [ringRefuse, ho, this, Bool.not_true, Bool.false_eq_true, if_false, ne_eq, not_true_eq_false, and_false]

section
variable {t : State} {x : Acc} (ho : opcodes.contains x.op = true) (hs : x.submitted = false)
include ho hs

theorem judged_flags (hf : 4 ≤ x.d.flags.toNat) (seq : Nat) :
    judged t x seq = completeRingCheck t x (2 + 256 * (x.pos % 256)) := by
  simp only [judged, hs, ringRefuse_flags ho hf]

variable (hf : x.d.flags.toNat < 4) (hp : x.d.press = 0)
include hf hp

theorem judged_denied (hd : scopeDenies t x = true) : judged t x (x.pos % 256) = complete t x stDENIED 0 0 := by
  simp only [judged, hs, ringRefuse_eq_none ho hf, hd, if_true, refuseEarly_eq hp]
  rfl

variable (hd : scopeDenies t x = false)
include hd

/-- A descriptor that names no press is in scope: its handles decide (R28). -/
theorem judged_inScope :
    judged t x (x.pos % 256) = match acceptHandles t x with
      | some r => refuseEarly t x r
      | none => dispatch t x := by
  have h0 : ¬(prs x.d ≠ 0 ∧ neverMember x.op x.d = true) := by simp [prs, hp]
  simp only [judged, hs, ringRefuse_eq_none ho hf, hd, if_neg h0, Bool.false_eq_true, if_false]

theorem judged_handles {r : Refuse} (hh : acceptHandles t x = some r) : judged t x (x.pos % 256) = complete t x r.1 0 r.2 := by
  rw [judged_inScope ho hs hf hp hd, hh]
  exact refuseEarly_eq hp r

theorem judged_dispatch (hh : acceptHandles t x = none) : judged t x (x.pos % 256) = dispatch t x := by
  rw [judged_inScope ho hs hf hp hd, hh]

end

/-- The opcodes that wait for the next frame boundary (R30). -/
def BoundaryOp (op : Nat) : Prop := opcodes.contains op = true ∧ nowOps.contains op = false

/-- A command is the arrival of a descriptor with an opcode. -/
def Arrives (c : Instr) (op : Nat) (d : Desc) : Prop := ∀ s, exec c s = event (unlessHeld fun s => arriveDesc s op d) s

theorem exec_of_arrives {c : Instr} {op : Nat} {d : Desc} (hc : Arrives c op d) {s a : State} (h : Finds s a) :
    exec c s = .next (leave s (arriveDesc a op d)) := (hc s).trans (event_finds h _)

/-- A descriptor that arrives at the front of its pair is judged at once. -/
theorem exec_of_front {c : Instr} {op : Nat} {d : Desc} (hc : Arrives c op d) {s a : State} (h : Finds s a) (hf : Front a d) :
    exec c s = .next (leave s (judged (taken a d) (accOf a op d) ((accOf a op d).pos % 256))) := by
  rw [exec_of_arrives hc h, arriveDesc_front hf op]
  rfl

theorem Admitted.front {a : State} {op : Nat} {d : Desc} (h : Admitted a op d) : Front a d := by
  obtain ⟨hu, hm, hw, hr, hf, ht, _⟩ := h
  exact ⟨hu, hm, hw, hr, hf, ht⟩

/-- An admitted descriptor is dispatched. -/
theorem exec_of_admitted {c : Instr} {op : Nat} {d : Desc} (hc : Arrives c op d) (ho : opcodes.contains op = true) {s a : State}
    (h : Finds s a) (hA : Admitted a op d) : exec c s = .next (leave s (dispatch (taken a d) (accOf a op d))) := by
  have hF := hA.front
  obtain ⟨_, _, _, _, _, _, hfl, hp, hd, hh, _⟩ := hA
  rw [exec_of_front hc h hF, judged_dispatch ho rfl hfl hp hd hh]

/-- A descriptor that does not act now waits for the boundary, unless its scale record breaks R16. -/
theorem dispatch_waits {t : State} {x : Acc} (hp : x.d.press = 0) (hn : sharesHandle t x = true ∨ actNow t x = none) :
    dispatch t x = if dormantRefuses t x.op = false ∧ scaleAccepted t x = false then complete t x stRANGE 0 0
      else modHost t fun h => { h with imm := h.imm ++ [x] } := by
  have : (if sharesHandle t x then none else actNow t x) = none := by
    split <;> simp_all
  simp only [dispatch, slotOf_eq_none hp, this]

/-- A descriptor whose scale record breaks R16 completes with RANGE when it is accepted, outside DORMANT. -/
theorem dispatch_scale {t : State} {x : Acc} (hp : x.d.press = 0) (hn : nowOps.contains x.op = false)
    (hm : dormantRefuses t x.op = false) (hs : scaleAccepted t x = false) : dispatch t x = complete t x stRANGE 0 0 := by
  rw [dispatch_waits hp (.inr (actNow_eq_none hn)), if_pos ⟨hm, hs⟩]

/-- An admitted descriptor that does not act now is listed for the boundary. -/
theorem dispatch_listed {a : State} {op : Nat} {d : Desc} (hA : Admitted a op d)
    (hn : sharesHandle (taken a d) (accOf a op d) = true ∨ actNow (taken a d) (accOf a op d) = none) :
    dispatch (taken a d) (accOf a op d) = listed a op d := by
  obtain ⟨_, _, _, _, _, _, _, hp, _, _, hs⟩ := hA
  rw [dispatch_waits hp hn, if_neg]
  · rfl
  · rintro ⟨h1, h2⟩
    rcases hs with hs | hs
    · exact Bool.noConfusion (h1.symm.trans hs)
    · exact Bool.noConfusion (h2.symm.trans hs)

/-- Settles O48: every row arrives through one path, whose checks are taken in the order of R398. -/
theorem descriptorAcceptance : Obligations.DescriptorAcceptance := by
  intro s a d hfind rows
  have arrivals : ∀ r ∈ rows, Arrives r.1 r.2.1 r.2.2 ∧ BoundaryOp r.2.1 := by
    repeat refine List.forall_mem_cons.2 ⟨⟨fun _ => rfl, rfl, rfl⟩, ?_⟩
    exact fun _ h => absurd h List.not_mem_nil
  intro c op e hrow
  obtain ⟨hc, ho, hn⟩ := arrivals _ hrow
  refine ⟨fun hA => ?_, fun h => ?_, fun hu hm hw hr hf ht => ?_⟩
  · rw [exec_of_admitted hc ho hfind hA, dispatch_listed hA (.inr (actNow_eq_none hn))]
  · rw [exec_of_arrives hc hfind, arriveDesc_absent h]
  · have front : exec c s = .next (leave s (judged (taken a e) (accOf a op e) ((accOf a op e).pos % 256))) :=
      exec_of_front hc hfind ⟨hu, hm, hw, hr, hf, ht⟩
    refine ⟨fun hfl => ?_, fun hfl hp hd => ?_, fun hfl hp hd hh hmode hs => ?_, fun st h hfl hp hd hh => ?_⟩
    · rw [front, judged_flags (x := accOf a op e) ho rfl hfl]
      rfl
    · rw [front, judged_denied (x := accOf a op e) ho rfl hfl hp hd]
    · rw [front, judged_dispatch (x := accOf a op e) ho rfl hfl hp hd hh, dispatch_scale hp hn hmode hs]
    · rw [front, judged_handles (x := accOf a op e) ho rfl hfl hp hd hh]

end Sys2Proof.Machine
end

section
namespace Sys2Proof.Machine

/-! ### Descriptors that act at acceptance -/

theorem dispatch_now {t u : State} {x : Acc} (hp : x.d.press = 0) (hn : sharesHandle t x = false) (h : actNow t x = some u) :
    dispatch t x = u := by
  simp only [dispatch, slotOf_eq_none hp, hn, Bool.false_eq_true, if_false, h]

/-- An admitted descriptor that acts now, and that no waiting descriptor precedes on its handles, acts. -/
theorem exec_of_now {c : Instr} {op : Nat} {d : Desc} (hc : Arrives c op d) (ho : opcodes.contains op = true) {s a u : State}
    (h : Finds s a) (hA : Admitted a op d) (hn : sharesHandle (taken a d) (accOf a op d) = false)
    (hu : actNow (taken a d) (accOf a op d) = some u) : exec c s = .next (leave s u) := by
  rw [exec_of_admitted hc ho h hA]
  obtain ⟨_, _, _, _, _, _, _, hp, _⟩ := hA
  rw [dispatch_now hp hn hu]

/-- A descriptor that names no handle waits behind none. -/
theorem sharesHandle_of_unnamed {t : State} {x : Acc} (h : opHandles x.op x.d = []) : sharesHandle t x = false := by
  have : namedHandles x = [] := by simp [namedHandles, h]
  simp [sharesHandle, this]

/-- An admitted descriptor whose row names no handle, and that acts now, acts. -/
theorem exec_of_unnamed {c : Instr} {op : Nat} {d : Desc} (hc : Arrives c op d) (ho : opcodes.contains op = true) {s a u : State}
    (h : Finds s a) (hA : Admitted a op d) (hn : opHandles op d = [])
    (hu : actNow (taken a d) (accOf a op d) = some u) : exec c s = .next (leave s u) :=
  exec_of_now hc ho h hA (sharesHandle_of_unnamed hn) hu

theorem guarded_none {s : State} {x : Acc} {chk : Option Refuse} {k : State → State} (h : chk = none) : guarded s x chk k = k s := by
  rw [h]; rfl

theorem guarded_some {s : State} {x : Acc} {chk : Option Refuse} {k : State → State} {r : Refuse} (h : chk = some r) :
    guarded s x chk k = complete s x r.1 0 r.2 := by
  rw [h]; rfl

/-! #### The authorisation of a step (R63) -/

theorem stepAuth_range {t : State} {x : Acc} (h : onlyBytes x.d [(16, 9)] = false ∨ 1 < pf x.d 24 1) :
    stepAuth t x = complete t x stRANGE 0 0 := by
  rcases h with h | h <;> simp [stepAuth, h]

theorem stepAuth_disarm {t : State} {x : Acc} (h : onlyBytes x.d [(16, 9)] = true) (h1 : pf x.d 24 1 = 1) :
    stepAuth t x = complete { t with time := { t.time with stepArmed := none } } x stOK 0 0 := by
  simp [stepAuth, h, h1, modTime]

theorem stepAuth_arm {t : State} {x : Acc} (h : onlyBytes x.d [(16, 9)] = true) (h0 : pf x.d 24 1 = 0) (hn : t.time.stepArmed = none) :
    stepAuth t x = complete { t with time := { t.time with stepArmed := some (pf x.d 16 8) } } x stOK 0 0 := by
  simp [stepAuth, h, h0, hn, modTime]

theorem stepAuth_busy {t : State} {x : Acc} (h : onlyBytes x.d [(16, 9)] = true) (h0 : pf x.d 24 1 = 0) (hn : t.time.stepArmed ≠ none) :
    stepAuth t x = complete t x stBUSY 0 0 := by
  simp [stepAuth, h, h0, Option.isSome_iff_ne_none, hn]

/-! #### The other rows -/

theorem accessStart_sends {t : State} {x : Acc} (h : portSends (portAt t (pf x.d 16 1)) = true) :
    accessStart t x = modPort t (pf x.d 16 1) fun y => { y with queue := y.queue ++
      [{ dest := pf x.d 17 1, op := pf x.d 18 1, reg := pf x.d 20 2, data := pf x.d 24 4, mask := pf x.d 28 4, use := .access x }] } := by
  simp [accessStart, h, svcAsk]

theorem accessStart_silent {t : State} {x : Acc} (h : portSends (portAt t (pf x.d 16 1)) = false) :
    accessStart t x = complete t x stBUSY 0 (det12 0 0xFF) := by
  simp [accessStart, h, accessFails]

theorem headCal_of_joint {t : State} {x : Acc} {j : Joint} (h : mget t.joints (tIdx x.d) = some j) :
    headCal t x = modHead { t with free := t.free + 1 } j.port j.pos fun y =>
      { y with cal := some (x, t.time.frame + 1 + Config.freeNat t.free) } := by
  simp [headCal, h, draw]

theorem waitAccept_joins {t : State} {x : Acc} (hc : pf x.d 16 2 ≠ 0) (hf : onlyBytes x.d [(16, 2), (20, 4)] = true)
    (ht : pf x.d 20 4 = 0 ∨ waitTimeoutOk t = true) (hr : t.gsc.waits.length < 64) (hn : (nodeAt t (tIdx x.d)).st ≠ .error) :
    waitAccept t x = { t with gsc := { t.gsc with waits := t.gsc.waits ++
      [{ acc := x, node := tIdx x.d, left := pf x.d 16 2,
         until_ := if pf x.d 20 4 = 0 then none else some (t.time.elapsed + pf x.d 20 4 * usU) }] } } := by
  have ht' : ¬(pf x.d 20 4 ≠ 0 ∧ waitTimeoutOk t = false) := by
    rintro ⟨h0, h1⟩
    rcases ht with ht | ht
    · exact h0 ht
    · simp [h1] at ht
  simp [waitAccept, hc, hf, ht', Nat.not_le.2 hr, hn, modGsc]

theorem replan_none {t : State} {x : Acc} (h : replanResult t (pf x.d 16 1) = none) : replan t x = complete t x stNORES 0 0 := by
  simp [replan, h]

theorem replan_some {t : State} {x : Acc} {r : State × Nat} (h : replanResult t (pf x.d 16 1) = some r) :
    replan t x = { t with pln := { t.pln with replan := t.pln.replan ++ [x] } } := by
  simp [replan, h, modPln]

theorem dormantRefuses_problem (t : State) : dormantRefuses t 0x0901 = decide (t.md.mode = .dormant) := by
  simp [dormantRefuses]

/-- A create of a problem is refused in DORMANT (R32). -/
theorem problemCreate_chk (t : State) (c : Option Refuse) :
    (if dormantRefuses t 0x0901 then some rMODE else c) = if t.md.mode = .dormant then some rMODE else c := by
  simp [dormantRefuses]

theorem hltDarn_named {t : State} {x : Acc} {c i : Nat} (h : hltName x.d = (some c, i)) :
    hltDarn t x = darnQueue t c i (instAt t c i).failed (some x) := by
  simp [hltDarn, h]

theorem hltTest_named {t : State} {x : Acc} {c i : Nat} (h : hltName x.d = (some c, i)) : hltTest t x = testStart t c i (some x) := by
  simp [hltTest, h]

/-- HLT_TEST acts at once where the parts that it needs are awake. -/
theorem actNow_test {t : State} {x : Acc} (ho : x.op = 0x1001) (hk : hltTestCheck t x = none) (hp : partsAsleep t x = false) :
    actNow t x = some (hltTest t x) := by
  simp [actNow, ho, hk, hp, guarded]

/-- Settles O49: each row acts through its arm of actNow, since no handle of it is waited on. -/
theorem descriptorsThatActAtOnce : Obligations.DescriptorsThatActAtOnce := by
  intro s a d hfind t x
  refine ⟨fun hA => ?nop, fun hA => ?step, fun hA => ?cyclic, fun hA hk => ?access, fun hA => ?calibrate, fun hA hn hh hk j hj => ?headCal,
    fun hA => ?load, fun hA => ?problem, fun hA hk => ?replan, fun hA hn hh hc hf ht hr he => ?wait, fun c i hA hk hname => ?darn,
    fun c i hA hk hp hname => ?test, fun c op hrow hA hn => ?shared⟩
  case nop =>
    have act {u : State} (h : actNow t (x 0x0001) = some u) : exec (.nop d) s = .next (leave s u) :=
      exec_of_unnamed (fun _ => rfl) rfl hfind hA rfl h
    exact ⟨fun h0 => act (congrArg some (guarded_none (if_neg (not_not.2 h0)))),
      fun h0 => act (congrArg some (guarded_some (r := rRANGE) (if_pos h0)))⟩
  case step =>
    have act {u : State} (h : stepAuth t (x 0x0202) = u) : exec (.timeStepAuth d) s = .next (leave s u) :=
      exec_of_unnamed (fun _ => rfl) rfl hfind hA rfl (congrArg some h)
    exact ⟨fun h => act (stepAuth_range h), fun hf => ⟨fun h1 => act (stepAuth_disarm hf h1), fun h0 hn => act (stepAuth_arm (t := t) hf h0 hn),
      fun h0 hn => act (stepAuth_busy (t := t) hf h0 hn)⟩⟩
  case cyclic =>
    have act {u : State} (h : actNow t (x 0x0300) = some u) : exec (.rylHeadCyclic d) s = .next (leave s u) :=
      exec_of_unnamed (fun _ => rfl) rfl hfind hA rfl h
    exact ⟨fun st h hk => act (congrArg some (guarded_some (r := (st, h)) hk)), fun hk => act (congrArg some (guarded_none hk))⟩
  case access =>
    have act {u : State} (h : accessStart t (x 0x0301) = u) : exec (.rylHeadAccess d) s = .next (leave s u) :=
      exec_of_unnamed (fun _ => rfl) rfl hfind hA rfl (congrArg some ((guarded_none hk).trans h))
    exact ⟨fun h => act (accessStart_sends h), fun h => act (accessStart_silent h)⟩
  case calibrate =>
    have act {u : State} (h : actNow t (x 0x0402) = some u) : exec (.cnvCalibrate d) s = .next (leave s u) :=
      exec_of_unnamed (fun _ => rfl) rfl hfind hA rfl h
    exact ⟨fun hk => act (congrArg some (guarded_none hk)), fun st h hk => act (congrArg some (guarded_some (r := (st, h)) hk))⟩
  case headCal =>
    refine exec_of_now (c := .sweHeadCal d) (fun _ => rfl) rfl hfind hA hn (congrArg some ?_)
    dsimp only
    rw [hh, guarded_none hk]
    exact headCal_of_joint hj
  case load =>
    have act {u : State} (h : actNow t (x 0x0700) = some u) : exec (.drvLoad d) s = .next (leave s u) :=
      exec_of_unnamed (fun _ => rfl) rfl hfind hA rfl h
    exact ⟨fun hk => act (congrArg some (guarded_none hk)), fun st h hk => act (congrArg some (guarded_some (r := (st, h)) hk))⟩
  case problem =>
    have act {u : State} (h : actNow t (x 0x0901) = some u) : exec (.problemCreate d) s = .next (leave s u) :=
      exec_of_unnamed (fun _ => rfl) rfl hfind hA rfl h
    exact ⟨fun hm => act (congrArg some (guarded_some (r := rMODE) ((problemCreate_chk _ _).trans (if_pos hm)))),
      fun hm hk => act (congrArg some (guarded_none ((problemCreate_chk _ _).trans ((if_neg hm).trans hk))))⟩
  case replan =>
    have act {u : State} (h : replan t (x 0x0905) = u) : exec (.plnReplan d) s = .next (leave s u) :=
      exec_of_unnamed (fun _ => rfl) rfl hfind hA rfl (congrArg some ((guarded_none hk).trans h))
    exact ⟨fun h => act (replan_none h), fun r h => act (replan_some h)⟩
  case wait =>
    refine exec_of_now (c := .gscWait d) (fun _ => rfl) rfl hfind hA hn (congrArg some ?_)
    dsimp only
    rw [hh, guarded_none rfl]
    exact waitAccept_joins (t := t) hc hf ht hr he
  case darn =>
    exact exec_of_unnamed (c := .hltDarn d) (fun _ => rfl) rfl hfind hA rfl (congrArg some ((guarded_none hk).trans (hltDarn_named hname)))
  case test =>
    exact exec_of_unnamed (c := .hltTest d) (fun _ => rfl) rfl hfind hA rfl
      ((actNow_test rfl hk hp).trans (congrArg some (hltTest_named hname)))
  case shared =>
    have arrivals : ∀ r ∈ [(Instr.sweHeadCal d, 0x0601), (.prfStop d, 0x0803), (.gscWait d, 0x0C07)],
        Arrives r.1 r.2 d ∧ opcodes.contains r.2 = true := by
      repeat refine List.forall_mem_cons.2 ⟨⟨fun _ => rfl, rfl⟩, ?_⟩
      exact fun _ h => absurd h List.not_mem_nil
    obtain ⟨hc, ho⟩ := arrivals _ hrow
    rw [exec_of_admitted hc ho hfind hA, dispatch_listed hA (.inl hn)]

end Sys2Proof.Machine
end

section
namespace Sys2Proof.Machine

/-! ### A descriptor at its boundary (R30, R34) -/

/-- The opcodes whose effect at the boundary has a rule of its own, apart from the common path. -/
def ownPathOps : List Nat := [0x0B00, 0x0B01, 0x0B02, 0x1001, 0x1100, 0x1101]

/-- An opcode whose effect at the boundary is that of the common path. -/
def PlainOp (op : Nat) : Prop := nowOps.contains op = false ∧ ownPathOps.contains op = false

/-- The common path after the read that a PROBLEM_BIND makes: the rules, then the effect. -/
def plainEffect (w : State) (x : Acc) : State :=
  match immCheck w x with
  | some (st, named) => complete w x st 0 named
  | none =>
    if x.op = 0x0002 ∧ hCls (tgt x.d) = cRING then destroyRing w x
    else if x.op = 0x0D00 then complete (ringCreate w x).1 x stOK (ringCreate w x).2 0
    else immApply w x

/-- A descriptor whose handles no longer name what they must completes as R28 says. -/
theorem immEffect_handles {u : State} {x : Acc} {r : Refuse} (h : handlesRefuse u x (liveHandle u) = some r) :
    immEffect u x = complete u x r.1 0 r.2 := by
  simp [immEffect, h]

theorem partsAsleep_of_none {u : State} {x : Acc} (h : gatedParts u x = []) : partsAsleep u x = false := by
  simp [partsAsleep, h]

/-- A PROBLEM_BIND needs no gated part. -/
theorem gatedParts_bind {u : State} {x : Acc} (h : x.op = 0x0902) : gatedParts u x = [] := by
  simp [gatedParts, h]

/-- Only a PROBLEM_BIND reads the kept copy of a block (R276). -/
theorem copyRead_of_ne {u : State} {x : Acc} (h : x.op ≠ 0x0902) : copyRead u x = u := by
  simp [copyRead, h]

theorem gatedParts_copyRead {u : State} {x : Acc} (h : gatedParts u x = []) : gatedParts (copyRead u x) x = [] := by
  by_cases ho : x.op = 0x0902
  · exact gatedParts_bind ho
  · rw [copyRead_of_ne ho, h]

/-- With its handles live and every part awake, a plain descriptor takes the common path. -/
theorem immEffect_plain {u : State} {x : Acc} (ho : PlainOp x.op) (hh : handlesRefuse u x (liveHandle u) = none)
    (hg : gatedParts u x = []) : immEffect u x = plainEffect (copyRead u x) x := by
  obtain ⟨hn, hp⟩ := ho
  unfold immEffect
  rw [hh]
  dsimp only
  split
  case h_7 =>
    rw [actNow_eq_none hn, partsAsleep_of_none hg, gatedParts_copyRead hg]
    rfl
  all_goals simp_all [ownPathOps]

theorem plainEffect_refused {w : State} {x : Acc} {st named : Nat} (h : immCheck w x = some (st, named)) :
    plainEffect w x = complete w x st 0 named := by
  simp [plainEffect, h]

/-- A plain descriptor that its rules refuse completes with that refusal. -/
theorem immEffect_refused {u : State} {x : Acc} {st named : Nat} (ho : PlainOp x.op) (hb : x.op ≠ 0x0902)
    (hh : handlesRefuse u x (liveHandle u) = none) (hg : gatedParts u x = []) (hk : immCheck u x = some (st, named)) :
    immEffect u x = complete u x st 0 named := by
  rw [immEffect_plain ho hh hg, copyRead_of_ne hb, plainEffect_refused hk]

/-- A plain descriptor without refusal is applied. -/
theorem immEffect_applies {u : State} {x : Acc} (hfit : Fit u x) (ho : PlainOp x.op) (hb : x.op ≠ 0x0902) (hc : x.op ≠ 0x0D00)
    (hd : x.op = 0x0002 → hCls (tgt x.d) ≠ cRING) : immEffect u x = immApply u x := by
  obtain ⟨hh, hg, hk⟩ := hfit
  have : ¬(x.op = 0x0002 ∧ hCls (tgt x.d) = cRING) := fun h => hd h.1 h.2
  rw [immEffect_plain ho hh hg, copyRead_of_ne hb]
  simp only [plainEffect, hk, if_neg this, if_neg hc]

/-- The index that a create takes from the free list of its class. -/
theorem allocObj_taken {u : State} {c i creator : Nat} {f : FreeList} (h : classFree c (freeList u c) = some (i, f)) :
    allocObj u c creator none = some (i, indexTaken u c i f creator) := by
  simp [allocObj, h, indexTaken]

/-- A descriptor that sets an object, and whose result keeps the budgets, completes with OK. -/
theorem immApply_set {u : State} {x : Acc} (hc : createClass x.op = none)
    (hb : budgetRefuse (ownApply u x (tIdx x.d)) x = none) :
    immApply u x = complete (ownApply u x (tIdx x.d)) x stOK 0 (okDetail (ownApply u x (tIdx x.d)) x (tIdx x.d)) := by
  simp [immApply, hc, hb]

theorem immApply_overBudget {u : State} {x : Acc} {st named : Nat} (hc : createClass x.op = none)
    (hb : budgetRefuse (ownApply u x (tIdx x.d)) x = some (st, named)) :
    immApply u x = complete u x st 0 named := by
  simp [immApply, hc, hb]

/-- A create takes its index, makes its object, and returns its handle. -/
theorem immApply_create {u : State} {x : Acc} {c i : Nat} {f : FreeList} (hc : createClass x.op = some c)
    (hf : classFree c (freeList u c) = some (i, f))
    {t : State} (ht : ownApply (indexTaken u c i f (fnOf x.req)) x i = t) (hb : budgetRefuse t x = none) :
    immApply u x = complete t x stOK (handleOf t c i) (okDetail t x i) := by
  simp [immApply, hc, allocObj_taken hf, ht, hb]

/-! ### Creates -/

/-- The opcodes of R402 that create an object of a class with a free list. -/
def createOps : List Nat :=
  [0x0003, 0x0004, 0x0200, 0x0400, 0x0500, 0x0800, 0x0805, 0x0A03, 0x0A04, 0x0C00, 0x0C03, 0x0C04, 0x0E00, 0x0F00]

theorem mem_createOps {op c : Nat} (h : createClass op = some c) : op ∈ createOps := by
  unfold createClass at h
  split at h <;> simp_all [createOps]

/-- A create takes the common path, and is no bind, no destroy and no RING_CREATE. -/
theorem create_plain {op c : Nat} (h : createClass op = some c) : PlainOp op ∧ op ≠ 0x0902 ∧ op ≠ 0x0D00 ∧ op ≠ 0x0002 := by
  have : ∀ o ∈ createOps, PlainOp o ∧ o ≠ 0x0902 ∧ o ≠ 0x0D00 ∧ o ≠ 0x0002 := by unfold PlainOp; decide
  exact this op (mem_createOps h)

theorem gatedParts_create {u : State} {x : Acc} {c : Nat} (h : createClass x.op = some c) : gatedParts u x = [] := by
  have hm := mem_createOps h
  unfold gatedParts
  dsimp only
  split
  · rfl
  · split <;> simp_all [createOps]

/-- The create of a fitting descriptor, through the state that its effect makes. -/
theorem immEffect_create {u : State} {x : Acc} {c i : Nat} {f : FreeList} (hfit : Fit u x) (hc : createClass x.op = some c)
    (hf : classFree c (freeList u c) = some (i, f)) {t : State}
    (ht : ownApply (indexTaken u c i f (fnOf x.req)) x i = t) (hb : budgetRefuse t x = none) {detail : Nat}
    (hd : okDetail t x i = detail) : immEffect u x = complete t x stOK (handleOf t c i) detail := by
  obtain ⟨hp, h1, h2, h3⟩ := create_plain hc
  rw [immEffect_applies hfit hp h1 h2 (fun h => absurd h h3), immApply_create hc hf ht hb, hd]

/-- In DORMANT a create is refused with MODE (R32). -/
theorem immCheck_dormant {u : State} {x : Acc} {c : Nat} (hm : u.md.mode = .dormant) (ht : targetHeld u x = none)
    (hc : createClass x.op = some c) : immCheck u x = some rMODE := by
  simp [immCheck, ht, ownCheck, dormantRefuses, hm, hc]

/-- A FLOW_CREATE names nothing. -/
theorem handlesRefuse_flow {u : State} {x : Acc} {ok : Nat → Bool} (ho : x.op = 0x0C03) (ht : tgt x.d = 0) :
    handlesRefuse u x ok = none := by
  simp [handlesRefuse, ht, opHandles, ho, handleRefuse]

theorem targetHeld_flow {u : State} {x : Acc} (ho : x.op = 0x0C03) (ht : tgt x.d = 0) : targetHeld u x = none := by
  simp [targetHeld, ht, darnHeld, coreHeld, ho, namedHandles, opHandles]

/-- Without a free index a FLOW_CREATE is refused with NO_RESOURCE (R29). -/
theorem immCheck_flow_full {u : State} {x : Acc} (ho : x.op = 0x0C03) (ht : tgt x.d = 0) (hp : x.d.payload = 0)
    (hm : u.md.mode ≠ .dormant) (hf : classFree cFLOW (freeList u cFLOW) = none) : immCheck u x = some rNORES := by
  simp [immCheck, targetHeld_flow ho ht, ownCheck, dormantRefuses, hm, ownRules, ho, hp, firstRefuse, hasFree, hf]

theorem budgetRefuse_eq_none {t : State} {x : Acc} (h : [0x0701, 0x0702, 0x0902, 0x0A01, 0x0A03, 0x0A04].contains x.op = false) :
    budgetRefuse t x = none := by
  unfold budgetRefuse
  split <;> simp_all

theorem okDetail_eq_zero {t : State} {x : Acc} (h : [0x0E00, 0x0E01].contains x.op = false) (i : Nat) : okDetail t x i = 0 := by
  unfold okDetail
  split <;> simp_all

end Sys2Proof.Machine
end

section
namespace Sys2Proof.Machine

/-! ### What creates make (R402) -/

/-- A create of a class that bears on no budget makes its object and completes with OK, the handle, and no detail. -/
theorem immEffect_create_free {u : State} {x : Acc} {c i o : Nat} {f : FreeList} (hfit : Fit u x)
    (hc : createClass x.op = some c) (hf : classFree c (freeList u c) = some (i, f)) (hop : x.op = o)
    (hb : [0x0701, 0x0702, 0x0902, 0x0A01, 0x0A03, 0x0A04].contains o = false) (hd : [0x0E00, 0x0E01].contains o = false)
    {t : State} (ht : ownApply (indexTaken u c i f (fnOf x.req)) x i = t) :
    immEffect u x = complete t x stOK (handleOf t c i) 0 :=
  immEffect_create hfit hc hf ht (budgetRefuse_eq_none (hop ▸ hb)) (okDetail_eq_zero (hop ▸ hd) i)

/-- A new channel whose stream is not a converter's entry takes its record alone. -/
theorem cchanPlace_new {v : State} {i : Nat} {d : Desc} (h : mget v.cchans i = none) (hs : pf d 16 1 ≠ 3) :
    cchanPlace v i d =
      { v with
        cchans := mput v.cchans i
          { cfg := chCfgOf d, scale := scaleOf (pf d 32 32), pair := (findPair v (chCfgOf d)).getD 0, since := v.time.frame,
            order := v.cnv.made, settleLeft := 18 }
        cnv := { v.cnv with made := v.cnv.made + 1 } } := by
  have hc : (chCfgOf d).source ≠ 3 := hs
  simp [cchanPlace, h, hc, modCnv]

/-- The create of a guard's track or zone is subject to the guard's capacity in the state that results (R331). -/
theorem budgetRefuse_guard {t : State} {x : Acc} (ho : x.op = 0x0A03 ∨ x.op = 0x0A04) : budgetRefuse t x = capacityRefuse t := by
  rcases ho with ho | ho <;> simp [budgetRefuse, ho]

@[simp] theorem traceOf_base (v : State) (d : Desc) (b : Nat) : (traceOf v d b).base = b := rfl

/-- The offset of a new trace channel in BAR4 is the detail of its completion. -/
theorem okDetail_trace {v : State} {x : Acc} {i b : Nat} (ho : x.op = 0x0E00) :
    okDetail { v with mem := { v.mem with traces := mput v.mem.traces i (traceOf v x.d b) } } x i = b := by
  simp only [okDetail, ho, traceAt, mgetD_mput_self, traceOf_base]

/-- Settles O52: a create takes the common path of the boundary, where its effect goes by its opcode. -/
theorem createsTakeEffect : Obligations.CreatesTakeEffect := by
  unfold Obligations.CreatesTakeEffect
  intro u x d
  refine ⟨?dormant, ?refused, ?full, ?made⟩
  case dormant =>
    intro hm hh ht hc
    obtain ⟨c, hc⟩ := Option.isSome_iff_exists.mp hc
    obtain ⟨hp, hb, -, -⟩ := create_plain hc
    exact immEffect_refused hp hb hh (gatedParts_create hc) (immCheck_dormant hm ht hc)
  case refused =>
    intro hh hg hc st h hk
    obtain ⟨c, hc⟩ := Option.isSome_iff_exists.mp hc
    obtain ⟨hp, hb, -, -⟩ := create_plain hc
    exact immEffect_refused hp hb hh hg hk
  case full =>
    intro ho ht hp hm hf
    have hc : createClass x.op = some cFLOW := by rw [ho]; rfl
    obtain ⟨hplain, hb, -, -⟩ := create_plain hc
    exact immEffect_refused hplain hb (handlesRefuse_flow ho ht) (gatedParts_create hc) (immCheck_flow_full ho ht hp hm hf)
  case made =>
    intro hfit c hc i f hf v made
    have free {o : Nat} (hop : x.op = o) := immEffect_create_free hfit hc hf hop
    refine ⟨fun ho => free ho rfl rfl ?arm, fun ho => free ho rfl rfl ?joint, fun ho => free ho rfl rfl ?source, ?conversion,
      fun ho => free ho rfl rfl ?feedback, fun ho => free ho rfl rfl ?profile, fun ho => free ho rfl rfl ?gear, ?track, ?zone,
      fun ho => free ho rfl rfl ?node, fun ho => free ho rfl rfl ?flow, fun ho => free ho rfl rfl ?delay, ?trace,
      fun ho => free ho rfl rfl ?mailbox⟩
    case arm => simp only [ownApply, ho, armNew, modRegion]; rfl
    case joint => simp only [ownApply, ho, jointNew, swBind, modSw]; rfl
    case source | gear => simp only [ownApply, ho]; rfl
    case feedback => simp only [ownApply, ho]; rfl
    case profile => simp only [ownApply, ho, prfNew]; rfl
    case node | flow | delay => simp only [ownApply, ho, modGsc]; rfl
    case mailbox => simp only [ownApply, ho, modMbx]; rfl
    case conversion =>
      intro ho hn hs y
      exact free ho rfl rfl (by simp only [ownApply, ho]; exact cchanPlace_new hn hs)
    case track =>
      intro ho t hcap
      exact immEffect_create hfit hc hf (by simp only [ownApply, ho]; rfl) ((budgetRefuse_guard (.inl ho)).trans hcap)
        (okDetail_eq_zero (by rw [ho]; rfl) i)
    case zone =>
      intro ho t hcap
      exact immEffect_create hfit hc hf (by simp only [ownApply, ho]; rfl) ((budgetRefuse_guard (.inr ho)).trans hcap)
        (okDetail_eq_zero (by rw [ho]; rfl) i)
    case trace =>
      intro ho b
      exact immEffect_create hfit hc hf (by simp only [ownApply, ho]; rfl) (budgetRefuse_eq_none (by rw [ho]; rfl))
        (okDetail_trace ho)

end Sys2Proof.Machine
end

section
namespace Sys2Proof.Machine

/-! ### Settings of existing objects (R402) -/

/-- The opcodes that set an existing object at a boundary through the common path, PROBLEM_BIND aside. -/
def settingOps : List Nat :=
  [0x0005, 0x0201, 0x0401, 0x0501, 0x0502, 0x0600, 0x0701, 0x0702, 0x0703, 0x0801, 0x0802, 0x0804, 0x0806, 0x0900, 0x0903, 0x0904,
   0x0A00, 0x0A01, 0x0A02, 0x0A05, 0x0C01, 0x0C02, 0x0C05, 0x0D01, 0x0E01, 0x0E02]

/-- A setting takes the common path and makes nothing. -/
theorem setting_plain {o : Nat} (h : o ∈ settingOps) :
    PlainOp o ∧ o ≠ 0x0902 ∧ o ≠ 0x0D00 ∧ o ≠ 0x0002 ∧ createClass o = none := by
  have : ∀ o ∈ settingOps, PlainOp o ∧ o ≠ 0x0902 ∧ o ≠ 0x0D00 ∧ o ≠ 0x0002 ∧ createClass o = none := by
    unfold PlainOp
    decide
  exact this o h

/-- A setting whose result keeps the budgets takes effect and completes with OK. -/
theorem immEffect_set {u t : State} {x : Acc} {detail : Nat} (hfit : Fit u x) (hop : x.op ∈ settingOps)
    (ht : ownApply u x (tIdx x.d) = t) (hb : budgetRefuse t x = none) (hd : okDetail t x (tIdx x.d) = detail) :
    immEffect u x = complete t x stOK 0 detail := by
  obtain ⟨hp, h1, h2, h3, hc⟩ := setting_plain hop
  rw [immEffect_applies hfit hp h1 h2 (fun h => absurd h h3), immApply_set hc (ht ▸ hb), ht, hd]

/-- A setting that bears on no budget takes effect and completes with OK and no detail. -/
theorem immEffect_set_free {u t : State} {x : Acc} {o : Nat} (hfit : Fit u x) (hop : x.op = o) (hs : o ∈ settingOps)
    (hb : [0x0701, 0x0702, 0x0902, 0x0A01, 0x0A03, 0x0A04].contains o = false) (hd : [0x0E00, 0x0E01].contains o = false)
    (ht : ownApply u x (tIdx x.d) = t) : immEffect u x = complete t x stOK 0 0 :=
  immEffect_set hfit (hop ▸ hs) ht (budgetRefuse_eq_none (hop ▸ hb)) (okDetail_eq_zero (hop ▸ hd) _)

/-- A swap is subject to the core's budget in the state that results (R201). -/
theorem budgetRefuse_swap {t : State} {x : Acc} (ho : x.op = 0x0701) (h : drvBudgetOk t (pf x.d 16 1) = true) :
    budgetRefuse t x = none := by
  simp [budgetRefuse, ho, h]

theorem budgetRefuse_drvBind {t : State} {x : Acc} (ho : x.op = 0x0702)
    (h : pf x.d 20 4 = 0 ∨ drvBudgetOk t (pf x.d 16 1) = true) : budgetRefuse t x = none := by
  simp [budgetRefuse, ho, h]

theorem budgetRefuse_capsule {t : State} {x : Acc} (ho : x.op = 0x0A01) (h : bit (pf x.d 18 1) 0 = false ∨ capacityRefuse t = none) :
    budgetRefuse t x = none := by
  rcases h with h | h <;> simp [budgetRefuse, ho, h]

theorem okDetail_traceSet {t : State} {x : Acc} (ho : x.op = 0x0E01) (i : Nat) : okDetail t x i = (traceAt t (tIdx x.d)).base := by
  simp only [okDetail, ho]

/-- A changed entry of a map reads as its changed value. -/
theorem mget_mmod_self {α : Type} (m : Map α) (k : Nat) (f : α → α) : mget (mmod m k f) k = (mget m k).map f := by
  induction m with
  | nil => rfl
  | cons e m ih =>
    obtain ⟨j, v⟩ := e
    unfold mmod at ih ⊢
    by_cases hj : j = k
    · simp [mget, hj]
    · simp only [List.map_cons, if_neg hj, mget, ih]
      split <;> rfl

/-- A re-armed trace channel waits for its pre-trigger part, or for its trigger when it has none (R491). -/
theorem traceRearm_st {u : State} {i : Nat} {y : Trace} (h : mget u.mem.traces i = some y) :
    (traceAt (traceRearm u i) i).st = if tracePre y = 0 then 2 else 1 := by
  simp [traceAt, traceRearm, modTrace, modMem, mgetD, mget_mmod_self, h]

/-! ### The binding of a problem (R276) -/

theorem bind_plain : PlainOp 0x0902 := by
  unfold PlainOp
  decide

/-- A PROBLEM_BIND is judged and applied after the read of the block's copy. -/
theorem immEffect_bind {u : State} {x : Acc} (hfit : Fit u x) (ho : x.op = 0x0902) (hk : immCheck (copyRead u x) x = none) :
    immEffect u x = immApply (copyRead u x) x := by
  obtain ⟨hh, hg, -⟩ := hfit
  rw [immEffect_plain (ho ▸ bind_plain) hh hg]
  simp [plainEffect, hk, ho]

/-- Only the binding to a gang reads the copy. -/
theorem copyRead_unbind {u : State} {x : Acc} (h : pf x.d 16 2 = 0xFFFF) : copyRead u x = u := by
  simp [copyRead, h]

theorem ownApply_bind {w : State} {x : Acc} (ho : x.op = 0x0902) (i : Nat) : ownApply w x i = problemBind w x.d := by
  simp only [ownApply, ho]

theorem problemBind_unbinds {w : State} {d : Desc} (h : pf d 16 2 = 0xFFFF) : problemBind w d = unbindProblem w (tIdx d) := by
  simp [problemBind, h]

theorem problemBind_binds {w : State} {d : Desc} (h : pf d 16 2 ≠ 0xFFFF) (hb : (probAt w (tIdx d)).bound ≠ some (pf d 16 2)) :
    problemBind w d = bindTo w (tIdx d) (pf d 16 2) := by
  simp [problemBind, h, hb]

theorem createClass_bind {x : Acc} (ho : x.op = 0x0902) : createClass x.op = none := by
  rw [ho]
  rfl

/-- Unbinding keeps every budget, and completes with OK. -/
theorem immEffect_unbind {u : State} {x : Acc} (hfit : Fit u x) (ho : x.op = 0x0902) (h : pf x.d 16 2 = 0xFFFF) :
    immEffect u x = complete (unbindProblem u (tIdx x.d)) x stOK 0 0 := by
  have hw := copyRead_unbind (u := u) h
  have ht := (ownApply_bind ho (tIdx x.d)).trans (problemBind_unbinds (w := u) h)
  have hb : budgetRefuse (unbindProblem u (tIdx x.d)) x = none := by simp [budgetRefuse, ho, h]
  obtain ⟨-, -, hk⟩ := id hfit
  rw [immEffect_bind hfit ho (hw.symm ▸ hk), hw, immApply_set (createClass_bind ho) (ht ▸ hb), ht,
    okDetail_eq_zero (by rw [ho]; rfl)]

/-- Binding to a gang whose budget holds completes with OK, and is undone with NO_RESOURCE where it does not hold. -/
theorem immEffect_bind_to {u : State} {x : Acc} (hfit : Fit u x) (ho : x.op = 0x0902) (h : pf x.d 16 2 ≠ 0xFFFF)
    (hk : immCheck (copyRead u x) x = none) (hb : (probAt (copyRead u x) (tIdx x.d)).bound ≠ some (pf x.d 16 2)) :
    let t := bindTo (copyRead u x) (tIdx x.d) (pf x.d 16 2)
    (gangBudgetOk t (pf x.d 16 2) = true → immEffect u x = complete t x stOK 0 0) ∧
    (gangBudgetOk t (pf x.d 16 2) = false → immEffect u x = complete (copyRead u x) x stNORES 0 0) := by
  intro t
  have ht : ownApply (copyRead u x) x (tIdx x.d) = t := (ownApply_bind ho _).trans (problemBind_binds h hb)
  rw [immEffect_bind hfit ho hk]
  constructor
  · intro hg
    have hn : budgetRefuse t x = none := by simp [budgetRefuse, ho, hg]
    rw [immApply_set (createClass_bind ho) (ht ▸ hn), ht, okDetail_eq_zero (by rw [ho]; rfl)]
  · intro hg
    have hn : budgetRefuse t x = some (stNORES, 0) := by simp [budgetRefuse, ho, h, hg, rNORES]
    exact immApply_overBudget (createClass_bind ho) (ht ▸ hn)

/-! ### The effects of settings that are not written as they are defined -/

theorem sweSet_joint {u : State} {d : Desc} {j : Joint} (h : mget u.joints (tIdx d) = some j) :
    sweSet u d = modSw u j.swch fun w =>
      { w with cfg := swCfgOf d, legs := w.legs.map fun l => { l with hEff := (swCfgOf d).band, short := false } } := by
  simp [sweSet, h]

/-- An edge is taken away, or joined once (R363). -/
theorem edgeSet_eq (u : State) (d : Desc) :
    edgeSet u d = modNode u (tIdx d) fun n =>
      { n with edges := if pf d 20 4 = 0 then n.edges.filter fun e => decide (e.out ≠ pf d 16 1)
        else if n.edges.contains (edgeOf d) then n.edges else n.edges ++ [edgeOf d] } := by
  unfold edgeSet
  congr 1
  funext n
  split
  · rfl
  · split <;> rfl

/-- Settles O53: a setting takes the common path of the boundary, where its effect goes by its opcode. -/
theorem settingsTakeEffect : Obligations.SettingsTakeEffect := by
  unfold Obligations.SettingsTakeEffect
  intro u x hfit d i done
  have free {o : Nat} {t : State} (ho : x.op = o) (hs : o ∈ settingOps) := immEffect_set_free (t := t) hfit ho hs
  have charged {o : Nat} {t : State} {detail : Nat} (ho : x.op = o) (hs : o ∈ settingOps) :=
    immEffect_set (t := t) (detail := detail) hfit (ho ▸ hs)
  refine ⟨?scale, ?designate, ?channel, ?feedback, ?position, ?switching, ?swap, ?drvBind, ?param, ?profile, ?queue, ?home, ?gear, ?gang,
    ?bind, ?words, ?branch, ?kin, ?capsule, ?stop, ?zone, ?node, ?edge, ?delay, ?trace, ?trigger, ?rearm⟩
  case scale | designate | channel | feedback | position | param | profile | home | gear |
      gang | words | branch | kin | stop | zone | node =>
    exact fun ho => free ho (by decide) rfl rfl (by simp only [ownApply, ho]; rfl)
  case switching =>
    intro ho j hj w w'
    exact free ho (by decide) rfl rfl (by simp only [ownApply, ho]; exact sweSet_joint hj)
  case swap =>
    intro ho t hb
    exact charged ho (by decide) (by simp only [ownApply, ho]; rfl) (budgetRefuse_swap ho hb) (okDetail_eq_zero (by rw [ho]; rfl) _)
  case drvBind =>
    intro ho j t hb
    exact charged ho (by decide) (by simp only [ownApply, ho]; rfl) (budgetRefuse_drvBind ho hb) (okDetail_eq_zero (by rw [ho]; rfl) _)
  case queue =>
    intro ho
    refine ⟨_, ?_, ?_, ?_, ?_, ?_, ?_, free ho (by decide) rfl rfl (by simp only [ownApply, ho]; rfl)⟩ <;> rfl
  case bind =>
    intro ho
    refine ⟨immEffect_unbind hfit ho, ?_⟩
    intro h _ w t hk hb
    exact immEffect_bind_to hfit ho h hk hb
  case capsule =>
    intro ho c t hb
    exact charged ho (by decide) (by simp only [ownApply, ho]; rfl) (budgetRefuse_capsule ho hb) (okDetail_eq_zero (by rw [ho]; rfl) _)
  case edge =>
    intro ho e edit
    exact free ho (by decide) rfl rfl (by simp only [ownApply, ho]; exact edgeSet_eq u d)
  case delay =>
    exact fun ho =>
      ⟨fun h => free ho (by decide) rfl rfl (by simp only [ownApply, ho, delayArm]; exact if_pos h),
       fun h => free ho (by decide) rfl rfl (by simp only [ownApply, ho, delayArm]; exact if_neg h)⟩
  case trace =>
    intro ho t
    exact charged ho (by decide) (by simp only [ownApply, ho]; rfl) (budgetRefuse_eq_none (by rw [ho]; rfl)) (okDetail_traceSet ho _)
  case trigger =>
    intro ho h
    have hne : pf x.d 16 1 ≠ 1 := by rw [h]; decide
    exact free ho (by decide) rfl rfl (by simp only [ownApply, ho, traceTrigger]; exact if_neg hne)
  case rearm =>
    intro ho h
    exact ⟨free ho (by decide) rfl rfl (by simp only [ownApply, ho, traceTrigger]; exact if_pos h), fun y hy => traceRearm_st hy⟩

end Sys2Proof.Machine
end

section
namespace Sys2Proof.Machine

/-! ### Rings (R404, R410 to R412) -/

theorem ringCreate_plain : PlainOp 0x0D00 := by
  unfold PlainOp
  decide

theorem destroy_plain : PlainOp 0x0002 := by
  unfold PlainOp
  decide

/-- A RING_CREATE without refusal makes its ring and completes with its handle. -/
theorem immEffect_ringCreate {u : State} {x : Acc} (hfit : Fit u x) (ho : x.op = 0x0D00) :
    immEffect u x = complete (ringCreate u x).1 x stOK (ringCreate u x).2 0 := by
  obtain ⟨hh, hg, hk⟩ := hfit
  rw [immEffect_plain (ho ▸ ringCreate_plain) hh hg, copyRead_of_ne (by simp [ho])]
  simp [plainEffect, hk, ho]

/-- A new ring takes its index, UP, as its payload says. -/
theorem ringCreate_taken {u : State} {x : Acc} {n : Nat} {f : FreeList} (h : ringFree u (decide (pf x.d 16 1 = 2)) = some (n, f)) :
    let r : Ring :=
      { st := .up, owner := fnOf x.req, vector := pf x.d 19 1, weight := if pf x.d 20 1 = 0 then 4 else pf x.d 20 1,
        coalCount := if pf x.d 21 1 = 0 then 1 else pf x.d 21 1, coalTimeUs := pf x.d 22 2, baseA := pf x.d 24 8,
        baseC := pf x.d 32 8, log2a := pf x.d 17 1, log2c := if decide (pf x.d 16 1 = 2) then 4 else pf x.d 18 1,
        dbErr := (ringAt u n).dbErr }
    ringCreate u x =
      ({ u with frees := mput u.frees (ringClass (decide (pf x.d 16 1 = 2))) f,
                host := { u.host with rings := mput u.host.rings n r } }, handleOf u cRING n) := by
  simp only [ringCreate, h]
  rfl

/-- A DESTROY of a ring that meets no refusal takes the ring's own path. -/
theorem immEffect_destroyRing {u : State} {x : Acc} (hfit : Fit u x) (ho : x.op = 0x0002) (hc : hCls (tgt x.d) = cRING) :
    immEffect u x = destroyRing u x := by
  obtain ⟨hh, hg, hk⟩ := hfit
  rw [immEffect_plain (ho ▸ destroy_plain) hh hg, copyRead_of_ne (by simp [ho])]
  simp [plainEffect, hk, ho, hc]

theorem destroyRing_pair {u : State} {x : Acc} (h : tIdx x.d < 256) : destroyRing u x = drainPair u (tIdx x.d) (some x) := by
  simp [destroyRing, h]

theorem destroyRing_events {u : State} {x : Acc} (h : 256 ≤ tIdx x.d) :
    destroyRing u x = complete (raise (ringDown u (tIdx x.d)) .hstRingDown (handleOf u cRING (tIdx x.d)) 1
      (oHST (ringAt u (tIdx x.d)).owner)) x stOK 0 0 := by
  simp [destroyRing, Nat.not_lt.mpr h]

/-- A draining pair fetches nothing more. -/
theorem ringAt_drainPair (u : State) (p : Nat) (by_ : Option Acc) :
    (ringAt (drainPair u p by_) p).st = .draining ∧ (ringAt (drainPair u p by_) p).waiting = [] := by
  simp [drainPair, ringAt_modRing]

theorem ringAt_ringDown (u : State) (i : Nat) : (ringAt (ringDown u i) i).st = .down := by
  simp [ringDown, ringAt_modRing]

/-! ### The destruction of objects (R33) -/

/-- A DESTROY needs no gated part. -/
theorem gatedParts_destroy {u : State} {x : Acc} (ho : x.op = 0x0002) : gatedParts u x = [] := by
  simp [gatedParts, ho]

/-- A DESTROY of an object without references takes its record away and frees its index. -/
theorem immEffect_destroy {u : State} {x : Acc} (hfit : Fit u x) (ho : x.op = 0x0002) (hc : hCls (tgt x.d) ≠ cRING) :
    immEffect u x = complete (destroyObj u x.d) x stOK 0 0 := by
  have hop : ownApply u x (tIdx x.d) = destroyObj u x.d := by simp only [ownApply, ho]
  have hb : budgetRefuse (ownApply u x (tIdx x.d)) x = none := budgetRefuse_eq_none (by rw [ho]; rfl)
  rw [immEffect_applies hfit (ho ▸ destroy_plain) (by simp [ho]) (by simp [ho]) (fun _ => hc),
    immApply_set (by rw [ho]; rfl) hb, hop, okDetail_eq_zero (by rw [ho]; rfl)]

/-- A flow that a node refers to is BUSY with that node (R33). -/
theorem immCheck_destroyFlow {u : State} {x : Acc} {n : Nat} (ho : x.op = 0x0002) (hm : u.md.mode ≠ .dormant)
    (ht : targetHeld u x = none) (hp : x.d.payload = 0) (hc : hCls (tgt x.d) = cFLOW)
    (hn : (mkeys u.gsc.nodes fun _ z => decide (z.flow = some (tIdx x.d))).head? = some n) :
    immCheck u x = some (stBUSY, handleOf u cNODE n) := by
  have href : referrer u 9 (tIdx x.d) = some (handleOf u cNODE n) := by simp [referrer, hn]
  have hcls : hCls (tgt x.d) = 9 := hc
  simp [immCheck, ht, ownCheck, dormantRefuses, hm, ownRules, ho, destroyCheck, destroyChecks, firstRefuse, hp, hcls, href,
    cARM, cJOINT, cRING, cMBOX]

/-- Settles O54: rings take their own path of the boundary, other objects the common one. -/
theorem ringsAndDestroys : Obligations.RingsAndDestroys := by
  unfold Obligations.RingsAndDestroys
  intro u x hfit d i cls
  refine ⟨?create, ?route, ?drain, ?events, ?object, ?busy⟩
  case create =>
    intro ho ev n f hf r t
    rw [immEffect_ringCreate hfit ho, ringCreate_taken hf]
  case route =>
    intro ho y rt y'
    exact immEffect_set_free hfit ho (by decide) rfl rfl (by simp only [ownApply, ho]; rfl)
  case drain =>
    intro ho hc hi
    exact ⟨(immEffect_destroyRing hfit ho hc).trans (destroyRing_pair hi), ringAt_drainPair u i (some x)⟩
  case events =>
    intro ho hc hi
    exact ⟨(immEffect_destroyRing hfit ho hc).trans (destroyRing_events hi), ringAt_ringDown u i⟩
  case object =>
    intro ho hc g a
    exact immEffect_destroy hfit ho hc
  case busy =>
    intro y ho hm hh ht hp hc n hn
    exact immEffect_refused (ho ▸ destroy_plain) (by simp [ho]) hh (gatedParts_destroy ho)
      (immCheck_destroyFlow ho hm ht hp hc hn)

end Sys2Proof.Machine
end

section
namespace Sys2Proof.Machine

/-! ### What a completion leaves alone -/

/-- The state but for what completions and messages write: the rings, the interrupts' state and the records of the nodes. -/
def unreported (s : State) : State :=
  { s with host := { s.host with rings := [], msix := [], pba := [] }, gsc := { s.gsc with nodes := [] } }

@[simp] theorem unreported_modRing (s : State) (r : Nat) (f : Ring → Ring) : unreported (modRing s r f) = unreported s := rfl

@[simp] theorem unreported_sendMsix (s : State) (f v : Nat) : unreported (sendMsix s f v) = unreported s := by
  unfold sendMsix
  dsimp only
  repeat' split
  all_goals rfl

@[simp] theorem unreported_ringMessage (s : State) (r : Nat) : unreported (ringMessage s r) = unreported s := by
  simp [ringMessage]

@[simp] theorem unreported_notifyRing (s : State) (r : Nat) (urgent : Bool) : unreported (notifyRing s r urgent) = unreported s := by
  unfold notifyRing
  dsimp only
  split <;> simp

@[simp] theorem unreported_putCompletion (s : State) (pair : Nat) (c : Completion) : unreported (putCompletion s pair c) = unreported s := rfl

@[simp] theorem unreported_writeCompletion (s : State) (a : Acc) (status handle detail flags release : Nat) :
    unreported (writeCompletion s a status handle detail flags release) = unreported s := by
  unfold writeCompletion
  dsimp only
  split
  · rfl
  · split <;> simp

@[simp] theorem unreported_closeAcceptance (s : State) (a : Acc) : unreported (closeAcceptance s a) = unreported s := by
  unfold closeAcceptance
  dsimp only
  repeat' split
  all_goals rfl

@[simp] theorem unreported_complete (s : State) (a : Acc) (status handle detail : Nat) :
    unreported (complete s a status handle detail) = unreported s := by
  simp [complete]

@[simp] theorem complete_md (s : State) (a : Acc) (status handle detail : Nat) : (complete s a status handle detail).md = s.md :=
  congrArg (fun t => t.md) (unreported_complete s a status handle detail)

@[simp] theorem complete_flt (s : State) (a : Acc) (status handle detail : Nat) : (complete s a status handle detail).flt = s.flt :=
  congrArg (fun t => t.flt) (unreported_complete s a status handle detail)

/-! ### The region descriptors (R22, R402, R403) -/

theorem regionDescs_form {u : State} {x : Acc} (hh : handlesRefuse u x (liveHandle u) = none) (ho : x.op ≠ 0x1100)
    (hf : regionForm x = false) : regionDescs u [x] = ([], complete u x stRANGE 0 0) := by
  simp [regionDescs, hh, ho, hf]

/-- A well-formed region descriptor whose rule is `P` asks for its move where `P` holds, and completes with MODE where it does not. -/
theorem regionDescs_ruled {u : State} {x : Acc} {c : RegionCause} {P : Prop} [Decidable P]
    (hh : handlesRefuse u x (liveHandle u) = none) (ho : x.op ≠ 0x1100) (hf : regionForm x = true)
    (hc : regionAsks u x = if P then some c else none) :
    (P → regionDescs u [x] = ([(tIdx x.d, c)], u)) ∧ (¬ P → regionDescs u [x] = ([], complete u x stMODE 0 0)) := by
  constructor <;> intro hp <;> simp [regionDescs, hh, ho, hf, hc, hp]

/-- The payload of a region descriptor other than REGION_SERVICE is 0. -/
theorem regionForm_plain {x : Acc} (ho : x.op ≠ 0x0103) : regionForm x = decide (x.d.payload = 0) := by
  simp [regionForm, ho]

theorem regionForm_of_empty {x : Acc} (ho : x.op ≠ 0x0103) (hp : x.d.payload = 0) : regionForm x = true := by
  simp [regionForm_plain ho, hp]

theorem regionForm_service {x : Acc} (ho : x.op = 0x0103) (hb : onlyBytes x.d [(16, 2)] = true) :
    regionForm x = decide (pf x.d 16 2 ≤ 250) := by
  simp [regionForm, ho, hb]

section
variable {u : State} {x : Acc}

/-- What a REGION_RELEASE needs (R22). -/
theorem regionAsks_release (ho : x.op = 0x0100) :
    regionAsks u x =
      if regionSt u (tIdx x.d) = .safeOff ∧ (u.md.mode = .run ∨ u.md.mode = .hold) ∧ pinAccepted u = false ∧
          (regionAt u (tIdx x.d)).latched = [] ∧ standingSafeOff u (tIdx x.d) = none ∧ standingHold u (tIdx x.d) = [] ∧
          debugHolds u (tIdx x.d) = false
      then some { target := .hold, acc := some x, cap := 250 } else none := by
  simp [regionAsks, ho, and_assoc]

/-- What a REGION_RESUME needs (R22). -/
theorem regionAsks_resume (ho : x.op = 0x0101) :
    regionAsks u x =
      if regionSt u (tIdx x.d) = .hold ∧ u.md.mode = .run ∧ guardPassesStop u (tIdx x.d) = true ∧
          (regionAt u (tIdx x.d)).warmHeld = false ∧ debugHolds u (tIdx x.d) = false ∧ factoryOnly u = false
      then some { target := .active, acc := some x, cap := 250 } else none := by
  simp [regionAsks, ho, and_assoc]

theorem regionAsks_hold (ho : x.op = 0x0102) :
    regionAsks u x = if regionSt u (tIdx x.d) = .active then some { target := .hold, acc := some x, cap := 250 } else none := by
  simp [regionAsks, ho]

/-- The cap that a REGION_SERVICE asks for: 250 for 0 (R571). -/
def askedCap (x : Acc) : Nat := if pf x.d 16 2 = 0 then 250 else pf x.d 16 2

/-- What a REGION_SERVICE needs (R22); under factory service a region in SERVICE keeps its cap where that is lower. -/
theorem regionAsks_service (ho : x.op = 0x0103) :
    regionAsks u x =
      if regionSt u (tIdx x.d) = .hold ∨ regionSt u (tIdx x.d) = .service then
        some { target := .service, acc := some x,
               cap := if factoryOnly u = true ∧ regionSt u (tIdx x.d) = .service then Nat.min (askedCap x) (regionAt u (tIdx x.d)).cap
                 else askedCap x }
      else none := by
  simp [regionAsks, ho, askedCap]

/-- What a REGION_LEAVE_SERVICE needs (R22). -/
theorem regionAsks_leave (ho : x.op = 0x0104) :
    regionAsks u x =
      if regionSt u (tIdx x.d) = .service ∧ (u.md.mode = .run ∨ u.md.mode = .hold) ∧ debugHolds u (tIdx x.d) = false
      then some { target := .hold, acc := some x, cap := 250 } else none := by
  simp [regionAsks, ho, and_assoc]

end

/-! ### The settlement of a region's causes (R23) -/

@[simp] theorem setRegionState_st (s : State) (r : Nat) (t : RegionState) (cap : Nat) :
    regionSt (setRegionState s r t cap) r = t := by
  simp [setRegionState, modRegion, regionSt, regionAt]

/-- The one cause of a frame, a descriptor's, takes its region to its target. -/
theorem settleRegion_single {u : State} {r : Nat} {c : RegionCause} {x : Acc} (ha : c.acc = some x) (ht : c.target ≠ .empty)
    (hm : (regionAt u r).mendingBy = none) :
    settleRegion u r (regionSt u r) [c] = complete (setRegionState u r c.target c.cap) x stOK 0 0 := by
  have hcap : serviceCap [c] = c.cap := by simp [serviceCap, ha]
  simp [settleRegion, ha, ht, hm, hcap]

end Sys2Proof.Machine
end

section
namespace Sys2Proof.Machine

/-! ### One MODE_SET at a boundary (R499 to R501) -/

/-- The state in which a boundary's one MODE_SET is judged: it has left the queue, and the pin's work is taken. -/
def modeSetTaken (u : State) : State :=
  { u with md := { u.md with pinDue := false }, host := { u.host with imm := [] } }

/-- The mode step after the MODE_SETs have been judged: what stands and what was woken, and what forces the mode. -/
def modeChange (s : State) (valid : List Acc) (pin : Bool) : State :=
  let woken := if s.md.wakeDue then s.md.waking else []
  let forced := modeForced s pin
  if forced ≠ 0 then
    enterMode (modMd ((valid ++ s.md.waking).foldl (fun s a => modeSetFails s a 5) s) fun x => { x with waking := [], wakeDue := false })
      .safeOff forced 250
  else
    let top := (valid ++ woken).foldl (fun m a => Nat.max m (modeRank (modeSetTo a))) 0
    let win := (valid ++ woken).filter fun a => decide (modeRank (modeSetTo a) = top)
    let s := (valid.filter fun a => decide (modeRank (modeSetTo a) ≠ top)).foldl (fun s a => modeSetFails s a 5) s
    match win with
    | [] => s
    | a :: _ =>
      if s.md.mode = .dormant ∧ s.md.wakeDue = false then modMd s fun x => { x with waking := x.waking ++ win }
      else
        let prev := modeCode s.md.mode
        let s := enterMode (modMd s fun x => { x with waking := [], wakeDue := false }) (modeSetTo a) 1 (modeSetCap win)
        win.foldl (fun s a => modeSetOk s prev a) s

section
variable {u : State} {x : Acc} (ho : x.op = 0x0110) (hi : u.host.imm = [x]) (hf : u.flt.fatalDue = none)
include ho hi hf

/-- With one MODE_SET in the queue, the mode step judges it and makes the change that results. -/
theorem modeStep_one :
    modeStep u = modeChange (modeSetsValid (modeSetTaken u) [x]).2 (modeSetsValid (modeSetTaken u) [x]).1 u.md.pinDue := by
  have ht : takeImm (modMd u fun y => { y with pinDue := false }) [0x0110] = ([x], modeSetTaken u) := by
    simp [takeImm, modMd, modHost, hi, ho, modeSetTaken]
  simp only [modeStep, hf, ht]
  rfl

end

theorem modeSetsValid_form {q : State} {x : Acc} (h : modeSetForm x.d = false) :
    modeSetsValid q [x] = ([], complete q x stRANGE 0 0) := by
  simp [modeSetsValid, h]

theorem modeSetsValid_reason {q : State} {x : Acc} (h : modeSetForm x.d = true) (hk : modeReason q (modeSetTo x) ≠ 0) :
    modeSetsValid q [x] = ([], complete q x stMODE 0 (det8 (modeReason q (modeSetTo x)))) := by
  simp [modeSetsValid, h, hk, modeSetFails]

theorem modeSetsValid_stands {q : State} {x : Acc} (h : modeSetForm x.d = true) (hk : modeReason q (modeSetTo x) = 0) :
    modeSetsValid q [x] = ([x], q) := by
  simp [modeSetsValid, h, hk]

/-- Without a MODE_SET that stands, and with nothing that forces the mode, the mode stays. -/
theorem modeChange_nothing {s : State} {pin : Bool} (hw : s.md.waking = []) (hm : modeForced s pin = 0) : modeChange s [] pin = s := by
  simp [modeChange, hw, hm]

/-- A MODE_SET that stands in DORMANT waits for the power islands. -/
theorem modeChange_wakes {s : State} {pin : Bool} {x : Acc} (hw : s.md.waking = []) (hm : modeForced s pin = 0)
    (hd : s.md.mode = .dormant) (hn : s.md.wakeDue = false) :
    modeChange s [x] pin = { s with md := { s.md with waking := [x] } } := by
  simp [modeChange, hw, hm, hd, hn, modMd]

/-- The one MODE_SET that stands takes its mode and completes. -/
theorem modeChange_enters {s : State} {pin : Bool} {x : Acc} (hw : s.md.waking = []) (hm : modeForced s pin = 0)
    (hd : s.md.mode ≠ .dormant) :
    modeChange s [x] pin =
      modeSetOk (enterMode { s with md := { s.md with waking := [], wakeDue := false } } (modeSetTo x) 1 (modeSetCap [x]))
        (modeCode s.md.mode) x := by
  simp [modeChange, hw, hm, hd, modMd]

/-- A completion changes nothing that forces the mode. -/
@[simp] theorem modeForced_complete (q : State) (x : Acc) (status handle detail : Nat) (pin : Bool) :
    modeForced (complete q x status handle detail) pin = modeForced q pin := by
  simp [modeForced]

theorem modeSetCap_single {x : Acc} (h : modeSetForm x.d = true) : modeSetCap [x] = if pf x.d 18 2 = 0 then 250 else pf x.d 18 2 := by
  have hc : pf x.d 18 2 ≤ 250 := by
    simp only [modeSetForm, Bool.and_eq_true, decide_eq_true_eq] at h
    exact h.1.2
  simp only [modeSetCap, List.foldl_cons, List.foldl_nil]
  split
  · rfl
  · exact Nat.min_eq_right hc

section
variable {u : State} {x : Acc} (ho : x.op = 0x0110) (hi : u.host.imm = [x]) (hf : u.flt.fatalDue = none) (hw : u.md.waking = [])
  (hm : modeForced u u.md.pinDue = 0)
include ho hi hf hw hm

/-- A malformed MODE_SET completes with RANGE, and the mode stays. -/
theorem modeStep_malformed (h : modeSetForm x.d = false) : modeStep u = complete (modeSetTaken u) x stRANGE 0 0 := by
  rw [modeStep_one ho hi hf, modeSetsValid_form h]
  exact modeChange_nothing (by rw [complete_md]; exact hw) (by rw [modeForced_complete]; exact hm)

/-- A MODE_SET that R499 does not admit completes with MODE and its reason, and the mode stays. -/
theorem modeStep_unadmitted (h : modeSetForm x.d = true) (hk : modeReason (modeSetTaken u) (modeSetTo x) ≠ 0) :
    modeStep u = complete (modeSetTaken u) x stMODE 0 (det8 (modeReason (modeSetTaken u) (modeSetTo x))) := by
  rw [modeStep_one ho hi hf, modeSetsValid_reason h hk]
  exact modeChange_nothing (by rw [complete_md]; exact hw) (by rw [modeForced_complete]; exact hm)

theorem modeStep_wakes (h : modeSetForm x.d = true) (hk : modeReason (modeSetTaken u) (modeSetTo x) = 0) (hd : u.md.mode = .dormant)
    (hn : u.md.wakeDue = false) : modeStep u = { modeSetTaken u with md := { (modeSetTaken u).md with waking := [x] } } := by
  rw [modeStep_one ho hi hf, modeSetsValid_stands h hk]
  exact modeChange_wakes (s := modeSetTaken u) hw hm hd hn

theorem modeStep_enters (h : modeSetForm x.d = true) (hk : modeReason (modeSetTaken u) (modeSetTo x) = 0) (hd : u.md.mode ≠ .dormant) :
    modeStep u =
      modeSetOk (enterMode { modeSetTaken u with md := { (modeSetTaken u).md with waking := [], wakeDue := false } } (modeSetTo x) 1
        (if pf x.d 18 2 = 0 then 250 else pf x.d 18 2)) (modeCode u.md.mode) x := by
  rw [modeStep_one ho hi hf, modeSetsValid_stands h hk, ← modeSetCap_single h]
  exact modeChange_enters (s := modeSetTaken u) hw hm hd

end

end Sys2Proof.Machine
end

section
namespace Sys2Proof.Machine

/-! ### PRESS_OPEN (R339, R340) -/

theorem immEffect_pressOpen {u : State} {x : Acc} (hh : handlesRefuse u x (liveHandle u) = none) (ho : x.op = 0x0B00) :
    immEffect u x = pressOpenNow u x := by
  simp [immEffect, hh, ho]

theorem pressOpenNow_refused {u : State} {x : Acc} {st named : Nat} (h : pressOpenCheck u x = some (st, named)) :
    pressOpenNow u x = complete u x st 0 named := by
  simp [pressOpenNow, h]

/-- The lowest free host slot is the one that a PRESS_OPEN takes. -/
theorem pressOpen_lowest {u : State} {k : Nat} (h3 : 3 ≤ k) (h16 : k < 16) (hf : (pressAt u k).phase = .free)
    (hl : ∀ j, j < k → 3 ≤ j → (pressAt u j).phase ≠ .free) :
    3 + ((List.range 13).find? fun i => decide ((pressAt u (3 + i)).phase = .free)).getD 0 = k := by
  have : (List.range 13).find? (fun i => decide ((pressAt u (3 + i)).phase = .free)) = some (k - 3) := by
    rw [List.find?_range_eq_some]
    refine ⟨?_, by simp; omega, ?_⟩
    · simpa [Nat.add_sub_cancel' h3] using hf
    · intro j hj
      simpa using hl (3 + j) (by omega) (by omega)
  rw [this, Option.getD_some]
  omega

/-- The press that a PRESS_OPEN makes in a slot (R340). -/
def openedPress (u : State) (x : Acc) (k : Nat) : Press :=
  { phase := .open_, owner := x.req, patch := decide (pf x.d 16 1 = 2), kind := pf x.d 16 1, strict := bit (pf x.d 17 1) 0,
    hold := bit (pf x.d 17 1) 1, event := bit (pf x.d 17 1) 2, maxPivots := pf x.d 18 1, regions := pf x.d 20 2, pair := x.pair,
    lastCommitted := (pressAt u k).lastCommitted, lastReason := (pressAt u k).lastReason, lastFrame := (pressAt u k).lastFrame }

/-- A region that a held patch can keep in MENDING (R340). -/
def Mendable (u : State) (r : Nat) : Prop := regionSt u r = .mending ∨ causeMoves (regionSt u r) .mending = true

/-- A held patch takes one of its regions to MENDING, or leaves it where R22 has no such move. -/
def mendRegion (k : Nat) (s : State) (r : Nat) : State :=
  let x := regionAt s r
  if x.st = .mending ∨ causeMoves x.st .mending = true then
    modRegion (if x.st = .mending then s else setRegionState s r .mending 250) r fun x => { x with mendingBy := some k }
  else s

theorem pressOpenNow_opens {u : State} {x : Acc} {k : Nat} (hc : pressOpenCheck u x = none)
    (hk : 3 + ((List.range 13).find? fun i => decide ((pressAt u (3 + i)).phase = .free)).getD 0 = k) :
    pressOpenNow u x =
      let t := (if opensHeld x then maskList (pf x.d 20 2) 16 else []).foldl (mendRegion k)
        { u with presses := mput u.presses k (openedPress u x k) }
      complete t x stOK (pressHandle t k) 0 := by
  subst hk
  simp only [pressOpenNow, hc]
  rfl

/-! #### What keeping regions in MENDING changes -/

@[simp] theorem regionAt_modRegion_self (s : State) (r : Nat) (f : Region → Region) : regionAt (modRegion s r f) r = f (regionAt s r) := by
  simp [regionAt, modRegion]

theorem regionAt_modRegion_other (s : State) {r r' : Nat} (f : Region → Region) (h : r' ≠ r) :
    regionAt (modRegion s r f) r' = regionAt s r' := by
  simp [regionAt, modRegion, mgetD_mput_other _ _ _ _ _ h]

theorem regionAt_setRegionState_other (s : State) {r r' : Nat} (t : RegionState) (cap : Nat) (h : r' ≠ r) :
    regionAt (setRegionState s r t cap) r' = regionAt s r' :=
  regionAt_modRegion_other s _ h

/-- Only the region itself changes. -/
theorem regionAt_mendRegion_other (k : Nat) (s : State) {r r' : Nat} (h : r' ≠ r) : regionAt (mendRegion k s r) r' = regionAt s r' := by
  unfold mendRegion
  dsimp only
  split
  · rw [regionAt_modRegion_other _ _ h]
    split
    · rfl
    · exact regionAt_setRegionState_other s _ _ h
  · rfl

theorem mendRegion_of_not {k : Nat} {s : State} {r : Nat} (h : ¬ Mendable s r) : mendRegion k s r = s :=
  if_neg h

/-- A region that can go there is in MENDING for the press. -/
theorem regionAt_mendRegion_self {k : Nat} {s : State} {r : Nat} (h : Mendable s r) :
    (regionAt (mendRegion k s r) r).st = .mending ∧ (regionAt (mendRegion k s r) r).mendingBy = some k := by
  have hst (t : State) (ht : (regionAt t r).st = .mending) :
      let m := modRegion t r fun x => { x with mendingBy := some k }
      (regionAt m r).st = .mending ∧ (regionAt m r).mendingBy = some k := by simp [ht]
  have hm : mendRegion k s r =
      modRegion (if (regionAt s r).st = .mending then s else setRegionState s r .mending 250) r fun x => { x with mendingBy := some k } :=
    if_pos h
  rw [hm]
  apply hst
  split
  case isTrue hm => exact hm
  case isFalse => exact setRegionState_st s r .mending 250

/-- What the held patch in slot `k` leaves in region `r`, which it has been taken to or not. -/
def Mended (k : Nat) (u t : State) (taken : Prop) (r : Nat) : Prop :=
  (taken ∧ Mendable u r → regionSt t r = .mending ∧ (regionAt t r).mendingBy = some k) ∧
  (¬ (taken ∧ Mendable u r) → regionAt t r = regionAt u r)

theorem mended_step {k : Nat} {u t : State} {l : List Nat} (h : ∀ r, Mended k u t (r ∈ l) r) (a r : Nat) :
    Mended k u (mendRegion k t a) (r ∈ l ++ [a]) r := by
  obtain ⟨h1, h2⟩ := h r
  by_cases hr : r = a
  · subst hr
    by_cases hm : Mendable u r
    · have hmt : Mendable t r := by
        by_cases hl : r ∈ l
        · exact .inl (h1 ⟨hl, hm⟩).1
        · have := h2 (fun h => hl h.1)
          unfold Mendable regionSt at hm ⊢
          rwa [this]
      exact ⟨fun _ => regionAt_mendRegion_self hmt, fun hn => absurd ⟨by simp, hm⟩ hn⟩
    · have hk := h2 (fun h => hm h.2)
      have hmt : ¬ Mendable t r := by
        unfold Mendable regionSt at hm ⊢
        rwa [hk]
      rw [mendRegion_of_not hmt]
      exact ⟨fun h => absurd h.2 hm, fun _ => hk⟩
  · have hmem : r ∈ l ++ [a] ↔ r ∈ l := by simp [hr]
    unfold Mended regionSt
    rw [regionAt_mendRegion_other k t hr, hmem]
    exact ⟨h1, h2⟩

/-- Taken over all the patch's regions in turn, each that can be is in MENDING for it, and no other is changed. -/
theorem mended_foldl {k : Nat} (u : State) (l : List Nat) : ∀ (t : State) (done : List Nat), (∀ r, Mended k u t (r ∈ done) r) →
    ∀ r, Mended k u (l.foldl (mendRegion k) t) (r ∈ done ++ l) r := by
  induction l with
  | nil => intro t done h; simpa using h
  | cons a l ih =>
    intro t done h
    have := ih (mendRegion k t a) (done ++ [a]) (mended_step h a)
    simpa using this

@[simp] theorem mendRegion_presses (k : Nat) (s : State) (r : Nat) : (mendRegion k s r).presses = s.presses := by
  unfold mendRegion
  dsimp only
  split
  · split <;> rfl
  · rfl

@[simp] theorem mendRegion_gens (k : Nat) (s : State) (r : Nat) : (mendRegion k s r).gens = s.gens := by
  unfold mendRegion
  dsimp only
  split
  · split <;> rfl
  · rfl

theorem mendRegions_keep (k : Nat) (l : List Nat) (s : State) :
    (l.foldl (mendRegion k) s).presses = s.presses ∧ (l.foldl (mendRegion k) s).gens = s.gens := by
  induction l generalizing s with
  | nil => exact ⟨rfl, rfl⟩
  | cons r l ih => simpa using ih (mendRegion k s r)

/-- The handle of a slot goes by the generations alone. -/
theorem pressHandle_congr {s t : State} (h : s.gens = t.gens) (k : Nat) : pressHandle s k = handleOf t cPRESS k := by
  simp [pressHandle, handleOf, genOf, h]

/-- Without HOLD a PRESS_OPEN opens its press alone. -/
theorem pressOpenNow_unheld {u : State} {x : Acc} {k : Nat} (hc : pressOpenCheck u x = none)
    (hk : 3 + ((List.range 13).find? fun i => decide ((pressAt u (3 + i)).phase = .free)).getD 0 = k) (hn : opensHeld x = false) :
    pressOpenNow u x = complete { u with presses := mput u.presses k (openedPress u x k) } x stOK (handleOf u cPRESS k) 0 := by
  rw [pressOpenNow_opens hc hk]
  simp only [hn]
  rfl

/-- A held patch opens its press, and keeps in MENDING those of its regions that are there or can go there. -/
theorem pressOpenNow_held {u : State} {x : Acc} {k : Nat} (hc : pressOpenCheck u x = none)
    (hk : 3 + ((List.range 13).find? fun i => decide ((pressAt u (3 + i)).phase = .free)).getD 0 = k) (hy : opensHeld x = true) :
    ∃ t : State, pressOpenNow u x = complete t x stOK (handleOf u cPRESS k) 0 ∧ t.presses = mput u.presses k (openedPress u x k) ∧
      ∀ r, Mended k u t (r ∈ maskList (pf x.d 20 2) 16) r := by
  have none_taken : ∀ r, Mended k u { u with presses := mput u.presses k (openedPress u x k) } (r ∈ ([] : List Nat)) r :=
    fun r => ⟨fun h => by simp at h, fun _ => rfl⟩
  obtain ⟨hpress, hgens⟩ := mendRegions_keep k (maskList (pf x.d 20 2) 16) { u with presses := mput u.presses k (openedPress u x k) }
  refine ⟨_, ?_, hpress, mended_foldl u _ _ [] none_taken⟩
  rw [pressOpenNow_opens hc hk]
  simp only [hy]
  exact congrArg (complete _ x stOK · 0) (pressHandle_congr hgens k)

/-! ### PRESS_ARM (R347) -/

theorem immEffect_pressArm {u : State} {x : Acc} (hh : handlesRefuse u x (liveHandle u) = none) (ho : x.op = 0x0B01) :
    immEffect u x = pressArm u x := by
  simp [immEffect, hh, ho]

/-- The payload of a PRESS_ARM obeys its row of R403. -/
def ArmForm (d : Desc) : Prop :=
  pf d 16 1 ≤ 2 ∧ pf d 17 1 ≤ 2 ∧ onlyBytes d [(16, 2), (24, 8)] = true ∧ (pf d 16 1 = 0 → pf d 24 8 = 0) ∧
    (pf d 16 1 = 1 → pf d 28 4 = 0)

/-- The press of a PRESS_ARM, armed from this frame. -/
def armedPress (u : State) (x : Acc) : Press :=
  { pressAt u (tIdx x.d) with
    phase := .armed, axis := pf x.d 16 1, grain := pf x.d 17 1, key := pf x.d 24 8, full := keyTime u (pf x.d 24 8), armAcc := some x,
    armFrame := u.time.frame, armElapsed := u.time.elapsed,
    behind := if pf x.d 16 1 = 1 then wallReached u (pf x.d 24 8) else if pf x.d 16 1 = 2 then lineBehind u (pf x.d 24 8) else false }

/-- PRESS_ARM's checks in their order, then the arming. -/
theorem pressArm_eq {u : State} {x : Acc} [Decidable (ArmForm x.d)] :
    pressArm u x =
      if tIdx x.d < 3 ∨ (pressAt u (tIdx x.d)).owner ≠ x.req then complete u x stDENIED 0 0
      else if ¬ ArmForm x.d then complete u x stRANGE 0 0
      else if (pressAt u (tIdx x.d)).phase ≠ .open_ then complete u x stBUSY 0 (tgt x.d)
      else
        let t := { u with presses := mput u.presses (tIdx x.d) (armedPress u x) }
        if (pressAt u (tIdx x.d)).poisoned = true then pressAbort t (tIdx x.d) 13 0xFF else holdNodes t (tIdx x.d) := by
  have hform : (decide (2 < pf x.d 16 1) || decide (2 < pf x.d 17 1) || !(onlyBytes x.d [(16, 2), (24, 8)]) ||
      (decide (pf x.d 16 1 = 0) && decide (pf x.d 24 8 ≠ 0)) || (decide (pf x.d 16 1 = 1) && decide (pf x.d 28 4 ≠ 0))) = true ↔
      ¬ ArmForm x.d := by
    simp only [ArmForm, Bool.or_eq_true, Bool.and_eq_true, decide_eq_true_eq, Bool.not_eq_true', not_and_or, Classical.not_imp, not_le,
      Bool.not_eq_true, or_assoc, ne_eq]
  simp only [pressArm, hform]
  rfl

/-- The owner's well-formed PRESS_ARM of an OPEN press arms it, or aborts it where it is poisoned. -/
theorem pressArm_arms {u : State} {x : Acc} (hu : ¬ (tIdx x.d < 3 ∨ (pressAt u (tIdx x.d)).owner ≠ x.req)) (hf : ArmForm x.d)
    (hp : (pressAt u (tIdx x.d)).phase = .open_) :
    pressArm u x =
      let t := { u with presses := mput u.presses (tIdx x.d) (armedPress u x) }
      if (pressAt u (tIdx x.d)).poisoned = true then pressAbort t (tIdx x.d) 13 0xFF else holdNodes t (tIdx x.d) := by
  classical
  rw [pressArm_eq, if_neg hu, if_neg (not_not.mpr hf), if_neg (not_not.mpr hp)]

end Sys2Proof.Machine
end

section
namespace Sys2Proof.Machine

/-- Settles O57: the region descriptors by their rules of R22, the one MODE_SET by the mode step, the press descriptors by their
own effects. -/
theorem regionModeAndPressDescriptors : Obligations.RegionModeAndPressDescriptors := by
  unfold Obligations.RegionModeAndPressDescriptors
  constructor
  · intro u x d r st runHold asks refused
    refine ⟨fun hh => ⟨?release, ?resume, ?hold, ?service, ?leave⟩, ?settles, ?mode⟩
    case release =>
      intro ho
      have ruled := fun hp => regionDescs_ruled hh (by simp [ho]) (regionForm_of_empty (by simp [ho]) hp) (regionAsks_release ho)
      refine ⟨fun hp => regionDescs_form hh (by simp [ho]) ((regionForm_plain (by simp [ho])).trans (decide_eq_false hp)), ?_, ?_⟩
      · intro hp h1 h2 h3 h4 h5 h6 h7
        exact (ruled hp).1 ⟨h1, h2, h3, h4, h5, h6, h7⟩
      · intro hp h
        refine (ruled hp).2 ?_
        rintro ⟨h1, h2, h3, h4, -, h6, -⟩
        simp [st, runHold, r, d, h1, h2, h3, h4, h6] at h
    case resume =>
      intro ho
      have ruled := fun hp => regionDescs_ruled hh (by simp [ho]) (regionForm_of_empty (by simp [ho]) hp) (regionAsks_resume ho)
      constructor
      · intro hp h1 h2 h3 h4 h5 h6
        exact (ruled hp).1 ⟨h1, h2, h3, h4, h5, h6⟩
      · intro hp h
        refine (ruled hp).2 ?_
        rintro ⟨h1, h2, h3, h4, -, -⟩
        simp [st, r, d, h1, h2, h3, h4] at h
    case hold =>
      intro ho hp
      exact regionDescs_ruled hh (by simp [ho]) (regionForm_of_empty (by simp [ho]) hp) (regionAsks_hold ho)
    case service =>
      intro ho hb
      have hform := regionForm_service ho hb
      have ruled := fun (hc : pf d 16 2 ≤ 250) =>
        regionDescs_ruled hh (by simp [ho]) (hform.trans (decide_eq_true hc)) (regionAsks_service ho)
      refine ⟨fun hc => regionDescs_form hh (by simp [ho]) (hform.trans (decide_eq_false (Nat.not_le.mpr hc))), ?_, ?_, ?_⟩
      · intro hc h
        have hcap := (ruled hc).1 (.inl h)
        rwa [if_neg (by simp [show regionSt u (tIdx x.d) = .hold from h])] at hcap
      · intro hc h hfac
        have hcap := (ruled hc).1 (.inr h)
        rwa [if_neg (by simp [hfac])] at hcap
      · intro hc h1 h2
        exact (ruled hc).2 (not_or.mpr ⟨h1, h2⟩)
    case leave =>
      intro ho hp
      have ruled := regionDescs_ruled hh (by simp [ho]) (regionForm_of_empty (by simp [ho]) hp) (regionAsks_leave ho)
      refine ⟨fun h1 h2 h3 => ruled.1 ⟨h1, h2, h3⟩, fun h => ruled.2 ?_⟩
      rintro ⟨h1, h2, h3⟩
      simp [st, runHold, r, d, h1, h2, h3] at h
    case settles =>
      intro c ha ht hc hm
      exact ⟨settleRegion_single ha ht hm, setRegionState_st u r c.target c.cap⟩
    case mode =>
      rintro q ho hi hf hw hforced rfl m
      refine ⟨modeStep_malformed ho hi hf hw hforced, fun h => ⟨?_, ?_, ?_⟩⟩
      · rintro k rfl hk
        exact modeStep_unadmitted ho hi hf hw hforced h hk
      · exact modeStep_wakes ho hi hf hw hforced h
      · intro hk hd
        exact ⟨_, rfl, modeStep_enters ho hi hf hw hforced h hk hd⟩
  · intro u x hh d
    refine ⟨?opens, ?arms⟩
    case opens =>
      intro ho
      rw [immEffect_pressOpen hh ho]
      refine ⟨fun st h hc => pressOpenNow_refused hc, ?_⟩
      intro k hc h3 h16 hfree hlow b o p
      have hk := pressOpen_lowest h3 h16 hfree hlow
      refine ⟨pressOpenNow_unheld hc hk, fun hy => ?_⟩
      obtain ⟨t, heff, hpress, hmend⟩ := pressOpenNow_held hc hk hy
      refine ⟨t, heff, hpress, fun r => ?_⟩
      split
      case isTrue h => exact (hmend r).1 h
      case isFalse h => exact (hmend r).2 h
    case arms =>
      intro ho slot p axis formOk
      classical
      rw [immEffect_pressArm hh ho]
      have owned (h3 : 3 ≤ slot) (how : p.owner = x.req) : ¬ (slot < 3 ∨ p.owner ≠ x.req) :=
        not_or.mpr ⟨Nat.not_lt.mpr h3, not_not.mpr how⟩
      refine ⟨fun h => pressArm_eq.trans (if_pos h), ?_, ?_, ?_⟩
      · intro h3 how hf
        rw [pressArm_eq, if_neg (owned h3 how)]
        exact if_pos hf
      · intro h3 how hf hp
        rw [pressArm_eq, if_neg (owned h3 how), if_neg (show ¬ ¬ ArmForm x.d from not_not.mpr hf)]
        exact if_pos hp
      · intro h3 how hf hp key q t
        rw [pressArm_arms (owned h3 how) hf hp]
        exact ⟨fun h => if_pos h, fun h => if_neg (Bool.eq_false_iff.mp h)⟩

end Sys2Proof.Machine
end

section
namespace Sys2Proof.Machine

/-! ### What the writing of an event record leaves alone -/

/-- The state but for what records and completions write: the event queues, the traces, the counters, the rings. -/
def unrecorded (s : State) : State :=
  { unreported s with regs := [], mem := {}, flt := { s.flt with queues := [], fullEpisode := [] } }

theorem unrecorded_of_unreported {s t : State} (h : unreported s = unreported t) : unrecorded s = unrecorded t :=
  congrArg (fun u => { u with regs := [], mem := {}, flt := { u.flt with queues := [], fullEpisode := [] } }) h

theorem unrecorded_foldl {α : Type} (g : State → α → State) (h : ∀ s x, unrecorded (g s x) = unrecorded s) (l : List α) (s : State) :
    unrecorded (l.foldl g s) = unrecorded s := by
  induction l generalizing s with
  | nil => rfl
  | cons x l ih => rw [List.foldl_cons, ih, h]

theorem unrecorded_foldl_fst {α β : Type} (g : State × β → α → State × β) (h : ∀ p x, unrecorded (g p x).1 = unrecorded p.1)
    (l : List α) (p : State × β) : unrecorded (l.foldl g p).1 = unrecorded p.1 := by
  induction l generalizing p with
  | nil => rfl
  | cons x l ih => rw [List.foldl_cons, ih, h]

@[simp] theorem unrecorded_bump (s : State) (off : Nat) : unrecorded (bump s off) = unrecorded s := rfl

@[simp] theorem unrecorded_modMem (s : State) (f : MemSt → MemSt) : unrecorded (modMem s f) = unrecorded s := rfl

@[simp] theorem unrecorded_modRing (s : State) (r : Nat) (f : Ring → Ring) : unrecorded (modRing s r f) = unrecorded s := rfl

@[simp] theorem unrecorded_notifyRing (s : State) (r : Nat) (urgent : Bool) : unrecorded (notifyRing s r urgent) = unrecorded s :=
  unrecorded_of_unreported (by simp)

@[simp] theorem unrecorded_putEvent (s : State) (e : Nat) (er : EventRec) : unrecorded (putEvent s e er) = unrecorded s := rfl

@[simp] theorem unrecorded_deliverEvent (fuel : Nat) (s : State) (e : Nat) (er : EventRec) :
    unrecorded (deliverEvent fuel s e er) = unrecorded s := by
  induction fuel generalizing s e er with
  | zero =>
    unfold deliverEvent
    dsimp only
    repeat' split
    all_goals simp
  | succ k ih =>
    unfold deliverEvent
    dsimp only
    repeat' split
    all_goals simp [unrecorded_foldl, ih]

@[simp] theorem unrecorded_routeEvent (s : State) (er : EventRec) : unrecorded (routeEvent s er) = unrecorded s := by
  unfold routeEvent
  dsimp only
  rw [apply_ite unrecorded, unrecorded_bump, ite_self, unrecorded_foldl_fst]
  exact fun p e => unrecorded_deliverEvent 64 p.1 e er

@[simp] theorem unrecorded_traceQueue (s : State) (r : TraceRec) : unrecorded (traceQueue s r) = unrecorded s := by
  unfold traceQueue
  split <;> simp

@[simp] theorem unrecorded_traceSample (s : State) (ch : Nat) (t : Trace) (wall flags a b : Nat) :
    unrecorded (traceSample s ch t wall flags a b) = unrecorded s := by
  unfold traceSample
  dsimp only
  repeat' split
  all_goals simp

@[simp] theorem unrecorded_traceEvent (s : State) (er : EventRec) : unrecorded (traceEvent s er) = unrecorded s := by
  unfold traceEvent
  rw [unrecorded_foldl]
  intro s e
  dsimp only
  repeat' split
  all_goals simp

@[simp] theorem unrecorded_queueRecord (s : State) (er : EventRec) : unrecorded (queueRecord s er) = unrecorded s := by
  unfold queueRecord
  dsimp only
  split
  · rfl
  · split
    · rfl
    · rw [unrecorded_routeEvent, unrecorded_traceEvent]
      rfl

@[simp] theorem unrecorded_writeRecord (s : State) (er : EventRec) : unrecorded (writeRecord s er) = unrecorded s := by
  simp [writeRecord]

/-! ### The reports that wait for the Lint Trap (R472) -/

@[simp] theorem arrived_writeRecord (s : State) (er : EventRec) : (writeRecord s er).flt.arrived = s.flt.arrived :=
  congrArg (fun t => t.flt.arrived) (unrecorded_writeRecord s er)

@[simp] theorem arrived_lintReport (s : State) (er : EventRec) (org : Nat) : (lintReport s er org).flt.arrived = s.flt.arrived := by
  unfold lintReport
  split
  · rfl
  · dsimp only
    split
    · rfl
    · split
      · rw [arrived_writeRecord]
        rfl
      · exact arrived_writeRecord s er

theorem arrived_lintReports (l : List (EventRec × Nat)) (s : State) :
    (l.foldl (fun s e => lintReport s e.1 e.2) s).flt.arrived = s.flt.arrived := by
  induction l generalizing s with
  | nil => rfl
  | cons e l ih => rw [List.foldl_cons, ih, arrived_lintReport]

/-- The Lint Trap leaves no report waiting. -/
@[simp] theorem arrived_takeReports (s : State) : (takeReports s).flt.arrived = [] :=
  arrived_lintReports _ _

/-- The closing work begins with the Lint Trap, so that its work before the end of a command makes no difference. -/
theorem leave_takeReports (s t : State) : leave s (takeReports t) = leave s t := by
  have : closing (takeReports t) = closing t := by
    unfold closing
    rw [takeReports_none (arrived_takeReports t)]
  unfold leave finish
  rw [this]

/-! ### What the steps of a boundary leave alone of the frame's instant -/

/-- The instant of the frame and the count of its acceptances. -/
def beat (s : State) : Nat × Nat × Nat := (s.time.frame, s.time.cycle, s.host.accepted)

theorem beat_of_unrecorded {s t : State} (h : unrecorded s = unrecorded t) : beat s = beat t :=
  congrArg (fun u => (u.time.frame, u.time.cycle, u.host.accepted)) h

theorem beat_of_unreported {s t : State} (h : unreported s = unreported t) : beat s = beat t :=
  beat_of_unrecorded (unrecorded_of_unreported h)

theorem beat_foldl {α : Type} (g : State → α → State) (h : ∀ s x, beat (g s x) = beat s) (l : List α) (s : State) :
    beat (l.foldl g s) = beat s := by
  induction l generalizing s with
  | nil => rfl
  | cons x l ih => rw [List.foldl_cons, ih, h]

/-! #### Changes of one part of the state -/

@[simp] theorem beat_modMbx (s : State) (f : MbxSt → MbxSt) : beat (modMbx s f) = beat s := rfl

@[simp] theorem beat_modBox (s : State) (n : Nat) (f : Mbox → Mbox) : beat (modBox s n f) = beat s := rfl

@[simp] theorem beat_txstat (s : State) (req st box : Nat) : beat (txstat s req st box) = beat s := rfl

@[simp] theorem beat_modFlt (s : State) (f : FltSt → FltSt) : beat (modFlt s f) = beat s := rfl

@[simp] theorem beat_setReg (s : State) (off v : Nat) : beat (setReg s off v) = beat s := rfl

@[simp] theorem beat_bump (s : State) (off : Nat) : beat (bump s off) = beat s := rfl

@[simp] theorem beat_careWrite (s : State) (gen : Nat) : beat (careWrite s gen) = beat s := rfl

@[simp] theorem beat_modLine (s : State) (f : LineSt → LineSt) : beat (modLine s f) = beat s := rfl

@[simp] theorem beat_judgeSource (s : State) (i : Nat) : beat (judgeSource s i) = beat s := rfl

@[simp] theorem beat_modGrd (s : State) (f : GrdSt → GrdSt) : beat (modGrd s f) = beat s := rfl

@[simp] theorem beat_modMd (s : State) (f : ModSt → ModSt) : beat (modMd s f) = beat s := rfl

@[simp] theorem beat_advanceGen (s : State) (cls idx : Nat) : beat (advanceGen s cls idx) = beat s := rfl

@[simp] theorem beat_freeObj (s : State) (cls idx : Nat) : beat (freeObj s cls idx) = beat s := rfl

@[simp] theorem beat_modRegion (s : State) (r : Nat) (f : Region → Region) : beat (modRegion s r f) = beat s := rfl

@[simp] theorem beat_modGsc (s : State) (f : GscSt → GscSt) : beat (modGsc s f) = beat s := rfl

@[simp] theorem beat_releaseNodes (s : State) (slot : Nat) : beat (releaseNodes s slot) = beat s := rfl

@[simp] theorem beat_modPress (s : State) (p : Nat) (f : Press → Press) : beat (modPress s p f) = beat s := rfl

@[simp] theorem beat_modHlt (s : State) (f : HltSt → HltSt) : beat (modHlt s f) = beat s := rfl

@[simp] theorem beat_swUnshadow (s : State) (spare : Nat) : beat (swUnshadow s spare) = beat s := rfl

@[simp] theorem beat_drvUnshadow (s : State) (spare : Nat) : beat (drvUnshadow s spare) = beat s := rfl

@[simp] theorem beat_modSol (s : State) (f : SolSt → SolSt) : beat (modSol s f) = beat s := rfl

@[simp] theorem beat_laneUnshadow (s : State) (spare : Nat) : beat (laneUnshadow s spare) = beat s := rfl

@[simp] theorem beat_logAdd (s : State) (kind reason worn spare wear : Nat) : beat (logAdd s kind reason worn spare wear) = beat s := rfl

@[simp] theorem beat_modSec (s : State) (f : SecSt → SecSt) : beat (modSec s f) = beat s := rfl

@[simp] theorem beat_modDrv (s : State) (n : Nat) (f : DCore → DCore) : beat (modDrv s n f) = beat s := rfl

@[simp] theorem beat_noteTick (s : State) (n : Nat) : beat (noteTick s n) = beat s := rfl

@[simp] theorem beat_modSlot (s : State) (n k : Nat) (f : DSlot → DSlot) : beat (modSlot s n k f) = beat s := rfl

@[simp] theorem beat_modInst (s : State) (c i : Nat) (f : Inst → Inst) : beat (modInst s c i f) = beat s := rfl

@[simp] theorem beat_releaseWorker (s : State) (i : Nat) : beat (releaseWorker s i) = beat s := rfl

@[simp] theorem beat_modNode (s : State) (n : Nat) (f : Node → Node) : beat (modNode s n f) = beat s := rfl

@[simp] theorem beat_bumpBy (s : State) (off n : Nat) : beat (bumpBy s off n) = beat s := rfl

@[simp] theorem beat_modFlow (s : State) (f : Nat) (g : Flow → Flow) : beat (modFlow s f g) = beat s := rfl

@[simp] theorem beat_resumeLane (s : State) (q ses : Nat) : beat (resumeLane s q ses) = beat s := rfl

@[simp] theorem beat_modPort (s : State) (p : Nat) (f : RPort → RPort) : beat (modPort s p f) = beat s := rfl

@[simp] theorem beat_modPins (s : State) (f : PinSt → PinSt) : beat (modPins s f) = beat s := rfl

@[simp] theorem beat_setRegionState (s : State) (r : Nat) (t : RegionState) (cap : Nat) : beat (setRegionState s r t cap) = beat s := rfl

@[simp] theorem beat_ledgerStore (s : State) : beat (ledgerStore s) = beat s := rfl

@[simp] theorem beat_routeSet (s : State) (d : Desc) : beat (routeSet s d) = beat s := rfl

/-! #### Records, reports and mailboxes -/

@[simp] theorem beat_traceEvent (s : State) (er : EventRec) : beat (traceEvent s er) = beat s := beat_of_unrecorded (by simp)

@[simp] theorem beat_writeRecord (s : State) (er : EventRec) : beat (writeRecord s er) = beat s := beat_of_unrecorded (by simp)

@[simp] theorem beat_report (s : State) (r : Report) : beat (report s r) = beat s := by
  unfold report
  dsimp only
  repeat' split
  all_goals simp

@[simp] theorem beat_raise (s : State) (e : Event) (handle detail org : Nat) : beat (raise s e handle detail org) = beat s := by
  simp [raise]

@[simp] theorem beat_signal (s : State) (req kind box : Nat) (e : Event) (detail : Nat) :
    beat (signal s req kind box e detail) = beat s := by
  unfold signal
  dsimp only
  repeat' split
  all_goals simp

@[simp] theorem beat_deliverMsg (s : State) (n req : Nat) (words : List Nat) (notify : Bool) :
    beat (deliverMsg s n req words notify) = beat s := by
  unfold deliverMsg
  dsimp only
  repeat' split
  all_goals simp

@[simp] theorem beat_mbxDeliver (s : State) (n : Nat) : beat (mbxDeliver s n) = beat s := by
  unfold mbxDeliver
  dsimp only
  repeat' split
  all_goals simp

@[simp] theorem beat_mbxPump (s : State) : beat (mbxPump s) = beat s := beat_foldl _ beat_mbxDeliver _ s

/-! #### The Care Label and the line axis -/

@[simp] theorem beat_careUpdate (s : State) : beat (careUpdate s) = beat s := by
  unfold careUpdate
  dsimp only
  split
  · rfl
  · split
    · rfl
    · rw [beat_raise, beat_careWrite]
      rfl

@[simp] theorem beat_takeStep (s : State) : beat (takeStep s) = beat s := by
  unfold takeStep
  dsimp only
  repeat' split
  all_goals rfl

@[simp] theorem beat_reportSource (old s : State) (i : Nat) : beat (reportSource old s i) = beat s := by
  unfold reportSource
  dsimp only
  repeat' split
  all_goals simp

@[simp] theorem beat_evalLine (s : State) : beat (evalLine s) = beat s := by
  unfold evalLine
  dsimp only
  split
  · rw [beat_foldl _ (beat_reportSource _), beat_modLine, beat_foldl _ beat_judgeSource]
  · simp only [apply_ite beat, beat_raise, beat_modLine, beat_foldl _ (beat_reportSource _), beat_foldl _ beat_judgeSource, ite_self]

/-! #### The guard's causes, completions and presses -/

@[simp] theorem beat_actCauses (s : State) : beat (actCauses s) = beat s := by
  simp [actCauses, beat_foldl]

@[simp] theorem beat_complete (s : State) (a : Acc) (status handle detail : Nat) :
    beat (complete s a status handle detail) = beat s :=
  beat_of_unreported (by simp)

@[simp] theorem beat_completeFinal (s : State) (a : Acc) (status handle detail : Nat) :
    beat (completeFinal s a status handle detail) = beat s :=
  beat_of_unreported (by simp [completeFinal])

@[simp] theorem beat_modeSetFails (s : State) (a : Acc) (reason : Nat) : beat (modeSetFails s a reason) = beat s := by
  simp [modeSetFails]

@[simp] theorem beat_releaseMember (s : State) (m : Member) : beat (releaseMember s m) = beat s := by
  unfold releaseMember
  split
  · split <;> simp
  · rfl

@[simp] theorem beat_patchEnds (s : State) (slot : Nat) : beat (patchEnds s slot) = beat s := by
  simp [patchEnds, beat_foldl, apply_ite beat]

@[simp] theorem beat_cancelTimeouts (s : State) : beat (cancelTimeouts s) = beat s := by
  unfold cancelTimeouts
  split <;> simp

@[simp] theorem beat_pressClose (s : State) (slot : Nat) (committed : Bool) (reason : Nat) :
    beat (pressClose s slot committed reason) = beat s := by
  unfold pressClose
  dsimp only
  repeat' split
  all_goals simp

@[simp] theorem beat_shadowStop (s : State) (c spare : Nat) : beat (shadowStop s c spare) = beat s := by
  unfold shadowStop
  split <;> simp

@[simp] theorem beat_darnClose (s : State) (status detail : Nat) : beat (darnClose s status detail) = beat s := by
  unfold darnClose
  dsimp only
  split
  · rfl
  · simp [beat_foldl]

@[simp] theorem beat_raiseIn (s : State) (e : Event) (handle detail org : Nat) (scope : List Nat) :
    beat (raiseIn s e handle detail org scope) = beat s := by
  simp [raiseIn]

@[simp] theorem beat_darnAborted (s : State) (reason : Nat) : beat (darnAborted s reason) = beat s := by
  unfold darnAborted
  dsimp only
  repeat' split
  all_goals simp

@[simp] theorem beat_warmAborted (s : State) (handle reason : Nat) : beat (warmAborted s handle reason) = beat s := by
  unfold warmAborted
  dsimp only
  split
  · simp
  · rw [beat_foldl _ (fun s w => by split <;> simp), beat_raiseIn, beat_modFlt]

@[simp] theorem beat_pressAbort (s : State) (slot reason idx : Nat) : beat (pressAbort s slot reason idx) = beat s := by
  unfold pressAbort
  dsimp only
  split
  · rfl
  · rw [apply_ite beat, beat_darnAborted, apply_ite beat, beat_warmAborted, ite_self, ite_self, beat_foldl]
    · split <;> simp [apply_ite beat, beat_foldl _ beat_releaseMember]
    · intro s e
      split <;> simp

@[simp] theorem beat_abortAll (s : State) : beat (abortAll s) = beat s := beat_foldl _ (fun s p => beat_pressAbort s p 9 0xFF) _ s

/-! #### Cores, nodes and debug sessions -/

@[simp] theorem beat_raiseLoop (s : State) (e : Event) (n k more : Nat) : beat (raiseLoop s e n k more) = beat s := by
  simp [raiseLoop]

@[simp] theorem beat_entryEnd (s : State) (n k : Nat) : beat (entryEnd s n k) = beat s := by
  unfold entryEnd
  dsimp only
  repeat' split
  all_goals simp

@[simp] theorem beat_setScore (s : State) (c i score row : Nat) : beat (setScore s c i score row) = beat s := by
  unfold setScore
  dsimp only
  repeat' split
  all_goals simp

@[simp] theorem beat_wearInput (s : State) (c i row : Nat) : beat (wearInput s c i row) = beat s := by
  unfold wearInput
  split <;> simp

@[simp] theorem beat_deliver (s : State) (i : Nat) (fires : Nat → Bool) : beat (deliver s i fires) = beat s := by
  unfold deliver
  dsimp only
  rw [beat_modNode, beat_foldl _ (fun s e => by split <;> simp), beat_foldl _ (fun s e => by simp)]

@[simp] theorem beat_endWaits (s : State) (i : Nat) (ends : Wait → Option (Nat × Nat)) (step : Wait → Wait) :
    beat (endWaits s i ends step) = beat s := by
  unfold endWaits
  dsimp only
  rw [beat_foldl _ ?_, beat_modGsc]
  intro s w
  split
  · split <;> simp
  · rfl

@[simp] theorem beat_nodeFault (s : State) (i cause : Nat) : beat (nodeFault s i cause) = beat s := by
  unfold nodeFault
  dsimp only
  repeat' split
  all_goals simp

@[simp] theorem beat_drvMemError (s : State) (n ecc mem : Nat) : beat (drvMemError s n ecc mem) = beat s := by
  unfold drvMemError
  dsimp only
  repeat' split
  all_goals simp

@[simp] theorem beat_runLoops (fuel : Nat) (s : State) (n : Nat) (past : Bool) (err : Option (Nat × Nat × Nat)) :
    beat (runLoops fuel s n past err) = beat s := by
  induction fuel generalizing s past err with
  | zero => rfl
  | succ m ih =>
    unfold runLoops
    dsimp only
    repeat' split
    all_goals simp [ih]

@[simp] theorem beat_resumeCore (s : State) (n ses : Nat) : beat (resumeCore s n ses) = beat s := by
  unfold resumeCore
  dsimp only
  repeat' split
  all_goals simp

@[simp] theorem beat_closeSession (s : State) (ses cause : Nat) : beat (closeSession s ses cause) = beat s := by
  simp [closeSession, beat_foldl, apply_ite beat]

/-! #### The modes and the regions -/

@[simp] theorem beat_guardStop (s : State) : beat (guardStop s) = beat s := by
  unfold guardStop
  rw [beat_modGrd, beat_setReg, beat_modFlt]
  exact beat_foldl _ (fun s l => beat_foldl _ (fun s i => beat_modSol s _) _ s) _ s

@[simp] theorem beat_refOnWrite (s : State) (on : Bool) : beat (refOnWrite s on) = beat s := by
  unfold refOnWrite
  dsimp only
  repeat' split
  all_goals rfl

@[simp] theorem beat_accessFails (s : State) (r : SvcReq) : beat (accessFails s r) = beat s := by
  unfold accessFails
  split <;> simp

@[simp] theorem beat_portStop (s : State) (p st cause : Nat) : beat (portStop s p st cause) = beat s := by
  simp [portStop, beat_foldl]

@[simp] theorem beat_enWrite (s : State) (p : Nat) (en : Bool) : beat (enWrite s p en) = beat s := by
  unfold enWrite
  split <;> simp

@[simp] theorem beat_enterDormant (s : State) : beat (enterDormant s) = beat s := by
  simp [enterDormant, beat_foldl, apply_ite beat]

@[simp] theorem beat_setPower (s : State) : beat (setPower s) = beat s := by
  unfold setPower
  split <;> simp

@[simp] theorem beat_hostLost (s : State) : beat (hostLost s) = beat s := by
  simp [hostLost]

@[simp] theorem beat_enterMode (s : State) (m : Mode) (cause cap : Nat) : beat (enterMode s m cause cap) = beat s := by
  unfold enterMode
  dsimp only
  repeat' split
  all_goals simp

@[simp] theorem beat_modeSetOk (s : State) (prev : Nat) (a : Acc) : beat (modeSetOk s prev a) = beat s := by
  simp [modeSetOk]

@[simp] theorem beat_latchFaults (s : State) (acts : List Action) : beat (latchFaults s acts) = beat s := by
  simp [latchFaults, beat_foldl, apply_ite beat]

@[simp] theorem beat_fltAck (s : State) (a : Acc) : beat (fltAck s a) = beat s := by
  unfold fltAck
  dsimp only
  repeat' split
  all_goals simp

@[simp] theorem beat_settleRegion (s : State) (r : Nat) (st0 : RegionState) (cs : List RegionCause) :
    beat (settleRegion s r st0 cs) = beat s := by
  unfold settleRegion
  dsimp only
  rw [beat_foldl]
  · repeat' split
    all_goals simp
  · intro s c
    repeat' split
    all_goals simp

@[simp] theorem beat_takeEmpty (s : State) (r : Nat) : beat (takeEmpty s r) = beat s := by
  unfold takeEmpty
  dsimp only
  repeat' split
  all_goals rfl

/-! #### The keys of presses, and the ledger -/

@[simp] theorem beat_pressKey (s : State) (slot : Nat) : beat (pressKey s slot) = beat s := by
  unfold pressKey
  dsimp only
  repeat' split
  all_goals simp

@[simp] theorem beat_pressKeys (s : State) : beat (pressKeys s) = beat s := beat_foldl _ beat_pressKey _ s

@[simp] theorem beat_ledgerFail (s : State) : beat (ledgerFail s) = beat s := by
  simp [ledgerFail]

@[simp] theorem beat_ledgerWrite (s : State) : beat (ledgerWrite s) = beat s := by
  unfold ledgerWrite
  dsimp only
  split
  · rw [beat_ledgerStore]; rfl
  · rw [beat_ledgerFail]; rfl

@[simp] theorem beat_ledgerMark (s : State) : beat (ledgerMark s) = beat s := by
  unfold ledgerMark
  split <;> simp

@[simp] theorem beat_ledgerFrame (s : State) : beat (ledgerFrame s) = beat s := by
  unfold ledgerFrame
  dsimp only
  repeat' split
  all_goals simp

end Sys2Proof.Machine
end

section
namespace Sys2Proof.Machine

theorem beat_foldl_snd {α β : Type} (g : β × State → α → β × State) (h : ∀ p x, beat (g p x).2 = beat p.2) (l : List α)
    (p : β × State) : beat (l.foldl g p).2 = beat p.2 := by
  induction l generalizing p with
  | nil => rfl
  | cons x l ih => rw [List.foldl_cons, ih, h]

@[simp] theorem beat_modeSetsValid (s : State) (as : List Acc) : beat (modeSetsValid s as).2 = beat s := by
  unfold modeSetsValid
  rw [beat_foldl_snd]
  intro p x
  split
  · simp
  · dsimp only
    split <;> simp

@[simp] theorem beat_regionDescs (s : State) (as : List Acc) : beat (regionDescs s as).2 = beat s := by
  unfold regionDescs
  rw [beat_foldl_snd]
  intro p x
  repeat' split
  all_goals simp

theorem beat_modHost {f : HostSt → HostSt} (h : ∀ y, (f y).accepted = y.accepted) (s : State) : beat (modHost s f) = beat s := by
  simp [beat, modHost, h]

@[simp] theorem beat_takeImm (s : State) (ops : List Nat) : beat (takeImm s ops).2 = beat s := rfl

@[simp] theorem beat_modeChange (s : State) (valid : List Acc) (pin : Bool) : beat (modeChange s valid pin) = beat s := by
  unfold modeChange
  dsimp only
  repeat' split
  all_goals simp [beat_foldl]

@[simp] theorem beat_modeStep (s : State) : beat (modeStep s) = beat s := by
  refine (beat_modeChange _ _ _).trans ?_
  refine (beat_modeSetsValid _ _).trans ?_
  refine (beat_takeImm _ _).trans ?_
  refine (beat_modMd _ _).trans ?_
  split <;> rfl

/-- The steps of a boundary on the regions, from the last to the first. -/
@[simp] theorem beat_regionStep (s : State) (acts : List Action) : beat (regionStep s acts) = beat s := by
  unfold regionStep
  dsimp only
  rw [beat_foldl _ beat_takeEmpty, beat_foldl _ (fun s r => by simp), beat_foldl _ (fun s r => by split <;> simp),
    beat_foldl _ (fun s a => by simp), beat_modHost (fun _ => by rfl), beat_regionDescs, beat_modHost (fun _ => by rfl), beat_latchFaults,
    beat_foldl _ (fun s r => by simp)]

@[simp] theorem beat_modesAndRegions (s : State) : beat (modesAndRegions s) = beat s := by
  simp [modesAndRegions]

end Sys2Proof.Machine
end

section
namespace Sys2Proof.Machine

/-! ### New event routes at a boundary (R413) -/

/-- Only EVENT_ROUTEs take effect before the events of their frame. -/
theorem routeTurns_op (l : List Acc) : ∀ (seen : List Nat), ∀ a ∈ (routeTurns seen l).1, a.op = 0x0D01 := by
  induction l with
  | nil => intro seen a h; simp [routeTurns] at h
  | cons b l ih =>
    intro seen a h
    unfold routeTurns at h
    dsimp only at h
    split at h
    case isTrue hb =>
      rcases List.mem_cons.mp h with rfl | h
      · simp only [Bool.and_eq_true, decide_eq_true_eq] at hb
        exact hb.1
      · exact ih _ a h
    case isFalse => exact ih _ a h

theorem route_plain : PlainOp 0x0D01 := by
  unfold PlainOp
  decide

/-- An EVENT_ROUTE changes its ring, and completes. -/
theorem beat_immEffect_route {u : State} {x : Acc} (ho : x.op = 0x0D01) : beat (immEffect u x) = beat u := by
  cases hh : handlesRefuse u x (liveHandle u) with
  | some r => rw [immEffect_handles hh, beat_complete]
  | none =>
    have hg : gatedParts u x = [] := by simp [gatedParts, ho]
    rw [immEffect_plain (ho ▸ route_plain) hh hg, copyRead_of_ne (by simp [ho])]
    cases hk : immCheck u x with
    | some r => rw [plainEffect_refused hk, beat_complete]
    | none =>
      have hop : ownApply u x (tIdx x.d) = routeSet u x.d := by simp only [ownApply, ho]
      have hb : budgetRefuse (ownApply u x (tIdx x.d)) x = none := budgetRefuse_eq_none (by rw [ho]; rfl)
      have hp : plainEffect u x = immApply u x := by simp [plainEffect, hk, ho]
      rw [hp, immApply_set (by rw [ho]; rfl) hb, beat_complete, hop, beat_routeSet]

@[simp] theorem beat_routesFirst (s : State) : beat (routesFirst s) = beat s := by
  have routes (l : List Acc) : ∀ u : State, (∀ a ∈ l, a.op = 0x0D01) → beat (l.foldl immEffect u) = beat u := by
    induction l with
    | nil => intro u _; rfl
    | cons a l ih =>
      intro u h
      rw [List.foldl_cons, ih _ fun b hb => h b (by simp [hb]), beat_immEffect_route (h a (by simp))]
  exact (routes _ _ (routeTurns_op s.host.imm [])).trans (beat_modHost (fun _ => by rfl) s)

/-! ### The boundary of a frame (R18) -/

theorem passTo_frame (s : State) (n : Nat) : (passTo s n).time.frame = s.time.frame := by
  unfold passTo
  split
  · exact congrArg (fun b => b.1) (beat_mbxPump (passCycles s 1))
  · rfl

/-- The frame begins: its number, its cycle, the step of PTP time that is due, the values that it holds. This and the two that follow are
reducible, so that the boundary's own text is seen to be theirs. -/
@[reducible] def frameBegun (s : State) : State :=
  let s := careUpdate (passTo s (64 - s.time.cycle))
  let s := takeStep (modTime s fun t => { t with frame := t.frame + 1, cycle := 0 })
  let s := modTime s fun t => { t with ptpF := t.ptp, elapsedF := t.elapsed }
  let s := modTime s fun t => { t with wallF := wall32 s }
  modHost s fun h => { h with accepted := 0 }

/-- What comes first in a frame acts, up to the keys of the presses. -/
@[reducible] def frameActed (s : State) : State :=
  let s := evalLine (routesFirst s)
  let s := if decide (s.time.frame % 1280 = 16) && s.grd.running && s.grd.cycle.isSome then actCauses s else s
  pressKeys (modesAndRegions s)

/-- The due work of a boundary whose frame is frame `k` of its plan tick (R18, R19, R320, R354). -/
@[reducible] def dueListed (k : Nat) (s : State) (inp : FrameIn) : State :=
  modDue s fun _ =>
    { presses := pressesDue s, judge := decide (k = 16) && s.grd.running && s.grd.cycle.isSome, body := true, inp := inp,
      servo := decide (s.time.frame % 160 = 0), plan := decide (k = 0) }

theorem beat_frameBegun (s : State) : beat (frameBegun s) = (s.time.frame + 1, 0, 0) := by
  have h : beat (takeStep (modTime (careUpdate (passTo s (64 - s.time.cycle))) fun t => { t with frame := t.frame + 1, cycle := 0 })) =
      ((careUpdate (passTo s (64 - s.time.cycle))).time.frame + 1, 0, _) := beat_takeStep _
  have hc : (careUpdate (passTo s (64 - s.time.cycle))).time.frame = s.time.frame :=
    (congrArg (fun b => b.1) (beat_careUpdate _)).trans (passTo_frame s _)
  rw [hc] at h
  exact congrArg (fun b : Nat × Nat × Nat => (b.1, b.2.1, 0)) h

@[simp] theorem beat_frameActed (s : State) : beat (frameActed s) = beat s := by
  unfold frameActed
  rw [beat_pressKeys, beat_modesAndRegions, apply_ite beat, beat_actCauses, ite_self, beat_evalLine, beat_routesFirst]

/-- A boundary begins its frame, lets what comes first act, and lists the work that is due. -/
theorem boundary_eq (s : State) (inp : FrameIn) :
    boundary s inp =
      let a := ledgerFrame (frameActed (frameBegun s))
      adminFrame (dueListed (a.time.frame % 1280) a inp) := by
  have hk (t : State) : (ledgerFrame t).time.frame = t.time.frame := congrArg (fun b => b.1) (beat_ledgerFrame t)
  simp only [boundary, dueListed, frameActed, frameBegun, hk]

theorem mem_pressesDue (s : State) (p : Nat) :
    p ∈ pressesDue s ↔ p < 16 ∧ (pressAt s p).phase = .ready ∧ (pressAt s p).commit = some s.time.frame := by
  simp [pressesDue]

/-! ### The commands that run due work -/

theorem exec_frameBoundary {s : State} (hh : s.md.held = false) (hn : NothingDue s) (inp : FrameIn) :
    exec (.frameBoundary inp) s =
      .next (leave s (if clockRuns s then (if (boundary s inp).due.judge then boundary s inp else duesBody (boundary s inp)) else s)) := by
  have hf : unlessHeld (fun s => frameBoundary inp s) s = frameBoundary inp s := by simp [unlessHeld, hh]
  show Host.Outcome.next (leave s (unlessHeld (fun s => frameBoundary inp s) s)) = _
  rw [hf, frameBoundary, settle_nothing hn]

theorem exec_servoTick {s : State} (hh : s.md.held = false) : exec .servoTickBoundary s = .next (leave s (duesPlan s)) := by
  show Host.Outcome.next (leave s (unlessHeld (fun s => duesPlan s) s)) = _
  simp [unlessHeld, hh]

/-- The Lint Trap's work at the end of a plan tick's is that of the command's end. -/
theorem exec_planTick {s : State} (hh : s.md.held = false) :
    exec .planTickBoundary s = .next (leave s (if (duesPlan s).due.plan then planWork (duesPlan s) else duesPlan s)) := by
  show Host.Outcome.next (leave s (unlessHeld (fun s => settle s) s)) = _
  simp [unlessHeld, hh, settle, leave_takeReports]

theorem exec_judging {s : State} (hh : s.md.held = false) : exec .guardJudgingStart s = .next (leave s (duesServo s)) := by
  show Host.Outcome.next (leave s (unlessHeld (fun s => duesServo s) s)) = _
  simp [unlessHeld, hh]

section
variable {s : State} (hp : s.due.presses = [])
include hp

/-- With no press due, judging and the body are the work before the servo tick. -/
theorem duesServo_noPress :
    duesServo s =
      let j := if s.due.judge then judgeWork s else s
      if j.due.body then bodyWork j else j := by
  simp [duesServo, pressesUpTo, duesBody, hp]

/-- With no press, no judging and no body due, the servo tick's work is all that comes before the plan tick. -/
theorem duesPlan_noBody (hj : s.due.judge = false) (hb : s.due.body = false) :
    duesPlan s = if s.due.servo then servoWork s else s := by
  simp [duesPlan, duesServo_noPress hp, hj, hb]

end

/-- What P2 has gated does nothing at a servo tick. -/
theorem servoWork_gated {s : State} (h : s.pins.powerState = 2) : servoWork s = { s with due := { s.due with servo := false } } := by
  simp [servoWork, gated, modDue, h]

theorem servoWork_powered {s : State} (h : s.pins.powerState ≠ 2) :
    servoWork s = darnMismatch (servoCapture (profilesServo { s with due := { s.due with servo := false } })) := by
  simp [servoWork, gated, modDue, h]

theorem planWork_gated {s : State} (h : s.pins.powerState = 2) :
    planWork s = spreadTick (reportDrops (publishLine { s with due := { s.due with plan := false } })) := by
  simp [planWork, gated, modDue, h]

/-- A plan tick of what P2 has not gated; the planning unit prices and captures while it is enabled. -/
theorem planWork_powered {s : State} (h : s.pins.powerState ≠ 2) :
    planWork s =
      let b := solverTick (replanCommit (planJoin (swPlanTick { s with due := { s.due with plan := false } })))
      spreadTick (reportDrops (publishLine (darnMismatch (stepsPlan (guardTick
        (if plnOn b then planCapture ((List.range 16).foldl priceGroup b) else b)))))) := by
  simp only [planWork, gated, modDue, h, decide_false, Bool.false_eq_true, if_false]
  split
  case isTrue hn => simp only [hn, if_true]
  case isFalse hn => simp only [hn, Bool.false_eq_true, if_false]

/-- Settles O33: the boundary of a frame by the instant that its steps leave alone, the other commands by the work that is due. -/
theorem frameBoundaries : Obligations.FrameBoundaries := by
  unfold Obligations.FrameBoundaries
  intro s hh
  refine ⟨fun inp hn => ⟨?boundary, ?stopped⟩, ?servo, ?plan, ?judging⟩
  case boundary =>
    intro hc
    have hbeat : beat (ledgerFrame (frameActed (frameBegun s))) = (s.time.frame + 1, 0, 0) := by
      rw [beat_ledgerFrame, beat_frameActed, beat_frameBegun]
    have heq := boundary_eq s inp
    generalize ledgerFrame (frameActed (frameBegun s)) = a at hbeat heq
    simp only [beat, Prod.mk.injEq] at hbeat
    obtain ⟨hframe, hcycle, hacc⟩ := hbeat
    refine ⟨dueListed (a.time.frame % 1280) a inp, hframe, hcycle, hacc, rfl, rfl, rfl, rfl, ?_, ?_, ?_⟩
    · exact fun p => mem_pressesDue a p
    · simp [modDue, Option.isSome_iff_ne_none, and_assoc]
    · rw [exec_frameBoundary hh hn, if_pos hc, heq]
  case stopped =>
    intro hc
    rw [exec_frameBoundary hh hn, if_neg (by simp [hc])]
  case servo =>
    intro hp hj hb
    rw [exec_servoTick hh, duesPlan_noBody hp hj hb]
    refine ⟨fun hs => by simp [hs], fun hs => ?_⟩
    rw [if_pos hs]
    exact ⟨fun hg => by rw [servoWork_gated hg], fun hg => by rw [servoWork_powered hg]⟩
  case plan =>
    intro hp hj hb hs
    have hd : duesPlan s = s := by simp [duesPlan_noBody hp hj hb, hs]
    rw [exec_planTick hh, hd]
    refine ⟨fun h => by simp [h], fun h hg => by rw [if_pos h, planWork_gated hg], ?_⟩
    intro h hg b p tail
    rw [if_pos h, planWork_powered hg]
    exact ⟨fun hn => by simp [hn, tail, b], fun hn => by simp [hn, tail, p, b]⟩
  case judging =>
    intro hp
    rw [exec_judging hh, duesServo_noPress hp]
    exact ⟨fun hj hb => by simp [hj, hb], fun hj => by simp [hj, judgeWork, modDue], fun hj hb => by simp [hj, hb]⟩

end Sys2Proof.Machine
end

section
namespace Sys2Proof.Machine

/-! ### The Ethernet ports' records -/

theorem modEth_eq (s : State) (p : Nat) (f : EthPort → EthPort) : modEth s p f = withEth s p (f (ethAt s p)) := rfl

@[simp] theorem ethAt_withEth_self (s : State) (p : Nat) (e : EthPort) : ethAt (withEth s p e) p = e :=
  mgetD_mput_self _ _ _ _

theorem ethAt_withEth_other (s : State) {p q : Nat} (e : EthPort) (h : q ≠ p) : ethAt (withEth s p e) q = ethAt s q :=
  mgetD_mput_other _ _ _ _ _ h

/-! ### The best master clock algorithm's decisions (R55) -/

/-- What a decision of a port's state may change: the ports' records, the port that feeds the servo, the count of free values. -/
structure PortsDecided (s u : State) : Prop where
  time : u.time = { s.time with activePort := u.time.activePort, eth := u.time.eth }
  rest : { u with time := s.time, free := s.free } = s

theorem PortsDecided.regs {s u : State} (h : PortsDecided s u) : u.regs = s.regs := by
  have := congrArg State.regs h.rest
  exact this

theorem PortsDecided.refl (s : State) : PortsDecided s s := ⟨rfl, rfl⟩

theorem PortsDecided.trans {s t u : State} (h : PortsDecided s t) (g : PortsDecided t u) : PortsDecided s u where
  time := by rw [g.time, h.time]
  rest := by
    have := congrArg (fun x : State => { x with time := s.time, free := s.free }) g.rest
    exact this.trans h.rest

/-- No role gives a port the SLAVE state without a Sync. -/
theorem slave_not_mem_portChoices (s : State) (p : Nat) : 9 ∉ portChoices s p := by
  unfold portChoices
  split
  · decide
  · split <;> decide

/-- The state that a decision gives a port that may not stay a slave. -/
def decidedState (s : State) (p : Nat) : Nat :=
  let l := portChoices s p
  if l.length ≤ 1 then l.headD 3 else l.getD (Config.freeNat s.free % l.length) 3

theorem decidedState_ne_slave (s : State) (p : Nat) : decidedState s p ≠ 9 := by
  have hn := slave_not_mem_portChoices s p
  unfold decidedState
  dsimp only
  generalize portChoices s p = l at hn
  split
  · cases l with
    | nil => simp
    | cons x l => exact fun h => hn (by simp_all)
  case isFalse hl =>
    have hi : Config.freeNat s.free % l.length < l.length := Nat.mod_lt _ (by omega)
    rw [List.getD_eq_getElem _ _ hi]
    exact fun h => hn (h ▸ List.getElem_mem hi)

/-- A port that may not stay a slave takes another state, and feeds the servo no more. -/
theorem decidePort_eq (s : State) (p : Nat) :
    decidePort false s p =
      { withEth s p { ethAt s p with state := decidedState s p } with
        free := s.free + 1
        time := { (withEth s p { ethAt s p with state := decidedState s p }).time with
                  activePort := if s.time.activePort = p then 15 else s.time.activePort } } := by
  have hn : decidedState s p ≠ 9 := decidedState_ne_slave s p
  have hd : decidePort false s p =
      let t := { withEth s p { ethAt s p with state := decidedState s p } with free := s.free + 1 }
      if decidedState s p ≠ 9 ∧ s.time.activePort = p then modTime t fun x => { x with activePort := 15 } else t := rfl
  rw [hd]
  by_cases h : s.time.activePort = p
  · simp only [h, hn, ne_eq, not_false_eq_true, and_self, if_true, modTime]
  · simp only [h, and_false, if_false]
    rfl

theorem portsDecided_decidePort (s : State) (p : Nat) : PortsDecided s (decidePort false s p) := by
  rw [decidePort_eq]
  exact ⟨rfl, rfl⟩

theorem slave_decidePort_iff (s : State) (p q : Nat) :
    (ethAt (decidePort false s p) q).state = 9 ↔ q ≠ p ∧ (ethAt s q).state = 9 := by
  have he : ethAt (decidePort false s p) q = ethAt (withEth s p { ethAt s p with state := decidedState s p }) q := by
    rw [decidePort_eq]; rfl
  rw [he]
  by_cases h : q = p
  · simp [h, decidedState_ne_slave]
  · simp [ethAt_withEth_other _ _ h, h]

theorem portsDecided_foldl (l : List Nat) (s : State) : PortsDecided s (l.foldl (decidePort false) s) := by
  induction l generalizing s with
  | nil => exact .refl s
  | cons p l ih => exact (portsDecided_decidePort s p).trans (ih _)

/-- The ports decided anew are slaves no more, and the others are what they were. -/
theorem slave_foldl_decidePort_iff (l : List Nat) (s : State) (q : Nat) :
    (ethAt (l.foldl (decidePort false) s) q).state = 9 ↔ q ∉ l ∧ (ethAt s q).state = 9 := by
  induction l generalizing s with
  | nil => simp
  | cons p l ih => simp only [List.foldl_cons, ih, slave_decidePort_iff, List.mem_cons]; tauto

theorem mem_slavesBut (s : State) (p q : Nat) : q ∈ slavesBut s p ↔ q < 4 ∧ q ≠ p ∧ (ethAt s q).state = 9 := by
  simp [slavesBut]

/-- With the slaves but one decided anew, no other port is a slave. -/
theorem slave_decided_iff (s : State) (p : Nat) {q : Nat} (hq : q < 4) :
    (ethAt ((slavesBut s p).foldl (decidePort false) s) q).state = 9 ↔ q = p ∧ (ethAt s q).state = 9 := by
  rw [slave_foldl_decidePort_iff, mem_slavesBut]; tauto

/-! ### The servo's states (R62) -/

@[simp] theorem reg_modTime (s : State) (f : TimeSt → TimeSt) (off : Nat) : reg (modTime s f) off = reg s off := rfl

/-- Proved by unfolding, so that a rewrite with it does not compare the two states by evaluation. -/
@[simp] theorem modTime_modTime (s : State) (f g : TimeSt → TimeSt) : modTime (modTime s f) g = modTime s fun t => g (f t) := by
  unfold modTime
  rfl

theorem enterServo_holdover {s : State} (h : s.time.servo ≠ .holdover) (cause : Nat) :
    enterServo s .holdover cause =
      raise (modTime s fun t => { t with servo := .holdover, holdCause := cause }) .timHoldover 0 cause oTIM := by
  simp [enterServo, h]

theorem enterServo_locked {s : State} (h : s.time.servo ≠ .locked) (cause : Nat) :
    enterServo s .locked cause =
      raise (modTime s fun t => { t with servo := .locked, holdCause := 0 }) .timLocked 0 (un 32 s.time.fadj) oTIM := by
  simp [enterServo, h]

theorem enterServo_locking (s : State) (cause : Nat) :
    enterServo s .locking cause = modTime s fun t => { t with servo := .locking, holdCause := 0, lockCount := 0 } := by
  simp [enterServo]

/-! ### A Sync's port (R55, R61) -/

/-- The Sync of a domain is one that the port may take: its role admits a slave, it is enabled, and the domain is its own. -/
structure SyncTaken (a : State) (p domain : Nat) : Prop where
  slave : bits (ptpCfg a p) 0 2 = 1 ∨ bits (ptpCfg a p) 0 2 = 3
  enabled : bits (ptpCfg a p) 3 2 ≠ 3 ∨ bit (ptpCfg a p) 6 = true
  domain : domain = portDomain a p

theorem portOff_iff (a : State) (p : Nat) :
    portOff a p = true ↔ bits (ptpCfg a p) 0 2 = 0 ∨ (bits (ptpCfg a p) 3 2 = 3 ∧ bit (ptpCfg a p) 6 = false) := by
  simp [portOff]

theorem SyncTaken.syncOffset {a : State} {p domain : Nat} (h : SyncTaken a p domain) (o : Int) (gm : Nat) :
    syncOffset a p o gm domain = onOffset (syncFrom a p gm domain) (o - interval a (0x50018 + 0x1000 * p)) := by
  obtain ⟨hs, he, hd⟩ := h
  have on : portOff a p = false := by
    rw [← Bool.not_eq_true, portOff_iff]
    rintro (h0 | ⟨h3, h6⟩)
    · omega
    · simp_all
  unfold Machine.syncOffset
  rw [if_neg]
  rintro (h | h | h)
  · simp [on] at h
  · omega
  · exact h hd

theorem syncOffset_ignored {a : State} {p domain : Nat}
    (h : portOff a p = true ∨ bits (ptpCfg a p) 0 2 = 2 ∨ domain ≠ portDomain a p) (o : Int) (gm : Nat) :
    syncOffset a p o gm domain = a := if_pos h

theorem syncFrom_time (a : State) (p gm domain : Nat) :
    (syncFrom a p gm domain).time =
      { a.time with activePort := p, gm := gm, domain := domain, eth := (syncFrom a p gm domain).time.eth,
                    lostAt := a.time.elapsed + 3 * logSeconds (bits (reg a (0x50000 + 0x1000 * p)) 16 4) } := by
  have hd := portsDecided_foldl (slavesBut a p) a
  unfold syncFrom
  dsimp only
  generalize (slavesBut a p).foldl (decidePort false) a = d at hd
  have hr : d.regs = a.regs := hd.regs
  have he : d.time.elapsed = a.time.elapsed := by rw [hd.time]
  have hc : reg d (0x50000 + 0x1000 * p) = reg a (0x50000 + 0x1000 * p) := by simp only [reg, regAt, hr]
  simp only [modEth, modTime, ptpCfg, he, hc]
  rw [hd.time]

theorem syncFrom_rest (a : State) (p gm domain : Nat) :
    { syncFrom a p gm domain with time := a.time, free := a.free } = a := by
  have hd := portsDecided_foldl (slavesBut a p) a
  unfold syncFrom
  dsimp only
  generalize (slavesBut a p).foldl (decidePort false) a = d at hd
  exact hd.rest

theorem slave_syncFrom_iff (a : State) (p gm domain : Nat) {q : Nat} (hq : q < 4) :
    (ethAt (syncFrom a p gm domain) q).state = 9 ↔ q = p := by
  have hs : ethAt (syncFrom a p gm domain) q =
      ethAt (withEth ((slavesBut a p).foldl (decidePort false) a) p
        { ethAt ((slavesBut a p).foldl (decidePort false) a) p with state := 9 }) q := rfl
  rw [hs]
  by_cases h : q = p
  · simp [h]
  · simp [ethAt_withEth_other _ _ h, slave_decided_iff a p hq, h]

end Sys2Proof.Machine
end

section
namespace Sys2Proof.Machine

/-! ### The offset of a Sync (R62, R63) -/

@[simp] theorem jumpTh_modTime (s : State) (f : TimeSt → TimeSt) : jumpTh (modTime s f) = jumpTh s := rfl

@[simp] theorem lockTh_modTime (s : State) (f : TimeSt → TimeSt) : lockTh (modTime s f) = lockTh s := rfl

/-- The integrator after the PI update. -/
def piInteg (s : State) (o : Int) : Int := s.time.integ + (bits (reg s 0x4004C) 16 16 : Int) * o

/-- The adjustment after the PI update, clamped to the limit of TIM_PPM. -/
def piFadj (s : State) (o : Int) : Int :=
  let lim : Int := (reg s 0x40048 : Int) * 4294967296
  divFree 7 (clampI ((bits (reg s 0x4004C) 0 16 : Int) * o + piInteg s o) (-lim) lim) 16777216

/-- The run of offsets within TIM_LOCKTH, with one more offset. -/
def lockRun (s : State) (o : Int) : Nat := if (o.natAbs : Int) ≤ lockTh s then s.time.lockCount + 1 else 0

/-- Out of HOLDOVER, the PI update stays in the servo's state but for the sixteenth offset in LOCKING. The new values are named, so that no
comparison of two states evaluates them. -/
theorem piUpdate_eq {s : State} (h : s.time.servo ≠ .holdover) {o i f : Int} {n : Nat} (hi : piInteg s o = i) (hf : piFadj s o = f)
    (hn : lockRun s o = n) :
    piUpdate s o =
      let u := modTime s fun t => { t with integ := i, fadj := f, lockCount := n }
      if s.time.servo = .locking ∧ 16 ≤ n then enterServo u .locked 0 else u := by
  unfold piFadj at hf
  unfold piInteg at hi hf
  unfold lockRun at hn
  unfold piUpdate
  dsimp only at hf ⊢
  rw [hf, hi]
  simp only [modTime_time, h, if_false, lockTh_modTime, modTime_modTime, hn]

section
variable {s : State} (on : bit (reg s 0x40000) 0 = true)
include on

theorem onOffset_near {o : Int} (near : (o.natAbs : Int) ≤ jumpTh s)
    (h : s.time.servo = .locked ∨ s.time.servo = .locking) :
    onOffset s o = piUpdate (modTime s fun t => { t with offset := o }) o := by
  have hj : ¬jumpTh s < o.natAbs := Int.not_lt.mpr near
  rcases h with h | h <;> simp [onOffset, on, h, hj, -Nat.cast_natAbs]

theorem onOffset_refused {o : Int} (far : jumpTh s < o.natAbs) (h : s.time.servo = .locked) (ha : s.time.stepArmed = none) :
    onOffset s o =
      let u := modTime s fun t => { t with offset := o, servo := .holdover, holdCause := 1 }
      modTime (raise (raise u .timHoldover 0 1 oTIM) .timJumpRefused 0 (un 64 (offsetNs o)) oTIM) fun t =>
        { t with stepArmed := none } := by
  simp [onOffset, on, h, far, stepAdmits, ha, enterServo_holdover, -Nat.cast_natAbs]

theorem onOffset_stepped {o : Int} (far : jumpTh s < o.natAbs) (h : s.time.servo = .locked) {m : Nat}
    (ha : s.time.stepArmed = some m) (hm : m = 0 ∨ o.natAbs ≤ m * 65536) :
    onOffset s o =
      let u := modTime s fun t => { t with offset := o, stepDue := some (t.stepDue.getD 0 + o) }
      modTime (raise u .timStepped 0 (un 64 (-(offsetNs o))) oTIM) fun t =>
        { t with servo := .locking, holdCause := 0, lockCount := 0, stepArmed := none } := by
  have admits : stepAdmits (modTime s fun t => { t with offset := o }) o = true := by
    cases m <;> simp_all [stepAdmits]
  simp [onOffset, on, h, far, admits, stepPtp, enterServo_locking, -Nat.cast_natAbs]

end

/-! ### A Sync before its offset acts -/

@[simp] theorem reg_syncFrom (a : State) (p gm domain off : Nat) : reg (syncFrom a p gm domain) off = reg a off := by
  have hr := congrArg State.regs (syncFrom_rest a p gm domain)
  have hr : (syncFrom a p gm domain).regs = a.regs := hr
  simp only [reg, regAt, hr]

section
variable (a : State) (p gm domain : Nat)

@[simp] theorem syncFrom_servo : (syncFrom a p gm domain).time.servo = a.time.servo := by rw [syncFrom_time]
@[simp] theorem syncFrom_integ : (syncFrom a p gm domain).time.integ = a.time.integ := by rw [syncFrom_time]
@[simp] theorem syncFrom_lockCount : (syncFrom a p gm domain).time.lockCount = a.time.lockCount := by rw [syncFrom_time]
@[simp] theorem syncFrom_stepArmed : (syncFrom a p gm domain).time.stepArmed = a.time.stepArmed := by rw [syncFrom_time]
@[simp] theorem jumpTh_syncFrom : jumpTh (syncFrom a p gm domain) = jumpTh a := by simp [jumpTh]
@[simp] theorem lockTh_syncFrom : lockTh (syncFrom a p gm domain) = lockTh a := by simp [lockTh]

end

/-- The PI update depends on the registers and the servo's memory alone, which a Sync leaves as they were. -/
theorem piUpdate_sync {a : State} {p gm domain : Nat} (h : a.time.servo ≠ .holdover) {o i f : Int} {n : Nat} (hi : piInteg a o = i)
    (hf : piFadj a o = f) (hn : lockRun a o = n) :
    piUpdate (modTime (syncFrom a p gm domain) fun t => { t with offset := o }) o =
      let u := modTime (syncFrom a p gm domain) fun t => { t with offset := o, integ := i, fadj := f, lockCount := n }
      if a.time.servo = .locking ∧ 16 ≤ n then
        raise (modTime u fun t => { t with servo := .locked, holdCause := 0 }) .timLocked 0 (un 32 f) oTIM
      else u := by
  have hi : piInteg (modTime (syncFrom a p gm domain) fun t => { t with offset := o }) o = i := by
    rw [← hi]; simp only [piInteg, reg_modTime, reg_syncFrom, modTime_time, syncFrom_integ]
  have hf : piFadj (modTime (syncFrom a p gm domain) fun t => { t with offset := o }) o = f := by
    rw [← hf]; simp only [piFadj, piInteg, reg_modTime, reg_syncFrom, modTime_time, syncFrom_integ]
  have hn : lockRun (modTime (syncFrom a p gm domain) fun t => { t with offset := o }) o = n := by
    rw [← hn]; simp only [lockRun, lockTh_modTime, lockTh_syncFrom, modTime_time, syncFrom_lockCount]
  rw [piUpdate_eq (by simpa using h) hi hf hn]
  simp only [modTime_time, syncFrom_servo, modTime_modTime]
  split
  case isTrue hl =>
    rw [enterServo_locked (by simp [hl.1])]
    simp only [modTime_time, modTime_modTime]
  case isFalse => rfl

section
variable {a : State} {p domain : Nat} (taken : SyncTaken a p domain) (on : bit (reg a 0x40000) 0 = true)
  {o e : Int} (he : o - interval a (0x50018 + 0x1000 * p) = e) (gm : Nat)
include taken on he

/-- An offset within TIM_JUMPTH moves the servo by the PI update. -/
theorem syncOffset_near (near : (e.natAbs : Int) ≤ jumpTh a) (h : a.time.servo = .locked ∨ a.time.servo = .locking) :
    syncOffset a p o gm domain = piUpdate (modTime (syncFrom a p gm domain) fun t => { t with offset := e }) e := by
  rw [taken.syncOffset, he, onOffset_near (by simpa using on) (near.trans_eq (jumpTh_syncFrom ..).symm) (by simpa using h)]

/-- Beyond TIM_JUMPTH a LOCKED servo without an armed step refuses the offset. -/
theorem syncOffset_refused (far : jumpTh a < e.natAbs) (h : a.time.servo = .locked) (ha : a.time.stepArmed = none) {r : State}
    (hr : raise (raise (modTime (syncFrom a p gm domain) fun t => { t with offset := e, servo := .holdover, holdCause := 1 })
      .timHoldover 0 1 oTIM) .timJumpRefused 0 (un 64 (offsetNs e)) oTIM = r) :
    syncOffset a p o gm domain = modTime r fun t => { t with stepArmed := none } := by
  rw [← hr, taken.syncOffset, he, onOffset_refused (by simpa using on) ((jumpTh_syncFrom ..).trans_lt far) ((syncFrom_servo ..).trans h)
    ((syncFrom_stepArmed ..).trans ha)]

/-- Beyond TIM_JUMPTH a LOCKED servo takes the armed step that admits the offset. -/
theorem syncOffset_stepped (far : jumpTh a < e.natAbs) (h : a.time.servo = .locked) {m : Nat} (ha : a.time.stepArmed = some m)
    (hm : m = 0 ∨ e.natAbs ≤ m * 65536) {r : State}
    (hr : raise (modTime (syncFrom a p gm domain) fun t => { t with offset := e, stepDue := some (t.stepDue.getD 0 + e) })
      .timStepped 0 (un 64 (-(offsetNs e))) oTIM = r) :
    syncOffset a p o gm domain =
      modTime r fun t => { t with servo := .locking, holdCause := 0, lockCount := 0, stepArmed := none } := by
  rw [← hr, taken.syncOffset, he, onOffset_stepped (by simpa using on) ((jumpTh_syncFrom ..).trans_lt far) ((syncFrom_servo ..).trans h)
    ((syncFrom_stepArmed ..).trans ha) hm]

end

/-! ### The commands of the servo -/

theorem exec_ptpSyncOffset {s a : State} (h : Finds s a) (p : Fin 4) (o : Int) (gm : Word64) (dom : BitVec 8) :
    exec (.ptpSyncOffset p o gm dom) s = .next (leave s (syncOffset a p o gm.toNat dom.toNat)) :=
  event_finds h fun s => syncOffset s p o gm.toNat dom.toNat

/-- Settles O9: a Sync makes its port the slave, and its offset then updates the servo, is refused, or is stepped. -/
theorem servoFollowsOffsets : Obligations.ServoFollowsOffsets := by
  refine ⟨?within, ?beyond⟩
  case within =>
    rintro s a p o gm dom hfinds ⟨hslave, henabled, hdomain⟩ e on free near hs b g integ lim n t
    have taken : SyncTaken a p dom.toNat := ⟨hslave, henabled, hdomain⟩
    have hi : piInteg a e = integ := rfl
    have hn : lockRun a e = n := rfl
    have ht : t = { b.time with offset := e, integ := integ, lockCount := n, fadj := piFadj a e } := rfl
    obtain ⟨f, hf⟩ : ∃ f, piFadj a e = f := ⟨_, rfl⟩
    rw [hf] at ht
    clear_value t n integ
    subst ht
    have he : o - interval a (0x50018 + 0x1000 * p) = e := rfl
    have hexec := exec_ptpSyncOffset hfinds p o gm dom
    rw [(syncOffset_near taken on he gm.toNat near hs).trans
      (piUpdate_sync (by rcases hs with hs | hs <;> simp [hs]) hi hf hn)] at hexec
    refine ⟨syncFrom_time _ _ _ _, syncFrom_rest _ _ _ _, fun q hq => slave_syncFrom_iff _ _ _ _ hq, ?_, ?_⟩
    · intro stays
      have : ¬(a.time.servo = .locking ∧ 16 ≤ n) := by
        rintro ⟨hl, h16⟩
        rcases stays with h | h
        · simp [hl] at h
        · omega
      rw [hexec, if_neg this]
      rfl
    · intro hl h16
      rw [hexec, if_pos ⟨hl, h16⟩]
      rfl
  case beyond =>
    intro s a p o gm dom hfinds c
    refine ⟨fun ignored => ?_, ?_⟩
    · rw [exec_ptpSyncOffset hfinds, syncOffset_ignored]
      rw [portOff_iff]
      exact or_assoc.mpr (ignored.imp_right fun h => by tauto)
    · rintro ⟨hslave, henabled, hdomain⟩ e on hl far u b
      have taken : SyncTaken a p dom.toNat := ⟨hslave, henabled, hdomain⟩
      have he : o - interval a (0x50018 + 0x1000 * p) = e := rfl
      refine ⟨?refused, ?stepped⟩
      case refused =>
        intro ha r
        rw [exec_ptpSyncOffset hfinds, syncOffset_refused taken on he gm.toNat far hl ha (r := r) rfl]
        clear_value r
        rfl
      case stepped =>
        intro m ha hm r
        rw [exec_ptpSyncOffset hfinds, syncOffset_stepped taken on he gm.toNat far hl ha hm (r := r) rfl]
        clear_value r
        rfl

end Sys2Proof.Machine
end

section
namespace Sys2Proof.Machine

/-! ### The loss of the master (R61) -/

/-- The loss of the master: no port is in SLAVE state, and a LOCKED servo holds over with cause lost. -/
def masterGone (s : State) : State :=
  let u := modTime ((slavesBut s 4).foldl (decidePort false) s) fun t => { t with activePort := 15 }
  if s.time.servo = .locked then
    raise (modTime u fun t => { t with servo := .holdover, holdCause := 2 }) .timHoldover 0 2 oTIM
  else u

theorem masterLost_eq (s : State) :
    masterLost s =
      let b := { s with free := s.free + 1 }
      if s.time.elapsed < s.time.lostAt ∧ Config.announceOut s.free = false then b else masterGone b := by
  have hservo (b : State) : ((slavesBut b 4).foldl (decidePort false) b).time.servo = b.time.servo := by
    rw [(portsDecided_foldl (slavesBut b 4) b).time]
  unfold masterLost masterGone
  dsimp only
  by_cases hwait : s.time.elapsed < s.time.lostAt ∧ Config.announceOut s.free = false
  · rw [if_pos (by simp [hwait]), if_pos hwait]
  · rw [if_neg (by simpa [and_comm] using hwait), if_neg hwait]
    simp only [modTime_time, hservo]
    by_cases hl : s.time.servo = .locked
    · rw [if_pos hl, if_pos hl, enterServo_holdover (by simp [hservo, hl])]
    · rw [if_neg hl, if_neg hl]

/-! ### SERVO_EN and HOLDOVER_FORCE (R62) -/

/-- SERVO_EN clear or HOLDOVER_FORCE set holds the servo over with cause forced. -/
def holdForced (u : State) : Prop := bit (reg u 0x40000) 0 = false ∨ bit (reg u 0x40000) 2 = true

theorem holdForced_iff (u : State) : (!(bit (reg u 0x40000) 0) || bit (reg u 0x40000) 2) = true ↔ holdForced u := by
  simp [holdForced]

theorem forcedHoldover_freerun {u : State} (h : u.time.servo = .freerun) : forcedHoldover u = u := by
  simp [forcedHoldover, h]

theorem forcedHoldover_begins {u : State} (hf : holdForced u) (h : u.time.servo = .locked ∨ u.time.servo = .locking) :
    forcedHoldover u = raise (modTime u fun t => { t with servo := .holdover, holdCause := 3 }) .timHoldover 0 3 oTIM := by
  have hs : u.time.servo ≠ .holdover := by rcases h with h | h <;> simp [h]
  unfold forcedHoldover
  dsimp only
  rw [if_pos ((holdForced_iff u).mpr hf), if_pos h.symm, enterServo_holdover hs]

theorem forcedHoldover_ends {u : State} (hf : ¬holdForced u) (h : u.time.servo = .holdover) (hc : u.time.holdCause = 3) :
    forcedHoldover u = modTime u fun t => { t with holdCause := 0 } := by
  unfold forcedHoldover
  dsimp only
  rw [if_neg (fun h => hf ((holdForced_iff u).mp h)), if_pos ⟨h, hc⟩]

/-- Either write sets its bit, and the forced cause then begins or ends. -/
theorem exec_servoWrite {s a : State} {req : Fin 64} (h : FindsReg s a req 0x40000) {v : Bool} {i : Instr} {u : State}
    (hi : (i = .timServoEnWrite req v ∧ u = setReg a 0x40000 (setBit (reg a 0x40000) 0 v)) ∨
      (i = .timHoldoverForceWrite req v ∧ u = setReg a 0x40000 (setBit (reg a 0x40000) 2 v))) :
    exec i s = .next (leave s (forcedHoldover u)) ∧ u.time = a.time := by
  rcases hi with ⟨rfl, rfl⟩ | ⟨rfl, rfl⟩
  · exact ⟨event_findsReg h fun s => servoEnWrite s v, rfl⟩
  · exact ⟨event_findsReg h fun s => holdoverForceWrite s v, rfl⟩

/-- Settles O10: the loss of the master decides every slave anew, and either write begins or ends the forced cause. -/
theorem holdoverCauses : Obligations.HoldoverCauses := by
  intro s a
  refine ⟨?lost, ?forced⟩
  case lost =>
    intro hfinds b u lost
    have hd : PortsDecided b u := portsDecided_foldl (slavesBut b 4) b
    have hm : masterLost a = if a.time.elapsed < a.time.lostAt ∧ Config.announceOut a.free = false then b else lost :=
      masterLost_eq a
    have hexec : exec .ptpMasterLost s = .next (leave s (masterLost a)) := event_finds hfinds masterLost
    rw [hm] at hexec
    refine ⟨fun q hq hs => ?_, hd.time, ?_, fun hwait => ?_, fun hover => ?_⟩
    · have := ((slave_decided_iff b 4 hq).mp hs).1
      omega
    · exact congrArg (fun t => { t with free := a.free }) hd.rest
    · rw [hexec]
      cases Config.announceOut a.free
      · rw [if_pos ⟨hwait, rfl⟩]; rfl
      · rw [if_neg (by simp)]; rfl
    · rw [hexec, if_neg (by omega)]
  case forced =>
    intro req v hfinds e h i u hi forced
    obtain ⟨hexec, ht⟩ := exec_servoWrite hfinds hi
    rw [hexec]
    refine ⟨fun hs => ?_, fun hf hs => ?_, fun hf hs hc => ?_⟩
    · rw [forcedHoldover_freerun (ht ▸ hs)]
    · rw [forcedHoldover_begins hf (ht ▸ hs)]
      refine ⟨_, rfl, rfl, rfl, ?_⟩
      rw [← ht]
      rfl
    · rw [forcedHoldover_ends hf (ht ▸ hs) (ht ▸ hc), ← ht]
      rfl

end Sys2Proof.Machine
end

section
namespace Sys2Proof.Machine

/-! ### Snapshots (R54) -/

/-- Settles O8: the snapshot is written under its requester's key alone. -/
theorem snapshotTakesOneInstant : Obligations.SnapshotTakesOneInstant := by
  intro s a req hfinds snaps
  exact ⟨event_findsReg hfinds fun s => takeSnap s req, mget_mput_self _ _ _, fun q hq => mget_mput_other _ _ _ _ hq⟩

end Sys2Proof.Machine
end

section
namespace Sys2Proof.Machine

/-! ### Messages received (R55 to R57) -/

/-- A port's record with the ingress stamp of an event message: PTP time less the ingress correction. -/
def rxStamped (s : State) (p : Nat) : EthPort :=
  { ethAt s p with rxStamp := ptpStamp s - interval s (0x50008 + 0x1000 * p) }

theorem ptpReceive_management {s : State} {p : Nat} (on : portOff s p = false) {m : PtpMsg} (hm : m.management = true) :
    ptpReceive s p m = bump s (0x5002C + 0x1000 * p) := by
  simp [ptpReceive, on, hm]

theorem ptpReceive_off {s : State} {p : Nat} (off : portOff s p = true) {m : PtpMsg} (he : m.event = false) :
    ptpReceive s p m = s := by
  simp [ptpReceive, off, he]

section
variable {s : State} {p : Nat} (on : portOff s p = false) {m : PtpMsg} (hm : m.management = false) (he : m.event = true)
include on hm he

/-- A stamped message then takes its part in the protocol. -/
theorem ptpReceive_event :
    ptpReceive s p m =
      let u := withEth s p (rxStamped s p)
      if beNat (takeBytes m.body 4 1) ≠ portDomain s p then u
      else if measuresDelay s p m then
        { modEth u p fun e => { e with mpd := sx 64 (Config.freeNat s.free) } with free := s.free + 1 }
      else if m.kind = 11 then ((List.range 4).filter fun q => !(portOff u q)).foldl (decidePort true) u
      else u := by
  unfold ptpReceive
  rw [if_neg (by simp [on]), if_neg (by simp [hm]), if_pos he]
  rfl

/-- A message of another domain, or an event message that ends no measurement, is stamped and nothing else. -/
theorem ptpReceive_stamped (h : beNat (takeBytes m.body 4 1) ≠ portDomain s p ∨ m.kind < 3) :
    ptpReceive s p m = withEth s p (rxStamped s p) := by
  rw [ptpReceive_event on hm he]
  dsimp only
  split
  case isTrue => rfl
  case isFalse hd =>
    have hk : m.kind < 3 := h.resolve_left hd
    have hmeas : measuresDelay s p m = false := by
      simp [measuresDelay, show m.kind ≠ 3 by omega, show m.kind ≠ 9 by omega, show m.kind ≠ 10 by omega]
    rw [if_neg (by simp [hmeas]), if_neg (by omega)]

/-- A Pdelay_Resp peer to peer ends a measurement, which leaves ETH_MPD free. -/
theorem ptpReceive_measures (hk : m.kind = 3) (hd : beNat (takeBytes m.body 4 1) = portDomain s p) (hp : peerDelay s p = true) :
    ptpReceive s p m =
      withEth { withEth s p (rxStamped s p) with free := s.free + 1 } p { rxStamped s p with mpd := sx 64 (Config.freeNat s.free) } := by
  have hmeas : measuresDelay s p m = true := by simp [measuresDelay, hp, hk]
  rw [ptpReceive_event on hm he]
  dsimp only
  rw [if_neg (by simp [hd]), if_pos hmeas, modEth_eq, ethAt_withEth_self]
  rfl

end

/-! ### Messages sent (R57 to R59) -/

/-- A port's record with the egress stamp of a message that it sends: PTP time plus the egress correction. -/
def txStamped (s : State) (p : Nat) (m : PtpMsg) : EthPort :=
  { ethAt s p with
    txStamp := ptpStamp s + interval s (0x50010 + 0x1000 * p)
    syncTx := if m.kind = 0 then some s.time.elapsed else (ethAt s p).syncTx
    pdelayTx := if m.kind = 2 then some s.time.elapsed else (ethAt s p).pdelayTx }

theorem ptpSend_withheld {s : State} {p : Nat} {m : PtpMsg} (h : ptpSends s p m = false) : ptpSend s p m = s := by
  simp [ptpSend, h]

theorem isOneStep_iff (s : State) (p : Nat) (m : PtpMsg) :
    isOneStep s p m = true ↔ bit (ptpCfg s p) 5 = true ∧ (m.kind = 0 ∨ m.kind = 3) := by
  simp [isOneStep]

section
variable {s : State} {p : Nat} {m : PtpMsg} (h : ptpSends s p m = true)
include h

theorem ptpSend_twoStep (ho : isOneStep s p m = false) :
    ptpSend s p m = withEth s p { txStamped s p m with txMsg := m.body, txSum := none } := by
  unfold ptpSend
  rw [if_neg (by simp [h]), ho]
  rfl

/-- Over UDP/IPv4 a one-step message carries its stamp and the UDP checksum 0. -/
theorem ptpSend_oneStep_ipv4 (ho : isOneStep s p m = true) (ht : bits (ptpCfg s p) 3 2 = 1) (hg : bit (ptpCfg s p) 6 = false) :
    ptpSend s p m = withEth s p { txStamped s p m with txMsg := oneStep s p m, txSum := some 0 } := by
  unfold ptpSend
  rw [if_neg (by simp [h]), ho]
  simp only [ht, hg, modEth_eq, if_true, decide_true, Bool.not_false, Bool.and_self]
  rfl

end

/-- Settles O11: a message received is discarded, stamped or measured, and one sent leaves as its step says. -/
theorem ptpMessagesAreStamped : Obligations.PtpMessagesAreStamped := by
  intro s a p m hfinds c e now
  have hrx : exec (.ptpMessageRx p m) s = .next (leave s (ptpReceive a p m)) := event_finds hfinds fun s => ptpReceive s p m
  have htx : exec (.ptpMessageTx p m) s = .next (leave s (ptpSend a p m)) := event_finds hfinds fun s => ptpSend s p m
  rw [hrx, htx]
  refine ⟨fun on hm => ?_, fun on hm he => ⟨fun h => ?_, fun hk hd hp => ?_⟩, fun h => ?_, fun h => ⟨fun ho => ?_, fun ho hk ht hg => ?_⟩,
    fun off he => ?_⟩
  · rw [ptpReceive_management on hm]
  · rw [ptpReceive_stamped on hm he h]
    rfl
  · rw [ptpReceive_measures on hm he hk hd (Bool.or_eq_true .. ▸ hp.symm)]
    exact ⟨_, rfl⟩
  · rw [ptpSend_withheld h]
  · rw [ptpSend_twoStep h]
    · rfl
    · rw [← Bool.not_eq_true, isOneStep_iff]
      rintro ⟨hb, hk⟩
      rcases ho with ho | ho
      · exact Bool.false_ne_true (ho.symm.trans hb)
      · tauto
  · rw [ptpSend_oneStep_ipv4 h ((isOneStep_iff _ _ _).mpr ⟨ho, hk⟩) ht hg]
    rfl
  · rw [ptpReceive_off ((portOff_iff a p).mpr (.inl off)) he]

end Sys2Proof.Machine
end

section
namespace Sys2Proof.Machine

/-! ### The starts of a gate cycle (R60) -/

section
variable {b c : Nat} {t : Int}

theorem cycleStart_before (h : t ≤ b) : cycleStart b c t = b := by
  rw [cycleStart, if_pos (.inl h), max_eq_right h]

/-- After its base, a cycle starts at the first multiple of the cycle time from the base that is not before the instant. -/
theorem cycleStart_after (hc : 0 < c) (h : (b : Int) < t) :
    ∃ k : Int, cycleStart b c t = b + k * c ∧ t ≤ b + k * c ∧ b + k * c < t + c := by
  have hpos : (0 : Int) < c := by exact_mod_cast hc
  have hlow := Int.mul_ediv_self_le (x := (b : Int) - t) (k := (c : Int)) (by omega)
  have hhigh := Int.lt_mul_ediv_self_add (x := (b : Int) - t) hpos
  refine ⟨-(((b : Int) - t) / c), ?_, ?_, ?_⟩
  · rw [cycleStart, if_neg (by omega), floorDiv, Int.fdiv_eq_ediv_of_nonneg _ (by omega)]
    ring
  · linarith [mul_comm (c : Int) (((b : Int) - t) / c)]
  · linarith [mul_comm (c : Int) (((b : Int) - t) / c)]

/-- A cycle start is the first one, aligned to the base, at or after the base and the instant. -/
theorem cycleStart_spec (hc : 0 < c) (t : Int) :
    t ≤ cycleStart b c t ∧ (b : Int) ≤ cycleStart b c t ∧ (cycleStart b c t - b) % c = 0 ∧
      (cycleStart b c t = b ∨ cycleStart b c t < t + c) := by
  by_cases h : t ≤ b
  · simp [cycleStart_before h, h]
  · obtain ⟨k, hk, hle, hlt⟩ := cycleStart_after hc (Int.not_le.mp h)
    rw [hk]
    exact ⟨hle, by omega, by simp, .inr hlt⟩

end

/-! ### Gate lists (R60) -/

/-- Entry `i` of the administrative list of a port. -/
def adminEntry (s : State) (p i : Nat) : Nat × Nat :=
  (bits (reg s (0x50100 + 0x1000 * p + 4 * i)) 0 8, bits (reg s (0x50100 + 0x1000 * p + 4 * i)) 8 24)

theorem gclApply_eq (s : State) (p : Nat) :
    gclApply s p =
      withEth s p { ethAt s p with
        admin := some ((List.range (bits (reg s (0x50200 + 0x1000 * p)) 0 7)).map (adminEntry s p), reg64 s (0x50204 + 0x1000 * p),
          reg s (0x5020C + 0x1000 * p))
        adminStart := cycleStart (reg64 s (0x50204 + 0x1000 * p)) (reg s (0x5020C + 0x1000 * p)) (ptpNs s) } := by
  have offset (k : Nat) : 0x50000 + 0x1000 * p + k = 0x50000 + k + 0x1000 * p := by omega
  unfold gclApply
  simp only [offset, modEth_eq]
  rfl

theorem gclSwitch_waits {s : State} {p : Nat} (h : ptpNs s < (ethAt s p).adminStart) : gclSwitch s p = s := by
  unfold gclSwitch
  split
  · rw [if_neg (by omega)]
  · rfl

theorem gclSwitch_starts {s : State} {p b c : Nat} {l : List (Nat × Nat)} (ha : (ethAt s p).admin = some (l, b, c))
    (h : (ethAt s p).adminStart ≤ ptpNs s) :
    gclSwitch s p =
      withEth s p { ethAt s p with
        oper := l, operBase := b, operCycle := c, admin := none, entry := 0, entryAt := s.time.elapsed, cycleEnd := cycleEndAt s b c } := by
  unfold gclSwitch
  rw [ha]
  dsimp only
  rw [if_pos h, modEth_eq]

section
variable {s : State} {p : Nat} (on : bit (reg s (0x50200 + 0x1000 * p)) 8 = true) (hl : (ethAt s p).oper ≠ [])
include on hl

theorem gateInterval_cycleEnd (h : (ethAt s p).cycleEnd ≤ s.time.elapsed) :
    gateInterval s p =
      withEth s p { ethAt s p with
        entry := 0, entryAt := (ethAt s p).cycleEnd, cycleEnd := cycleEndAt s (ethAt s p).operBase (ethAt s p).operCycle } := by
  unfold gateInterval
  dsimp only
  rw [if_neg (by simp [on, hl]), if_pos h, modEth_eq]

theorem gateInterval_next {x : Nat × Nat} (h : s.time.elapsed < (ethAt s p).cycleEnd)
    (hn : (ethAt s p).entry + 1 < (ethAt s p).oper.length) (hx : (ethAt s p).oper[(ethAt s p).entry]? = some x)
    (ht : (ethAt s p).entryAt + x.2 * nsU ≤ s.time.elapsed) :
    gateInterval s p =
      withEth s p { ethAt s p with entry := (ethAt s p).entry + 1, entryAt := (ethAt s p).entryAt + x.2 * nsU } := by
  have hd : (ethAt s p).oper.getD (ethAt s p).entry (0, 0) = x := by rw [List.getD_eq_getElem?_getD, hx, Option.getD_some]
  unfold gateInterval
  dsimp only
  rw [if_neg (by simp [on, hl]), if_neg (Nat.not_le.mpr h), hd, if_pos ⟨hn, ht⟩, modEth_eq]

end

/-- Settles O12: the list is scheduled at a cycle start, switched to there, and its entries follow by elapsed time. -/
theorem gateListsRun : Obligations.GateListsRun := by
  intro s a p e
  refine ⟨fun req hfinds => ?apply, fun l b c hfinds ha => ⟨fun hw => ?waits, fun hs => ?starts⟩, fun b c t hc => cycleStart_spec hc t,
    fun hfinds on hl => ⟨fun hend => ?wraps, fun x hin hn hx ht => ?next⟩⟩
  case apply =>
    refine ⟨(List.range (bits (reg a (0x50200 + 0x1000 * p)) 0 7)).map (adminEntry a p), ?_, by simp, fun i hi => ?_⟩
    · rw [← gclApply_eq]
      exact event_findsReg hfinds fun s => gclApply s p
    · rw [List.getElem?_map, List.getElem?_range (by simpa using hi)]
      rfl
  case waits => exact (event_finds hfinds fun s => gclSwitch s p).trans (by rw [gclSwitch_waits hw])
  case starts => exact (event_finds hfinds fun s => gclSwitch s p).trans (by rw [gclSwitch_starts ha hs])
  case wraps => exact (event_finds hfinds fun s => gateInterval s p).trans (by rw [gateInterval_cycleEnd on hl hend])
  case next => exact (event_finds hfinds fun s => gateInterval s p).trans (by rw [gateInterval_next on hl hin hn hx ht])

end Sys2Proof.Machine
end

section
namespace Sys2Proof.Machine

/-! ### A track frame refutes O13 (R315, R316) -/

/-- A device out of reset whose clock has stopped at elapsed time 1, as a command finds it: its guard listens on port 0 at UDP port 47000 and has
stream block 0 enabled for stream 3, last heard at SEQUENCE 5 and elapsed time 0. -/
def listening (free : Nat) : State :=
  { State.reset with
    free := free
    md := { State.reset.md with held := false, off := false, mode := .run }
    time := { State.reset.time with elapsed := 1, servo := .locked }
    regs := [(0x210048, 47000 + 65536), (0x210100, 1 + 3 * 65536)]
    grd := { State.reset.grd with streams := [(0, { seq := some 5 })] } }

/-- A track frame of stream 3 without records, SEQUENCE 6, all of its other fields 0, before its checksum. -/
def emptyTracks : List Byte := beBytes 4 0x4754524B ++ [1, 0, 0, 3] ++ beBytes 4 6 ++ List.replicate 20 0

def emptyTrackFrame : List Byte := emptyTracks ++ beBytes 4 (crc32 emptyTracks)

theorem listening_finds (n : Nat) : Finds (listening n) (listening (n + 1)) :=
  ⟨atArrival_stopped ⟨rfl, rfl, rfl, rfl, rfl, rfl, rfl⟩ rfl, rfl⟩

/-- The model notes when it has heard the stream, at elapsed time 1. -/
theorem heardAt_emptyTrackFrame :
    (mget (trackFrame (listening 1) 0 47000 emptyTrackFrame).grd.streams 0).map Stream.heardAt = some 1 := by
  decide +kernel

/-- Whatever guard state describes the command's outcome, the stream has been heard at elapsed time 1. -/
theorem heardAt_of_exec {g : GrdSt}
    (h : exec (.trackFrameRx 0 47000 emptyTrackFrame) (listening 0) = .next (leave (listening 0) { listening 1 with grd := g })) :
    (mget g.streams 0).map Stream.heardAt = some 1 := by
  have hmodel := event_finds (listening_finds 0) fun s => trackFrame s 0 47000 emptyTrackFrame
  have hgrd := congrArg State.grd (Host.Outcome.next.inj (hmodel.symm.trans h))
  rw [leave_grd, leave_grd] at hgrd
  have hgrd : (trackFrame (listening 1) 0 47000 emptyTrackFrame).grd = g := hgrd
  rw [← hgrd]
  exact heardAt_emptyTrackFrame

/-- Refutes O13: the statement keeps the instant at which a stream has been heard as it was, where an accepted frame sets it. -/
theorem not_publicationsAndTracks : ¬ Obligations.PublicationsAndTracks := by
  rintro ⟨-, tracks⟩
  obtain ⟨frames, -⟩ := tracks (listening 0) (listening 1) (listening_finds 0)
  obtain ⟨-, -, accepted⟩ := frames 0 47000 emptyTrackFrame
  have form : emptyTrackFrame.length = 36 ∧ beNat (takeBytes emptyTrackFrame 32 4) = crc32 (emptyTrackFrame.take 32) := by
    decide +kernel
  obtain ⟨g, hexec, hstream, -⟩ := accepted 0 5 rfl rfl ⟨form.1, rfl, rfl, by decide, form.2⟩ rfl rfl rfl rfl (by decide) (by decide) rfl rfl
    (by decide) (by decide) rfl
  have heard := heardAt_of_exec hexec
  have kept : (streamAt (listening 1) 0).heardAt = 0 := rfl
  rw [hstream, Option.map_some, kept] at heard
  exact absurd heard (by decide)

end Sys2Proof.Machine
end

section
namespace Sys2Proof.Machine

/-! ### The SAFE_OFF pins (R92) -/

theorem pinAccept_a (s : State) : pinAccept s 0 = modMd (pinStates s true s.md.pinB) fun x => { x with pinDue := true } := by
  simp [pinAccept]

theorem pinAccept_b (s : State) : pinAccept s 1 = modMd (pinStates s s.md.pinA true) fun x => { x with pinDue := true } := by
  simp [pinAccept]

theorem pinRelease_a (s : State) : pinRelease s 0 = pinStates s false s.md.pinB := by simp [pinRelease]

theorem pinRelease_b (s : State) : pinRelease s 1 = pinStates s s.md.pinA false := by simp [pinRelease]

/-- An episode of disagreement that has lasted too long is reported, and marked so that it is reported once. -/
theorem killDiscrepancy_raises {s : State} {t : Nat} (hd : s.md.discrep = some t) (ht : t + 5 * msU < s.time.elapsed)
    (hr : s.md.discrepRaised = false) :
    killDiscrepancy s = raise (modMd s fun x => { x with discrepRaised := true }) .rylKillDiscrepancy 0
      (255 + (b2n s.md.pinA + 2 * b2n s.md.pinB) * 65536) (blockOrigin 8) := by
  simp only [killDiscrepancy, hd, if_pos (And.intro ht hr)]

/-- An episode that is young, or that has been reported, is not reported. -/
theorem killDiscrepancy_silent {s : State} {t : Nat} (hd : s.md.discrep = some t)
    (h : s.time.elapsed ≤ t + 5 * msU ∨ s.md.discrepRaised = true) : killDiscrepancy s = s := by
  have : ¬(t + 5 * msU < s.time.elapsed ∧ s.md.discrepRaised = false) := by
    rintro ⟨hlate, hnew⟩
    rcases h with h | h
    · omega
    · exact Bool.noConfusion (hnew.symm.trans h)
  simp only [killDiscrepancy, hd, if_neg this]

/-- Settles O14: a command of a pin sets the accepted states, whose record begins, keeps or ends the episode. -/
theorem safeOffPins : Obligations.SafeOffPins := by
  intro s a since base
  refine ⟨fun hfind => ⟨?acceptA, ?acceptB, ?releaseA, ?releaseB⟩, fun t hfind hd => ⟨fun ht hr => ?raises, fun h => ?silent⟩⟩
  case acceptA => exact (event_findsOn hfind (pinAccept · 0)).trans (by rw [pinAccept_a]; rfl)
  case acceptB => exact (event_findsOn hfind (pinAccept · 1)).trans (by rw [pinAccept_b]; rfl)
  case releaseA => exact (event_findsOn hfind (pinRelease · 0)).trans (by rw [pinRelease_a]; rfl)
  case releaseB => exact (event_findsOn hfind (pinRelease · 1)).trans (by rw [pinRelease_b]; rfl)
  case raises => exact (event_finds hfind killDiscrepancy).trans (by rw [killDiscrepancy_raises hd ht hr]; rfl)
  case silent => exact (event_finds hfind killDiscrepancy).trans (by rw [killDiscrepancy_silent hd h])

end Sys2Proof.Machine
end

section
namespace Sys2Proof.Machine

/-! ### The records of a port, its heads and its lanes -/

@[simp] theorem portAt_modPort (s : State) (p : Nat) (f : RPort → RPort) : portAt (modPort s p f) p = f (portAt s p) := by
  simp [portAt, modPort]

@[simp] theorem modPort_modPort (s : State) (p : Nat) (f g : RPort → RPort) :
    modPort (modPort s p f) p g = modPort s p fun x => g (f x) := by
  simp [modPort, portAt]

theorem modPort_congr {s : State} {p : Nat} {f g : RPort → RPort} (h : f (portAt s p) = g (portAt s p)) :
    modPort s p f = modPort s p g := by
  rw [modPort, modPort, h]

theorem modPort_eq {s : State} {p : Nat} {f : RPort → RPort} {y : RPort} (h : f (portAt s p) = y) :
    modPort s p f = { s with ryl := mput s.ryl p y } := by
  rw [modPort, h]

@[simp] theorem headAt_modHead (s : State) (p c : Nat) (f : Head → Head) : headAt (modHead s p c f) p c = f (headAt s p c) := by
  simp [headAt, modHead]

theorem modHead_congr {s : State} {p c : Nat} {f g : Head → Head} (h : f (headAt s p c) = g (headAt s p c)) :
    modHead s p c f = modHead s p c g :=
  modPort_congr (congrArg (fun y => { portAt s p with heads := mput (portAt s p).heads c y }) h)

/-- A lane's record replaced in its port's. -/
def withLane (x : RPort) (b : Bool) (l : RLane) : RPort := if b then { x with b := l } else { x with a := l }

theorem withLane_decide (x : RPort) (q : Prop) [Decidable q] (l : RLane) :
    withLane x (decide q) l = if q then { x with b := l } else { x with a := l } := by
  simp [withLane]

theorem modLane_eq (s : State) (p : Nat) (b : Bool) (f : RLane → RLane) :
    modLane s p b f = modPort s p fun x => withLane x b (f (laneOf x b)) := by
  cases b <;> rfl

/-! ### Reports leave the ports alone -/

@[simp] theorem traceEvent_ryl (s : State) (er : EventRec) : (traceEvent s er).ryl = s.ryl :=
  congrArg (fun t => t.ryl) (unrecorded_traceEvent s er)

@[simp] theorem writeRecord_ryl (s : State) (er : EventRec) : (writeRecord s er).ryl = s.ryl :=
  congrArg (fun t => t.ryl) (unrecorded_writeRecord s er)

@[simp] theorem report_ryl (s : State) (r : Report) : (report s r).ryl = s.ryl := by
  unfold report
  dsimp only
  repeat' split
  all_goals simp

@[simp] theorem raise_ryl (s : State) (e : Event) (handle detail org : Nat) : (raise s e handle detail org).ryl = s.ryl :=
  report_ryl s _

@[simp] theorem modInst_ryl (s : State) (c i : Nat) (f : Inst → Inst) : (modInst s c i f).ryl = s.ryl := rfl

@[simp] theorem logAdd_ryl (s : State) (kind reason worn spare wear : Nat) : (logAdd s kind reason worn spare wear).ryl = s.ryl := rfl

@[simp] theorem setScore_ryl (s : State) (c i score row : Nat) : (setScore s c i score row).ryl = s.ryl := by
  unfold setScore
  dsimp only
  repeat' split
  all_goals simp

@[simp] theorem wearInput_ryl (s : State) (c i row : Nat) : (wearInput s c i row).ryl = s.ryl := setScore_ryl ..

/-- A port's record is read from the ports' records. -/
theorem portAt_of_ryl {s t : State} (h : s.ryl = t.ryl) (p : Nat) : portAt s p = portAt t p := by rw [portAt, portAt, h]

end Sys2Proof.Machine
end

section
namespace Sys2Proof.Machine

/-! ### Training (R85, R86, R101) -/

/-- A lane of a port that does not send. -/
def laneSilent (l : RLane) : RLane := { l with up := false, good := 0, bad := 0, got := false, origin := none, idle := true }

/-- A port with nothing asked stops, and no access is left to fail. -/
theorem portStop_idle {s : State} {p : Nat} (hq : (portAt s p).queue = []) (hs : (portAt s p).sent = []) (st cause : Nat) :
    portStop s p st cause = modPort s p fun x =>
      { x with st := st, failCause := cause, queue := [], sent := [], setRun := none, a := laneSilent x.a, b := laneSilent x.b } := by
  simp only [portStop, hq, hs]
  rfl

theorem detectTimeout_fails {s : State} {p : Nat} (h1 : (portAt s p).st = 1) (ht : (portAt s p).since + 2 * msU ≤ s.time.elapsed) :
    detectTimeout s p = trainFail s p 1 := if_pos ⟨h1, ht⟩

theorem detectTimeout_elsewhere {s : State} {p : Nat} (h : (portAt s p).st ≠ 1) : detectTimeout s p = s := if_neg fun h1 => h h1.1

theorem train_refused {s : State} {p : Nat} (h : portSafe s p = false) :
    train s p = modPort s p fun x => { x with refused := true } := if_pos h

theorem train_disabled {s : State} {p : Nat} (hp : portSafe s p = true) (he : bit (rylCtrl s p) 0 = false) :
    train s p = modPort s p fun x => { x with refused := false } := by
  simp [train, hp, he]

/-- A port as DETECT begins (R86): the table of a head, its jobs and its calibration stay, and everything learnt of it is forgotten. -/
def detecting (now : Nat) (x : RPort) : RPort :=
  { x with refused := false, since := now, present := [], broken := false, breakSeg := 15, round := 0, stamps := [], dEpoch := 0,
           a := { retired := x.a.retired }, b := { retired := x.b.retired },
           heads := x.heads.map fun e => (e.1, ({ table := e.2.table, jobs := e.2.jobs, cal := e.2.cal } : Head)) }

theorem detecting_heads (now : Nat) (x : RPort) : (detecting now x).heads.map Prod.fst = x.heads.map Prod.fst := by
  simp [detecting, Function.comp_def]

/-- TRAIN on an enabled port that is OFF stops it and begins DETECT. -/
theorem train_starts {s : State} {p : Nat} (hp : portSafe s p = true) (he : bit (rylCtrl s p) 0 = true) (h0 : (portAt s p).st = 0) :
    train s p = modPort (portStop s p 1 0) p (detecting (portStop s p 1 0).time.elapsed) := by
  simp only [train, hp, he, h0, Bool.true_eq_false, if_false, true_or, if_true]
  rfl

/-! ### The loss of link frames (R96, R97) -/

theorem headLost_loses {s : State} {p c : Nat} (h5 : (portAt s p).st = 5) (hp : (portAt s p).present.contains c = true)
    (hl : (headAt s p c).lost = false) (hm : 2 ≤ (headAt s p c).missRun) :
    headLost s p c = raiseHead (modHead s p c fun h => { h with lost := true, rejoin := 0 }) .rylHeadLost p c 0 :=
  if_pos ⟨h5, hp, hl, hm⟩

/-- A lane that has gone down: what it read of its position on the ring holds no more. -/
def laneLost (l : RLane) : RLane := { l with up := false, origin := none }

/-- The state of a lane that has gone down, as its loss is reported and counted towards its wear while the other lane is up. -/
def laneDropped (s : State) (p : Nat) (b : Bool) : State :=
  let r := raiseLane (modLane s p b laneLost) .rylLaneDown p b
  if (laneOf (portAt s p) !b).up then wearInput r 0 (2 * p + b2n b) 3 else r

/-- The report and the wear of a lane's loss leave the port as the loss made it. -/
theorem portAt_laneDropped (s : State) (p : Nat) (b : Bool) :
    portAt (laneDropped s p b) p = withLane (portAt s p) b (laneLost (laneOf (portAt s p) b)) := by
  have ryl : (laneDropped s p b).ryl = (modLane s p b laneLost).ryl := by
    unfold laneDropped raiseLane
    dsimp only
    split <;> simp
  rw [portAt_of_ryl ryl, modLane_eq, portAt_modPort]

theorem st_withLane (x : RPort) (b : Bool) (l : RLane) : (withLane x b l).st = x.st := by cases b <;> rfl

/-- A port that loses a lane has one lane up at most, which is enough where a lane is retired (R98). -/
theorem oneLaneUp_withLane {x : RPort} {b : Bool} {l : RLane} (hup : l.up = false) (hret : l.retired = (laneOf x b).retired) :
    oneLaneUp (withLane x b l) = (!x.a.retired && !x.b.retired) := by
  cases b <;> simp_all [oneLaneUp, withLane, laneOf]

theorem laneDown_drops {s : State} {p : Nat} {b : Bool} (hs : portSends (portAt s p) = true)
    (hup : (laneOf (portAt s p) b).up = true) (hbad : 4 ≤ (laneOf (portAt s p) b).bad) :
    laneDown s p b =
      if decide ((portAt s p).st = 3) && (!(portAt s p).a.retired && !(portAt s p).b.retired) then trainFail (laneDropped s p b) p 4
      else laneDropped s p b := by
  have drops : laneDown s p b =
      if decide ((portAt (laneDropped s p b) p).st = 3) && oneLaneUp (portAt (laneDropped s p b) p) then
        trainFail (laneDropped s p b) p 4
      else laneDropped s p b := if_pos ⟨hs, hup, hbad⟩
  rw [drops, portAt_laneDropped, st_withLane, oneLaneUp_withLane (l := laneLost _) rfl rfl]

section
variable {s : State} {p : Nat} {b : Bool} (hs : portSends (portAt s p) = true) (hup : (laneOf (portAt s p) b).up = true)
  (hbad : 4 ≤ (laneOf (portAt s p) b).bad)
include hs hup hbad

/-- Outside MEASURE, or with a lane retired, the port goes on without the lane. -/
theorem laneDown_goesOn (h : (portAt s p).st ≠ 3 ∨ (portAt s p).a.retired = true ∨ (portAt s p).b.retired = true) :
    laneDown s p b = laneDropped s p b := by
  rw [laneDown_drops hs hup hbad, if_neg]
  rcases h with h | h | h <;> simp [h]

/-- In MEASURE a port with no retired lane fails (R85). -/
theorem laneDown_fails (h3 : (portAt s p).st = 3) (ha : (portAt s p).a.retired = false) (hb : (portAt s p).b.retired = false) :
    laneDown s p b = trainFail (laneDropped s p b) p 4 := by
  rw [laneDown_drops hs hup hbad, if_pos]
  simp [h3, ha, hb]

end

/-- The flag of lane B, as a number, is the lane's own. -/
theorem b2n_lane (ln : Fin 2) : b2n (decide (ln = 1)) = ln.val := by
  revert ln; decide

/-- Settles O21: each command of a unit, and each access, is one of the operations above, in the state in which it finds the device. -/
theorem linkTrainingAndLosses : Obligations.LinkTrainingAndLosses := by
  refine ⟨?commands, ?accesses⟩
  case commands =>
    intro s a p x put
    refine ⟨?timeout, ?elsewhere, ?head, ?lane⟩
    case timeout =>
      intro hfind h1 ht hq hs down
      refine (event_finds hfind (detectTimeout · p)).trans ?_
      rw [detectTimeout_fails h1 ht, trainFail, portStop_idle hq hs, modPort_eq rfl, hq, hs]
      rfl
    case elsewhere =>
      intro hfind h
      exact (event_finds hfind (detectTimeout · p)).trans (by rw [detectTimeout_elsewhere h])
    case head =>
      intro c hfind h5 hp hl hm b
      refine (unitStep_finds hfind (headLost · p (c + 1))).trans ?_
      rw [headLost_loses h5 hp hl hm]
      rfl
    case lane =>
      intro ln hfind hsend l down b r hup hbad v
      have dropped : laneDropped a p (decide (ln = 1)) = v := by
        have other : (laneOf x !decide (ln = 1)) = laneOf x (decide (ln ≠ 1)) := by rw [decide_not]
        have hput : modLane a p (decide (ln = 1)) laneLost = b := (modLane_eq ..).trans (modPort_eq (withLane_decide ..))
        unfold laneDropped raiseLane
        dsimp only
        rw [hput, b2n_lane, other]
      have model : exec (.rylLaneDown p ln) s = .next (leave s (laneDown a p (decide (ln = 1)))) :=
        unitStep_finds hfind (laneDown · p (decide (ln = 1)))
      rw [model, ← dropped]
      exact ⟨fun h => by rw [laneDown_goesOn hsend hup hbad h], fun h3 ha hb => by rw [laneDown_fails hsend hup hbad h3 ha hb]⟩
  case accesses =>
    intro s a p req hfind x put c
    have trains : exec (.rylTrain req p) s = .next (leave s (train a p)) := event_findsReg hfind (train · p)
    -- enWrite writes the bit, and the port stops where it is 0
    have writes (en : Bool) : exec (.rylEnWrite req p en) s = .next (leave s (enWrite a p en)) := event_findsReg hfind (enWrite · p en)
    refine ⟨fun he hp => ?disabled, fun hp => ?refused, fun he hp h0 hq hs => ?starts, writes true, writes false⟩
    case disabled =>
      rw [trains, train_disabled hp he]
      rfl
    case refused =>
      rw [trains, train_refused hp]
      rfl
    case starts =>
      refine ⟨_, by rw [trains, train_starts hp he h0, portStop_idle hq hs, modPort_modPort]; rfl, ?_⟩
      exact ⟨rfl, rfl, rfl, rfl, rfl, rfl, rfl, rfl, rfl, rfl, detecting_heads _ _⟩

end Sys2Proof.Machine
end

section
namespace Sys2Proof.Machine

/-! ### Service traffic (R77, R90) -/

section
variable {s : State} {p j : Nat} {e : SvcSent} (hsent : (portAt s p).sent = [e])
include hsent

/-- With the one request taken out that has no good reply yet, nothing is unanswered. -/
theorem forget_sent :
    modPort s p (fun x => { x with sent := x.sent.filter (· ≠ e) }) = modPort s p fun x => { x with sent := [] } :=
  modPort_congr (by simp [hsent])

variable (hj : e.j = j)
include hj

/-- The slot of that request names it. -/
theorem find_sent : (portAt s p).sent.find? (fun x => decide (x.j = j)) = some e := by simp [hsent, hj]

variable (hbad : e.bad = true)
include hbad

/-- A bad reply is asked for again, at the head of the queue. -/
theorem svcTimeout_retries (ht : e.req.tries < 3) :
    svcTimeout s p j =
      bump (modPort s p fun x => { x with sent := [], queue := { e.req with tries := e.req.tries + 1 } :: x.queue })
        (0x6001C + 0x1000 * p) := by
  simp only [svcTimeout, find_sent hsent hj, hbad, Bool.true_eq_false, false_and, if_false, if_pos ht, forget_sent hsent,
    modPort_modPort]

/-- A request that has been retried three times is given up, and its access fails. -/
theorem svcTimeout_givesUp {acc : Acc} (ht : 3 ≤ e.req.tries) (hu : e.req.use = .access acc) :
    svcTimeout s p j =
      complete (raiseHead (modPort s p fun x => { x with sent := [] }) .rylSvcTimeout p e.req.dest (e.tag + 256 * e.req.op)) acc stBUSY 0
        (det12 0 0xFF) := by
  simp only [svcTimeout, find_sent hsent hj, hbad, Bool.true_eq_false, false_and, if_false, if_neg (Nat.not_lt.2 ht), hu,
    forget_sent hsent]

end

/-- Every word of a RYL_HEAD_CYCLIC has been sent in two servo ticks in a row. -/
def cycSent (j : CycJob) : Bool := (List.range j.count).all fun i => (mgetD j.sent (j.first + i) (0, false)).2

theorem cycSent_iff (j : CycJob) : cycSent j = true ↔ ∀ i, i < j.count → (mgetD j.sent (j.first + i) (0, false)).2 = true := by
  simp [cycSent]

theorem cyclicDone_eq (s : State) (p c : Nat) :
    cyclicDone s p c = ((headAt s p c).jobs.filter cycSent).foldl (fun s j => complete s j.acc stOK 0 0)
      (modHead s p c fun h => { h with jobs := h.jobs.filter fun j => !cycSent j }) := rfl

/-- A head's only job completes once it has been sent. -/
theorem cyclicDone_completes {s : State} {p c : Nat} {j : CycJob} (hjobs : (headAt s p c).jobs = [j]) (h : cycSent j = true) :
    cyclicDone s p c = complete (modHead s p c fun h => { h with jobs := [] }) j.acc stOK 0 0 := by
  have none_left : modHead s p c (fun h => { h with jobs := h.jobs.filter fun j => !cycSent j }) =
      modHead s p c fun h => { h with jobs := [] } := modHead_congr (by simp [hjobs, h])
  rw [cyclicDone_eq, none_left, hjobs, List.filter_cons_of_pos h]
  rfl

/-- Until then it waits. -/
theorem cyclicDone_waits {s : State} {p c : Nat} {j : CycJob} (hjobs : (headAt s p c).jobs = [j]) (h : cycSent j = false) :
    (headAt (cyclicDone s p c) p c).jobs = [j] := by
  simp [cyclicDone_eq, hjobs, h]

/-- Settles O22: a request that stands alone unanswered, and a job that stands alone at its head, decide what the command does. -/
theorem serviceTraffic : Obligations.ServiceTraffic := by
  intro s a p hfind x put
  have asks (j : Fin 10) : exec (.rylSvcTimeout p j) s = .next (leave s (svcTimeout a p j)) := unitStep_finds hfind (svcTimeout · p j)
  have ends (c : Fin 8) : exec (.rylHeadCyclicDone p c) s = .next (leave s (cyclicDone a p (c + 1))) :=
    unitStep_finds hfind (cyclicDone · p (c + 1))
  refine ⟨fun j e hsent hj hbad => ⟨fun ht => ?retry, fun acc ht hu => ?giveUp⟩,
    fun c j hjobs => ⟨fun h => ?done, fun i hi h => ?waits⟩⟩
  case retry =>
    rw [asks, svcTimeout_retries hsent hj hbad ht]
    rfl
  case giveUp =>
    rw [asks, svcTimeout_givesUp hsent hj hbad ht hu]
    rfl
  case done =>
    rw [ends, cyclicDone_completes hjobs ((cycSent_iff j).2 h)]
    rfl
  case waits =>
    refine ⟨_, ends c, cyclicDone_waits hjobs ?_⟩
    rw [← Bool.not_eq_true, cycSent_iff]
    exact fun sent => by simp [sent i hi] at h

end Sys2Proof.Machine
end

section
namespace Sys2Proof.Machine

/-! ### The device's own head registers (R91) -/

section
variable {t : State} {x : Acc} (hport : pf x.d 16 1 ≤ 15) (hlow : 1 ≤ pf x.d 17 1) (hhigh : pf x.d 17 1 ≤ 8)
  (hbytes : onlyBytes x.d [(16, 3), (20, 2), (24, 8)] = true)
include hport hlow hhigh hbytes

/-- A well-formed write to a register below 0x0100 is denied. -/
theorem accessCheck_write (hop : pf x.d 18 1 = 2) (hreg : pf x.d 20 2 ≤ 0x00FF) : accessCheck t x = some rDENIED := by
  have own : pf x.d 20 2 < 0x100 := by omega
  have named : pf x.d 17 1 ≠ 0 := by omega
  simp [accessCheck, firstRefuse, hop, own, named, hbytes, Nat.not_lt.2 hport, Nat.not_lt.2 hhigh]

/-- A well-formed read is not refused. -/
theorem accessCheck_read (hop : pf x.d 18 1 = 1) (hdata : pf x.d 24 8 = 0) : accessCheck t x = none := by
  have named : pf x.d 17 1 ≠ 0 := by omega
  simp [accessCheck, firstRefuse, hop, hdata, named, hbytes, Nat.not_lt.2 hport, Nat.not_lt.2 hhigh]

end

/-- Settles O50: the access's own rules deny the write, and let the read join the port's queue. -/
theorem deviceHeadRegisters : Obligations.DeviceHeadRegisters := by
  intro s a d hfind hA t x hport hlow hhigh hbytes hreg
  have act {u : State} (h : guarded t x (accessCheck t x) (accessStart · x) = u) : exec (.rylHeadAccess d) s = .next (leave s u) :=
    exec_of_unnamed (fun _ => rfl) rfl hfind hA rfl (congrArg some h)
  refine ⟨?write, ?read⟩
  case write =>
    intro hop
    have check : accessCheck t x = some rDENIED := accessCheck_write (x := x) hport hlow hhigh hbytes hop hreg
    exact act (guarded_some (r := rDENIED) check)
  case read =>
    intro hop hdata hsend
    have check : accessCheck t x = none := accessCheck_read (x := x) hport hlow hhigh hbytes hop hdata
    have starts : accessStart t x = _ := accessStart_sends (x := x) hsend
    rw [act ((guarded_none check).trans starts), show pf x.d 18 1 = 1 from hop]
    rfl

end Sys2Proof.Machine
end

section
namespace Sys2Proof.Machine

/-! ### The records of the converters -/

@[simp] theorem convAt_modConv (s : State) (n : Nat) (f : Conv → Conv) : convAt (modConv s n f) n = f (convAt s n) := by
  simp [convAt, modConv, modCnv]

theorem modConv_eq {s : State} {n : Nat} {f : Conv → Conv} {v : Conv} (h : f (convAt s n) = v) :
    modConv s n f = { s with cnv := { s.cnv with convs := mput s.cnv.convs n v } } := by
  rw [modConv, h]
  rfl

@[simp] theorem modConv_modConv (s : State) (n : Nat) (f g : Conv → Conv) :
    modConv (modConv s n f) n g = modConv s n fun v => g (f v) := by
  rw [modConv, convAt_modConv]
  simp [modConv, modCnv]

theorem modConv_congr {s : State} {n : Nat} {f g : Conv → Conv} (h : f (convAt s n) = g (convAt s n)) :
    modConv s n f = modConv s n g :=
  (modConv_eq h).trans (modConv_eq rfl).symm

theorem reg_setReg_self (s : State) (off v : Nat) : reg (setReg s off v) off = v % 4294967296 := mgetD_mput_self ..

end Sys2Proof.Machine
end

section
namespace Sys2Proof.Machine

/-! ### The reference and calibrations (R126 to R128) -/

section
variable {s : State} {n : Nat}

/-- No calibration starts that is not asked for. -/
theorem calPump_unasked (h : (convAt s n).calReq = false) : calPump s n = s := by
  simp [calPump, h]

/-- A calibration that is asked for starts once its converter is idle and the reference is ready. -/
theorem calPump_starts (hreq : (convAt s n).calReq = true) (hbusy : (convAt s n).calBusy = false) (hrun : (convAt s n).injRun = none)
    (hpend : (convAt s n).pend = []) (hpipe : (convAt s n).pipe = []) (hready : s.cnv.refReady = true) :
    calPump s n = modConv s n fun v => { v with calReq := false, calBusy := true, calSince := s.time.elapsed } := by
  simp only [calPump, hreq, hbusy, hrun, hpend, hpipe, hready, and_self, if_true]

theorem foldl_calPump_unasked {l : List Nat} (h : ∀ m ∈ l, (convAt s m).calReq = false) : l.foldl calPump s = s := by
  induction l with
  | nil => rfl
  | cons m l ih =>
    rw [List.foldl_cons, calPump_unasked (h m List.mem_cons_self)]
    exact ih fun k hk => h k (List.mem_cons_of_mem m hk)

theorem refOnWrite_starts (h : s.cnv.refSince = none) :
    refOnWrite s true = modCnv (setReg s 0x80000 1) fun c =>
      { c with refSince := some s.time.elapsed, convs := c.convs.map fun e => (e.1, { e.2 with earlyRaised := false }) } := by
  simp [refOnWrite, h]

/-- The reference is ready after 3 ms, and with no calibration asked for nothing else changes. -/
theorem refReady_settles {t : Nat} (hon : s.cnv.refSince = some t) (hlate : t + 3 * msU ≤ s.time.elapsed)
    (hready : s.cnv.refReady = false) (hreq : ∀ m, m < 9 → (convAt s m).calReq = false) :
    refReady s = modCnv s fun c => { c with refReady := true } := by
  simp only [refReady, hon, if_pos (And.intro hready hlate)]
  exact foldl_calPump_unasked fun m hm => hreq m (List.mem_range.1 hm)

theorem calWrite_retired (h : retired s 1 n = true) : calWrite s n = s := by simp [calWrite, h]

/-- A write of CAL starts a calibration of a converter that is idle once its samples have been taken. -/
theorem calWrite_starts {b : State} (hb : convFill 11 s n = b) (hserves : retired s 1 n = false) (hreq : (convAt b n).calReq = false)
    (hbusy : (convAt b n).calBusy = false) (hrun : (convAt b n).injRun = none) (hpend : (convAt b n).pend = [])
    (hpipe : (convAt b n).pipe = []) (hready : b.cnv.refReady = true) :
    calWrite s n = modConv b n fun v => { v with calBusy := true, calSince := b.time.elapsed } := by
  rw [calWrite, if_neg (by simp [hserves]), calRequest, hb]
  rw [calPump_starts, modConv_modConv]
  case hready => exact hready
  case hreq | hbusy | hrun | hpend | hpipe => simp [hbusy, hrun, hpend, hpipe]
  refine modConv_congr ?_
  simp only [hreq, Option.toList_none, List.append_nil]
  rfl

/-- A converter after its calibration has ended, with the corrections that it stored. -/
def calibrated (v : Conv) (now corr : Nat) : Conv :=
  { v with
    calBusy := false, corr := some corr, latched := [], regEntry := 0, regCount := 0, fresh := List.range 5, sampleAt := now
    pend := sortBy (fun x y => decide (x < y)) (v.latched.filter fun g => decide (mgetD v.groups g [] ≠ [])) }

/-- A calibration that no descriptor waits for ends with its report. -/
theorem calDone_ends (hbusy : (convAt s n).calBusy = true) (hlate : (convAt s n).calSince + calTime s n ≤ s.time.elapsed)
    (haccs : (convAt s n).calAccs = []) :
    calDone s n true =
      raise (modConv { s with free := s.free + 1 } n fun v => calibrated v s.time.elapsed (Config.freeNat s.free)) .cnvCalDone 0
        (n + 256 * b2n (isMod s n)) (origin 0x0B n) := by
  simp only [calDone, if_pos (And.intro hbusy hlate), haccs, List.foldl_nil, if_true]
  have stored : modConv { s with free := s.free + 1 } n (fun v => { calibrated v s.time.elapsed (Config.freeNat s.free) with calAccs := [] }) =
      modConv { s with free := s.free + 1 } n fun v => calibrated v s.time.elapsed (Config.freeNat s.free) :=
    modConv_congr (congrArg (fun l => { calibrated (convAt s n) s.time.elapsed (Config.freeNat s.free) with calAccs := l }) haccs.symm)
  rw [← stored]
  rfl

end

/-! ### The configuration of a converter (R121) -/

/-- The bits of CNV_n_CFG that a write stores hold its PERS. -/
theorem bit_stored_pers (w : Nat) : bit ((bits w 0 4 + bits w 8 8 * 256) % 4294967296) 1 = bit w 1 := by
  simp only [bit, bits, Nat.testBit_eq_decide_div_mod_eq]
  congr 2
  omega

section
variable {s : State} {n w : Nat}

theorem convCfgWrite_retired (h : retired s 1 n = true) : convCfgWrite s n w = s := by simp [convCfgWrite, h]

variable (hserves : retired s 1 n = false)
include hserves

theorem convCfgWrite_refused (h : hasEntries s n = true) :
    convCfgWrite s n w = modConv s n fun x => { x with cfgRefused := true } := by
  simp [convCfgWrite, hserves, h]

/-- A write that keeps the personality stores the configuration and asks for no calibration. -/
theorem convCfgWrite_taken (h : hasEntries s n = false) (hpers : bit w 1 = isMod s n) :
    convCfgWrite s n w =
      modConv (setReg s (0x80100 + 0x40 * n) (bits w 0 4 + bits w 8 8 * 256)) n fun x => { x with cfgRefused := false } := by
  have kept : isMod (setReg s (0x80100 + 0x40 * n) (bits w 0 4 + bits w 8 8 * 256)) n = isMod s n := by
    rw [← hpers, isMod, convCfg, reg_setReg_self, bit_stored_pers]
  rw [convCfgWrite, if_neg (by simp [hserves]), if_neg (by simp [h])]
  exact if_neg fun hne => hne kept

end

end Sys2Proof.Machine
end

section
namespace Sys2Proof.Machine

/-- Settles O23: each command is one of the operations above, in the state in which it finds the device. -/
theorem converterSetup : Obligations.ConverterSetup := by
  intro s a req n v put
  refine ⟨fun hfind => ⟨fun hon => ?on, event_findsReg hfind (refOnWrite · false)⟩, fun t hfind hon hlate hready hreq => ?ready,
    fun hfind hret => ?calRetired, fun hfind hserves _ => ?calStarts, fun hfind hbusy hlate haccs => ?calEnds, fun w hfind => ?cfg⟩
  case on => exact (event_findsReg hfind (refOnWrite · true)).trans (by rw [refOnWrite_starts hon]; rfl)
  case ready => exact (event_finds hfind refReady).trans (by rw [refReady_settles hon hlate hready hreq]; rfl)
  case calRetired => exact (event_findsReg hfind (calWrite · n)).trans (by rw [calWrite_retired hret])
  case calStarts =>
    intro b w hreq hbusy hrun hpend hpipe hready
    exact (event_findsReg hfind (calWrite · n)).trans (by rw [calWrite_starts rfl hserves hreq hbusy hrun hpend hpipe hready]; rfl)
  case calEnds =>
    intro b
    exact (event_finds hfind (calDone · n true)).trans (by rw [calDone_ends hbusy hlate haccs]; rfl)
  case cfg =>
    have writes : exec (.cnvCfgWrite req n w) s = .next (leave s (convCfgWrite a n w.toNat)) :=
      event_findsReg hfind (convCfgWrite · n w.toNat)
    rw [writes]
    refine ⟨fun hret => ?retired, fun hserves hentries => ?refused, fun hserves hentries hpers => ?taken⟩
    case retired => rw [convCfgWrite_retired hret]
    case refused => rw [convCfgWrite_refused hserves hentries]; rfl
    case taken => rw [convCfgWrite_taken hserves hentries hpers]; rfl

end Sys2Proof.Machine
end

section
namespace Sys2Proof.Machine

/-! ### An edge refutes O24 (R125, R406) -/

/-- A device out of reset whose clock has stopped and whose reference is not ready. Converter 0 runs with group 1 pending; a rising edge
triggers its regular group on pin 1 and its group 4 on pin 0. An event ring stands UP and full at index 10120, beyond the 320 rings that
the device has, routed every record. -/
def crowded (free : Nat) : State :=
  { State.reset with
    free := free
    md := { State.reset.md with held := false, off := false, mode := .run }
    regs := [(0x80100, 1), (0x8010C, 3 + 16), (0x8011C, 2 + 16)]
    host := { State.reset.host with
      rings := [(10120, { st := .up, wr := 15, lossEpisode := true,
                          routes := [(0, { lo := 0, hi := 65535, minClass := 0, cell := true, regions := 0 })] })] }
    cnv := { State.reset.cnv with refSince := some 0, convs := [(0, { groups := [(0, [0]), (1, [0]), (4, [0])], pend := [1] })] } }

theorem crowded_finds (n : Nat) : Finds (crowded n) (crowded (n + 1)) :=
  ⟨atArrival_stopped ⟨rfl, rfl, rfl, rfl, rfl, rfl, rfl⟩ rfl, rfl⟩

/-- The sample of group 1 raises CNV_REF_EARLY, which the full ring loses. Its HST_R_LOST, which counts the loss, has the offset of the
trigger register of group 4: that group now listens to pin 1, and the edge triggers it too. -/
theorem pend_trgEdge_crowded :
    0x3101C + 0x20 * 10120 = 0x8010C + 4 * 4 ∧ (trigReg (crowded 1) 0 4, trigReg (convFill 11 (crowded 1) 0) 0 4) = (18, 19) ∧
      (convAt (trgEdge (crowded 1) 1 true) 0).pend = [4] := by
  decide +kernel

/-- Whatever record describes the start of converter 0's regular group as the command's outcome, group 4 is pending in it. -/
theorem pend_of_exec {b : State} {v : Conv}
    (h : exec (.trgEdge 1 true) (crowded 0) = .next (leave (crowded 0)
      { b with cnv := { b.cnv with convs := mput b.cnv.convs 0 { v with regRun := true, regEntry := 0, regCount := 0 } } })) :
    v.pend = [4] := by
  have hmodel : exec (.trgEdge 1 true) (crowded 0) = .next (leave (crowded 0) (trgEdge (crowded 1) 1 true)) :=
    event_finds (crowded_finds 0) (trgEdge · 1 true)
  have hcnv := congrArg State.cnv (Host.Outcome.next.inj (hmodel.symm.trans h))
  rw [leave_cnv, leave_cnv] at hcnv
  obtain ⟨-, -, hpend⟩ := pend_trgEdge_crowded
  rwa [convAt, hcnv, mgetD_mput_self] at hpend

/-- Refutes O24: the statement ranges over states with more event rings than the device has, and the loss counter of one of them stands at
the offset of a trigger register, so that the samples taken at an edge can change which groups the edge triggers. -/
theorem not_conversionTriggers : ¬ Obligations.ConversionTriggers := by
  intro h
  obtain ⟨-, edges⟩ := h (crowded 0) (crowded 1) 0 0
  obtain ⟨-, edge⟩ := edges 1 true (crowded_finds 0)
  have others : ∀ m, m < 9 → ∀ g, g < 5 → m ≠ 0 ∨ g ≠ 0 →
      (decide (bits (reg (crowded 1) (0x8010C + 0x40 * m + 4 * g)) 0 4 = 2 + 1) &&
        bit (bits (reg (crowded 1) (0x8010C + 0x40 * m + 4 * g)) 4 2) (if true then 0 else 1)) = false := by
    decide +kernel
  obtain ⟨entries, idle, none_pending⟩ :
      mgetD (convAt (convFill 11 (crowded 1) (0 : Fin 9)) (0 : Fin 9)).groups 0 [] ≠ [] ∧
        (convAt (convFill 11 (crowded 1) (0 : Fin 9)) (0 : Fin 9)).regRun = false ∧
        (convAt (convFill 11 (crowded 1) (0 : Fin 9)) (0 : Fin 9)).pend = [] := by
    decide +kernel
  have pending := pend_of_exec (edge (by decide +kernel) others (by decide +kernel) entries idle)
  exact absurd (none_pending.symm.trans pending) (by decide)

end Sys2Proof.Machine
end

section
namespace Sys2Proof.Machine

/-! ### Results of a converter (R115, R120, R122) -/

section
variable {s : State} {n : Nat}

/-- A ready reference is never early. -/
theorem refEarly_ready (h : s.cnv.refReady = true) (n : Nat) : refEarly s n = s := by simp [refEarly, h]

theorem convUnits_unshadowed (h : shadowsOn s 1 n = []) (e : Nat) (settle : Bool) : convUnits s n e settle = s := by
  simp [convUnits, h]

/-- The code that a pipeline gives an input in nV at a gain, before it saturates. -/
def pipeQuantum (nv : Int) (gain : Nat) : Int := roundDiv (8192 * (2 ^ gain : Nat) * (nv - 1250000000)) 1250000000

theorem pipeCode_eq (nv : Int) (gain : Nat) :
    pipeCode nv gain =
      (clampI (pipeQuantum nv gain) (-8192) 8191 * 1024, decide (clampI (pipeQuantum nv gain) (-8192) 8191 ≠ pipeQuantum nv gain)) := rfl

/-- The wall time of a sample taken at an instant of elapsed time. -/
def sampleStamp (s : State) (at_ : Nat) : Nat := un 32 (floorDiv (s.time.ptp - (s.time.elapsed - at_ : Nat)) nsU)

section
variable {f : InFlight} {rest : List InFlight} (hpipe : (convAt s n).pipe = f :: rest) (hsh : shadowsOn s 1 n = []) (nv : Int)
include hpipe hsh

/-- The oldest conversion leaves the pipeline, and its result is delivered while its channel lives. -/
theorem pipeResult_oldest {b : State} (hb : modConv s n (fun v => { v with pipe := rest }) = b) :
    pipeResult s n nv =
      calPump (if liveHandle s f.handle then
        deliverResult b f.chan f.cfg (scaleValue (chAt s f.chan).scale (pipeCode nv f.cfg.gain).1) f.settle (pipeCode nv f.cfg.gain).2
          (decide (32 ≤ f.entry)) (sampleStamp s f.at_) else b) n := by
  subst hb
  simp only [pipeResult, hpipe, convUnits_unshadowed (s := modConv s n _) hsh]
  rfl

theorem pipeResult_delivers (hlive : liveHandle s f.handle = true) :
    pipeResult s n nv =
      calPump (deliverResult (modConv s n fun v => { v with pipe := rest }) f.chan f.cfg
        (scaleValue (chAt s f.chan).scale (pipeCode nv f.cfg.gain).1) f.settle (pipeCode nv f.cfg.gain).2
        (decide (32 ≤ f.entry)) (sampleStamp s f.at_)) n := by
  rw [pipeResult_oldest hpipe hsh nv rfl, if_pos hlive]

theorem pipeResult_drops (hdead : liveHandle s f.handle = false) :
    pipeResult s n nv = calPump (modConv s n fun v => { v with pipe := rest }) n := by
  rw [pipeResult_oldest hpipe hsh nv rfl, if_neg (by simp [hdead])]

end

/-- In pipeline personality the result of a conversion under way leaves the pipeline. -/
theorem convResult_pipeline (hpers : isMod s n = false) (hpipe : (convAt s n).pipe ≠ []) (nv : Int) (mods : List Bool) :
    convResult s n nv mods = pipeResult s n nv := by
  simp [convResult, hpers, hpipe]

/-- An empty pipeline takes its next sample first. -/
theorem convResult_samples (hpers : isMod s n = false) (hpipe : (convAt s n).pipe = []) (nv : Int) (mods : List Bool) :
    convResult s n nv mods = pipeResult (convSample s n) n nv := by
  simp [convResult, hpers, hpipe]

/-- The regular group runs alone: its converter answers, and neither a calibration nor an injected group keeps it. -/
structure RunsAlone (s : State) (n : Nat) : Prop where
  runs : convRuns s n = true
  calBusy : (convAt s n).calBusy = false
  calReq : (convAt s n).calReq = false
  injRun : (convAt s n).injRun = none
  pend : (convAt s n).pend = []
  regRun : (convAt s n).regRun = true

/-- The conversion taken next is then that of the group's entry in force. -/
theorem RunsAlone.nextConv {e c : Nat} (h : RunsAlone s n) (he : (convAt s n).regEntry = e) (hc : (groupOf s n 0)[e]? = some c) :
    nextConv s n = some (0, e, s) := by
  have entries : groupOf s n 0 ≠ [] := fun hnil => by simp [hnil] at hc
  simp [Machine.nextConv, h.runs, h.calBusy, h.calReq, h.injRun, h.pend, h.regRun, entries, he]

/-- Settling leaves the pipeline and the instant of the next sample alone. -/
theorem convSettle_pipe (s : State) (n g : Nat) (x : CchCfg) : (convAt (convSettle s n g x).2 n).pipe = (convAt s n).pipe := by
  simp [convSettle]

theorem convSettle_sampleAt (s : State) (n g : Nat) (x : CchCfg) :
    (convAt (convSettle s n g x).2 n).sampleAt = (convAt s n).sampleAt := by
  simp [convSettle]

/-- The instant of the sample that a converter takes next, one of the last 11 clocks. -/
def sampleTime (s : State) (n : Nat) : Nat := Nat.max (convAt s n).sampleAt (s.time.elapsed - 11 * convClk s n)

/-- Its sample enters the empty pipeline, and the group moves on. -/
theorem RunsAlone.convSample {e c : Nat} (h : RunsAlone s n) (he : (convAt s n).regEntry = e) (hc : (groupOf s n 0)[e]? = some c)
    (hready : s.cnv.refReady = true) (hpipe : (convAt s n).pipe = []) {x : CchCfg} (hx : (chAt s c).cfg = x) :
    convSample s n =
      convAdvance (modConv (convSettle s n 0 x).2 n fun v =>
        { v with
          sampleAt := sampleTime s n + convClk s n
          pipe := [{ chan := c, handle := handleOf s cCCHAN c, entry := e, cfg := x, settle := (convSettle s n 0 x).1,
                     at_ := sampleTime s n }] })
        n 0 e x.samples := by
  have ready : (convSettle s n 0 x).2.cnv.refReady = true := hready
  simp only [Machine.convSample, h.nextConv he hc, hc, hx, refEarly_ready ready, Nat.mul_zero, Nat.zero_add]
  refine congrArg (convAdvance · n 0 e x.samples) (modConv_congr ?_)
  rw [convSettle_pipe, convSettle_sampleAt, hpipe]
  rfl

end

/-! ### The tagged result queue (R133) -/

theorem event_findsRead {s a : State} {req off : Nat} (h : FindsReg s a req off) (f : State → State) :
    event (unlessHeld fun s => onRead req off f s) s = .next (leave s (f a)) := by
  rw [event_finds h.1, onRead, if_pos h.2]

section
variable {s : State} (req : Nat)

theorem tqPop_empty (h : s.cnv.tq = []) :
    tqPop s req = readBack (modHost s fun h => { h with hiLatch := mput h.hiLatch (regKey 0x8001C req) 0 }) req 0 := by
  simp [tqPop, tqTake, h]

theorem tqPop_oldest {w t : Nat} {rest : List (Nat × Nat)} (h : s.cnv.tq = (w, t) :: rest) :
    tqPop s req =
      readBack (modHost (modCnv s fun c => { c with tq := rest, tqEpisode := c.tqEpisode && decide (512 ≤ rest.length) }) fun h =>
        { h with hiLatch := mput h.hiLatch (regKey 0x8001C req) t }) req w := by
  simp [tqPop, tqTake, h]

end

/-! ### Plausibility checks (R129) -/

theorem plausCheck_disabled {s : State} (h : bit (reg s 0x80010) 0 = false) (v1 v2 : Int) : plausCheck s v1 v2 = s := by
  simp [plausCheck, h]

/-- A converter that has converted AIN_CHK at gain 1. -/
def sawCheck (v : Conv) : Conv := { v with prevMux := some 16, prevGain := 0 }

/-- A check is due: it is enabled and not yet taken in its period, its turn is that of converter n under bit b of MASK with partner p, and
both are free to convert. -/
structure CheckDue (s : State) (period b n p : Nat) : Prop where
  enabled : bit (reg s 0x80010) 0 = true
  period_eq : s.time.frame / 1280 / 2 ^ bits (reg s 0x80010) 1 3 = period
  untaken : s.cnv.chkLast ≠ some period
  next : nextCheck (modCnv s fun c => { c with chkLast := some period }) = some (b, n)
  partner : checkPartner (modCnv s fun c => { c with chkLast := some period }) n = some p
  notBusy : (convAt s n).calBusy = false ∧ (convAt s p).calBusy = false
  runs : convRuns s n = true ∧ convRuns s p = true

/-- Neither value saturates, and both lie within the tolerance of the expected value and of each other. -/
structure CheckAgrees (s : State) (n p : Nat) (v1 v2 : Int) : Prop where
  ovr : (checkValue s n v1).2 = false ∧ (checkValue s p v2).2 = false
  first : ((checkValue s n v1).1 - sx 32 (reg s 0x80008)).natAbs ≤ reg s 0x8000C
  second : ((checkValue s p v2).1 - sx 32 (reg s 0x80008)).natAbs ≤ reg s 0x8000C
  apart : ((checkValue s n v1).1 - (checkValue s p v2).1).natAbs ≤ reg s 0x8000C

/-- Then the worst of the three differences is tolerated. -/
theorem CheckAgrees.worst {s : State} {n p : Nat} {v1 v2 : Int} (h : CheckAgrees s n p v1 v2) :
    ¬(reg s 0x8000C : Int) <
      (Nat.max ((checkValue s n v1).1 - sx 32 (reg s 0x80008)).natAbs
        (Nat.max ((checkValue s p v2).1 - sx 32 (reg s 0x80008)).natAbs ((checkValue s n v1).1 - (checkValue s p v2).1).natAbs) : Nat) :=
  Int.not_lt.2 (Int.ofNat_le.2 (Nat.max_le.2 ⟨h.first, Nat.max_le.2 ⟨h.second, h.apart⟩⟩))

/-- A check whose values agree leaves its period, its place and the two inputs, and no report. -/
theorem plausCheck_passes {s : State} {period b n p : Nat} {v1 v2 : Int} (hdue : CheckDue s period b n p)
    (hagree : CheckAgrees s n p v1 v2) (hready : s.cnv.refReady = true) :
    plausCheck s v1 v2 =
      modConv (modConv (modCnv s fun c => { c with chkLast := some period, chkPos := b }) n sawCheck) p sawCheck := by
  have due : ¬(bit (reg s 0x80010) 0 = false ∨ s.cnv.chkLast = some period) := by simp [hdue.enabled, hdue.untaken]
  obtain ⟨u, hu⟩ : ∃ u, modCnv s (fun c => { c with chkLast := some period }) = u := ⟨_, rfl⟩
  obtain ⟨w, hw⟩ : ∃ w, modConv (modConv (modCnv s fun c => { c with chkLast := some period, chkPos := b }) n sawCheck) p sawCheck = w :=
    ⟨_, rfl⟩
  have free (m : Nat) (hb : (convAt s m).calBusy = false) (hr : convRuns s m = true) : ((convAt u m).calBusy || !convRuns u m) = false := by
    have same : convAt u m = convAt s m ∧ convRuns u m = convRuns s m := hu ▸ ⟨rfl, rfl⟩
    simp [same, hb, hr]
  have seen : modConv (modConv (modCnv u fun c => { c with chkPos := b }) n fun v => { v with prevMux := some 16, prevGain := 0 }) p
      (fun v => { v with prevMux := some 16, prevGain := 0 }) = w := by
    rw [← hu, ← hw]
    rfl
  have ready : w.cnv.refReady = true := by rw [← hready, ← hw]; rfl
  have values (m : Nat) (v : Int) : checkValue w m v = checkValue s m v := by rw [← hw]; rfl
  have regs (off : Nat) : reg w off = reg s off := by rw [← hw]; rfl
  rw [hw]
  simp only [plausCheck, hdue.period_eq, if_neg due, hu, hu ▸ hdue.next, hu ▸ hdue.partner, free n hdue.notBusy.1 hdue.runs.1,
    free p hdue.notBusy.2 hdue.runs.2, seen, refEarly_ready ready, values, regs, hagree.ovr, ready, if_neg hagree.worst, Bool.false_eq_true, or_self,
    false_or, true_and, if_false]

/-! ### Outputs that an input MCLK clocks (R109) -/

/-- An output falls due at the first live channel of the input once its bits have come. -/
theorem mclkOutput_due {s : State} {m i : Nat}
    (hi : (mkeys s.cchans fun i x => decide (x.cfg.source = 2) && decide (x.cfg.unit = m) && isLive s cCCHAN i).head? = some i)
    (hper : outPeriod s (chAt s i).cfg = 0) (hpos : 0 < (chAt s i).cfg.osr * (if chFIR (chAt s i).cfg then 2 else 1))
    (hbits : (chAt s i).cfg.osr * (if chFIR (chAt s i).cfg then 2 else 1) ≤ (chAt s i).dec.since)
    (hserves : serves s 2 (physPair s (chAt s i).pair) = true) :
    mclkOutput s m = preciseOut (modCh s i fun x =>
      { x with dec := { x.dec with since := x.dec.since - (chAt s i).cfg.osr * (if chFIR (chAt s i).cfg then 2 else 1) } }) i := by
  simp only [mclkOutput, hi, if_pos (And.intro hper (And.intro hpos (And.intro hbits hserves)))]

end Sys2Proof.Machine
end

section
namespace Sys2Proof.Machine

/-- Settles O25: each command is one of the operations above, in the state in which it finds the device. -/
theorem conversionResults : Obligations.ConversionResults := by
  intro s a
  have result (n : Fin 9) (nv : Int) (mods : List Bool) (hfind : Finds s a) :
      exec (.cnvResult n nv mods) s = .next (leave s (convResult a n nv mods)) := event_finds hfind (convResult · n nv mods)
  have check (v1 v2 : Int) (hfind : Finds s a) : exec (.cnvPlausCheck v1 v2) s = .next (leave s (plausCheck a v1 v2)) :=
    event_finds hfind (plausCheck · v1 v2)
  refine ⟨fun n nv mods f rest hfind => ?oldest, fun n nv mods e c hfind => ?sample, fun req hfind => ?queue,
    fun v1 v2 hfind => ⟨fun hen => ?disabled, fun b n p hen hnew => ?passes⟩, fun m i hfind hi => ?mclk⟩
  case oldest =>
    intro x hpers hpipe hsh q k b
    rw [result n nv mods hfind, convResult_pipeline hpers (by simp [hpipe])]
    exact ⟨fun hlive => by rw [pipeResult_delivers hpipe hsh nv hlive, pipeCode_eq]; rfl,
      fun hdead => by rw [pipeResult_drops hpipe hsh nv hdead]; rfl⟩
  case sample =>
    intro v x hruns hbusy hreq hrun hpend hreg he hpipe hc hready hpers u ck t w
    have alone : RunsAlone a n := ⟨hruns, hbusy, hreq, hrun, hpend, hreg⟩
    rw [result n nv mods hfind, convResult_samples hpers hpipe, alone.convSample he hc hready hpipe rfl]
    rfl
  case queue =>
    have pops : exec (.cnvTqPop req) s = .next (leave s (tqPop a req)) := event_findsRead hfind (tqPop · req)
    intro latch
    rw [pops]
    exact ⟨fun h => by rw [tqPop_empty _ h]; rfl, fun w t rest h => by rw [tqPop_oldest _ h]; rfl⟩
  case disabled => rw [check v1 v2 hfind, plausCheck_disabled hen]
  case passes =>
    intro u saw w hnext hpartner hbn hbp hrn hrp hready x1 x2 ex o1 o2 h1 h2 h3
    rw [check v1 v2 hfind, plausCheck_passes ⟨hen, rfl, hnew, hnext, hpartner, ⟨hbn, hbp⟩, ⟨hrn, hrp⟩⟩ ⟨⟨o1, o2⟩, h1, h2, h3⟩ hready]
    rfl
  case mclk =>
    intro x per hper hpos hbits hserves
    exact (unitStep_finds hfind (mclkOutput · m)).trans (by rw [mclkOutput_due hi hper hpos hbits hserves]; rfl)

end Sys2Proof.Machine
end

section
namespace Sys2Proof.Machine

/-! ### Standstill of a feedback channel (R152, R155) -/

/-- The instant of a channel's last edge, or for a serial channel of the last change of its count. -/
def lastMoved (x : Fbch) : Nat := if serialType x.cfg.type then x.changed else (x.edges.head?.map FbEdge.at_).getD 0

/-- STANDSTILL has passed since a channel last moved. -/
def standsStill (s : State) (f : Nat) : Prop := (fbAt s f).cfg.standstillMs * msU < s.time.elapsed - lastMoved (fbAt s f)

theorem lastMoved_eq (x : Fbch) :
    lastMoved x = if 4 ≤ x.cfg.type then x.changed else match x.edges with
      | e :: _ => e.at_
      | [] => 0 := by
  cases h : x.edges <;> simp [lastMoved, serialType, h]

theorem standstill_stops {s : State} {f : Nat} (hlive : isLive s cFBCH f = true) (hmoves : (fbAt s f).speedSt ≠ 0) (hstill : standsStill s f) :
    standstill s f = modFb s f fun x => { x with speedSt := 0, speed := (0, 1) } := by
  simp only [standsStill, lastMoved_eq] at hstill
  simp only [standstill, serialType, decide_eq_true_eq]
  exact if_pos ⟨hlive, hmoves, hstill⟩

theorem standstill_early {s : State} {f : Nat} (hearly : ¬ standsStill s f) : standstill s f = s := by
  simp only [standsStill, lastMoved_eq] at hearly
  simp only [standstill, serialType, decide_eq_true_eq]
  exact if_neg fun h => hearly h.2.2

/-! ### The current reduction of a stepper (R251) -/

theorem reduceStart_begins {s : State} {p t j : Nat} {y : Joint} (hlive : isLive s cPROFILE p = true) (hrest : (prfAt s p).restSince = some t)
    (hjoint : (prfAt s p).joint = some j) (hy : mget s.joints j = some y) (hstepper : y.stepper = true) (hnot : (prfAt s p).reduceAt = none)
    (hdelay : (prfAt s p).cfg.standMs * msU ≤ s.time.elapsed - t) :
    reduceStart s p = modPrf s p fun x => { x with reduceAt := some s.time.elapsed } := by
  simp [reduceStart, hrest, hlive, hjoint, hy, hstepper, hnot, hdelay]

/-! ### The debounce window of a homing sequence (R255) -/

section
variable {s : State} {p t : Nat} (hwindow : (prfAt s p).home.window = some t)
include hwindow

theorem homeExpiry_early (h : s.time.elapsed < t) : homeExpiry s p = s := by simp [homeExpiry, hwindow, h]

/-- A window that ends in a running sequence drops the candidate when the level is back, and accepts the edge otherwise. -/
theorem homeExpiry_ends (hst : (prfAt s p).home.st ≠ 0) (hrun : (prfAt s p).home.st ≠ 7) (h : t ≤ s.time.elapsed) :
    homeExpiry s p = if (prfAt s p).home.raw = (prfAt s p).home.confirmed then
        modPrf s p fun x => { x with home := { x.home with cand := none, window := none } }
      else homeAccept s p := by
  simp [homeExpiry, hwindow, hst, hrun, Nat.not_lt.mpr h]

end

/-! ### Edges of a step input that no profile follows (R248) -/

/-- An accepted edge counted, with what the plan tick knows of overruns. -/
def stepCounted (s : State) (n : Nat) (dir overrun : Bool) : State :=
  let up := dir != bit (stepCfg s n) 2
  let count := un 32 (((mgetD s.stepIns n {}).count : Int) + (if up then 1 else -1))
  { s with stepIns := mput s.stepIns n { count := count, last := some (s.time.elapsed, up), overrun := overrun } }

theorem stepEdge_disabled {s : State} {n : Nat} (h : bit (stepCfg s n) 0 = false) (dir : Bool) : stepEdge s n dir = s := if_pos h

section
variable {s : State} {n : Nat} (hen : bit (stepCfg s n) 0 = true)
  (hnone : (mkeys s.profiles fun _ p => decide (p.cfg.source = 4) && decide (p.cfg.stepIn = n)) = [])
include hen hnone

/-- An edge 100 ns or more after the last one, or the first one. -/
theorem stepEdge_apart (hapart : ((mgetD s.stepIns n {}).last.all fun e => decide (100 * nsU ≤ s.time.elapsed - e.1)) = true) (dir : Bool) :
    stepEdge s n dir = stepCounted s n dir (mgetD s.stepIns n {}).overrun := by
  cases hlast : (mgetD s.stepIns n {}).last with
  | none => simp [stepEdge, stepCounted, hen, hnone, hlast]
  | some e =>
    have hfar : ¬ s.time.elapsed - e.1 < 100 * nsU := by simpa [hlast] using hapart
    simp [stepEdge, stepCounted, hen, hnone, hlast, hfar]

/-- The first edge of a plan tick that comes within 100 ns of the one before. -/
theorem stepEdge_overrun {t : Nat} {u : Bool} (hlast : (mgetD s.stepIns n {}).last = some (t, u)) (hclose : s.time.elapsed - t < 100 * nsU)
    (hfirst : (mgetD s.stepIns n {}).overrun = false) (dir : Bool) :
    stepEdge s n dir = raise (stepCounted s n dir true) .prfStepOverrun 0 n (blockOrigin 0x10) := by
  simp [stepEdge, stepCounted, hen, hnone, hlast, hclose, hfirst]

end

end Sys2Proof.Machine
end

section
namespace Sys2Proof.Machine

/-- Settles O26: each command is one of the operations above, in the state in which it finds the device. -/
theorem feedbackAndSteps : Obligations.FeedbackAndSteps := by
  intro s a
  have expiry (p : Fin 256) (hfind : Finds s a) : exec (.homeDebounceExpiry p) s = .next (leave s (homeExpiry a p)) :=
    event_finds hfind (homeExpiry · p)
  have edge (n : Fin 8) (dir : Bool) (hfind : Finds s a) : exec (.stepEdge n dir) s = .next (leave s (stepEdge a n dir)) :=
    event_finds hfind (stepEdge · n dir)
  refine ⟨fun f hfind => ?still, fun p t j y hfind hlive hrest hjoint hy hstepper hnot hdelay => ?reduces, fun p t hfind => ?window,
    fun n dir hfind hnone => ?steps⟩
  case still =>
    have stands : exec (.fbkStandstill f) s = .next (leave s (standstill a f)) := unitStep_finds hfind (standstill · f)
    intro x last
    have hlast : lastMoved x = last := lastMoved_eq x
    rw [stands]
    constructor
    · intro hlive hmoves hstill
      rw [standstill_stops hlive hmoves (by rwa [standsStill, hlast])]
      rfl
    · intro hearly
      rw [standstill_early (by rw [standsStill, hlast]; exact Nat.not_lt.mpr hearly)]
  case reduces =>
    exact (unitStep_finds hfind (reduceStart · p)).trans
      (by rw [reduceStart_begins hlive hrest hjoint hy hstepper hnot hdelay]; rfl)
  case window =>
    intro h hwindow hst hrun
    rw [expiry p hfind]
    refine ⟨fun hearly => ?_, fun hend hback => ?_, fun hend haway => ?_⟩
    · rw [homeExpiry_early hwindow hearly]
    · rw [homeExpiry_ends hwindow hst hrun hend, if_pos hback]; rfl
    · rw [homeExpiry_ends hwindow hst hrun hend, if_neg haway]
  case steps =>
    intro c x up cnt put
    rw [edge n dir hfind]
    refine ⟨fun hoff => ?_, fun hen hapart => ?_, fun t u hen hlast hclose hfirst => ?_⟩
    · rw [stepEdge_disabled hoff]
    · rw [stepEdge_apart hen hnone hapart]; rfl
    · rw [stepEdge_overrun hen hnone hlast hclose hfirst]; rfl

end Sys2Proof.Machine
end

section
namespace Sys2Proof.Machine

/-! ### What reports and reads of device DRAM leave alone (R464, R483, R484) -/

/-- The state but for what reports write: the event records, the counters and the reports that wait. -/
def unraised (s : State) : State := { unrecorded s with flt := {} }

theorem unraised_of_unrecorded {s t : State} (h : unrecorded s = unrecorded t) : unraised s = unraised t :=
  congrArg (fun u => { u with flt := {} }) h

@[simp] theorem unraised_modFlt (s : State) (f : FltSt → FltSt) : unraised (modFlt s f) = unraised s := rfl

@[simp] theorem unraised_writeRecord (s : State) (er : EventRec) : unraised (writeRecord s er) = unraised s :=
  unraised_of_unrecorded (unrecorded_writeRecord s er)

@[simp] theorem unraised_traceEvent (s : State) (er : EventRec) : unraised (traceEvent s er) = unraised s :=
  unraised_of_unrecorded (unrecorded_traceEvent s er)

@[simp] theorem unraised_report (s : State) (r : Report) : unraised (report s r) = unraised s := by
  unfold report
  dsimp only
  repeat' split
  all_goals simp

@[simp] theorem workers_report (s : State) (r : Report) : (report s r).gsc.workers = s.gsc.workers :=
  congrArg (fun t => t.gsc.workers) (unraised_report s r)

@[simp] theorem workerAt_report (s : State) (r : Report) (n : Nat) : workerAt (report s r) n = workerAt s n := by simp [workerAt]

@[simp] theorem unraised_bump (s : State) (off : Nat) : unraised (bump s off) = unraised s := rfl

@[simp] theorem unraised_modMem (s : State) (f : MemSt → MemSt) : unraised (modMem s f) = unraised s := rfl

@[simp] theorem unraised_raise (s : State) (e : Event) (handle detail org : Nat) : unraised (raise s e handle detail org) = unraised s :=
  unraised_report s _

@[simp] theorem unraised_retirePage (s : State) (page : Nat) : unraised (retirePage s page) = unraised s := by
  unfold retirePage
  split
  · rfl
  · split <;> rfl

@[simp] theorem unraised_uncorrectable (s : State) (line : Nat) : unraised (uncorrectable s line) = unraised s := by simp [uncorrectable]

@[simp] theorem unraised_correctable (s : State) (line : Nat) : unraised (correctable s line) = unraised s := by
  unfold correctable
  dsimp only
  split <;> simp

@[simp] theorem unraised_eccRead (s : State) (ls : List Nat) : unraised (eccRead s ls) = unraised s := by
  unfold eccRead
  induction ls generalizing s with
  | nil => rfl
  | cons l ls ih =>
    rw [List.foldl_cons, ih]
    split
    · simp
    · split <;> simp

@[simp] theorem eccRead_drv (s : State) (ls : List Nat) : (eccRead s ls).drv = s.drv := congrArg (fun t => t.drv) (unraised_eccRead s ls)

end Sys2Proof.Machine
end

section
namespace Sys2Proof.Machine

/-! ### One issue of a core (R190, R221) -/

/-- With nothing under way the pipeline sees no write at an issue. -/
theorem issueStart_idle (c : DCore) {x : DCtx} (h : x.pend = []) : issueStart c x = (c, x) := by
  simp only [issueStart, h, List.filter_nil, List.map_nil, List.foldl_nil]
  rw [← h]

/-- The one write under way is seen when it is due. -/
theorem issueStart_due (c : DCore) {x : DCtx} {w : DWrite} (h : x.pend = [(1, w)]) :
    issueStart c x = seeWrite c { x with pend := [] } w := by
  simp [issueStart, h]

/-- The one write under way comes one place nearer. -/
theorem issueStart_waits (c : DCore) {x : DCtx} {k : Nat} {w : DWrite} (h : x.pend = [(k, w)]) (hk : 1 < k) :
    issueStart c x = (c, { x with pend := [(k - 1, w)] }) := by
  simp [issueStart, h, hk, Nat.not_le.mpr hk]

/-- With no write under way the pipeline drains its flags alone. -/
theorem drain_idle (c : DCore) {x : DCtx} (h : x.pend = []) :
    drain c x = (c, { x with dst := x.dstQ.foldl dstApply x.dst, dstQ := [{}, {}], aOld := x.a }) := by
  simp only [drain, h, sortBy, List.foldl_nil]

/-- An instruction of the GRAPH context that does not trap leaves its context and the data words that it was the first to see. -/
theorem drvRow_graph {s : State} {n : Nat} {i : DIns} {d : DCore} {y : DCtx} (hlive : (drvAt s n).graph.ended = false)
    (hi : insIssue (drvAt s n) (drvAt s n).graph i = (d, y)) (hT : y.trap = none) :
    drvRow s n true i = modDrv s n fun _ => { d with graph := y } := by
  simp [drvRow, hlive, hi, hT]

/-- An instruction that neither traps nor ends its entry, and that sees no data word land, changes its context alone. -/
theorem drvRow_issued {s : State} {n : Nat} {gr : Bool} {x y : DCtx} {i : DIns} (hctx : ctxOf (drvAt s n) gr = x) (hlive : x.ended = false)
    (hi : insIssue (drvAt s n) x i = (drvAt s n, y)) (hT : y.trap = none) (hE : y.ended = false) :
    drvRow s n gr i = issued s n gr y := by
  cases gr with
  | true =>
    obtain rfl : (drvAt s n).graph = x := hctx
    rw [drvRow_graph hlive hi hT]
    rfl
  | false =>
    obtain rfl : (drvAt s n).loop = x := hctx
    cases hn : (drvAt s n).entered <;> simp [drvRow, hlive, hi, hT, hE, hn, issued, withCtx, modDrv]

/-- A NOP outside branches and repeats: the writes that are due are seen, and the flags move on by one instruction (R228). -/
theorem insIssue_nop {c d : DCore} {x y : DCtx} {o1 o2 : DstOp} (hstart : issueStart c x = (d, y)) (hbr : y.br = none) (hlc : y.lc = 0)
    (hskip : y.skip = false) (hq : y.dstQ = [o1, o2]) :
    insIssue c x .nop =
      (d, { y with dst := dstApply y.dst o1, dstQ := [o2, {}], aOld := y.a, pc := (y.pc + 1) % 8192 }) := by
  simp [insIssue, hstart, hskip, insTrap, insEffect, issueNext, hq, insFlow, hbr, hlc]

end Sys2Proof.Machine
end

section
namespace Sys2Proof.Machine

/-- Settles O32: what an issue sees first decides the NOP, whose own effect is none. -/
theorem draverPipeline : Obligations.DraverPipeline := by
  intro s n gr x hctx hbr hlc hskip htrap hlive
  refine ⟨fun hno => ?still, fun hcan o1 o2 hq => ⟨fun r v hp => ?seen, fun k w hk hp => ?nearer, fun a v hp hgr => ?lands⟩⟩
  case still => exact congrArg (fun t => Host.Outcome.next (leave s t)) (if_neg (by simp [hno]))
  case seen =>
    refine (dueStep_core hcan _).trans ?_
    rw [drvRow_issued hctx hlive (insIssue_nop (issueStart_due _ hp) hbr hlc hskip hq) htrap hlive]
  case nearer =>
    refine (dueStep_core hcan _).trans ?_
    rw [drvRow_issued hctx hlive (insIssue_nop (issueStart_waits _ hp hk) hbr hlc hskip hq) htrap hlive]
  case lands =>
    subst hgr
    obtain rfl : (drvAt s n).graph = x := hctx
    refine (dueStep_core hcan _).trans ?_
    rw [drvRow_graph hlive (insIssue_nop (issueStart_due _ hp) hbr hlc hskip hq) htrap]
    rfl

end Sys2Proof.Machine
end

section
namespace Sys2Proof.Machine

/-! ### An instruction of a context between instructions -/

/-- A context but for its registers, accumulators and writes under way: its flags and its place in the program. -/
def placeOf (x : DCtx) : DCtx := { x with g := [], a := [], aOld := [], p := [], pend := [] }

@[simp] theorem placeOf_setG (x : DCtx) (d v : Nat) : placeOf (setG x d v) = placeOf x := by
  unfold setG
  split <;> rfl

@[simp] theorem placeOf_setGLate (x : DCtx) (d v : Nat) : placeOf (setGLate x d v) = placeOf x := by
  unfold setGLate
  split <;> rfl

/-- Contexts at one place agree on what the flow goes by. -/
theorem Straight.of_placeOf {x y : DCtx} (hx : Straight x) (h : placeOf y = placeOf x) :
    y.dstQ = [{}, {}] ∧ y.br = none ∧ y.lc = 0 ∧ y.skip = false ∧ y.pc = x.pc ∧ y.trap = none ∧ y.ended = false := by
  obtain ⟨-, hq, hbr, hlc, hskip, htrap, hended⟩ := hx
  exact ⟨(congrArg DCtx.dstQ h).trans hq, (congrArg DCtx.br h).trans hbr, (congrArg DCtx.lc h).trans hlc,
    (congrArg DCtx.skip h).trans hskip, congrArg (fun z => z.pc) h, (congrArg DCtx.trap h).trans htrap, (congrArg DCtx.ended h).trans hended⟩

/-- In the core `c` the instruction `i` takes the context `x` to what `y` holds, with the flags `o`, at the next address. -/
def RunsOn (c : DCore) (x : DCtx) (i : DIns) (y : DCtx) (o : DstOp) : Prop :=
  insTrap x i = 0 ∧ insFlow { issueNext (insEffect c x i) with aOld := x.a } = ranOn x y o ∧ y.trap = none ∧ y.ended = false

theorem RunsOn.drvRow_eq {s : State} {n : Nat} {gr : Bool} {x y : DCtx} {i : DIns} {o : DstOp} (hr : RunsOn (drvAt s n) x i y o)
    (hfind : FindsCore s n gr x) : drvRow s n gr i = issued s n gr (ranOn x y o) := by
  obtain ⟨htrap, hnext, hT, hE⟩ := hr
  rw [← hnext]
  exact drvRow_straight hfind i htrap ((congrArg DCtx.trap hnext).trans hT) ((congrArg DCtx.ended hnext).trans hE)

/-- A command that issues the instruction in a core that can issue. -/
theorem RunsOn.exec_eq {s : State} {n : Nat} {gr : Bool} {x y : DCtx} {i : DIns} {o : DstOp} {cmd : Instr}
    (hr : RunsOn (drvAt s n) x i y o) (hfind : FindsCore s n gr x)
    (hcmd : exec cmd s = dueStep (onCore n fun s => drvRow s n gr i) s) :
    exec cmd s = .next (leave s (issued s n gr (ranOn x y o))) := by
  rw [hcmd, dueStep_core hfind.1, hr.drvRow_eq hfind]

section
variable {c : DCore} {x y : DCtx} {i : DIns} (hx : Straight x)
include hx

/-- An effect that writes no flags and does not move the flow. -/
theorem Straight.runsOn (htrap : insTrap x i = 0) (heff : insEffect c x i = y) (hplace : placeOf y = placeOf x) : RunsOn c x i y {} := by
  obtain ⟨hq, hbr, hlc, hskip, hpc, hT, hE⟩ := hx.of_placeOf hplace
  exact ⟨htrap, by rw [heff, ranOn_plain hq hbr hlc hskip hpc], hT, hE⟩

/-- An effect that writes flags and does not move the flow. -/
theorem Straight.runsOn_flags {o : DstOp} (htrap : insTrap x i = 0) (heff : insEffect c x i = putDst y o) (hplace : placeOf y = placeOf x) :
    RunsOn c x i y o := by
  obtain ⟨hq, hbr, hlc, hskip, hpc, hT, hE⟩ := hx.of_placeOf hplace
  have hq' : (putDst y o).dstQ = [{}, {}, o] := by simp [putDst, hq]
  exact ⟨htrap, by rw [heff]; exact ranOn_flags hq' hbr hlc hskip hpc, hT, hE⟩

/-- An effect that branches: its two slots come first (R225). -/
theorem Straight.runsOn_branch {t : Option Nat} (htrap : insTrap x i = 0) (heff : insEffect c x i = { y with br := some (3, t) })
    (hplace : placeOf y = placeOf x) : RunsOn c x i { y with br := some (2, t) } {} := by
  obtain ⟨hq, -, -, -, hpc, hT, hE⟩ := hx.of_placeOf hplace
  refine ⟨htrap, ?_, hT, hE⟩
  rw [heff]
  simp [issueNext, hq, insFlow, ranOn, hpc]

/-- Nothing under way or branching, no repeat: an instruction of the flow does not trap for its place. -/
theorem Straight.flow_free : (x.br.isSome || inBody x) = false := by
  obtain ⟨-, -, hbr, hlc, hskip, -, -⟩ := hx
  simp [hbr, inBody, hlc, hskip]

theorem Straight.putG_now (d v : Nat) : putG x 1 d v = setG x d v := by
  obtain ⟨hp, -⟩ := hx
  simp only [putG, setG, hp, List.filter_nil, if_true]

theorem Straight.putG_late (d v : Nat) : putG x 3 d v = setGLate x d v := by
  obtain ⟨hp, -⟩ := hx
  simp [putG, setGLate, hp]

theorem Straight.putMem_eq (a v : Nat) : putMem x a v = { x with pend := [(3, .mem a v)] } := by
  obtain ⟨hp, -⟩ := hx
  simp [putMem, hp]

end

end Sys2Proof.Machine
end

section
namespace Sys2Proof.Machine

/-! ### Memory accesses (R220 to R222) -/

/-- The address that an access takes: the P register's, before its modifier with U set and after it otherwise. -/
def accessAddr (x : DCtx) (p : Nat) (u : Bool) (m : Int) : Nat := if u then bits (x.p.getD p 0) 0 16 else modifyP (x.p.getD p 0) m

/-- What an access with U set leaves of its P register. -/
def accessPost (x y : DCtx) (p : Nat) (u : Bool) (m : Int) : DCtx := if u then postModify y p (modifyP (x.p.getD p 0) m) else y

@[simp] theorem placeOf_accessPost (x y : DCtx) (p : Nat) (u : Bool) (m : Int) : placeOf (accessPost x y p u m) = placeOf y := by
  cases u <;> rfl

section
variable {c : DCore} {x : DCtx} (hx : Straight x)
include hx

theorem Straight.runsOn_ld {p : Nat} {u : Bool} {m : Int} (h : accessTrap (x.p.getD p 0) (accessAddr x p u m) false false = 0) (d : Nat) :
    RunsOn c x (.ld d p u m) (accessPost x (setGLate x d (dataAt c (accessAddr x p u m))) p u m) {} :=
  hx.runsOn h (congrArg (accessPost x · p u m) (hx.putG_late ..)) (by simp)

theorem Straight.runsOn_ldc {p : Nat} {u : Bool} {m : Int} (h : accessTrap (x.p.getD p 0) (accessAddr x p u m) true false = 0) (d : Nat) :
    RunsOn c x (.ldc d p u m) (accessPost x (setGLate x d (coefAt c (accessAddr x p u m))) p u m) {} :=
  hx.runsOn h (congrArg (accessPost x · p u m) (hx.putG_late ..)) (by simp)

theorem Straight.runsOn_st {p : Nat} {u : Bool} {m : Int} (h : accessTrap (x.p.getD p 0) (accessAddr x p u m) false true = 0) (d : Nat) :
    RunsOn c x (.st d p u m) (accessPost x { x with pend := [(3, .mem (accessAddr x p u m) (gAt x d))] } p u m) {} :=
  hx.runsOn h (congrArg (accessPost x · p u m) (hx.putMem_eq ..)) (placeOf_accessPost ..)

/-- A write of a field of a P register, for the third instruction on. -/
theorem Straight.runsOn_latePend {i : DIns} {w : DWrite} (htrap : insTrap x i = 0)
    (heff : insEffect c x i = { x with pend := x.pend ++ [(3, w)] }) : RunsOn c x i { x with pend := [(3, w)] } {} := by
  have hp : x.pend = [] := hx.1
  exact hx.runsOn htrap (by rw [heff, hp]; rfl) rfl

/-- FTM without a tap move, on two P registers (R222). -/
theorem Straight.runsOn_ftm {pd pc : Nat} (hne : pd ≠ pc) (hd : accessTrap (x.p.getD pd 0) (bits (x.p.getD pd 0) 0 16) false false = 0)
    (hc : accessTrap (x.p.getD pc 0) (bits (x.p.getD pc 0) 0 16) true false = 0) (aa : Nat) (md mc : Int) :
    let v := x.a.getD aa 0 + prodOf x (dataAt c (bits (x.p.getD pd 0) 0 16)) (coefAt c (bits (x.p.getD pc 0) 0 16))
    RunsOn c x (.ftm aa pd pc false false md mc)
      (postModify (postModify { x with a := x.a.set aa (sat72 v).1 } pd (modifyP (x.p.getD pd 0) md)) pc (modifyP (x.p.getD pc 0) mc))
      (flAOV (sat72 v).2) := by
  intro v
  exact hx.runsOn_flags (by simp only [insTrap, if_neg hne, hd, hc]; simp) rfl rfl

end

/-! ### Traps and memory errors (R206, R221) -/

/-- A context in which an instruction has trapped with a cause: every earlier one has completed. -/
def trappedAt (x : DCtx) (cause : Nat) : DCtx :=
  { x with dst := dstApply (dstApply x.dst {}) {}, aOld := x.a, trap := some (cause, x.pc), ended := true }

theorem Straight.insIssue_trap {x : DCtx} (hx : Straight x) (c : DCore) {i : DIns} (h : insTrap x i ≠ 0) :
    insIssue c x i = (c, trappedAt x (insTrap x i)) := by
  obtain ⟨hp, hq, -, -, hskip, -, -⟩ := hx
  simp [insIssue, issueStart_idle c hp, hskip, h, drain_idle c hp, hq, trappedAt]

/-- A trap in the GRAPH context of a core that runs no node is reported and no more (R205). -/
theorem graphTrap_idle {s : State} {n cause a : Nat} (htrap : (drvAt s n).graph.trap = some (cause, a))
    (hidle : (workerAt s n).running = none) :
    graphTrap s n = report s { rep .drvTrap 0 (n + 65536 * cause + 4294967296 * a) (oDRV n) with cls := 2 } := by
  simp [graphTrap, htrap, hidle]

theorem drvRow_graphTraps {s : State} {n : Nat} {x : DCtx} {i : DIns} (hfind : FindsCore s n true x) (h : insTrap x i ≠ 0)
    (hidle : (workerAt s n).running = none) :
    drvRow s n true i = report (issued s n true (trappedAt x (insTrap x i)))
      { rep .drvTrap 0 (n + 65536 * insTrap x i + 4294967296 * x.pc) (oDRV n) with cls := 2 } := by
  obtain ⟨-, hctx, hx⟩ := hfind
  obtain rfl : (drvAt s n).graph = x := hctx
  have hi := hx.insIssue_trap (drvAt s n) h
  obtain ⟨-, -, -, -, -, hT, hlive⟩ := hx
  rw [← graphTrap_idle (s := issued s n true (trappedAt (drvAt s n).graph (insTrap (drvAt s n).graph i)))
    (by simp [drvAt, issued, withCtx, trappedAt]) hidle]
  simp [drvRow, hlive, hi, hT, trappedAt, issued, withCtx, modDrv]

/-- An uncorrectable error in a memory that the instruction reads stops the core first. -/
theorem drvMemRow_uncorrectable {i : DIns} {ecc mem : Nat} (h : errHere (memErr ecc 0) i = some (2, mem)) (s : State) (n : Nat) (gr : Bool) :
    drvMemRow s n gr i ecc = drvMemError s n 2 mem := by
  simp [drvMemRow, h]

/-- A command whose instruction meets an uncorrectable error. -/
theorem exec_memError {s : State} {n : Nat} {gr : Bool} {x : DCtx} (hfind : FindsCore s n gr x) {cmd : Instr} {i : DIns} {ecc mem : Nat}
    (hcmd : exec cmd s = dueStep (onCore n fun s => drvMemRow s n gr i ecc) s) (h : errHere (memErr ecc 0) i = some (2, mem)) :
    exec cmd s = .next (leave s (drvMemError s n 2 mem)) := by
  rw [hcmd, dueStep_core hfind.1, drvMemRow_uncorrectable h]

end Sys2Proof.Machine
end

section
namespace Sys2Proof.Machine

/-- Settles O30: each access is its rule of R220 to R222 in the context that the core finds, its trap or its memory's error. -/
theorem draverMemory : Obligations.DraverMemory := by
  intro s n gr d p m x hfind
  have hx : Straight x := hfind.2.2
  intro c P run moved at0 at1
  refine ⟨fun h => ?ldAt, fun h => ?ldMoved, fun h => ?stAt, fun h => ?stMoved, fun h => ?ldcAt, fun h => ?ldcMoved, fun aa q md mc => ?ftm, ?mvpa,
    fun l => ?mvpl, fun h hgr hidle => ?trap, fun u => ⟨?ldData, ?ldCode, ?ldcCode, ?ldcCoef⟩,
    fun aa q neg mov md mc => ⟨?ftmData, ?ftmCode, ?ftmCoef⟩⟩
  case ldAt => exact (hx.runsOn_ld (u := true) (m := m.toInt) h d).exec_eq hfind rfl
  case ldMoved => exact (hx.runsOn_ld (u := false) (m := m.toInt) h d).exec_eq hfind rfl
  case stAt => exact (hx.runsOn_st (u := true) (m := m.toInt) h d).exec_eq hfind rfl
  case stMoved => exact (hx.runsOn_st (u := false) (m := m.toInt) h d).exec_eq hfind rfl
  case ldcAt => exact (hx.runsOn_ldc (u := true) (m := m.toInt) h d).exec_eq hfind rfl
  case ldcMoved => exact (hx.runsOn_ldc (u := false) (m := m.toInt) h d).exec_eq hfind rfl
  case ftm =>
    intro Q pr v k p1 hne hd hc y
    exact (hx.runsOn_ftm (Fin.val_ne_of_ne hne) hd hc aa md.toInt mc.toInt).exec_eq hfind rfl
  case mvpa => exact (hx.runsOn_latePend rfl rfl).exec_eq (i := .mvpa p m.toNat) hfind rfl
  case mvpl => exact (hx.runsOn_latePend rfl rfl).exec_eq (i := .mvpl p l.toNat) hfind rfl
  case trap =>
    subst hgr
    exact (dueStep_core hfind.1 _).trans
      (congrArg (fun t => Host.Outcome.next (leave s t)) (drvRow_graphTraps (i := .ld d p false m.toInt) hfind h hidle))
  all_goals exact exec_memError hfind rfl rfl

end Sys2Proof.Machine
end

section
namespace Sys2Proof.Machine

/-! ### Branches, repeats and special registers (R214, R223 to R226) -/

/-- A condition that holds or does not is one of the defined codes. -/
theorem condHolds_defined {k dst : Nat} {b : Bool} (h : condHolds k dst = some b) : k < 12 := by
  by_contra hk
  obtain ⟨j, rfl⟩ := Nat.exists_eq_add_of_le' (Nat.not_lt.mp hk)
  simp [condHolds] at h

section
variable {c : DCore} {x : DCtx} (hx : Straight x)
include hx

theorem Straight.runsOn_b_taken {k : Nat} (h : condHolds k x.dst = some true) (t : Nat) :
    RunsOn c x (.b k t) { x with br := some (2, some t) } {} :=
  hx.runsOn_branch (by simp [insTrap, hx.flow_free, condHolds_defined h]) (by simp [insEffect, h]) rfl

theorem Straight.runsOn_b_passed {k : Nat} (h : condHolds k x.dst = some false) (t : Nat) :
    RunsOn c x (.b k t) { x with br := some (2, some ((x.pc + 3) % 8192)) } {} :=
  hx.runsOn_branch (by simp [insTrap, hx.flow_free, condHolds_defined h]) (by simp [insEffect, h]) rfl

theorem Straight.runsOn_j_taken {k : Nat} (h : condHolds k x.dst = some true) (ga : Nat) :
    RunsOn c x (.j k ga) { x with br := some (2, some (gAt x ga % 8192)) } {} :=
  hx.runsOn_branch (by simp [insTrap, hx.flow_free, condHolds_defined h]) (by simp [insEffect, h]) rfl

theorem Straight.runsOn_bl (t : Nat) : RunsOn c x (.bl t) { setGLate x 31 (x.pc + 3) with br := some (2, some t) } {} :=
  hx.runsOn_branch (by simp [insTrap, hx.flow_free]) (by simp only [insEffect, hx.putG_late]) (by simp)

theorem Straight.runsOn_exit : RunsOn c x .exit { x with br := some (2, none) } {} :=
  hx.runsOn_branch (by simp [insTrap, hx.flow_free]) rfl rfl

/-- RPT goes on into its body, whose end lies behind it; with a count of 0 the body is skipped (R226). -/
theorem Straight.runsOn_rpt {body : Nat} {csrc : Bool} {ga count : Nat} (hbody : 0 < body) (hend : x.pc + body ≤ 8191)
    (hcount : csrc = true → 0 ≤ s32 (gAt x ga) ∧ gAt x ga ≤ 4096) :
    let k := if csrc then gAt x ga else count
    RunsOn c x (.rpt body csrc ga count) { x with ls := x.pc + 1, le := x.pc + body, lc := k, skip := decide (k = 0) } {} := by
  intro k
  have hinside : ¬ 8191 < x.pc + body := Nat.not_lt.mpr hend
  have hvalid : ¬ (csrc = true ∧ (s32 (gAt x ga) < 0 ∨ 4096 < gAt x ga)) := by
    rintro ⟨hc, hout⟩
    have hin := hcount hc
    omega
  have htrap : insTrap x (.rpt body csrc ga count) = 0 := by
    simp only [insTrap, hx.flow_free, hinside, hvalid]
    simp
  obtain ⟨-, hq, hbr, -, -, hT, hE⟩ := hx
  refine ⟨htrap, ?_, hT, hE⟩
  simp [insEffect, issueNext, hq, insFlow, hbr, hbody.ne', ranOn, k]

theorem Straight.runsOn_mvsg {sr v : Nat} (h : specialAt x sr = some v) (d : Nat) : RunsOn c x (.mvsg d sr) (setG x d v) {} :=
  hx.runsOn (by simp [insTrap, h]) (by simp [insEffect, h, hx.putG_now]) (placeOf_setG ..)

theorem Straight.runsOn_mvgs_pointer {sr : Nat} (h : sr < 8) (a : Nat) :
    RunsOn c x (.mvgs sr a) { x with pend := [(3, .p sr 0 30 (gAt x a))] } {} :=
  hx.runsOn_latePend (by simp [insTrap, h]) (by simp [insEffect, h])

theorem Straight.runsOn_mvgs_dst (a : Nat) : RunsOn c x (.mvgs 11 a) x { set := some (gAt x a) } := hx.runsOn_flags rfl rfl rfl

end

end Sys2Proof.Machine
end

section
namespace Sys2Proof.Machine

/-! ### The start of a tick's loops (R197, R198) -/

/-- A core with its GRAPH context frozen, its writes under way complete, after `v` cycles of waiting. -/
def frozenCore (c : DCore) (v : Nat) : DCore :=
  { c with graph := { c.graph with dst := c.graph.dstQ.foldl dstApply c.graph.dst, dstQ := [{}, {}], aOld := c.graph.a },
           used := v, waited := v, holdSeen := Nat.max c.holdSeen v }

/-- A core has loops to run and may run them. -/
def LoopsDue (s : State) (n : Nat) : Prop :=
  serves s 4 n = true ∧ (drvAt s n).halted = [] ∧ (drvAt s n).queue ≠ [] ∧ (drvAt s n).used = 0 ∧ (drvAt s n).entered = false

theorem graphIssue_idle {s : State} {n : Nat} (h : graphRuns s n = false) (k : Nat) : graphIssue k s n = s := by
  cases k <;> simp [graphIssue, h]

theorem toPreempt_idle {s : State} {n : Nat} (h : graphRuns s n = false) (fuel used : Nat) : toPreempt fuel s n used = (used, s) := by
  cases fuel <;> simp [toPreempt, h]

theorem loopsStart_none {s : State} {n : Nat} (h : ¬ LoopsDue s n) (k : Nat) (err : Option (Nat × Nat × Nat)) : loopsStart s n k err = s :=
  if_neg h

/-- Where the graph operation has nothing under way at its preemption point, the core runs its loops from there. -/
theorem loopsStart_runs {s u : State} {n k w : Nat} (h : LoopsDue s n) (hpre : toPreempt 16000 (graphIssue k s n) n 0 = (w, u))
    (hp : (drvAt u n).graph.pend = []) (err : Option (Nat × Nat × Nat)) :
    loopsStart s n k err = noteTick (runLoops 19200 { u with drv := mput u.drv n (frozenCore (drvAt u n) w) } n false err) n := by
  unfold LoopsDue at h
  rw [loopsStart, if_pos h, hpre]
  dsimp only
  rw [drain_idle _ hp]
  rfl

theorem loopsStart_atOnce {s : State} {n : Nat} (h : LoopsDue s n) (hidle : (workerAt s n).running = none)
    (hp : (drvAt s n).graph.pend = []) (k : Nat) (err : Option (Nat × Nat × Nat)) :
    loopsStart s n k err = noteTick (runLoops 19200 { s with drv := mput s.drv n (frozenCore (drvAt s n) 0) } n false err) n := by
  have hrest : graphRuns s n = false := by simp [graphRuns, hidle]
  exact loopsStart_runs h (by rw [graphIssue_idle hrest, toPreempt_idle hrest]) hp err

/-! ### Publication (R200) -/

section
variable {s : State} {n k j : Nat} (hserves : serves s 4 n = true) (hlive : (slotAt (drvAt s n) k).live = some j)
include hlive

theorem loopPublish_other (h : (s.time.frame + 1) % 160 ≠ (slotAt (drvAt s n) k).pubAt % 160) : loopPublish s n k = s := by
  simp [loopPublish, hlive, h]

include hserves
variable (hframe : (s.time.frame + 1) % 160 = (slotAt (drvAt s n) k).pubAt % 160)
include hframe

/-- An output that is finished in time at 594 MHz. -/
theorem loopPublish_released (hph : (slotAt (drvAt s n) k).phase = 2)
    (h : (slotAt (drvAt s n) k).doneAt * 1000 ≤ ((slotAt (drvAt s n) k).pubAt - 1) * 118800) : loopPublish s n k = release s n k j := by
  simp [loopPublish, hlive, hserves, hframe, hph, inTime, h]

/-- An output that is finished too late even at 600 MHz. -/
theorem loopPublish_tooLate (hph : (slotAt (drvAt s n) k).phase = 2)
    (h1 : ((slotAt (drvAt s n) k).pubAt - 1) * 118800 < (slotAt (drvAt s n) k).doneAt * 1000)
    (h2 : ((slotAt (drvAt s n) k).pubAt - 1) * 120 < (slotAt (drvAt s n) k).doneAt) : loopPublish s n k = loopLate s n k := by
  simp [loopPublish, hlive, hserves, hframe, hph, inTime, Nat.not_le.mpr h1, h2]

/-- An output that has not been finished. -/
theorem loopPublish_unfinished (hph : (slotAt (drvAt s n) k).phase = 1 ∨ (slotAt (drvAt s n) k).phase = 3) :
    loopPublish s n k = loopLate s n k := by
  rcases hph with hph | hph <;> simp [loopPublish, hlive, hserves, hframe, hph]

end

/-! ### The end of a load (R202, R484) -/

/-- The bank that an image fills (R202). -/
def imageBank (img : DrvImage) : DBank :=
  { ident := img.ident.toNat, code := wordMap 0 img.code, coef := wordMap 0 img.coef,
    loops := img.loops.foldl (fun m e => mput m e.1.val e.2) [], ops := img.ops }

/-- A core with an image staged in its bank `t`: the data page of that bank, and for a FIRST load the shared data. -/
def stagedCore (c : DCore) (t : Nat) (img : DrvImage) (first : Bool) : DCore :=
  let b := modBank c t fun _ => imageBank img
  let page := (List.range 2048).zip (img.page ++ List.replicate (2048 - img.page.length) 0)
  let data := page.foldl (fun d e => mput d (0x10000 + 0x800 * t + e.1) e.2.toNat) b.data
  { b with staged := true, data := if first then (img.shared.zipIdx 0x0800).foldl (fun d e => mput d e.2 e.1.toNat) data else data }

/-- A state in which a core's load is over. -/
def loadOver (s : State) (n : Nat) : State := { s with drv := mput s.drv n { drvAt s n with load := none } }

/-- The first check of an image that its envelope fails, 0 when it passes them. -/
def envelopeFail (s : State) (acc : Acc) (img : DrvImage) : Nat :=
  if img.envelope.length ≠ pf acc.d 32 4 then 1 else envelopeCheck s 2 img.envelope

theorem drvLoadDone_none {s : State} {n : Nat} (h : (drvAt s n).load = none) (img : DrvImage) : drvLoadDone s n img = s := by
  simp [drvLoadDone, h]

section
variable {s : State} {n : Nat} {acc : Acc} {first : Bool} (hload : (drvAt s n).load = some (acc, first))
  (hswap : (drvAt s n).swapDue = false)
include hload hswap

/-- The end of a load under way: the envelope, the copy in device DRAM and the image are judged in this order. -/
theorem drvLoadDone_loading (img : DrvImage) :
    drvLoadDone s n img =
      let b := loadOver s n
      let len := img.envelope.length
      let read := eccRead b (linesOf (Config.imageCopy n) len)
      if envelopeFail b acc img ≠ 0 then
        complete (rejectImage b 2 (envelopeFail b acc img)) acc stRANGE 0 (1 + 256 * envelopeFail b acc img)
      else if memPoisoned b (Config.imageCopy n) len then complete read acc stRANGE 0 0xEE
      else if imageFail b n img (imageBank img) ≠ 0 then complete b acc stRANGE 0 (imageFail b n img (imageBank img))
      else complete (modDrv read n fun c => stagedCore c (1 - (drvAt s n).active) img first) acc stOK 0 0 := by
  simp only [drvLoadDone, hload, hswap, Bool.false_eq_true, if_false]
  rfl

variable {img : DrvImage}

theorem drvLoadDone_length (h : img.envelope.length ≠ pf acc.d 32 4) :
    drvLoadDone s n img = complete (rejectImage (loadOver s n) 2 1) acc stRANGE 0 257 := by
  simp [drvLoadDone_loading hload hswap, envelopeFail, h]

variable (hlen : img.envelope.length = pf acc.d 32 4) (hcheck : envelopeCheck (loadOver s n) 2 img.envelope = 0)
include hlen hcheck

theorem drvLoadDone_poisoned (h : memPoisoned (loadOver s n) (Config.imageCopy n) img.envelope.length = true) :
    drvLoadDone s n img =
      complete (eccRead (loadOver s n) (linesOf (Config.imageCopy n) img.envelope.length)) acc stRANGE 0 0xEE := by
  have hsig : envelopeFail (loadOver s n) acc img = 0 := by simp [envelopeFail, hlen, hcheck]
  simp [drvLoadDone_loading hload hswap, hsig, h]

theorem drvLoadDone_staged (h : memPoisoned (loadOver s n) (Config.imageCopy n) img.envelope.length = false)
    (hfit : imageFail (loadOver s n) n img (imageBank img) = 0) :
    let w := eccRead (loadOver s n) (linesOf (Config.imageCopy n) img.envelope.length)
    drvLoadDone s n img = complete { w with
      drv := mput w.drv n (stagedCore { drvAt s n with load := none } (1 - (drvAt s n).active) img first) } acc stOK 0 0 := by
  intro w
  have hsig : envelopeFail (loadOver s n) acc img = 0 := by simp [envelopeFail, hlen, hcheck]
  have hcore : drvAt w n = { drvAt s n with load := none } := by simp [drvAt, w, loadOver]
  rw [drvLoadDone_loading hload hswap, ← hcore]
  simp [hsig, h, hfit, modDrv, w]

end

/-- What a staged image changes of its core (R202). -/
theorem stagedCore_spec (c : DCore) (img : DrvImage) (first : Bool) :
    let e := stagedCore c (1 - c.active) img first
    bankOf e (1 - c.active) = imageBank img ∧ e.staged = true ∧ e.active = c.active ∧ bankOf e c.active = bankOf c c.active ∧
      e.loop = c.loop ∧ e.graph = c.graph ∧ e.slots = c.slots := by
  by_cases h : c.active = 0
  · simp [stagedCore, modBank, bankOf, h]
  · have ht : 1 - c.active = 0 := by omega
    simp [stagedCore, modBank, bankOf, h, ht]

end Sys2Proof.Machine
end

section
namespace Sys2Proof.Machine

/-- Settles O31: each instruction is its rule of the flow, and each command of a unit its operation, in the state in which it finds the
device. -/
theorem draverFlow : Obligations.DraverFlow := by
  refine ⟨fun s n gr x hfind => ?flow, fun s a n => ⟨fun w e ecc hfind => ⟨fun hno => ?waits, fun hq hh hs hu he => ⟨fun hidle hp => ?atOnce,
    fun hp => ?preempts⟩⟩, fun k j hfind hs hlive => ?publish, fun img hfind => ?load⟩⟩
  case flow =>
    have hx : Straight x := hfind.2.2
    intro run
    refine ⟨?nop, fun k t _ => ⟨fun h => ?taken, fun h => ?passed⟩, fun t => ?link, fun k ga h => ?jump, ?exit,
      fun body ga cnt hend => ⟨?count, fun hlo hhi => ?counted⟩, fun d sr v h => ?read, fun a sr => ⟨fun h => ?pointer, fun h => ?dst⟩⟩
    case nop => exact (hx.runsOn rfl rfl rfl).exec_eq (i := .nop) hfind rfl
    case taken => exact (hx.runsOn_b_taken h t.toNat).exec_eq hfind rfl
    case passed => exact (hx.runsOn_b_passed h t.toNat).exec_eq hfind rfl
    case link => exact (hx.runsOn_bl t.toNat).exec_eq hfind rfl
    case jump => exact (hx.runsOn_j_taken h ga).exec_eq hfind rfl
    case exit => exact hx.runsOn_exit.exec_eq hfind rfl
    case count => exact (hx.runsOn_rpt (csrc := false) (ga := 0) (count := cnt + 1) (Nat.succ_pos body) hend (by simp)).exec_eq hfind rfl
    case counted => exact (hx.runsOn_rpt (csrc := true) (ga := ga) (count := 0) (Nat.succ_pos body) hend fun _ => ⟨hlo, hhi⟩).exec_eq hfind rfl
    case read => exact (hx.runsOn_mvsg h d).exec_eq hfind rfl
    case pointer => exact (hx.runsOn_mvgs_pointer h a).exec_eq hfind rfl
    case dst => exact (h ▸ hx.runsOn_mvgs_dst a).exec_eq (i := .mvgs sr a) hfind rfl
  case waits =>
    refine (unitStep_finds hfind (loopsStart · n w.toNat (memErr ecc e.toNat))).trans ?_
    have hnot : ¬ LoopsDue a n := by
      rintro ⟨hs, hh, hq, -⟩
      simp [hs, hh, hq] at hno
    rw [loopsStart_none hnot]
  case atOnce =>
    refine (unitStep_finds hfind (loopsStart · n w.toNat (memErr ecc e.toNat))).trans ?_
    rw [loopsStart_atOnce ⟨hs, hh, hq, hu, he⟩ hidle hp]
    rfl
  case preempts =>
    intro b
    refine (unitStep_finds hfind (loopsStart · n w.toNat (memErr ecc e.toNat))).trans ?_
    rw [loopsStart_runs ⟨hs, hh, hq, hu, he⟩ rfl hp]
    rfl
  case publish =>
    have publishes : exec (.drvLoopPublish n k) s = .next (leave s (loopPublish a n k)) := unitStep_finds hfind (loopPublish · n k)
    intro pub
    rw [publishes]
    refine ⟨fun h => ?_, fun hframe => ⟨fun hph h => ?_, fun hph h1 h2 => ?_, fun hph => ?_⟩⟩
    · rw [loopPublish_other hlive h]
    · rw [loopPublish_released hs hlive hframe hph h]
    · rw [loopPublish_tooLate hs hlive hframe hph h1 h2]
    · rw [loopPublish_unfinished hs hlive hframe hph]
  case load =>
    have ends : exec (.drvLoadDone n img) s = .next (leave s (drvLoadDone a n img)) := event_finds hfind (drvLoadDone · n img)
    rw [ends]
    refine ⟨fun hnone => ?_, fun acc first hload hswap => ⟨fun h => ?_, fun hlen hcheck => ⟨fun h => ?_, fun h hfit => ?_⟩⟩⟩
    · rw [drvLoadDone_none hnone]
    · rw [drvLoadDone_length hload hswap h]
      rfl
    · rw [drvLoadDone_poisoned hload hswap hlen hcheck h]
      rfl
    · refine ⟨_, ?_, stagedCore_spec { drvAt a n with load := none } img first⟩
      rw [drvLoadDone_staged hload hswap hlen hcheck h hfit]
      rfl

end Sys2Proof.Machine
end

section
namespace Sys2Proof.Machine

/-! ### Results, flags and accumulators of an instruction (R216 to R219) -/

/-- Without a carry the sum of R216 is the plain one. -/
theorem addFl_zero (a b : Nat) :
    let r := (a + b) % 4294967296
    addFl a b 0 = (r, flZNCV r (decide (4294967296 ≤ a + b)) (decide (s32 r ≠ s32 a + s32 b))) := by
  simp only [addFl, Nat.add_zero, Nat.cast_zero, Int.add_zero]

/-- Without a borrow the difference of R216 is the plain one. -/
theorem subFl_one (a b : Nat) :
    let r := w32 ((a : Int) - b)
    subFl a b 1 = (r, flZNCV r (decide ((0 : Int) ≤ (a : Int) - b)) (decide (s32 r ≠ s32 a - s32 b))) := by
  simp only [subFl, Nat.cast_one, Int.sub_self, Int.sub_zero]

/-- A count of 6 bits is its own remainder, so that SHLI saturates as SHL does by a register that holds it (R216). -/
theorem aluI_shli (a : Nat) (k : BitVec 6) :
    let e := sat32 (s32 a * (2 : Int) ^ k.toNat)
    aluI 0x14 a k.toNat = (e.1, flZNS e.1 e.2) := by
  have hk : k.toNat % 64 = k.toNat := Nat.mod_eq_of_lt k.isLt
  simp only [aluI, aluR, hk]

/-- A count of 6 bits is its own remainder, so that SHRI shifts as SHR does by a register that holds it (R216). -/
theorem aluI_shri (a : Nat) (k : BitVec 6) :
    let r := w32 (floorDiv (s32 a) ((2 : Int) ^ k.toNat))
    aluI 0x15 a k.toNat = (r, flZN r) := by
  have hk : k.toNat % 64 = k.toNat := Nat.mod_eq_of_lt k.isLt
  simp only [aluI, aluR, hk]

/-- MVGA and MVGP scale exactly when they do not shift down (R218). -/
theorem shiftFree_of_nonneg (v : Int) {s : Int} (h : 0 ≤ s) : shiftFree v s = v * (2 : Int) ^ s.toNat := if_pos h

section
variable {c : DCore} {x : DCtx} (hx : Straight x)
include hx

/-- With no flags under way ADDC and SUBC see the carry of DST (R229). -/
theorem Straight.carryView_eq : carryView x = b2n (bit x.dst 2) := by
  obtain ⟨-, hq, -⟩ := hx
  simp [carryView, hq, dstFlags]

/-- A register instruction but CMP writes its result at once (R216). -/
theorem Straight.runsOn_alu {op a b r : Nat} {o : DstOp} (hop : op ≠ 0x10) (hres : aluR op (gAt x a) (gAt x b) (b2n (bit x.dst 2)) = (r, o))
    (d : Nat) : RunsOn c x (.alu op d a b) (setG x d r) o :=
  hx.runsOn_flags rfl (by simp only [insEffect, hx.carryView_eq, hres, if_neg hop, hx.putG_now]) (placeOf_setG ..)

/-- An immediate instruction but CMPI writes its result at once (R216). -/
theorem Straight.runsOn_alui {op a imm r : Nat} {o : DstOp} (hop : op ≠ 0x18) (hres : aluI op (gAt x a) imm = (r, o)) (d : Nat) :
    RunsOn c x (.alui op d a imm) (setG x d r) o :=
  hx.runsOn_flags rfl (by simp only [insEffect, hres, if_neg hop, hx.putG_now]) (placeOf_setG ..)

/-- CMP writes the flags of SUB and no register (R216). -/
theorem Straight.runsOn_cmp (a b : Nat) : RunsOn c x (.alu 0x10 0 a b) x (subFl (gAt x a) (gAt x b) 1).2 := hx.runsOn_flags rfl rfl rfl

/-- CMPI writes the flags of a subtraction of its sign-extended IMM and no register (R216). -/
theorem Straight.runsOn_cmpi (a imm : Nat) :
    let M := w32 (sx 16 imm)
    let r := w32 ((gAt x a : Int) - M)
    RunsOn c x (.alui 0x18 0 a imm) x
      (flZNCV r (decide ((0 : Int) ≤ (gAt x a : Int) - M)) (decide (s32 r ≠ s32 (gAt x a) - s32 M))) :=
  hx.runsOn_flags rfl (congrArg (fun (e : Nat × DstOp) => putDst x e.2) (subFl_one ..)) rfl

/-- A result of an accumulator saturates at 72 bits, and the sticky flags tell so (R219). -/
theorem Straight.runsOn_putA {i : DIns} {aa : Nat} {v : Int} (htrap : insTrap x i = 0) (heff : insEffect c x i = putA x aa v) :
    RunsOn c x i { x with a := x.a.set aa (sat72 v).1 } (flAOV (sat72 v).2) :=
  hx.runsOn_flags htrap heff rfl

/-- CLRA clears an accumulator and writes no flag (R219). -/
theorem Straight.runsOn_clra (aa : Nat) : RunsOn c x (.clra aa) { x with a := x.a.set aa 0 } {} := hx.runsOn rfl rfl rfl

/-- RND takes the accumulator as it stood before the last instruction, and its result is seen late (R218, R228, R229). -/
theorem Straight.runsOn_rnd (d aa k : Nat) :
    let e := sat32 (rndBy (bits x.dst 6 2) (x.aOld.getD aa 0) k)
    RunsOn c x (.rnd d aa k) (setGLate x d e.1) (flZNS e.1 e.2) :=
  hx.runsOn_flags rfl (by simp only [insEffect, hx.putG_late]) (placeOf_setGLate ..)

/-- EXT takes 32 bits of the accumulator as it stood before the last instruction, and its result is seen late (R218, R228, R229). -/
theorem Straight.runsOn_ext (d aa k : Nat) :
    let r := w32 (floorDiv (x.aOld.getD aa 0) ((2 : Int) ^ k))
    RunsOn c x (.ext d aa k) (setGLate x d r) (flZN r) :=
  hx.runsOn_flags rfl (by simp only [insEffect, hx.putG_late]) (placeOf_setGLate ..)

end

/-! ### The commands that issue them -/

section
variable {s : State} {n : Nat} {gr : Bool} {x : DCtx} (hfind : FindsCore s n gr x) {cmd : Instr}
include hfind

/-- A command of a register instruction but CMP. -/
theorem exec_alu {op d a b r : Nat} {o : DstOp} (hcmd : exec cmd s = dueStep (onCore n fun s => drvRow s n gr (.alu op d a b)) s)
    (hop : op ≠ 0x10) (hres : aluR op (gAt x a) (gAt x b) (b2n (bit x.dst 2)) = (r, o)) :
    exec cmd s = .next (leave s (issued s n gr (ranOn x (setG x d r) o))) :=
  (hfind.2.2.runsOn_alu hop hres d).exec_eq hfind hcmd

/-- A command of an immediate instruction but CMPI. -/
theorem exec_alui {op d a imm r : Nat} {o : DstOp} (hcmd : exec cmd s = dueStep (onCore n fun s => drvRow s n gr (.alui op d a imm)) s)
    (hop : op ≠ 0x18) (hres : aluI op (gAt x a) imm = (r, o)) :
    exec cmd s = .next (leave s (issued s n gr (ranOn x (setG x d r) o))) :=
  (hfind.2.2.runsOn_alui hop hres d).exec_eq hfind hcmd

/-- A command of an instruction whose result goes to an accumulator. -/
theorem exec_putA {i : DIns} {aa : Nat} {v : Int} (hcmd : exec cmd s = dueStep (onCore n fun s => drvRow s n gr i) s)
    (htrap : insTrap x i = 0) (heff : insEffect (drvAt s n) x i = putA x aa v) :
    exec cmd s = .next (leave s (issued s n gr (ranOn x { x with a := x.a.set aa (sat72 v).1 } (flAOV (sat72 v).2)))) :=
  (hfind.2.2.runsOn_putA htrap heff).exec_eq hfind hcmd

end

end Sys2Proof.Machine
end

section
namespace Sys2Proof.Machine

/-- Settles O27: each register instruction is its row of R216 in the context that the core finds. -/
theorem draverArithmetic : Obligations.DraverArithmetic := by
  intro s n gr d a b x hfind A B cy gives zn zncv znvs zns clip sum dif sumF difF satd
  refine ⟨?add, ?addc, ?sub, ?subc, ?adds, ?subs, ?and, ?or, ?xor, ?min, ?max, ?abs, ?shl, ?shr, ?shrl, ?cmp⟩
  case add => exact exec_alu hfind (op := 0x01) rfl (by decide) rfl
  case addc => exact exec_alu hfind (op := 0x03) rfl (by decide) rfl
  case sub => exact exec_alu hfind (op := 0x02) rfl (by decide) rfl
  case subc => exact exec_alu hfind (op := 0x04) rfl (by decide) rfl
  case adds => exact exec_alu hfind (op := 0x05) rfl (by decide) rfl
  case subs => exact exec_alu hfind (op := 0x06) rfl (by decide) rfl
  case and => exact exec_alu hfind (op := 0x07) rfl (by decide) rfl
  case or => exact exec_alu hfind (op := 0x08) rfl (by decide) rfl
  case xor => exact exec_alu hfind (op := 0x09) rfl (by decide) rfl
  case min => exact exec_alu hfind (op := 0x0A) rfl (by decide) rfl
  case max => exact exec_alu hfind (op := 0x0B) rfl (by decide) rfl
  case abs => exact exec_alu hfind (op := 0x0C) (b := 0) rfl (by decide) rfl
  case shl => exact exec_alu hfind (op := 0x0D) rfl (by decide) rfl
  case shr => exact exec_alu hfind (op := 0x0E) rfl (by decide) rfl
  case shrl => exact exec_alu hfind (op := 0x0F) rfl (by decide) rfl
  case cmp => exact (hfind.2.2.runsOn_cmp a b).exec_eq hfind rfl

/-- Settles O28: each immediate instruction is its row of R216 in the context that the core finds. -/
theorem draverImmediates : Obligations.DraverImmediates := by
  intro s n gr d a m k x hfind A M gives zn zncv sum dif
  refine ⟨?addi, ?andi, ?ori, ?shli, ?shri, ?movlo, ?movhi, ?cmpi⟩
  case addi => exact exec_alui hfind (op := 0x11) rfl (by decide) (addFl_zero A M)
  case andi => exact exec_alui hfind (op := 0x12) rfl (by decide) rfl
  case ori => exact exec_alui hfind (op := 0x13) rfl (by decide) rfl
  case shli => exact exec_alui hfind (op := 0x14) rfl (by decide) (aluI_shli A k)
  case shri => exact exec_alui hfind (op := 0x15) rfl (by decide) (aluI_shri A k)
  case movlo => exact exec_alui hfind (op := 0x16) (a := 0) rfl (by decide) rfl
  case movhi => exact exec_alui hfind (op := 0x17) rfl (by decide) rfl
  case cmpi => exact (hfind.2.2.runsOn_cmpi a m.toNat).exec_eq hfind rfl

/-- Settles O29: each accumulator instruction is its rule of R218 and R219 in the context that the core finds. -/
theorem draverAccumulators : Obligations.DraverAccumulators := by
  intro s n gr aa ab d ga gb x hfind
  have hx : Straight x := hfind.2.2
  intro acc A B p clip put late zn
  refine ⟨?mul, ?mac, ?msu, ?adda, ?clra, fun k hk => ⟨?mvga, ?mvgp, ?shaUp⟩, fun k hk => ?shaDown, fun k => ⟨?rnd, ?ext⟩⟩
  case mul => exact exec_putA hfind (i := .mul 0x20 aa ga gb) rfl rfl rfl
  case mac => exact exec_putA hfind (i := .mul 0x21 aa ga gb) rfl rfl rfl
  case msu => exact exec_putA hfind (i := .mul 0x22 aa ga gb) rfl rfl rfl
  case adda => exact exec_putA hfind (i := .adda aa ab) rfl rfl rfl
  case clra => exact (hx.runsOn_clra aa).exec_eq hfind rfl
  case mvga => exact exec_putA hfind (i := .mvga aa gb k.toInt) rfl rfl (congrArg (putA x aa) (shiftFree_of_nonneg _ hk))
  case mvgp => exact exec_putA hfind (i := .mvgp aa ga gb k.toInt) rfl rfl (congrArg (putA x aa) (shiftFree_of_nonneg _ hk))
  case shaUp => exact exec_putA hfind (i := .sha aa k.toInt) rfl rfl (congrArg (putA x aa) (if_pos hk))
  case shaDown => exact exec_putA hfind (i := .sha aa k.toInt) rfl rfl (congrArg (putA x aa) (if_neg (Int.not_le.mpr hk)))
  case rnd => exact (hx.runsOn_rnd d aa k.toNat).exec_eq hfind rfl
  case ext => exact (hx.runsOn_ext d aa k.toNat).exec_eq hfind rfl

end Sys2Proof.Machine
end

section
namespace Sys2Proof.Machine

/-! ### A profile stop on command (R238, R240, R247) -/

/-- What is seen of a changed entry is seen of its changed value, when the change leaves that view of an absent entry as it is. -/
theorem mgetD_mmod_view {α β : Type} (view : α → β) (m : Map α) (k : Nat) {f : α → α} {d : α} (h : view (f d) = view d) :
    view (mgetD (mmod m k f) k d) = view (f (mgetD m k d)) := by
  unfold mgetD
  rw [mget_mmod_self]
  cases mget m k with
  | none => exact h.symm
  | some x => rfl

theorem prfAt_modPrf_view {β : Type} (view : Profile → β) (s : State) (p : Nat) {f : Profile → Profile} (h : view (f {}) = view {}) :
    view (prfAt (modPrf s p f) p) = view (f (prfAt s p)) :=
  mgetD_mmod_view view s.profiles p h

@[simp] theorem report_profiles (s : State) (r : Report) : (report s r).profiles = s.profiles :=
  congrArg (fun t => t.profiles) (unraised_report s r)

@[simp] theorem report_gears (s : State) (r : Report) : (report s r).gears = s.gears :=
  congrArg (fun t => t.gears) (unraised_report s r)

@[simp] theorem raisePrf_profiles (s : State) (e : Event) (p detail : Nat) : (raisePrf s e p detail).profiles = s.profiles :=
  report_profiles s _

@[simp] theorem raisePrf_gears (s : State) (e : Event) (p detail : Nat) : (raisePrf s e p detail).gears = s.gears :=
  report_gears s _

theorem prfAt_raisePrf (s : State) (e : Event) (p detail q : Nat) : prfAt (raisePrf s e p detail) q = prfAt s q := by simp [prfAt]

/-! #### A homing sequence ends (R258) -/

theorem homeAbort_gears (s : State) (p : Nat) : (homeAbort s p).gears = s.gears := by
  unfold homeAbort
  dsimp only
  split
  · rfl
  · exact raisePrf_gears _ _ _ _

/-- An aborted homing sequence changes its own record alone: whatever does not look at it sees the same profile. -/
theorem prfAt_homeAbort_view {β : Type} (view : Profile → β) (h : ∀ x hm, view { x with home := hm } = view x) (s : State) (p : Nat) :
    view (prfAt (homeAbort s p) p) = view (prfAt s p) := by
  unfold homeAbort
  dsimp only
  split
  · rfl
  · rw [prfAt_raisePrf, prfAt_modPrf_view view s p (h {} _), h]

/-! #### The gear of the profile is released (R247) -/

/-- A gear's record once it is released. -/
def Gear.released (x : Gear) : Gear := { x with ratio := 0, seam := .idle, catch_ := none, waits := [], fast := 0 }

/-- An absent gear is one with nothing to release. -/
theorem gearAt_gearRelease (s : State) (g : Nat) : gearAt (gearRelease s g) g = (gearAt s g).released :=
  mgetD_mmod_view id s.gears g (f := Gear.released) rfl

/-- The state in which a profile is no longer moved by its gear, without acceleration when a gear moved it. -/
def ungeared (s : State) (p : Nat) : State :=
  match gearOf s p with
  | some g => if gearLive (gearAt s g) then modPrf (gearRelease s g) p fun x => { x with a := 0 } else s
  | none => s

/-- A profile's record once its stop has begun. -/
def stopBegun (x : Profile) : Profile :=
  { x with queue := [], mot := if atRest x then .idle else .stop, steady := false, nv := 0, na := 0, rate := 0, stopNow := true }

theorem profStop_eq (s : State) (p : Nat) : profStop s p = modPrf (ungeared s p) p stopBegun := rfl

theorem ungeared_live {s : State} {p g : Nat} (hg : gearOf s p = some g) (hl : gearLive (gearAt s g) = true) :
    ungeared s p = modPrf (gearRelease s g) p fun x => { x with a := 0 } := by
  simp [ungeared, hg, hl]

/-- The release changes no more of the profile than its acceleration. -/
theorem prfAt_ungeared_view {β : Type} (view : Profile → β) (h : ∀ x a, view { x with a := a } = view x) (s : State) (p : Nat) :
    view (prfAt (ungeared s p) p) = view (prfAt s p) := by
  unfold ungeared
  split
  · split
    · rw [prfAt_modPrf_view view _ p (h {} 0), h]
      rfl
    · rfl
  · rfl

/-! #### The stop (R238, R240) -/

/-- The part of a profile's record that its own reference is computed from. -/
def motionOf (x : Profile) : List PEntry × PMot × Int × Int × Int := (x.queue, x.mot, x.p, x.v, x.a)

/-- An absent profile is idle at rest with an empty queue, so that the equation needs no profile at the index. -/
theorem motionOf_profStop (s : State) (p : Nat) : motionOf (prfAt (profStop s p) p) = motionOf (stopBegun (prfAt (ungeared s p) p)) :=
  prfAt_modPrf_view motionOf (ungeared s p) p rfl

theorem atRest_of_motionOf {x y : Profile} (h : motionOf x = motionOf (stopBegun y)) : atRest x = atRest y := by
  simp only [motionOf, stopBegun, Prod.mk.injEq] at h
  obtain ⟨-, -, -, hv, ha⟩ := h
  simp only [atRest, hv, ha]

section
variable (s : State) (p : Nat)

theorem profStop_queue : (prfAt (profStop s p) p).queue = [] := congrArg (·.1) (motionOf_profStop s p)

theorem profStop_mot : (prfAt (profStop s p) p).mot = if atRest (prfAt (profStop s p) p) then .idle else .stop := by
  rw [atRest_of_motionOf (motionOf_profStop s p)]
  exact congrArg (·.2.1) (motionOf_profStop s p)

theorem profStop_position : (prfAt (profStop s p) p).p = (prfAt s p).p :=
  (congrArg (·.2.2.1) (motionOf_profStop s p)).trans (prfAt_ungeared_view (·.p) (fun _ _ => rfl) s p)

theorem profStop_velocity : (prfAt (profStop s p) p).v = (prfAt s p).v :=
  (congrArg (·.2.2.2.1) (motionOf_profStop s p)).trans (prfAt_ungeared_view (·.v) (fun _ _ => rfl) s p)

end

section
variable {s : State} {p g : Nat} (hg : gearOf s p = some g) (hl : gearLive (gearAt s g) = true)
include hg hl

theorem profStop_acceleration : (prfAt (profStop s p) p).a = 0 := by
  refine (congrArg (·.2.2.2.2) (motionOf_profStop s p)).trans ?_
  rw [ungeared_live hg hl]
  exact prfAt_modPrf_view (·.a) _ p rfl

theorem profStop_gear : gearAt (profStop s p) g = (gearAt s g).released := by
  rw [profStop_eq, ungeared_live hg hl]
  exact gearAt_gearRelease s g

end

/-! #### The descriptor -/

theorem actNow_prfStop {t : State} {x : Acc} (ho : x.op = 0x0803) (h0 : x.d.payload = 0) (hh : targetHeld t x = none) :
    actNow t x = some (complete (prfStop t x.d) x stOK 0 0) := by
  simp [actNow, ho, h0, hh, guarded]

/-- Settles O51: the descriptor acts when it is accepted, on the profile's homing, on its gear and on its own record in turn. -/
theorem profileStop : Obligations.ProfileStop := by
  intro s a d hfind hA h0 t x p hn hh
  let b := homeAbort t p
  have hgears : b.gears = a.gears := homeAbort_gears t p
  have hgear (g : Nat) : gearAt b g = gearAt a g := by rw [gearAt, hgears, gearAt]
  have hgearOf : gearOf b p = gearOf a p := by rw [gearOf, hgears, gearOf]
  have hmot := profStop_mot b p
  refine ⟨prfStop t d, ?runs, profStop_queue b p, ?position, ?velocity, fun hrest => ?moves, fun hrest => ?rests, fun g hg hl => ?gear⟩
  case runs => exact exec_of_now (c := .prfStop d) (fun _ => rfl) rfl hfind hA hn (actNow_prfStop rfl h0 hh)
  case position => exact (profStop_position b p).trans (prfAt_homeAbort_view (·.p) (fun _ _ => rfl) t p)
  case velocity => exact (profStop_velocity b p).trans (prfAt_homeAbort_view (·.v) (fun _ _ => rfl) t p)
  case moves => exact hmot.trans (if_neg (Bool.eq_false_iff.1 hrest))
  case rests => exact hmot.trans (if_pos hrest)
  case gear =>
    have hb : gearOf b p = some g := hgearOf.trans hg
    have hlive : gearLive (gearAt b g) = true := (congrArg gearLive (hgear g)).trans hl
    have hreleased : gearAt (prfStop t d) g = (gearAt b g).released := profStop_gear hb hlive
    rw [hreleased]
    exact ⟨rfl, rfl, rfl, rfl, profStop_acceleration hb hlive⟩

end Sys2Proof.Machine
end

section
namespace Sys2Proof.Machine

/-! ### SEC_IMAGE (R525, R526): a descriptor whose byte 16 names the operation of its row -/

/-- A word keeps its width when its low byte is replaced. -/
theorem toNat_lowByte_replaced {n v : Nat} (p : BitVec (n + 8)) (hv : v < 256) :
    (BitVec.ofNat (n + 8) (p.toNat / 256 * 256 + v)).toNat = p.toNat / 256 * 256 + v := by
  have bound : p.toNat < 2 ^ (n + 8) := p.isLt
  rw [BitVec.toNat_ofNat]
  refine Nat.mod_eq_of_lt ?_
  rw [Nat.pow_add] at bound ⊢
  omega

theorem withByte16_payload (v : Nat) (d : Desc) (hv : v < 256) :
    (withByte16 v d).payload.toNat = d.payload.toNat / 256 * 256 + v :=
  toNat_lowByte_replaced (n := 376) d.payload hv

theorem pf_withByte16_op {v : Nat} (d : Desc) (hv : v < 256) : pf (withByte16 v d) 16 1 = v := by
  simp only [pf, bits, withByte16_payload v d hv]
  omega

/-- The bytes after byte 16 are those of the descriptor. -/
theorem pf_withByte16 {v : Nat} (d : Desc) (hv : v < 256) {off : Nat} (ho : 16 < off) (n : Nat) :
    pf (withByte16 v d) off n = pf d off n := by
  obtain ⟨j, rfl⟩ : ∃ j, off = j + 17 := ⟨off - 17, by omega⟩
  have hs : 2 ^ (8 * (j + 17 - 16)) = 256 * 2 ^ (8 * j) := by
    rw [show 8 * (j + 17 - 16) = 8 + 8 * j by omega, Nat.pow_add]
  have hd : (d.payload.toNat / 256 * 256 + v) / 256 = d.payload.toNat / 256 := by omega
  simp only [pf, bits, withByte16_payload v d hv, hs, ← Nat.div_div_eq_div_mul, hd]

theorem secImage_malformed {t : State} {x : Acc} (hf : secImageFormOk x.d = false) :
    secImage t x = complete t x stRANGE 0 0 := by simp [secImage, hf]

theorem secImage_notReady {t : State} {x : Acc} (hf : secImageFormOk x.d = true)
    (hr : ¬(t.md.mode = .prepare ∨ t.md.mode = .dormant)) : secImage t x = complete t x stMODE 0 0 := by
  simp [secImage, hf, not_or.1 hr]

/-- A SEC_IMAGE of operation `k`, well formed, in PREPARE or DORMANT. -/
structure ImageOp (k : Nat) (d : Desc) (t : State) (x : Acc) : Prop where
  named : x.d = withByte16 k d
  code : k < 256
  form : secImageFormOk x.d = true
  ready : t.md.mode = .prepare ∨ t.md.mode = .dormant

/-- The descriptor's data: the bytes that its length field counts. -/
def imageData (d : Desc) : List Byte := takeBytes d.data 0 (pf d 32 4)

namespace ImageOp
variable {k : Nat} {d : Desc} {t : State} {x : Acc}

theorem op (h : ImageOp k d t x) : pf x.d 16 1 = k := by rw [h.named, pf_withByte16_op d h.code]

theorem field (h : ImageOp k d t x) {off : Nat} (ho : 16 < off) (n : Nat) : pf x.d off n = pf d off n := by
  rw [h.named, pf_withByte16 d h.code ho]

theorem length (h : ImageOp k d t x) : pf x.d 32 4 = pf d 32 4 := h.field (by decide) 4

theorem data (h : ImageOp k d t x) : takeBytes x.d.data 0 (pf d 32 4) = imageData d :=
  congrArg (fun y => takeBytes y.data 0 (pf d 32 4)) h.named

theorem inMode (h : ImageOp k d t x) : ¬(t.md.mode ≠ .prepare ∧ t.md.mode ≠ .dormant) := not_and_or.2 (h.ready.imp not_not.2 not_not.2)

/-! #### One lemma for each outcome of an operation -/

theorem stage_rejects (h : ImageOp 1 d t x) (hc : envelopeCheck t 1 (imageData d) ≠ 0) :
    secImage t x = complete (rejectImage t 1 (envelopeCheck t 1 (imageData d))) x stRANGE 0
      (1 + envelopeCheck t 1 (imageData d) * 256) := by
  simp [secImage, h.form, h.inMode, h.op, h.field, h.data, hc]

theorem stage_noRoom (h : ImageOp 1 d t x) (hc : envelopeCheck t 1 (imageData d) = 0)
    (hl : (if pf d 17 1 = 0 then t.sec.rangeA else t.sec.rangeB) < (imageData d).length) :
    secImage t x = complete t x stRANGE 0 0 := by
  simp [secImage, h.form, h.inMode, h.op, h.field, h.data, hc, hl]

theorem stage_writes (h : ImageOp 1 d t x) (hc : envelopeCheck t 1 (imageData d) = 0)
    (hl : (imageData d).length ≤ if pf d 17 1 = 0 then t.sec.rangeA else t.sec.rangeB) :
    secImage t x = complete { t with
      sec := if pf d 17 1 = 0 then { t.sec with flashA := imageData d } else { t.sec with flashB := imageData d } } x stOK 0 0 := by
  simp [secImage, h.form, h.inMode, h.op, h.field, h.data, hc, Nat.not_lt.2 hl, modSec]

theorem floor_falls (h : ImageOp 2 d t x) (hl : pf d 20 4 < if pf d 17 1 = 1 then t.sec.fwFloor else t.sec.usrFloor) :
    secImage t x = complete t x stRANGE 0 0 := by
  simp [secImage, h.form, h.inMode, h.op, h.field, hl]

theorem floor_rises (h : ImageOp 2 d t x) (hl : (if pf d 17 1 = 1 then t.sec.fwFloor else t.sec.usrFloor) ≤ pf d 20 4) :
    secImage t x = complete { t with
      sec := if pf d 17 1 = 1 then { t.sec with fwFloor := pf d 20 4 } else { t.sec with usrFloor := pf d 20 4 } } x stOK 0 0 := by
  simp [secImage, h.form, h.inMode, h.op, h.field, Nat.not_lt.2 hl, modSec]

theorem provision_done (h : ImageOp 3 d t x) (hl : t.sec.fused ≠ 0 ∨ t.sec.lifecycle ≠ 0) :
    secImage t x = complete t x stMODE 0 0 := by
  simp [secImage, h.form, h.inMode, h.op, hl]

theorem provision_fuses (h : ImageOp 3 d t x) (hu : t.sec.fused = 0) (hl : t.sec.lifecycle = 0) (hn : (imageData d).length = 97) :
    secImage t x = complete (fuse { t with
      sec := { t.sec with ownerDigest := some (keyDigest (imageData d)), ownerImageKey := none } } 1) x stOK 0 0 := by
  simp [secImage, h.form, h.inMode, h.op, h.field, h.data, hu, hl, hn, modSec]

theorem field_refused (h : ImageOp 4 d t x) (hl : t.sec.fused ≠ 1 ∨ t.sec.lifecycle ≠ 1) :
    secImage t x = complete t x stMODE 0 0 := by
  simp [secImage, h.form, h.inMode, h.op, hl]

theorem field_fuses (h : ImageOp 4 d t x) (hu : t.sec.fused = 1) (hl : t.sec.lifecycle = 1) :
    secImage t x = complete (fuse t 2) x stOK 0 0 := by
  simp [secImage, h.form, h.inMode, h.op, hu, hl]

theorem return_denied (h : ImageOp 5 d t x) (hu : t.sec.fused = 1 ∨ t.sec.fused = 2) (hl : t.sec.lifecycle = t.sec.fused)
    (hc : tokenFail t 1 (imageData d) ≠ 0) :
    secImage t x = complete (tokenFailed (if (imageData d).isEmpty then t else drawChallenge t 1) 1 (tokenFail t 1 (imageData d)))
      x stDENIED 0 0 := by
  have fusable : ¬(t.sec.fused ≠ 1 ∧ t.sec.fused ≠ 2) := not_and_or.2 (hu.imp not_not.2 not_not.2)
  simp only [secImage, h.form, h.inMode, h.op, h.length, h.data, fusable, hl, hc, false_and, if_false, ne_eq, not_true_eq_false, or_self,
    Bool.not_true, Bool.false_eq_true, not_false_eq_true, if_true]

theorem return_fuses (h : ImageOp 5 d t x) (hu : t.sec.fused = 1 ∨ t.sec.fused = 2) (hl : t.sec.lifecycle = t.sec.fused)
    (hc : tokenFail t 1 (imageData d) = 0) (h5 : leNat (takeBytes (imageData d) 5 1) = 0) :
    secImage t x =
      let b := if (imageData d).isEmpty then t else drawChallenge t 1
      complete (fuse { b with sec := { b.sec with ownerImageKey := none, usrFloor := 0 } } 3) x stOK 0 0 := by
  have fusable : ¬(t.sec.fused ≠ 1 ∧ t.sec.fused ≠ 2) := not_and_or.2 (hu.imp not_not.2 not_not.2)
  simp only [secImage, h.form, h.inMode, h.op, h.length, h.data, fusable, hl, hc, h5, and_false, if_false, ne_eq, not_true_eq_false, or_self,
    Bool.not_true, Bool.false_eq_true, modSec]

theorem certificate_noRoom (h : ImageOp 6 d t x) (hl : pf d 32 4 < Config.certificate.length) :
    secImage t x = complete t x stNORES 0 0 := by
  simp [secImage, h.form, h.inMode, h.op, h.field, hl]

theorem certificate_written (h : ImageOp 6 d t x) (hl : Config.certificate.length ≤ pf d 32 4) :
    secImage t x = complete { t with host := { t.host with hostWrite := some (fnOf x.req, pf d 24 8, Config.certificate) } } x stOK 0
      (satU 32 Config.certificate.length) := by
  simp [secImage, h.form, h.inMode, h.op, h.field, Nat.not_lt.2 hl, modHost]

theorem ownerKey_denied (h : ImageOp 7 d t x) (hn : (imageData d).length = 97)
    (hk : t.sec.ownerDigest ≠ some (keyDigest (imageData d))) : secImage t x = complete t x stDENIED 0 0 := by
  simp [secImage, h.form, h.inMode, h.op, h.field, h.data, hn, hk]

theorem ownerKey_taken (h : ImageOp 7 d t x) (hn : (imageData d).length = 97)
    (hk : t.sec.ownerDigest = some (keyDigest (imageData d))) :
    secImage t x = complete { t with sec := { t.sec with ownerSupplied := true } } x stOK 0 0 := by
  simp [secImage, h.form, h.inMode, h.op, h.field, h.data, hn, hk, modSec]

end ImageOp

/-! ### Sessions, and the block of a problem -/

theorem dbgOpen_wellFormed {t : State} {x : Acc} (hl : pf x.d 16 1 = 1 ∨ pf x.d 16 1 = 2) (hn : pf x.d 32 4 = 0 ∨ pf x.d 32 4 = 160)
    (hf : onlyBytes x.d [(16, 1), (18, 2), (24, 12)] = true) :
    dbgOpen t x =
      let v := attemptSession t 1 (pf x.d 16 1) (pf x.d 18 2) (if pf x.d 32 4 = 0 then [] else takeBytes x.d.data 0 160)
      complete v.1 x v.2.1 0 v.2.2 := by
  have ok : ¬(pf x.d 16 1 < 1 ∨ 2 < pf x.d 16 1 ∨ (pf x.d 32 4 ≠ 0 ∧ pf x.d 32 4 ≠ 160) ∨
      onlyBytes x.d [(16, 1), (18, 2), (24, 12)] = false) := by
    rw [hf]
    simp only [Bool.true_eq_false, or_false]
    omega
  rw [dbgOpen, if_neg ok]

theorem dbgClose_wellFormed {t : State} {x : Acc} (hf : onlyBytes x.d [(16, 1)] = true) (hl : pf x.d 16 1 ≤ 1) :
    dbgClose t x = complete (closeSession t (pf x.d 16 1) 1) x stOK 0 0 := by
  simp [dbgClose, hf, Nat.not_lt.2 hl]

theorem problemCreateDone_idle {a : State} (h : a.sol.creates = []) (block : List Byte) : problemCreateDone a block = a := by
  simp [problemCreateDone, h]

section
variable {a : State} {y : Acc} {rest : List Acc} (h : a.sol.creates = y :: rest) {block : List Byte}
include h

theorem problemCreateDone_wrongLength (hn : block.length ≠ pf y.d 24 4) :
    problemCreateDone a block =
      complete (rejectImage { a with sol := { a.sol with creates := rest } } 3 1) y stRANGE 0 1 := by
  simp [problemCreateDone, h, hn, modSol]

variable (hn : block.length = pf y.d 24 4)
include hn

theorem problemCreateDone_poisoned (hc : (blockCheck { a with sol := { a.sol with creates := rest } } block).1 ≠ 1)
    (hp : memPoisoned { a with sol := { a.sol with creates := rest } } (Config.blockCopy 256) block.length = true) :
    problemCreateDone a block =
      complete (eccRead { a with sol := { a.sol with creates := rest } } (linesOf (Config.blockCopy 256) block.length))
        y stRANGE 0 0xEE := by
  rw [hn] at hp
  simp [problemCreateDone, h, hn, hc, hp, modSol]

theorem problemCreateDone_fails (hc : 1 < (blockCheck { a with sol := { a.sol with creates := rest } } block).1)
    (hp : memPoisoned { a with sol := { a.sol with creates := rest } } (Config.blockCopy 256) block.length = false) :
    problemCreateDone a block =
      let chk := blockCheck { a with sol := { a.sol with creates := rest } } block
      complete { a with sol := { a.sol with creates := rest } } y stRANGE 0 (chk.1 + 65536 * chk.2) := by
  have h1 := Nat.ne_of_gt hc
  have h0 := Nat.ne_of_gt (Nat.zero_lt_of_lt hc)
  rw [hn] at hp
  simp [problemCreateDone, h, hn, h1, h0, hp, modSol]

theorem problemCreateDone_passes (hc : (blockCheck { a with sol := { a.sol with creates := rest } } block).1 = 0)
    (hp : memPoisoned { a with sol := { a.sol with creates := rest } } (Config.blockCopy 256) block.length = false) :
    problemCreateDone a block =
      { a with sol := { a.sol with creates := rest, made := a.sol.made ++ [(y, problemOf block)] } } := by
  rw [hn] at hp
  simp [problemCreateDone, h, hn, hc, hp, modSol]

end

theorem problemMade_dormant {u : State} {y : Acc} {p : Problem} (hm : u.md.mode = .dormant) :
    problemMade u (y, p) = complete u y stMODE 0 0 := by
  simp [problemMade, dormantRefuses_problem, hm]

theorem problemMade_taken {u : State} {y : Acc} {p : Problem} {i : Nat} {f : FreeList} (hm : u.md.mode ≠ .dormant)
    (hf : classFree cPROBLEM (freeList u cPROBLEM) = some (i, f)) :
    problemMade u (y, p) =
      let v := indexTaken u cPROBLEM i f (fnOf y.req)
      complete { v with problems := mput v.problems i p } y stOK (handleOf v cPROBLEM i) (p.cycles % 4294967296) := by
  simp only [problemMade, dormantRefuses_problem, hm, decide_false, Bool.false_eq_true, if_false, allocObj_taken hf]
  rfl

/-- A row of SEC_IMAGE is the arrival of its descriptor with the operation in byte 16. -/
theorem secImage_rows (d : Desc) : ∀ r ∈ ([(.secImageStageFw d, 1), (.secImageRaiseFloor d, 2), (.secImageProvision d, 3),
    (.secImageField d, 4), (.secImageReturn d, 5), (.secImageReadCert d, 6), (.secImageOwnerKey d, 7)] : List (Instr × Nat)),
    Arrives r.1 0x1200 (withByte16 r.2 d) := by
  repeat refine List.forall_mem_cons.2 ⟨fun _ => rfl, ?_⟩
  exact fun _ h => absurd h List.not_mem_nil

/-- An admitted SEC_IMAGE acts at acceptance. -/
theorem exec_secImage {c : Instr} {d : Desc} (hc : Arrives c 0x1200 d) {s a : State} (h : Finds s a) (hA : Admitted a 0x1200 d) :
    exec c s = .next (leave s (secImage (taken a d) (accOf a 0x1200 d))) :=
  exec_of_unnamed hc rfl h hA rfl rfl

/-- Settles O60: the rows of SEC_IMAGE through the outcomes of their operation, the sessions and the block through theirs. -/
theorem imagesAndSessions : Obligations.ImagesAndSessions := by
  intro s a d hfind form ready t x data
  have runs {c : Instr} {k : Nat} (hc : Arrives c 0x1200 (withByte16 k d)) (hA : Admitted a 0x1200 (withByte16 k d)) {u : State}
      (hu : secImage (t k) (x k) = u) : exec c s = .next (leave s u) := hu ▸ exec_secImage hc hfind hA
  have image {k : Nat} (hk : k < 256) (hf : form k) (hr : ready) : ImageOp k d (t k) (x k) := ⟨rfl, hk, hf.2, hr⟩
  refine ⟨fun c k hrow => ⟨fun hf hr => ?mode, fun hA hf => ?range⟩, fun hf hr => ?stage, fun hf hr => ?floor, fun hf hr => ?provision,
    fun hf hr => ?field, fun hf hr hu hl => ?return_, fun hf hr => ?certificate, fun hf hr hn => ?ownerKey,
    fun hA hl _ hn hf => ?open_, fun hA hf hl => ?close, fun block => ?block, fun u y p => ?made⟩
  case mode => exact runs (secImage_rows d _ hrow) hf.1 (secImage_notReady hf.2 hr)
  case range => exact runs (secImage_rows d _ hrow) hA (secImage_malformed hf)
  case stage =>
    have h := image (by decide) hf hr
    have run {u : State} := runs (c := .secImageStageFw d) (u := u) (fun _ => rfl) hf.1
    exact ⟨fun hc => run (h.stage_rejects hc), fun hc hl => run (h.stage_noRoom hc hl), fun hc hl => run (h.stage_writes hc hl)⟩
  case floor =>
    have h := image (by decide) hf hr
    have run {u : State} := runs (c := .secImageRaiseFloor d) (u := u) (fun _ => rfl) hf.1
    exact ⟨fun hl => run (h.floor_falls hl), fun hl => run (h.floor_rises hl)⟩
  case provision =>
    have h := image (by decide) hf hr
    have run {u : State} := runs (c := .secImageProvision d) (u := u) (fun _ => rfl) hf.1
    exact ⟨fun hl => run (h.provision_done hl), fun hu hl hn => run (h.provision_fuses hu hl hn)⟩
  case field =>
    have h := image (by decide) hf hr
    have run {u : State} := runs (c := .secImageField d) (u := u) (fun _ => rfl) hf.1
    exact ⟨fun hl => run (h.field_refused hl), fun hu hl => run (h.field_fuses hu hl)⟩
  case return_ =>
    have h := image (by decide) hf hr
    have run {u : State} := runs (c := .secImageReturn d) (u := u) (fun _ => rfl) hf.1
    exact ⟨fun hc => run (h.return_denied hu hl hc), fun hc h5 => run (h.return_fuses hu hl hc h5)⟩
  case certificate =>
    have h := image (by decide) hf hr
    have run {u : State} := runs (c := .secImageReadCert d) (u := u) (fun _ => rfl) hf.1
    exact ⟨fun hl => run (h.certificate_noRoom hl), fun hl => run (h.certificate_written hl)⟩
  case ownerKey =>
    have h := image (by decide) hf hr
    have run {u : State} := runs (c := .secImageOwnerKey d) (u := u) (fun _ => rfl) hf.1
    exact ⟨fun hk => run (h.ownerKey_denied hn hk), fun hk => run (h.ownerKey_taken hn hk)⟩
  case open_ =>
    exact exec_of_unnamed (c := .dbgOpen d) (fun _ => rfl) rfl hfind hA rfl (congrArg some (dbgOpen_wellFormed hl hn hf))
  case close =>
    exact exec_of_unnamed (c := .dbgClose d) (fun _ => rfl) rfl hfind hA rfl (congrArg some (dbgClose_wellFormed hf hl))
  case block =>
    have run {u : State} (hu : problemCreateDone a block = u) : exec (.problemCreateDone block) s = .next (leave s u) :=
      hu ▸ event_finds hfind _
    exact ⟨fun h => run (problemCreateDone_idle h block), fun y rest h =>
      ⟨fun hn => run (problemCreateDone_wrongLength h hn), fun hn hc hp => run (problemCreateDone_poisoned h hn hc hp),
       fun hn hc hp => run (problemCreateDone_fails h hn hc hp), fun hn hc hp => run (problemCreateDone_passes h hn hc hp)⟩⟩
  case made => exact ⟨problemMade_dormant, fun i f hm hf => problemMade_taken hm hf⟩

end Sys2Proof.Machine
end

section
namespace Sys2Proof.Machine

/-! ### Records of the kernels (R266 to R274) -/

/-- Out of cold reset, work of the boundary that a command names is done on the state as it stands. -/
theorem exec_due {i : Instr} {f : State → State} {s u : State} (held : s.md.held = false)
    (hi : exec i s = dueStep (unlessHeld f) s) (hu : f s = u) : exec i s = .next (leave s u) := by
  rw [hi, ← hu]
  simp [dueStep, unlessHeld, held]

/-- A REPEAT with a body that the hardware can be sent is issued as one (R270). -/
theorem exec_repeatRecs {body : List KRec} (h : repeatBodyOk body = true) (lane : Fin 192) (r : KRec) (s : State) :
    exec (.repeatRecs lane r body) s = dueStep (unlessHeld fun s => issueRepeat s lane (withKernel 13 r) body) s := if_pos h

/-- What a gang's records have left is taken by its lanes, and the run has issued one record and `more`. -/
def counted (s : State) (l : Nat) (x : KCtx) (next more : Nat) : State :=
  kctxBack s l { x with run := { x.run with issued := true, next := next + 1 + more } }

section
variable {s : State} {n : Nat} (h : (gangAt s (gangOf s n)).run = none)
include h

theorem issueRec_idle (r : KRec) : issueRec s n r = s := by simp [issueRec, h]

theorem issueRepeat_idle (r : KRec) (body : List KRec) : issueRepeat s n r body = s := by simp [issueRepeat, h]

end

section
variable {s : State} {n : Nat} {run : KRun} (hr : (gangAt s (gangOf s n)).run = some run)
include hr

theorem issueGemm_uncorrectable (r : KRec) (q w : Nat) :
    issueGemm s n r 2 q w =
      gangFault s (gangOf s n) ((gangPhys s (gangOf s n)).getD (q % (gangAt s (gangOf s n)).size) 0) w := by
  simp [issueGemm, hr]

theorem issueGemm_corrected (r : KRec) (q w : Nat) :
    issueGemm s n r 1 q w =
      laneCorrected (issueRec s n r) ((gangPhys s (gangOf s n)).getD (q % (gangAt s (gangOf s n)).size) 0) := by
  simp [issueGemm, hr]

theorem issueGemm_sound (r : KRec) (q w : Nat) : issueGemm s n r 0 q w = issueRec s n r := by
  simp [issueGemm, hr]

variable (hs : gangServes s (gangOf s n) = true)
include hs

theorem issueRec_runs (r : KRec) :
    issueRec s n r = counted s (gangOf s n) (kernel (kctxOf s (gangOf s n) run) (kResolve run.next r none)) run.next 0 := by
  simp [issueRec, hr, hs, counted]

theorem issueRepeat_runs (r : KRec) (body : List KRec) :
    issueRepeat s n r body =
      let recs := ({ r with kernel := 13, n := BitVec.ofNat 16 body.length } :: body).zipIdx run.next
      counted s (gangOf s n) (runRecs 1024 (recs.map fun e => (e.2, e.1)) none (kctxOf s (gangOf s n) run)) run.next body.length := by
  simp [issueRepeat, hr, hs, counted]

end

/-- CLAMP's two comparisons are the lesser and the greater of its operands. -/
theorem clamped_eq (x lo hi : Int) : (if hi < (if x < lo then lo else x) then hi else if x < lo then lo else x) = min (max x lo) hi := by
  have hmax : (if x < lo then lo else x) = max x lo := by omega
  rw [hmax]
  omega

theorem kClamp_eq (c : KCtx) (o : KOp) :
    kClamp c o = kWrites c ((List.range o.r.m.toNat).map fun i =>
      let lo := if kTA o then kV c o.r.vsel.toNat else kRead c (o.b + i)
      let hi := if kTA o then kV c (o.r.vsel.toNat + 1) else kRead c (o.c + i)
      (o.c + i, min (max (kRead c (o.a + i)) lo) hi)) := by
  simp only [kClamp, clamped_eq]

theorem kSat_fits {x : Int} (h : satS 32 x = x) (c : KCtx) (idx : Nat) : kSat c idx x = (c, x) := by
  simp [kSat, h, kNote]

/-- Sums that fit are listed as they are, and no saturation is counted. -/
theorem foldl_kSat_fits (c : KCtx) (idx : Nat) (site : Nat → Nat) (sum : Nat → Int) (l : List Nat)
    (h : ∀ i ∈ l, satS 32 (sum i) = sum i) (out : List (Nat × Int)) :
    l.foldl (fun (x : KCtx × List (Nat × Int)) i => ((kSat x.1 idx (sum i)).1, x.2 ++ [(site i, (kSat x.1 idx (sum i)).2)])) (c, out) =
      (c, out ++ l.map fun i => (site i, sum i)) := by
  induction l generalizing out with
  | nil => simp
  | cons i l ih =>
    rw [List.foldl_cons, kSat_fits (h i List.mem_cons_self), ih fun j hj => h j (List.mem_cons_of_mem _ hj)]
    simp

/-- GREDUCE stores the lanes' sums where every sum fits a word. -/
theorem kGreduce_fits (c : KCtx) (o : KOp)
    (h : ∀ i ∈ List.range o.r.m.toNat, satS 32 (isum (c.mems.map fun w => memWord w (c.base + o.a + i))) =
      isum (c.mems.map fun w => memWord w (c.base + o.a + i))) :
    kGreduce c o = kWrites c (((List.range o.r.m.toNat).map fun i => o.c + i).zip
      ((List.range o.r.m.toNat).map fun i => isum (c.mems.map fun w => memWord w (c.base + o.a + i)))) := by
  have out := foldl_kSat_fits c o.idx (o.c + ·) _ _ h []
  rw [List.zip_map']
  simp only [kGreduce, out, List.nil_append]

/-- Settles O36: each row issues its record to the gang, whose kernel is the one that the record's code names. The formula is the
kernel's definition but for CLAMP and GREDUCE. -/
theorem solverRecords : Obligations.SolverRecords := by
  intro s lane r held l
  refine ⟨fun idle => ⟨?noCopy, ?noRepeat⟩, fun run hr hs => ?running⟩
  case noCopy => exact exec_due held rfl (issueRec_idle idle _)
  case noRepeat => exact exec_due held (exec_repeatRecs rfl lane r s) (issueRepeat_idle idle _ _)
  case running =>
    intro c m n k A B C ta tb v op done gemm
    have issued (code : BitVec 8) {x : KCtx} (hx : kernel c (op code) = x) : issueRec s lane (withKernel code r) = done x 0 :=
      hx ▸ issueRec_runs hr hs (withKernel code r)
    have row {i : Instr} (code : BitVec 8) (hi : exec i s = dueStep (unlessHeld fun s => issueRec s lane (withKernel code r)) s)
        {x : KCtx} (hx : kernel c (op code) = x) : exec i s = .next (leave s (done x 0)) := exec_due held hi (issued code hx)
    have multiplied : issueRec s lane (withKernel 1 r) = gemm := issued 1 rfl
    refine ⟨fun q w => ⟨?sound, ?corrected, ?uncorrectable⟩, ?syrk, ?gemv, ?ldl, ?ldlsolve, ?axpby, ?clamp, ?recip, ?dot, ?copy,
      fun fits => ?greduce, ?capdist, fun body hbody => ?repeats⟩
    case sound => exact exec_due held rfl ((issueGemm_sound hr _ _ _).trans multiplied)
    case corrected => exact exec_due held rfl ((issueGemm_corrected hr _ _ _).trans (by rw [multiplied]))
    case uncorrectable => exact exec_due held rfl (issueGemm_uncorrectable hr _ _ _)
    case syrk => exact row 2 rfl rfl
    case gemv => exact row 3 rfl rfl
    case ldl => exact row 4 rfl rfl
    case ldlsolve => exact row 5 rfl rfl
    case axpby => exact row 6 rfl rfl
    case clamp => exact row 7 rfl (kClamp_eq c (op 7))
    case recip => exact row 8 rfl rfl
    case dot => exact row 9 rfl rfl
    case copy => exact row 10 rfl rfl
    case greduce => exact row 11 rfl (kGreduce_fits c (op 11) fun i hi => fits _ (List.mem_map_of_mem hi))
    case capdist => exact row 12 rfl rfl
    case repeats => exact exec_due held (exec_repeatRecs hbody lane r s) (issueRepeat_runs hr hs _ _)

end Sys2Proof.Machine
end

section
namespace Sys2Proof.Machine

/-! ### Gangs and their lanes -/

@[simp] theorem gangAt_modGang_self (s : State) (l : Nat) (f : Gang → Gang) : gangAt (modGang s l f) l = f (gangAt s l) := by
  simp [gangAt, modGang, modSol]

theorem laneAt_modSolLane (s : State) (p : Nat) (f : Lane → Lane) (q : Nat) :
    laneAt (modSolLane s p f) q = if q = p then f (laneAt s q) else laneAt s q := by
  by_cases h : q = p
  · subst h; simp [laneAt, modSolLane, modSol]
  · simp [laneAt, modSolLane, modSol, h, mgetD_mput_other]

/-- The state but for what the solver's lanes hold. -/
def offLanes (s : State) : State := { s with sol := { s.sol with lanes := [] } }

/-- What is read off the lanes is alike where the rest is. -/
theorem eq_of_offLanes {β : Type} (view : State → β) (hv : ∀ u, view (offLanes u) = view u) {s t : State}
    (h : offLanes s = offLanes t) : view s = view t := by rw [← hv s, h, hv t]

theorem offLanes_modLanes (s : State) (p : Nat) (f : Lane → Lane) : offLanes (modLanes s p f) = offLanes s :=
  List.foldlRecOn (motive := fun u => offLanes u = offLanes s) _ _ rfl fun _ hu _ _ => hu

theorem offLanes_foldl_modLanes (s : State) (ps : List Nat) (f : Lane → Lane) :
    offLanes (ps.foldl (fun u p => modLanes u p f) s) = offLanes s :=
  List.foldlRecOn (motive := fun u => offLanes u = offLanes s) _ _ rfl fun _ hu _ _ => (offLanes_modLanes _ _ f).trans hu

section
variable {α : Type} {g : Lane → α} {f : Lane → Lane}

/-- What a change of a lane keeps is kept in every lane. -/
theorem modLanes_keeps (h : ∀ x, g (f x) = g x) (s : State) (p q : Nat) : g (laneAt (modLanes s p f) q) = g (laneAt s q) := by
  refine List.foldlRecOn (motive := fun u => g (laneAt u q) = g (laneAt s q)) _ _ rfl fun u hu r _ => ?_
  rw [laneAt_modSolLane]
  split
  · exact (h _).trans hu
  · exact hu

theorem foldl_modLanes_keeps (h : ∀ x, g (f x) = g x) (s : State) (ps : List Nat) (q : Nat) :
    g (laneAt (ps.foldl (fun u p => modLanes u p f) s) q) = g (laneAt s q) :=
  List.foldlRecOn (motive := fun u => g (laneAt u q) = g (laneAt s q)) _ _ rfl fun u hu p _ => (modLanes_keeps h u p q).trans hu

variable {c : α} (h : ∀ x, g (f x) = c)
include h

theorem modSolLane_sets {s : State} {p q : Nat} (hq : q = p ∨ g (laneAt s q) = c) : g (laneAt (modSolLane s p f) q) = c := by
  rw [laneAt_modSolLane]
  split
  · exact h _
  · exact hq.resolve_left ‹_›

/-- What a change sets is set in the lane, and stays set where it was. -/
theorem modLanes_sets {s : State} {p q : Nat} (hq : q = p ∨ g (laneAt s q) = c) : g (laneAt (modLanes s p f) q) = c := by
  rw [modLanes, laneAndShadows, List.foldl_cons]
  exact List.foldlRecOn (motive := fun u => g (laneAt u q) = c) _ _ (modSolLane_sets h hq) fun _ hu _ _ => modSolLane_sets h (.inr hu)

theorem foldl_modLanes_sets {ps : List Nat} : ∀ {s : State} {q : Nat}, q ∈ ps ∨ g (laneAt s q) = c →
    g (laneAt (ps.foldl (fun u p => modLanes u p f) s) q) = c := by
  induction ps with
  | nil => intro s q hq; exact hq.resolve_left List.not_mem_nil
  | cons p ps ih =>
    intro s q hq
    rw [List.foldl_cons]
    rcases hq with hq | hq
    · exact ih ((List.mem_cons.1 hq).symm.imp_right fun hq => modLanes_sets h (.inl hq))
    · exact ih (.inr (modLanes_sets h (.inr hq)))

end

/-! ### Problems on a gang (R279 to R285) -/

/-- A lane at the start of a problem (R267, R279). -/
def Lane.begun (vinit : List Nat) (problem : Nat) (y : Lane) : Lane := { y with v := vinit, problem := problem }

/-- The lanes of a gang at the start of a problem. -/
def lanesBegun (s : State) (l p : Nat) : State :=
  (gangPhys s l).foldl (fun u q => modLanes u q (Lane.begun (probAt s p).vinit (handleOf s cPROBLEM p))) s

theorem startProblem_eq (s : State) (l p base : Nat) :
    startProblem s l p base = modGang (lanesBegun s l p) l fun g => { g with run := some { problem := p, base := base } } := rfl

theorem offLanes_lanesBegun (s : State) (l p : Nat) : offLanes (lanesBegun s l p) = offLanes s := offLanes_foldl_modLanes s _ _

theorem gangAt_lanesBegun (s : State) (l p : Nat) : gangAt (lanesBegun s l p) l = gangAt s l :=
  eq_of_offLanes (fun u => gangAt u l) (fun _ => rfl) (offLanes_lanesBegun s l p)

theorem lanesBegun_mem (s : State) (l p q : Nat) : (laneAt (lanesBegun s l p) q).mem = (laneAt s q).mem :=
  foldl_modLanes_keeps (g := Lane.mem) (f := Lane.begun _ _) (fun _ => rfl) s _ q

theorem lanesBegun_lane {s : State} {l q : Nat} (hq : q ∈ gangPhys s l) (p : Nat) :
    (laneAt (lanesBegun s l p) q).v = (probAt s p).vinit ∧ (laneAt (lanesBegun s l p) q).problem = handleOf s cPROBLEM p :=
  ⟨foldl_modLanes_sets (g := Lane.v) (f := Lane.begun _ _) (fun _ => rfl) (.inl hq),
   foldl_modLanes_sets (g := Lane.problem) (f := Lane.begun _ _) (fun _ => rfl) (.inl hq)⟩

section
variable {a : State} {l : Nat} (hrun : (gangAt a l).run = none)
include hrun

theorem startNextProblem_starts {p base : Nat} {rest : List (Nat × Nat)} (hleft : (gangAt a l).left = (p, base) :: rest)
    (hs : gangServes a l = true) :
    startNextProblem a l = startProblem (modGang a l fun g => { g with left := rest }) l p base := by
  simp [startNextProblem, hrun, hleft, hs]

theorem solverDeadline_idle (ht : tickFrame a = solDeadline a) (hg : gangsOf a 1 = [l]) :
    solverDeadline a = modGang a l fun g => { g with left := [] } := by
  simp [solverDeadline, ht, hg, hrun]

end

theorem solverStart_now {a : State} {l : Nat} (ht : tickFrame a = solStart a) (hg : gangsOf a 1 = [l]) :
    solverStart a = startNextProblem a l := by
  simp [solverStart, ht, hg]

section
variable {a : State} {n : Nat} {run : KRun} (hr : (gangAt a (gangOf a n)).run = some run)
include hr

theorem problemEnd_uncorrectable (q w : Nat) :
    problemEnd a n 2 q w =
      gangFault a (gangOf a n) ((gangPhys a (gangOf a n)).getD (q % (gangAt a (gangOf a n)).size) 0) w := by
  simp [problemEnd, hr]

/-- Without a memory error the problem whose records were issued ends with the status of its run (R284). -/
theorem problemEnd_issued (hs : gangServes a (gangOf a n) = true) (hi : run.issued = true) (q w : Nat) :
    problemEnd a n 0 q w = endProblem a (gangOf a n) run (runStatus run false false) (probAt a run.problem).cycles := by
  simp [problemEnd, hr, hs, hi]

end

theorem problemEnd_idle {a : State} {n : Nat} (h : (gangAt a (gangOf a n)).run = none) (q w : Nat) : problemEnd a n 0 q w = a := by
  simp [problemEnd, h]

/-- The size of a gang and the lanes behind it do not change when its waiting problems do. -/
theorem gangPhys_modGang_left (a : State) (l : Nat) (rest : List (Nat × Nat)) :
    gangPhys (modGang a l fun g => { g with left := rest }) l = gangPhys a l := by
  simp only [gangPhys, gangLanes, gangAt_modGang_self]
  rfl

/-- Settles O37: a start reaches the gang's lanes and its record only, the other steps act through the gang's run. -/
theorem problemsRun : Obligations.ProblemsRun := by
  intro s a
  have ended {lane : Fin 192} {err : Fin 3} {q : Fin 4} {w : BitVec 16} {u : State} (hfind : Finds s a)
      (hu : problemEnd a lane err q w.toNat = u) : exec (.solverProblemEnd lane err q w) s = .next (leave s u) :=
    hu ▸ event_finds hfind _
  refine ⟨fun hfind => ⟨fun ht => ?early, fun ht => ?notYet, fun l p base rest ht hg hrun hleft hs => ?starts,
    fun l ht hg hrun => ?dropped⟩, fun lane q w run hfind => ?running,
    fun lane q w hfind hrun => ?idle⟩
  case early => exact (unitStep_finds hfind solverStart).trans (by rw [solverStart, if_neg ht])
  case notYet => exact (unitStep_finds hfind solverDeadline).trans (by rw [solverDeadline, if_neg ht])
  case starts =>
    let b := modGang a l fun g => { g with left := rest }
    have starts : solverStart a = startProblem b l p base :=
      (solverStart_now ht hg).trans (startNextProblem_starts hrun hleft hs)
    have gang : gangAt (startProblem b l p base) l =
        { gangAt a l with left := rest, run := some { problem := p, base := base } } := by
      rw [startProblem_eq, gangAt_modGang_self, gangAt_lanesBegun, gangAt_modGang_self]
    have kept {β : Type} (view : State → β) (hv : ∀ u, view (offLanes u) = view u) : view (lanesBegun b l p) = view b :=
      eq_of_offLanes view hv (offLanes_lanesBegun b l p)
    refine ⟨startProblem b l p base, (unitStep_finds hfind solverStart).trans (by rw [starts]), by rw [gang], by rw [gang],
      fun q hq => ?lane, kept State.time fun _ => rfl, kept State.regs fun _ => rfl, kept State.problems fun _ => rfl⟩
    case lane =>
      rw [← gangPhys_modGang_left a l rest] at hq
      obtain ⟨hv, hproblem⟩ := lanesBegun_lane hq p
      exact ⟨hv, lanesBegun_mem b l p q, hproblem⟩
  case dropped => exact (unitStep_finds hfind solverDeadline).trans (by rw [solverDeadline_idle hrun ht hg]; rfl)
  case running =>
    intro l p hr
    exact ⟨ended hfind (problemEnd_uncorrectable hr q w.toNat), fun hs hi => ended hfind (problemEnd_issued hr hs hi q w.toNat)⟩
  case idle => exact ended hfind (problemEnd_idle hrun q w.toNat)

end Sys2Proof.Machine
end

section
namespace Sys2Proof.Machine

/-! ### The plan press (R358) -/

theorem planTick_pos {s : State} : 0 < planTick s ↔ 1280 ≤ s.time.frame := Nat.div_pos_iff.trans (and_iff_right (by decide))

/-- The plan press of the tick before, as it opens. -/
def openedPlanPress (s : State) : Press :=
  { phase := .armed, owner := 23, kind := 0, maxPivots := bits (reg s 0x220008) 0 8, members := (stagedArms s).map .plan,
    axis := 0, grain := 2, armFrame := s.time.frame, armElapsed := s.time.elapsed, checked := true,
    commit := some ((planTick s + 1) * 1280), plan := (planTick s - 1) % 4294967296, lastCommitted := (pressAt s 0).lastCommitted,
    lastReason := (pressAt s 0).lastReason, lastFrame := (pressAt s 0).lastFrame }

theorem planPressOpen_opens {s : State} (ht : tickFrame s = 16) (on : plnOn s = true) (free : (pressAt s 0).phase = .free)
    (after : 1280 ≤ s.time.frame) : planPressOpen s = { s with presses := mput s.presses 0 (openedPlanPress s) } :=
  if_pos ⟨ht, on, free, planTick_pos.2 after⟩

theorem planPressOpen_waits {s : State} (h : tickFrame s ≠ 16 ∨ plnOn s = false ∨ (pressAt s 0).phase ≠ .free ∨ s.time.frame < 1280) :
    planPressOpen s = s := by
  refine if_neg fun ⟨ht, on, free, after⟩ => ?_
  rcases h with h | h | h | h
  · exact h ht
  · exact Bool.false_ne_true (h.symm.trans on)
  · exact h free
  · exact Nat.not_le.2 h (planTick_pos.1 after)

/-! ### The final verdicts (R326) -/

/-- The verdicts of all arms whose pairs were captured are given, in precedence order. -/
def verdictsGiven (f : Nat) (s : State) : State := inCycle (fun v => v.grd.shotOrder.foldl (fun u x => finalArm u f false x) v) s

/-- The cycle ends with the results that registers then show, and the cross-check carried it (R465). -/
def cycleEnded (s : State) : State :=
  { s with
    grd := { s.grd with cycle := none, doneArms := s.grd.arms, doneTracks := s.grd.tracks }
    flt := { s.flt with standing := s.flt.standing.filter fun e => decide (e.1 ≠ 0x169) } }

theorem guardFinal_waits {s : State} (h : s.grd.cycle = none ∨ s.grd.running = false ∨ tickFrame s ≠ 1272) : guardFinal s = s := by
  unfold guardFinal
  split
  next f hf =>
    refine if_neg fun hdue => ?_
    simp only [Bool.and_eq_true, decide_eq_true_eq] at hdue
    obtain ⟨⟨hrun, ht⟩, -⟩ := hdue
    simp [hf, hrun, ht] at h
  next => rfl

theorem guardFinal_ends {s : State} {f : Nat} (hf : s.grd.cycle = some f) (hrun : s.grd.running = true) (ht : tickFrame s = 1272)
    (hk : f / 1280 = planTick s) (hx : xchkLost s = none) : guardFinal s = cycleEnded (verdictsGiven f s) := by
  simp only [guardFinal, hf, hrun, ht, hk, hx]
  rfl

/-- Where no verdict is given no cycle has ended, so that the plan press stays as it is. -/
theorem finalVerdict_waits {s : State} (h : s.grd.cycle = none ∨ s.grd.running = false ∨ tickFrame s ≠ 1272) : finalVerdict s = s := by
  have unended : ¬(s.grd.cycle.isSome = true ∧ s.grd.cycle = none ∧ (pressAt s 0).phase = .armed) :=
    fun ⟨had, hnone, _⟩ => by simp [hnone] at had
  simp only [finalVerdict, guardFinal_waits h, if_neg unended]

theorem finalVerdict_of_ended {s t : State} (had : s.grd.cycle.isSome = true) (ht : guardFinal s = cycleEnded t) :
    finalVerdict s = if (pressAt t 0).phase = .armed then
      { cycleEnded t with presses := mput t.presses 0 { pressAt t 0 with phase := .ready } } else cycleEnded t := by
  have ended : ((cycleEnded t).grd.cycle = none) := rfl
  simp only [finalVerdict, had, ht, ended, true_and]
  rfl

/-! ### The derate (R304) -/

theorem duesPlan_nothing {s : State} (h : NothingDue s) : duesPlan s = s := by
  obtain ⟨hpress, hjudge, hbody, hservo, -⟩ := h
  simp [duesPlan_noBody hpress hjudge hbody, hservo]

/-- A loss is derated two plan ticks after it. -/
def lossDue (s : State) (e : Nat × Nat) : Bool := decide (e.1 + 2 ≤ planTick s)

/-- The losses that are not yet derated. -/
def lossesLater (s : State) : List (Nat × Nat) := s.pln.lost.filter fun e => !lossDue s e

theorem derateApply_waits {s : State} (h : s.pln.lost.any (lossDue s) = false ∨ tickFrame s ≠ 0) : derateApply s = s := by
  refine if_neg fun hdue => ?_
  rw [Bool.and_eq_true, decide_eq_true_eq] at hdue
  obtain ⟨ht, hany⟩ := hdue
  exact h.elim (fun h => Bool.false_ne_true (h.symm.trans hany)) fun h => h ht

theorem derateApply_places {s b : State} {level : Nat} {bad : List Nat} (hany : s.pln.lost.any (lossDue s) = true) (ht : tickFrame s = 0)
    (hl : ladder 4 (markLost s (lossesLater s) false) s.pln.level 4 true = (b, level, bad)) (h4 : level ≠ 4) :
    derateApply s =
      let t := markLost b (lossesLater s) true
      raise { t with pln := { t.pln with level := level, lost := lossesLater s, placed := t.pln.placed + 1 } } .plnDerate 0
        (level + 4294967296 * lanesLost t) oPLNall := by
  have due : (decide (tickFrame s = 0) && s.pln.lost.any fun e => decide (e.1 + 2 ≤ planTick s)) = true := by
    rw [Bool.and_eq_true, decide_eq_true_eq]
    exact ⟨ht, hany⟩
  simp only [lossesLater, lossDue] at hl
  simp only [derateApply, if_pos due, hl, if_neg h4]
  rfl

/-! ### The guard's switch (R328) -/

/-- A lane of the guard's range that bars its start: lost, out of range, in a gang with a role or in one with a bound problem. -/
def laneBars (s : State) (n : Nat) : Bool :=
  (lmapAt s n).2 || decide (191 < n) || decide ((gangAt s (gangOf s n)).role ≠ 0) || gangBound (gangAt s (gangOf s n))

theorem laneBars_iff {s : State} {n : Nat} : laneBars s n = true ↔
    (lmapAt s n).2 = true ∨ 191 < n ∨ (gangAt s (gangOf s n)).role ≠ 0 ∨ gangBound (gangAt s (gangOf s n)) = true := by
  simp [laneBars, or_assoc]

theorem laneBars_eq_false {s : State} {n : Nat} : laneBars s n = false ↔
    (lmapAt s n).2 = false ∧ n ≤ 191 ∧ (gangAt s (gangOf s n)).role = 0 ∧ gangBound (gangAt s (gangOf s n)) = false := by
  simp [laneBars, and_assoc]

theorem grdEnWrite_elsewhere {s : State} (h : s.md.mode ≠ .prepare) (en : Bool) : grdEnWrite s en = s := if_pos h

theorem grdEnWrite_running {s : State} (h : grdOn s = true) : grdEnWrite s true = s := by simp [grdEnWrite, h]

section
variable {s : State} (prep : s.md.mode = .prepare)
include prep

theorem grdEnWrite_stops : grdEnWrite s false = guardStop { s with grd := { s.grd with refused := false } } := by
  simp [grdEnWrite, prep, modGrd]

variable (off : grdOn s = false)
include off

theorem grdEnWrite_refused (h : (guardLanes s).any (laneBars s) = true) :
    grdEnWrite s true = { s with grd := { s.grd with refused := true } } := by
  unfold laneBars at h
  simp only [grdEnWrite, prep, off, h]
  rfl

end

/-- No gang of role 0 reaches into the guard's range any more. -/
def rangeCleared (s : State) : State :=
  (dedup ((guardLanes s).map (gangOf s))).foldl (fun u l => modSol u fun x => { x with gangs := mdel x.gangs l }) s

/-- The guard's gangs are formed in its range. -/
def guardFormed (s : State) : State := (List.range (grdGangs s)).foldl (fun u i => formGang u (grdFirst u + 4 * i) 4 2) s

/-- EN is set, and the guard runs. -/
def enSet (s : State) : State := modGrd (setReg s 0x210000 1) fun x => { x with running := true, refused := false }

/-- Every stream counts as heard at this instant, and one with a fault as lost (R316). -/
def streamsBegun (s : State) : State :=
  (List.range 8).foldl (fun u i => modStream u i fun x => { x with since := u.time.elapsed, lost := if x.fault then 2 else 0 }) s

/-- The state but for the solver. -/
def offSol (s : State) : State := { s with sol := {} }

theorem eq_of_offSol {s t : State} (h : offSol t = offSol s) : t = { s with sol := t.sol } :=
  congrArg (fun u => { u with sol := t.sol }) h

theorem offSol_rangeCleared (s : State) : offSol (rangeCleared s) = offSol s :=
  List.foldlRecOn (motive := fun u => offSol u = offSol s) _ _ rfl fun _ hu _ _ => hu

theorem offSol_formGang (s : State) (first size role : Nat) : offSol (formGang s first size role) = offSol s :=
  List.foldlRecOn (motive := fun u => offSol u = offSol s) _ _ rfl fun _ hu _ _ => hu

theorem offSol_guardFormed (s : State) : offSol (guardFormed s) = offSol s :=
  List.foldlRecOn (motive := fun u => offSol u = offSol s) _ _ rfl fun u hu _ _ => (offSol_formGang u ..).trans hu

/-- The state but for the guard's streams. -/
def offStreams (s : State) : State := { s with grd := { s.grd with streams := [] } }

theorem eq_of_offStreams {s t : State} (h : offStreams t = offStreams s) : t = { s with grd := { s.grd with streams := t.grd.streams } } :=
  congrArg (fun u => { u with grd := { u.grd with streams := t.grd.streams } }) h

theorem offStreams_streamsBegun (s : State) : offStreams (streamsBegun s) = offStreams s :=
  List.foldlRecOn (motive := fun u => offStreams u = offStreams s) _ _ rfl fun _ hu _ _ => hu

/-- A start changes EN, the guard's own record and the solver, where its gangs are formed; nothing else changes. -/
theorem grdEnWrite_starts {s : State} (prep : s.md.mode = .prepare) (off : grdOn s = false)
    (h : (guardLanes s).any (laneBars s) = false) :
    ∃ x y, grdEnWrite s true =
      { setReg s 0x210000 1 with sol := x, grd := { s.grd with running := true, refused := false, streams := y } } := by
  have runs : grdEnWrite s true = streamsBegun (enSet (guardFormed (rangeCleared s))) := by
    unfold laneBars at h
    simp only [grdEnWrite, prep, off, h]
    rfl
  have formed := eq_of_offSol ((offSol_guardFormed _).trans (offSol_rangeCleared s))
  exact ⟨_, _, runs.trans ((eq_of_offStreams (offStreams_streamsBegun _)).trans (by rw [formed]; rfl))⟩

/-! ### The plan tick's steps -/

/-- Settles O35: each step either finds its condition and acts as its lemma above says, or leaves the state as it is. -/
theorem planTickSteps : Obligations.PlanTickSteps := by
  intro s a
  have opened {u : State} (hfind : FindsUnit s a) (hu : planPressOpen a = u) : exec .planPressOpen s = .next (leave s u) :=
    hu ▸ unitStep_finds hfind _
  have judged {u : State} (hfind : FindsUnit s a) (hu : finalVerdict a = u) : exec .guardFinalVerdict s = .next (leave s u) :=
    hu ▸ unitStep_finds hfind _
  have derated {u : State} (held : s.md.held = false) (hn : NothingDue s) (hu : derateApply s = u) :
      exec .derateApply s = .next (leave s u) := exec_due held rfl (by rw [duesPlan_nothing hn, hu])
  have written {req : Fin 64} {en : Bool} {u : State} (hfind : FindsReg s a req 0x210000) (hu : grdEnWrite a en = u) :
      exec (.grdEnWrite req en) s = .next (leave s u) := hu ▸ event_findsReg hfind _
  refine ⟨fun hfind => ⟨fun ht on free after => ?opens, fun h => opened hfind (planPressOpen_waits h)⟩,
    fun hfind => ⟨fun h => judged hfind (finalVerdict_waits h), fun f hf hrun ht hk hx => ?verdicts⟩,
    fun held hn => ⟨fun h => derated held hn (derateApply_waits h), fun hany ht => ?derates⟩,
    fun req hfind => ⟨fun hm en => written hfind (grdEnWrite_elsewhere hm en), fun on => written hfind (grdEnWrite_running on),
      fun prep => written hfind (grdEnWrite_stops prep), fun prep off ⟨n, hmem, hbar⟩ => ?refused, fun prep off hfree => ?starts⟩⟩
  case opens =>
    exact ⟨openedPlanPress a, rfl, rfl, rfl, rfl, rfl, rfl, rfl, rfl, rfl, opened hfind (planPressOpen_opens ht on free after)⟩
  case verdicts =>
    have ends := finalVerdict_of_ended (by rw [hf]; rfl) (guardFinal_ends hf hrun ht hk hx)
    exact ⟨fun hp => judged hfind (ends.trans (if_neg hp)), fun hp => judged hfind (ends.trans (if_pos hp))⟩
  case derates => exact ⟨_, _, _, rfl, fun h4 => derated held hn (derateApply_places hany ht rfl h4)⟩
  case refused =>
    have barred : (guardLanes a).any (laneBars a) = true := List.any_eq_true.2 ⟨n, hmem, laneBars_iff.2 hbar⟩
    exact written hfind (grdEnWrite_refused prep off barred)
  case starts =>
    have unbarred : (guardLanes a).any (laneBars a) = false :=
      List.any_eq_false.2 fun n hn => Bool.eq_false_iff.1 (laneBars_eq_false.2 (hfree n hn))
    obtain ⟨x, y, runs⟩ := grdEnWrite_starts prep off unbarred
    exact ⟨_, written hfind runs, rfl, rfl, congrArg (fun v => bit v 0) (reg_setReg_self a 0x210000 1), rfl, rfl, rfl⟩

end Sys2Proof.Machine
end

section
namespace Sys2Proof.Machine

/-! ### A press that closes (R339, R353, R355) -/

theorem pressAt_congr {s t : State} (h : s.presses = t.presses) (slot : Nat) : pressAt s slot = pressAt t slot := by
  rw [pressAt, h, pressAt]

@[simp] theorem complete_presses (s : State) (x : Acc) (status handle detail : Nat) :
    (complete s x status handle detail).presses = s.presses :=
  congrArg (fun t => t.presses) (unreported_complete s x status handle detail)

@[simp] theorem completeFinal_presses (s : State) (x : Acc) (status handle detail : Nat) :
    (completeFinal s x status handle detail).presses = s.presses :=
  congrArg (fun t => t.presses) (unreported_writeCompletion s x status handle detail 0 1)

@[simp] theorem cancelTimeouts_presses (s : State) : (cancelTimeouts s).presses = s.presses := by
  unfold cancelTimeouts
  split <;> rfl

theorem presses_foldl {α : Type} (g : State → α → State) (h : ∀ s x, (g s x).presses = s.presses) (l : List α) (s : State) :
    (l.foldl g s).presses = s.presses := by
  induction l generalizing s with
  | nil => rfl
  | cons x l ih => rw [List.foldl_cons, ih, h]

@[simp] theorem pressAt_modPress (s : State) (slot : Nat) (f : Press → Press) : pressAt (modPress s slot f) slot = f (pressAt s slot) :=
  mgetD_mput_self ..

/-- A slot whose press has closed: FREE, with how the press ended. -/
def closedPress (committed : Bool) (reason frame : Nat) : Press :=
  { lastCommitted := committed, lastReason := reason, lastFrame := frame }

/-- The slot holds no press, and keeps how its last one ended. -/
def ClosedAs (s : State) (slot : Nat) (committed : Bool) (reason : Nat) : Prop :=
  ∃ frame, pressAt s slot = closedPress committed reason frame

theorem ClosedAs.congr {s t : State} {slot reason : Nat} {committed : Bool} (h : ClosedAs s slot committed reason)
    (ht : t.presses = s.presses) : ClosedAs t slot committed reason := by
  obtain ⟨frame, hs⟩ := h
  exact ⟨frame, (pressAt_congr ht slot).trans hs⟩

theorem ClosedAs.fields {s : State} {slot reason : Nat} {committed : Bool} (h : ClosedAs s slot committed reason) :
    (pressAt s slot).phase = .free ∧ (pressAt s slot).members = [] ∧ (pressAt s slot).lastCommitted = committed ∧
      (pressAt s slot).lastReason = reason := by
  obtain ⟨frame, hs⟩ := h
  rw [hs]
  exact ⟨rfl, rfl, rfl, rfl⟩

theorem pressClose_closes (s : State) (slot : Nat) (committed : Bool) (reason : Nat) :
    ClosedAs (pressClose s slot committed reason) slot committed reason := by
  unfold pressClose
  generalize patchEnds (releaseNodes s slot) slot = t
  have closed : ClosedAs (modPress t slot fun p =>
      closedPress committed reason (if committed then t.time.frame else p.commit.getD p.lastFrame)) slot committed reason :=
    ⟨_, pressAt_modPress ..⟩
  dsimp only
  split
  · exact closed.congr (cancelTimeouts_presses _)
  · exact closed.congr rfl

/-- The completions of a press that has closed leave its slot as it is: its PRESS_ARM's, then its members'. -/
theorem ClosedAs.completed {s : State} {slot reason : Nat} {committed : Bool} (h : ClosedAs s slot committed reason)
    {α : Type} (arm : Option Acc) (status detail : Nat) (g : State → α → State) (hg : ∀ t e, (g t e).presses = t.presses) (l : List α) :
    ClosedAs (l.foldl g (match arm with
      | some x => complete s x status 0 detail
      | none => s)) slot committed reason := by
  refine h.congr ((presses_foldl g hg l _).trans ?_)
  cases arm
  · rfl
  · exact complete_presses ..

/-- A press of a host slot that aborts closes with its reason (R355). -/
theorem pressAbort_closes {s : State} {slot : Nat} (h3 : 3 ≤ slot) (hp : (pressAt s slot).phase ≠ .free) (why i : Nat) :
    ClosedAs (pressAbort s slot why i) slot false why := by
  have h1 : slot ≠ 1 := by omega
  have h2 : slot ≠ 2 := by omega
  simp only [pressAbort, if_neg hp, if_neg h1, if_neg h2]
  refine (pressClose_closes _ slot false why).completed _ _ _ _ (fun t e => ?_) _
  split
  · exact completeFinal_presses ..
  · rfl

/-- A press that has switched closes as committed (R353). -/
theorem pressSwitch_closes (s : State) (slot : Nat) : ClosedAs (pressSwitch s slot) slot true 0 := by
  unfold pressSwitch
  refine (pressClose_closes _ slot true 0).completed _ _ _ _ (fun t m => ?_) _
  split
  · exact completeFinal_presses ..
  · rfl

end Sys2Proof.Machine
end

section
namespace Sys2Proof.Machine

/-! ### PRESS_ABORT (R356) -/

/-- A press lives while its slot is not FREE (R339). -/
theorem isLive_press (s : State) (slot : Nat) : isLive s cPRESS slot = decide ((pressAt s slot).phase ≠ .free) := by
  show (match mget s.presses slot with
    | some p => decide (p.phase ≠ Phase.free)
    | none => false) = _
  rw [pressAt, mgetD]
  cases mget s.presses slot <;> rfl

/-- The handle of a live press names a slot that is not FREE. -/
theorem phase_ne_free_of_live {s : State} {h : Nat} (hc : hCls h = cPRESS) (hl : liveHandle s h = true) :
    (pressAt s (hIdx h)).phase ≠ .free := by
  simp only [liveHandle, hc, isLive_press, Bool.and_eq_true, decide_eq_true_eq] at hl
  exact hl.1.2

theorem liveHandle_of_free {s : State} {h : Nat} (hc : hCls h = cPRESS) (hf : (pressAt s (hIdx h)).phase = .free) :
    liveHandle s h = false := by
  simp [liveHandle, hc, isLive_press, hf]

section
variable {u : State} {x : Acc} (ho : x.op = 0x0B02) (hc : hCls (tgt x.d) = cPRESS)
include ho hc

/-- The one handle that a PRESS_ABORT names is its press (R28). -/
theorem handlesRefuse_pressAbort (ok : Nat → Bool) :
    handlesRefuse u x ok = if ok (tgt x.d) = true then none else some (stSTALE, tgt x.d) := by
  have targeted : targetless 0x0B02 = false := rfl
  have handles : opHandles 0x0B02 x.d = [(tgt x.d, cPRESS, false)] := rfl
  simp only [handlesRefuse, ho, targeted, handles, handleRefuse, hc]
  cases ok (tgt x.d) <;> simp [cPRESS]

theorem immEffect_pressAbort_stale (hl : liveHandle u (tgt x.d) = false) :
    immEffect u x = complete u x stSTALE 0 (tgt x.d) :=
  immEffect_handles (r := (stSTALE, tgt x.d)) (by rw [handlesRefuse_pressAbort ho hc, hl]; rfl)

/-- The owner's well-formed PRESS_ABORT aborts the press with reason HOST. -/
theorem immEffect_pressAbort (hl : liveHandle u (tgt x.d) = true) (h3 : 3 ≤ tIdx x.d) (how : (pressAt u (tIdx x.d)).owner = x.req)
    (hp : x.d.payload = 0) : immEffect u x = complete (pressAbort u (tIdx x.d) 1 0xFF) x stOK 0 0 := by
  have hh : handlesRefuse u x (liveHandle u) = none := by rw [handlesRefuse_pressAbort ho hc, hl]; rfl
  have owned : ¬ (tIdx x.d < 3 ∨ (pressAt u (tIdx x.d)).owner ≠ x.req) := not_or.mpr ⟨Nat.not_lt.mpr h3, not_not.mpr how⟩
  have path : immEffect u x = pressAbortDesc u x := by simp [immEffect, hh, ho]
  rw [path, pressAbortDesc, if_neg owned, if_neg (not_not.mpr hp)]

end

/-- Settles O58: the descriptor is admitted by the common path; at its boundary the abort closes the slot, so that the handle names
nothing any more. -/
theorem Descriptor.pressAbort : Obligations.PressAbort := by
  refine ⟨fun s a d hfind hA => ?listed, fun u x ho hc => ⟨fun hl h3 how hp => ?aborts, immEffect_pressAbort_stale ho hc⟩⟩
  case listed =>
    rw [exec_of_admitted (c := .pressAbort d) (fun _ => rfl) rfl hfind hA, dispatch_listed hA (.inr (actNow_eq_none rfl))]
  case aborts =>
    obtain ⟨free, -, uncommitted, reason⟩ := (pressAbort_closes h3 (phase_ne_free_of_live hc hl) 1 0xFF).fields
    exact ⟨immEffect_pressAbort ho hc hl h3 how hp, free, reason, uncommitted, liveHandle_of_free hc free⟩

end Sys2Proof.Machine
end

section
namespace Sys2Proof.Machine

/-! ### The checks of a press (R348, R349) -/

/-- The parts that a member needs begin to wake (R538). -/
def wakeMember (s : State) (m : Member) : State :=
  match m with
  | .desc x _ => wakeParts s x
  | _ => s

/-- The state in which every part that a press's members need wakes. -/
def woken (s : State) (slot : Nat) : State := (pressAt s slot).members.foldl wakeMember s

/-- A press whose members have passed their checks, with those that wait. -/
def seenPress (s : State) (slot : Nat) : Press :=
  { pressAt (woken s slot) slot with checked := true, waited := waitingMembers (woken s slot) slot }

/-- The state after the checks of a press have passed. -/
def checksPassed (s : State) (slot : Nat) : State :=
  { woken s slot with presses := mput (woken s slot).presses slot (seenPress s slot) }

/-- Whether a member waits does not rest on what the slots hold. -/
theorem memberWaits_presses (s : State) (ps : Map Press) (m : Member) : memberWaits { s with presses := ps } m = memberWaits s m := by
  cases m <;> rfl

theorem patchWaits_presses (s : State) (ps : Map Press) (p : Press) : patchWaits { s with presses := ps } p = patchWaits s p := rfl

/-- That the checks have passed changes nothing of what holds the press back. -/
theorem pressWaits_checksPassed (s : State) (slot : Nat) : pressWaits (checksPassed s slot) slot = pressWaits (woken s slot) slot := by
  have hp : pressAt (checksPassed s slot) slot = seenPress s slot := mgetD_mput_self ..
  have hw (m : Member) : memberWaits (checksPassed s slot) m = memberWaits (woken s slot) m := memberWaits_presses ..
  have hq (p : Press) : patchWaits (checksPassed s slot) p = patchWaits (woken s slot) p := patchWaits_presses ..
  simp only [pressWaits, firstWaiting, hp, hw, hq]
  rfl

section
variable {s : State} {slot : Nat}

theorem pressChecks_fails {i : Nat} (h : (checkMembers s slot false).1 = some i) : pressChecks s slot = pressAbort s slot 4 i := by
  simp only [pressChecks, h]

variable (h : (checkMembers s slot false).1 = none)
include h

theorem pressChecks_overBudget (hb : budgetsOk (checkMembers s slot false).2 = false) :
    pressChecks s slot = pressAbort s slot 5 0xFF := by
  simp only [pressChecks, h, if_pos hb]

variable (hb : budgetsOk (checkMembers s slot false).2 = true)
include hb

theorem pressChecks_resultFails {why i : Nat} (hr : resultFails (pressAt s slot) = some (why, i)) :
    pressChecks s slot = pressAbort s slot why i := by
  simp only [pressChecks, h, hb, hr, Bool.true_eq_false, if_false]

/-- A press that fails nothing waits, or becomes READY. -/
theorem pressChecks_passes (hr : resultFails (pressAt s slot) = none) :
    pressChecks s slot = if pressWaits (woken s slot) slot then checksPassed s slot else pressReady (checksPassed s slot) slot := by
  rw [← pressWaits_checksPassed]
  simp only [pressChecks, h, hb, hr, Bool.true_eq_false, if_false]
  rfl

end

/-- A press that no validation concerns: its slot is not ARMED, its checks have ended, or it is the plan press. -/
theorem validationDone_elsewhere {s : State} {slot : Nat}
    (h : (pressAt s slot).phase ≠ .armed ∨ (pressAt s slot).checked = true ∨ slot = 0) : validationDone s slot = s := by
  refine if_neg ?_
  rintro ⟨armed, unchecked, hslot⟩
  rcases h with h | h | h
  · exact h armed
  · exact Bool.noConfusion (h.symm.trans unchecked)
  · exact hslot h

/-- The longest validation is kept, and the checks of the press follow (R361). -/
theorem validationDone_checks {s : State} {slot : Nat} (armed : (pressAt s slot).phase = .armed)
    (unchecked : (pressAt s slot).checked = false) (hslot : slot ≠ 0) :
    validationDone s slot =
      pressChecks (setReg s 0x22001C (max (reg s 0x22001C) (min 255 (s.time.frame - (pressAt s slot).armFrame)))) slot :=
  if_pos ⟨armed, unchecked, hslot⟩

/-- The check of the members that waited, once their last wait has ended. -/
def checkWaited (s : State) (slot : Nat) : Option Nat × State :=
  checkWhere s slot false fun i => (pressAt s slot).waited.contains i

theorem memberReady_elsewhere {s : State} {slot : Nat}
    (h : (pressAt s slot).phase ≠ .armed ∨ (pressAt s slot).checked = false ∨ pressWaits s slot = true) : memberReady s slot = s := by
  refine if_neg ?_
  rintro ⟨armed, checked, ended⟩
  rcases h with h | h | h
  · exact h armed
  · exact Bool.noConfusion (h.symm.trans checked)
  · exact Bool.noConfusion (h.symm.trans ended)

section
variable {s : State} {slot : Nat} (armed : (pressAt s slot).phase = .armed) (checked : (pressAt s slot).checked = true)
  (ended : pressWaits s slot = false)
include armed checked ended

/-- The members that waited are judged, then the budgets. -/
theorem memberReady_judges :
    memberReady s slot = match (checkWaited s slot).1 with
      | some i => pressAbort s slot 4 i
      | none => if budgetsOk (checkWaited s slot).2 = false then pressAbort s slot 5 0xFF else pressReady s slot := by
  refine (if_pos ⟨armed, checked, ended⟩).trans ?_
  show (match checkWaited s slot with
    | (some i, _) => pressAbort s slot 4 i
    | (none, t) => if budgetsOk t = false then pressAbort s slot 5 0xFF else pressReady s slot) = _
  generalize checkWaited s slot = r
  obtain ⟨_ | i, t⟩ := r <;> rfl

theorem memberReady_fails {i : Nat} (h : (checkWaited s slot).1 = some i) : memberReady s slot = pressAbort s slot 4 i := by
  rw [memberReady_judges armed checked ended, h]

theorem memberReady_passes (h : (checkWaited s slot).1 = none) :
    memberReady s slot = if budgetsOk (checkWaited s slot).2 = false then pressAbort s slot 5 0xFF else pressReady s slot := by
  rw [memberReady_judges armed checked ended, h]

end

/-- The darn press does not abort for its spare's results. -/
theorem not_darnAborts {s : State} {slot : Nat} (h : slot ≠ 1 ∨ darnDiffers s = false) : ¬ (slot = 1 ∧ darnDiffers s = true) := by
  rintro ⟨h1, hd⟩
  rcases h with h | h
  · exact h h1
  · exact Bool.noConfusion (h.symm.trans hd)

/-- A darn press whose spare's results differ aborts with SHADOW, whatever it waits for (R453). -/
theorem waitExpiry_darn {s : State} {slot : Nat} (h1 : slot = 1) (hd : darnDiffers s = true) :
    waitExpiry s slot = pressAbort s slot 12 0 := by
  rw [waitExpiry, if_pos ⟨h1, hd⟩, darnMismatch, if_pos hd, h1]

section
variable {s : State} {slot : Nat} (h : slot ≠ 1 ∨ darnDiffers s = false)
include h

theorem waitExpiry_expires (armed : (pressAt s slot).phase = .armed) (asap : (pressAt s slot).axis = 0) (hslot : slot ≠ 0)
    (late : (pressAt s slot).armElapsed + reg s 0x220004 * msU ≤ s.time.elapsed) :
    waitExpiry s slot = pressAbort s slot 10 (firstWaiting s slot) := by
  rw [waitExpiry, if_neg (not_darnAborts h), if_pos ⟨armed, asap, hslot, late⟩]

theorem waitExpiry_elsewhere (hp : (pressAt s slot).phase ≠ .armed ∨ (pressAt s slot).axis ≠ 0 ∨ slot = 0 ∨
    s.time.elapsed < (pressAt s slot).armElapsed + reg s 0x220004 * msU) : waitExpiry s slot = s := by
  rw [waitExpiry, if_neg (not_darnAborts h), if_neg]
  rintro ⟨armed, asap, hslot, late⟩
  rcases hp with hp | hp | hp | hp
  · exact hp armed
  · exact hp asap
  · exact hslot hp
  · exact Nat.not_le.mpr hp late

end

end Sys2Proof.Machine
end

section
namespace Sys2Proof.Machine

/-! ### The commit of a press (R351 to R354) -/

section
variable {s : State} {slot : Nat}

theorem pressCommit_elsewhere (h : (pressAt s slot).phase ≠ .ready ∨ (pressAt s slot).commit ≠ some s.time.frame) :
    pressCommit s slot = s := if_pos h

variable (ready : (pressAt s slot).phase = .ready) (begun : (pressAt s slot).commit = some s.time.frame)
include ready begun

/-- At its commit frame a READY press has its darn's results judged first, and the plan press its planning unit's switch. -/
theorem pressCommit_due :
    pressCommit s slot =
      if slot = 1 ∧ darnDiffers s = true then darnMismatch s
      else if slot = 0 then (if plnOn s then pressSwitch s slot else pressAbort s slot 2 0xFF)
      else
        match guardVeto s (pressAt s slot) with
        | some i => pressAbort s slot 8 i
        | none =>
          match (checkMembers s slot true).1 with
          | some i => pressAbort s slot 3 i
          | none => if budgetsOk (checkMembers s slot true).2 then pressSwitch s slot else pressAbort s slot 5 0xFF :=
  if_neg (not_or.mpr ⟨not_not.mpr ready, not_not.mpr begun⟩)

theorem pressCommit_plan (h0 : slot = 0) :
    pressCommit s slot = if plnOn s then pressSwitch s slot else pressAbort s slot 2 0xFF := by
  rw [pressCommit_due ready begun, if_neg (by simp [h0]), if_pos h0]

theorem pressCommit_darn (h1 : slot = 1) (hd : darnDiffers s = true) : pressCommit s slot = pressAbort s slot 12 0 := by
  rw [pressCommit_due ready begun, if_pos ⟨h1, hd⟩, darnMismatch, if_pos hd, h1]

variable (h0 : slot ≠ 0) (h1 : slot ≠ 1 ∨ darnDiffers s = false)
include h0 h1

theorem pressCommit_vetoed {i : Nat} (hv : guardVeto s (pressAt s slot) = some i) : pressCommit s slot = pressAbort s slot 8 i := by
  rw [pressCommit_due ready begun, if_neg (not_darnAborts h1), if_neg h0, hv]

variable (hv : guardVeto s (pressAt s slot) = none)
include hv

theorem pressCommit_fails {i : Nat} (hc : (checkMembers s slot true).1 = some i) : pressCommit s slot = pressAbort s slot 3 i := by
  rw [pressCommit_due ready begun, if_neg (not_darnAborts h1), if_neg h0, hv, hc]

theorem pressCommit_passes (hc : (checkMembers s slot true).1 = none) :
    pressCommit s slot = if budgetsOk (checkMembers s slot true).2 then pressSwitch s slot else pressAbort s slot 5 0xFF := by
  rw [pressCommit_due ready begun, if_neg (not_darnAborts h1), if_neg h0, hv, hc]

end

/-- The one press that is due takes its turn, and none is due any more. -/
theorem pressesUpTo_single {s : State} {slot : Nat} (h : s.due.presses = [slot]) :
    pressesUpTo s slot = pressCommit { s with due := { s.due with presses := [] } } slot := by
  simp [pressesUpTo, h, pressWork, modDue]

/-- Settles O38: each command of a press is one step of its slot, whose outcomes are taken in the order of its checks; the slot that
a close leaves is read off. -/
theorem pressSteps : Obligations.PressSteps := by
  intro s a slot p judged
  have val_eq {n : Fin 16} : slot = n ↔ slot.val = n.val := Fin.ext_iff
  have val_ne {n : Fin 16} (h : slot ≠ n) : slot.val ≠ n.val := mt Fin.ext h
  refine ⟨fun hfind => ?waiting, fun held hdue => ?commits, fun h3 => ⟨fun why i hp => ?aborted, ?switched⟩⟩
  case waiting =>
    have validates : exec (.pressValidationDone slot) s = .next (leave s (validationDone a slot)) :=
      event_finds hfind (validationDone · slot)
    have readies : exec (.pressMemberReady slot) s = .next (leave s (memberReady a slot)) := event_finds hfind (memberReady · slot)
    have expires : exec (.pressWaitExpiry slot) s = .next (leave s (waitExpiry a slot)) := event_finds hfind (waitExpiry · slot)
    refine ⟨fun armed unchecked h0 => ⟨_, validates, ?validated⟩, fun h => ?unconcerned,
      fun armed checked ended => ⟨_, readies, ?ready⟩, fun h => readies.trans (by rw [memberReady_elsewhere h]),
      fun h1 hd => ?mismatch, fun h armed asap h0 late => ?expired, fun h hp => ?unexpired⟩
    case validated =>
      rw [validationDone_checks armed unchecked (val_ne h0)]
      exact ⟨fun i h => pressChecks_fails h, fun h hb => pressChecks_overBudget h hb, fun h hb =>
        ⟨fun why i hr => pressChecks_resultFails h hb hr, fun hr hw => (pressChecks_passes h hb hr).trans (if_pos hw),
          fun hr hw => (pressChecks_passes h hb hr).trans (if_neg (ne_true_of_eq_false hw))⟩⟩
    case unconcerned => exact validates.trans (by rw [validationDone_elsewhere (h.imp_right (Or.imp_right val_eq.1))])
    case ready =>
      exact ⟨fun i h => memberReady_fails armed checked ended h,
        fun h hb => (memberReady_passes armed checked ended h).trans (if_pos hb),
        fun h hb => (memberReady_passes armed checked ended h).trans (if_neg (ne_false_of_eq_true hb))⟩
    case mismatch => exact expires.trans (by rw [waitExpiry_darn (val_eq.1 h1) hd])
    case expired => exact expires.trans (by rw [waitExpiry_expires (h.imp_left val_ne) armed asap (val_ne h0) late])
    case unexpired =>
      exact expires.trans (by rw [waitExpiry_elsewhere (h.imp_left val_ne) (hp.imp_right (Or.imp_right (Or.imp_left val_eq.1)))])
  case commits =>
    intro b q
    have due : exec (.pressCommit slot) s = .next (leave s (duesBody (pressCommit b slot))) :=
      exec_due held rfl (by rw [pressesUpTo_single hdue])
    refine ⟨_, due, fun h => pressCommit_elsewhere (s := b) h, fun ready begun h0 => ?plan,
      fun ready begun h1 hd => pressCommit_darn (s := b) ready begun (val_eq.1 h1) hd, fun ready begun h0 h1 => ?judges⟩
    case plan =>
      have switch := pressCommit_plan (s := b) ready begun (val_eq.1 h0)
      exact ⟨fun on => switch.trans (if_pos on), fun off => switch.trans (if_neg (ne_true_of_eq_false off))⟩
    case judges =>
      have n0 := val_ne h0
      have n1 := h1.imp_left val_ne
      refine ⟨fun i hv => pressCommit_vetoed (s := b) ready begun n0 n1 hv,
        fun hv i hc => pressCommit_fails (s := b) ready begun n0 n1 hv hc, fun hv hc => ?_⟩
      have passes := pressCommit_passes (s := b) ready begun n0 n1 hv hc
      exact ⟨fun hb => passes.trans (if_neg (ne_true_of_eq_false hb)), fun hb => passes.trans (if_pos hb)⟩
  case aborted => exact (pressAbort_closes h3 hp why i).fields
  case switched => exact (pressSwitch_closes a slot).fields

end Sys2Proof.Machine
end

section
namespace Sys2Proof.Machine

/-! ### The queue, the closing work and arrival -/

/-- Settles O1: `step` reads the queue and nothing else before it runs the command. -/
theorem stepRunsTheFrontCommand : Obligations.StepRunsTheFrontCommand := by
  refine ⟨fun c q s => rfl, fun s idle => ?_⟩
  simp only [step, idle]

/-- A command whose operands the hardware can be sent completes. -/
theorem exec_completes {c : Instr} (h : wellFormed c = true) (s : State) : ∃ t, exec c s = .next t := by
  rcases exec_form c s h with ⟨_, f, hf⟩ | ⟨f, hf⟩ | ⟨f, hf⟩ | ⟨f, hf⟩ | ⟨n, f, hf⟩ <;> exact ⟨_, hf⟩

/-- Operands that no hardware can send are refused: only three commands can have them. -/
theorem exec_illFormed {c : Instr} (h : wellFormed c = false) (s : State) : exec c s = .refused .illFormed := by
  unfold wellFormed at h
  split at h
  case h_1 => exact if_neg (Bool.eq_false_iff.1 h)
  case h_2 => exact if_neg (Bool.eq_false_iff.1 h)
  case h_3 => exact if_neg (Bool.eq_false_iff.1 h)
  case h_4 => cases h

/-- Settles O2: a command that completes goes through the closing work, which puts the queue back. -/
theorem wellFormedCommandsComplete : Obligations.WellFormedCommandsComplete := by
  refine fun c s => ⟨fun h => ?_, fun h => exec_illFormed h s⟩
  obtain ⟨t, ht⟩ := exec_completes h s
  obtain ⟨u, rfl⟩ := exec_leaves c s t ht
  exact ⟨_, ht, leave_pending s u⟩

theorem left_out (u : State) (p : List Instr) : ({ u with pending := p } : State).out = u.out := rfl

/-- The outputs that a command leaves are those of the phase in which it leaves the device. -/
theorem leave_out (s t : State) : (leave s t).out = outputsOf t := (left_out (finish t) s.pending).trans (finish_out t)

/-- PREPARE, with the serial clock of a local encoder pin at rest and bank 1, the bank of that pin, unpowered. -/
def unpoweredEncoders : State := { md := { mode := .prepare, held := false }, pins := { encDrives := [(0, 0)] } }

theorem exec_servoTick_unpoweredEncoders :
    exec .servoTickBoundary unpoweredEncoders = .next (leave unpoweredEncoders unpoweredEncoders) := by
  have idle : NothingDue unpoweredEncoders := ⟨rfl, rfl, rfl, rfl, rfl, rfl, rfl⟩
  rw [exec_servoTick rfl, duesPlan_nothing idle]

/-- Refutes O5: the pins of an unpowered bank are high-impedance (R547), so that in PREPARE with bank 1 off a servo tick leaves no
level on the serial clock of a local encoder pin, where the statement asks for the pin's own level. -/
theorem not_outputsFollowThePhase : ¬ Obligations.OutputsFollowThePhase := by
  intro h
  obtain ⟨_, _, phase⟩ := h _ _ _ exec_servoTick_unpoweredEncoders
  have held : (leave unpoweredEncoders unpoweredEncoders).md.held = false := by rw [leave_md]; rfl
  have mode : (leave unpoweredEncoders unpoweredEncoders).md.mode = .prepare := by rw [leave_md]; rfl
  obtain ⟨_, _, levels, _⟩ := phase held (by rw [mode]; decide)
  rw [leave_out, mode, leave_pins] at levels
  exact absurd levels (by decide)

/-- With no work outstanding an event arrives at once: no delivery of a mailbox stands before it. -/
theorem atArrival_idle {s : State} (h : NothingDue s) : atArrival s = arrive s := by
  have quiet : (s.mbx.boxes.any fun e => e.2.deliverDue.isSome) = false := by
    obtain ⟨-, -, -, -, -, -, hmbx⟩ := h
    simpa using hmbx
  unfold atArrival
  simp only [settle_nothing h, quiet, Bool.false_eq_true, if_false]

/-- An arrival lets some control cycles pass, none while the control clock stands. -/
theorem arrive_passes (s : State) :
    ∃ n : Nat, arrive s = passCycles { s with free := s.free + 1 } n ∧ (clockRuns s = false → n = 0) := by
  cases run : clockRuns s with
  | true => exact ⟨Config.freeCycle s.free % 64 - s.time.cycle, if_pos run, nofun⟩
  | false => exact ⟨0, (if_neg (ne_true_of_eq_false run)).trans (by simp [passCycles]), fun _ => rfl⟩

/-- Settles O6: the closing work is read off field by field, and an arrival lets cycles pass and draws one free value. -/
theorem whatEveryCommandMayChange : Obligations.WhatEveryCommandMayChange := by
  refine ⟨fun s t => by simp only [leave_pending, leave_due, leave_time, leave_line, leave_srcs, leave_objs, leave_gens, leave_frees,
    leave_arms, leave_joints, leave_cchans, leave_cnv, leave_fbchs, leave_buses, leave_profiles, leave_gears, leave_stepIns, leave_grd,
    leave_mbx, leave_md, leave_sec, leave_pins, leave_care, leave_dram, implies_true, and_self], fun s idle => ?_⟩
  obtain ⟨n, hn, stopped⟩ := arrive_passes s
  exact ⟨n, (atArrival_idle idle).trans hn, stopped⟩

theorem unlessHeld_held {s : State} (h : s.md.held = true) (f : State → State) : unlessHeld f s = s := if_pos h

theorem onCore_held {s : State} (h : s.md.held = true) (n : Nat) (f : State → State) : onCore n f s = s := by
  simp [onCore, coreIssues, h]

/-- Settles O7: each form of a command's meaning that is not one of actsWhileHeld asks first whether the device is held; an event from
outside finds it with the clock stopped. -/
theorem heldDeviceTakesNothing : Obligations.HeldDeviceTakesNothing := by
  intro c s hw hacts hheld idle
  have stopped : clockRuns s = false := by simp [clockRuns, hheld]
  rcases exec_form c s hw with ⟨acts, -⟩ | ⟨f, hf⟩ | ⟨f, hf⟩ | ⟨f, hf⟩ | ⟨n, f, hf⟩
  · exact absurd acts (ne_true_of_eq_false hacts)
  · exact .inr (by rw [hf, event, atArrival_stopped idle stopped, unlessHeld_held (s := { s with free := s.free + 1 }) hheld])
  · exact .inl (by rw [hf, unitStep, settle_nothing idle, unlessHeld_held hheld])
  · exact .inl (by rw [hf, dueStep, unlessHeld_held hheld])
  · exact .inl (by rw [hf, dueStep, onCore_held hheld])

end Sys2Proof.Machine
end

section
namespace Sys2Proof.Machine

/-! ### The destruction of a mailbox (R434) -/

section
variable {u : State} {x : Acc} (ho : x.op = 0x0002) (hc : hCls (tgt x.d) = cMBOX) (hm : u.md.mode ≠ .dormant)
  (ht : targetHeld u x = none) (hp : x.d.payload = 0)
include ho hc hm ht hp

/-- A DESTROY of a mailbox is refused for its waiting sends alone: no object refers to a mailbox (R33). -/
theorem immCheck_destroyMailbox :
    immCheck u x = (u.mbx.waits.find? fun w => decide (w.mbox = tIdx x.d)).map fun w => (stBUSY, w.req) := by
  have unreferred : referrer u cMBOX (tIdx x.d) = none := rfl
  have checked : ownCheck u x false = (u.mbx.waits.find? fun w => decide (w.mbox = tIdx x.d)).map fun w => (stBUSY, w.req) := by
    simp only [ownCheck, dormantRefuses, hm, ownRules, ho, destroyCheck, destroyChecks, hp, hc, unreferred]
    cases u.mbx.waits.find? fun w => decide (w.mbox = tIdx x.d) <;> simp [firstRefuse, cMBOX, cARM, cJOINT, cRING]
  unfold immCheck
  rw [ht, checked]
  cases u.mbx.waits.find? fun w => decide (w.mbox = tIdx x.d) <;> simp [takesResources, createClass, ho]

end

/-- Settles O55: the first waiting send, if there is one, is the only thing that can refuse the DESTROY. -/
theorem mailboxDestroy : Obligations.MailboxDestroy := by
  intro u x ho hc hm hh ht hp n
  have check := immCheck_destroyMailbox ho hc hm ht hp
  refine ⟨fun ⟨w, hw, hn⟩ => ?waiting, fun quiet => ?free⟩
  case waiting =>
    obtain ⟨y, hy⟩ := Option.isSome_iff_exists.1 (List.find?_isSome (p := fun w : Waiting => decide (w.mbox = n)).2
      ⟨w, hw, decide_eq_true hn⟩)
    refine ⟨y, List.mem_of_find?_eq_some hy, by simpa using List.find?_some hy, ?_⟩
    exact immEffect_refused (ho ▸ destroy_plain) (by simp [ho]) hh (gatedParts_destroy ho) (by rw [check, hy]; rfl)
  case free =>
    have none_waits : (u.mbx.waits.find? fun w => decide (w.mbox = n)) = none :=
      List.find?_eq_none.2 fun w hw => by simpa using quiet w hw
    have fit : Fit u x := ⟨hh, gatedParts_destroy ho, by rw [check, none_waits]; rfl⟩
    have hcls : hCls (tgt x.d) = 15 := hc
    refine ⟨destroyObj u x.d, immEffect_destroy fit ho (by rw [hc]; decide), ?_, ?_⟩
    · rw [destroyObj, hcls]; rfl
    · rw [destroyObj, hcls]; rfl

/-! ### Tokens (R369) -/

theorem token_plain : PlainOp 0x0C06 := by
  unfold PlainOp
  decide

section
variable {u : State} {x : Acc} (ho : x.op = 0x0C06)
include ho

theorem gatedParts_token : gatedParts u x = [] := by
  simp [gatedParts, ho]

theorem immCheck_token (ht : targetHeld u x = none) : immCheck u x = tokenCheck u x := by
  have own : ownCheck u x false = tokenCheck u x := by simp [ownCheck, dormantRefuses, createClass, ownRules, ho]
  unfold immCheck
  rw [ht, own]
  cases tokenCheck u x <;> simp [takesResources, createClass, ho]

variable (hh : handlesRefuse u x (liveHandle u) = none)
include hh

theorem immEffect_token_refused {st named : Nat} (hk : immCheck u x = some (st, named)) : immEffect u x = complete u x st 0 named :=
  immEffect_refused (ho ▸ token_plain) (by simp [ho]) hh (gatedParts_token ho) hk

theorem immEffect_token_applies (hk : immCheck u x = none) :
    immEffect u x = complete ((addToken u (tIdx x.d) (pf x.d 16 1)).getD u) x stOK 0 0 := by
  have hop : ownApply u x (tIdx x.d) = (addToken u (tIdx x.d) (pf x.d 16 1)).getD u := by simp only [ownApply, ho]
  rw [immEffect_applies ⟨hh, gatedParts_token ho, hk⟩ (ho ▸ token_plain) (by simp [ho]) (by simp [ho]) (by simp [ho]),
    immApply_set (by rw [ho]; rfl) (budgetRefuse_eq_none (by rw [ho]; rfl)), hop, okDetail_eq_zero (by rw [ho]; rfl)]

end

section
variable {s : State} {i p : Nat} {n : Node} (hn : mget s.gsc.nodes i = some n)
include hn

theorem nodeAt_of_mget : nodeAt s i = n := by simp [nodeAt, mgetD, hn]

theorem addToken_room (hr : tokensAt n p + reservedAt n p < n.cap) (hb : bit n.inMask p = true) :
    addToken s i p = some { s with gsc := { s.gsc with nodes := mmod s.gsc.nodes i fun n =>
      { n with tokens := mput n.tokens p (tokensAt n p + 1) } } } := by
  simp [addToken, hn, portRoom, hr, hb, modNode, modGsc]

theorem addToken_full (hf : n.cap ≤ tokensAt n p + reservedAt n p) : addToken s i p = none := by
  simp [addToken, hn, portRoom, Nat.not_lt.mpr hf]

end

/-- The rules of GSC_TOKEN on a node, when no other byte of the payload is set. -/
theorem tokenCheck_eq {u : State} {x : Acc} {n : Node} (hn : mget u.gsc.nodes (tIdx x.d) = some n)
    (hb : onlyBytes x.d [(16, 1)] = true) :
    tokenCheck u x =
      if 3 < pf x.d 16 1 ∨ bit n.inMask (pf x.d 16 1) = false then some rRANGE
      else if n.cap ≤ tokensAt n (pf x.d 16 1) + reservedAt n (pf x.d 16 1) then some (stBUSY, 0) else none := by
  simp [tokenCheck, firstRefuse, nodeAt_of_mget hn, hb, portRoom]

/-- The state of an entry that has fired, without the token. -/
def delayFired (u : State) (k : Nat) : State :=
  { u with gsc := { u.gsc with delays := mmod u.gsc.delays k fun y => { y with entry := none } } }

/-- An entry that fires at a port without room loses its token. -/
theorem fireDelay_lost {u : State} {k : Nat} {y : Delay} {n : Node} (hy : mget u.gsc.delays k = some y)
    (hn : mget u.gsc.nodes y.node = some n) (hf : n.cap ≤ tokensAt n y.port + reservedAt n y.port) :
    let t := raise (bump (delayFired u k) 0x230024) .gscTokenLost (handleOf u cDELAY k) (handleOf u cNODE y.node + y.port * 4294967296) oGSC
    let next := nextKey t y ((y.entry.map fun e => e.key).getD 0) ((y.entry.map fun e => e.full).getD 0)
    fireDelay u k = if y.periodic then delayInsert (bumpBy t 0x230028 next.2) k next.1 else t := by
  have lost : addToken (modGsc u fun g => { g with delays := mmod g.delays k fun y => { y with entry := none } }) y.node y.port = none :=
    addToken_full (s := delayFired u k) hn hf
  simp only [fireDelay, hy, lost]
  rfl

/-- Settles O56: the rules of GSC_TOKEN decide its outcome, and a delay entry without room reports the loss. -/
theorem tokensArrive : Obligations.TokensArrive := by
  intro u x ho hh ht hb i p
  refine ⟨fun n hn => ?token, fun k y n hy hn hf => ?delay⟩
  case token =>
    have check := (immCheck_token ho ht).trans (tokenCheck_eq hn hb)
    have inRange (h3 : p ≤ 3) (hin : bit n.inMask p = true) : ¬(3 < p ∨ bit n.inMask p = false) := by
      simp [Nat.not_lt.mpr h3, hin]
    refine ⟨fun h3 hin room => ?_, fun h3 hin full => ?_, fun out => ?_⟩
    · rw [immEffect_token_applies ho hh ((check.trans (if_neg (inRange h3 hin))).trans (if_neg (Nat.not_le.mpr room))), addToken_room hn room hin]
      rfl
    · exact immEffect_token_refused ho hh ((check.trans (if_neg (inRange h3 hin))).trans (if_pos full))
    · exact immEffect_token_refused ho hh (check.trans (if_pos out))
  case delay =>
    have fires := fireDelay_lost hy hn hf
    exact ⟨fun once => fires.trans (if_neg (ne_true_of_eq_false once)), fun again => fires.trans (if_pos again)⟩

end Sys2Proof.Machine
end

section
namespace Sys2Proof.Machine

/-! ### FLT_ACK (R476) -/

section
variable {u : State} {x : Acc}

theorem immEffect_fltAck (hh : handlesRefuse u x (liveHandle u) = none) (ho : x.op = 0x1100) : immEffect u x = fltAck u x := by
  simp only [immEffect, hh, ho]

theorem fltAck_range (hp : x.d.payload ≠ 0) : fltAck u x = complete u x stRANGE 0 0 := if_pos hp

variable (hp : x.d.payload = 0)
include hp

theorem fltAck_unheld (hw : (regionAt u (tIdx x.d)).warmHeld = false) : fltAck u x = complete u x stMODE 0 0 :=
  (if_neg (not_not.mpr hp)).trans (if_pos hw)

theorem fltAck_releases (hw : (regionAt u (tIdx x.d)).warmHeld = true) :
    fltAck u x = complete (raise (modRegion u (tIdx x.d) fun y => { y with warmHeld := false }) .fltAcked 0 (tIdx x.d) oFLT) x stOK 0 0 :=
  (if_neg (not_not.mpr hp)).trans (if_neg (ne_false_of_eq_true hw))

end

/-! ### FLT_CLEAR (R477) -/

section
variable {u : State} {x : Acc}

theorem immEffect_fltClear (hh : handlesRefuse u x (liveHandle u) = none) (ho : x.op = 0x1101) : immEffect u x = fltClear u x := by
  simp only [immEffect, hh, ho]

theorem fltClear_latched (hb : onlyBytes x.d [(16, 1), (18, 6)] = true) (h1 : pf x.d 16 1 = 1) (h0 : pf x.d 20 4 = 0) :
    fltClear u x = clearLatched u x := by
  simp [fltClear, hb, h1, h0]

theorem fltClear_quarantine (hb : onlyBytes x.d [(16, 1), (18, 6)] = true) (h2 : pf x.d 16 1 = 2) (h0 : pf x.d 18 2 = 0) :
    fltClear u x = if x.req = 32 then clearQuarantine u x else complete u x stDENIED 0 0 := by
  simp [fltClear, hb, h2, h0]

theorem fltClear_warmStart (hb : onlyBytes x.d [(16, 1), (18, 6)] = true) (h3 : pf x.d 16 1 = 3) (h0 : pf x.d 20 4 = 0) :
    fltClear u x =
      if u.md.mode = .dormant ∨ u.md.mode = .prepare then complete u x stMODE 0 0
      else warmStart u { handle := 0, origin := oFLT, acc := some x,
                         regions := (maskList (pf x.d 18 2) 16).filter fun r => decide (regionSt u r ≠ .empty) } := by
  simp [fltClear, hb, h3, h0]

/-- The regions that a descriptor names, with their latched faults gone but for those whose cause still stands. -/
def latchesCleared (u : State) (rs : List Nat) : State :=
  rs.foldl (fun v r => modRegion v r fun y => { y with latched := y.latched.filter fun c => standingSafeOff v r = some c }) u

/-- That state with FLT_CLEARED, when a latched fault has gone. -/
def faultsCleared (u : State) (rs : List Nat) : State :=
  if clearable u rs = [] then latchesCleared u rs
  else raise (latchesCleared u rs) .fltCleared 0 (listMask (clearable u rs) * 4294967296) oFLT

theorem clearLatched_eq {u : State} {x : Acc} {rs : List Nat} (hrs : maskList (pf x.d 18 2) 16 = rs) :
    clearLatched u x =
      match rs.filterMap fun r => (standingSafeOff u r).map fun c => (r, c) with
      | (r, c) :: _ => complete (faultsCleared u rs) x stBUSY 0 (c + r * 65536)
      | [] => complete (faultsCleared u rs) x stOK 0 0 := by
  subst hrs
  rfl

theorem clearLatched_ok {rs : List Nat} (hrs : maskList (pf x.d 18 2) 16 = rs) (h : ∀ r, r ∈ rs → standingSafeOff u r = none) :
    clearLatched u x = complete (faultsCleared u rs) x stOK 0 0 := by
  have none_stands : (rs.filterMap fun r => (standingSafeOff u r).map fun c => (r, c)) = [] :=
    List.filterMap_eq_nil_iff.2 fun r hr => by rw [h r hr]; rfl
  rw [clearLatched_eq hrs, none_stands]

theorem clearLatched_busy {r c : Nat} (hrs : maskList (pf x.d 18 2) 16 = [r]) (h : standingSafeOff u r = some c) :
    clearLatched u x = complete (faultsCleared u [r]) x stBUSY 0 (c + r * 65536) := by
  rw [clearLatched_eq hrs]
  simp only [List.filterMap_cons, h, Option.map_some]

/-- The record that names an origin away. -/
def quarantineGone (u : State) (o : Nat) : State :=
  { u with flt := { u.flt with quarantines := u.flt.quarantines.filter fun y => decide (y.origin ≠ o) } }

theorem clearQuarantine_absent (h : (u.flt.quarantines.find? fun q => decide (q.origin = pf x.d 20 4)) = none) :
    clearQuarantine u x = complete u x stRANGE 0 0 := by
  simp only [clearQuarantine, h]

/-- What a record names returns to service: a supervisor core hosting no region, or a DMA engine (R570). -/
def originServes (t : State) (n kind : Nat) : State :=
  if kind = 1 then
    modSup (deal t ((List.range 16).filter fun r => decide ((regionAt t r).hosted = n))) n fun y => { y with quarantined := false, test := 0 }
  else modWorker t (18 + n) fun w => { w with quarantined := false }

variable {q : Quarantine} (h : (u.flt.quarantines.find? fun q => decide (q.origin = pf x.d 20 4)) = some q)
include h

theorem clearQuarantine_tested (hk : q.kind = 1) (ht : (supAt u (pf x.d 20 4 % 65536)).test = 1) :
    clearQuarantine u x = complete u x stBUSY 0 (det12 0 1) := by
  simp [clearQuarantine, h, hk, ht]

theorem clearQuarantine_failed (hk : q.kind = 1) (ht : (supAt u (pf x.d 20 4 % 65536)).test = 3) :
    clearQuarantine u x = complete u x stBUSY 0 (det12 0 2) := by
  simp [clearQuarantine, h, hk, ht]

theorem clearQuarantine_darn (hk : 3 ≤ q.kind) : clearQuarantine u x = complete u x stBUSY 0 (det12 0 3) := by
  have not_core : q.kind ≠ 1 := by omega
  simp [clearQuarantine, h, not_core, hk]

theorem clearQuarantine_serves (hk : q.kind < 3) (h1 : q.kind = 1 → (supAt u (pf x.d 20 4 % 65536)).test ≠ 1)
    (h3 : q.kind = 1 → (supAt u (pf x.d 20 4 % 65536)).test ≠ 3) :
    clearQuarantine u x = complete (raise (originServes (quarantineGone u (pf x.d 20 4)) (pf x.d 20 4 % 65536) q.kind)
      .fltCleared 0 (pf x.d 20 4) (pf x.d 20 4)) x stOK 0 0 := by
  unfold clearQuarantine
  dsimp only
  rw [h]
  dsimp only
  rw [if_neg (not_and.2 h1), if_neg (not_and.2 h3), if_neg (Nat.not_le.mpr hk)]
  rfl

theorem clearQuarantine_core (hk : q.kind = 1) (h1 : (supAt u (pf x.d 20 4 % 65536)).test ≠ 1)
    (h3 : (supAt u (pf x.d 20 4 % 65536)).test ≠ 3) :
    let t := quarantineGone u (pf x.d 20 4)
    let v := deal t ((List.range 16).filter fun r => decide ((regionAt t r).hosted = pf x.d 20 4 % 65536))
    clearQuarantine u x = complete (raise (modSup v (pf x.d 20 4 % 65536) fun y => { y with quarantined := false, test := 0 })
      .fltCleared 0 (pf x.d 20 4) (pf x.d 20 4)) x stOK 0 0 := by
  intro t v
  rw [clearQuarantine_serves h (by omega) (fun _ => h1) (fun _ => h3), originServes, if_pos hk]

theorem clearQuarantine_engine (hk : q.kind = 2) :
    clearQuarantine u x = complete (raise (modWorker (quarantineGone u (pf x.d 20 4)) (18 + pf x.d 20 4 % 65536)
      fun w => { w with quarantined := false }) .fltCleared 0 (pf x.d 20 4) (pf x.d 20 4)) x stOK 0 0 := by
  have not_core : q.kind ≠ 1 := by omega
  rw [clearQuarantine_serves h (by omega) (absurd · not_core) (absurd · not_core), originServes, if_neg not_core]

end

/-- Settles O59: FLT_ACK by its region, and FLT_CLEAR by its ACTION. -/
theorem faultClears : Obligations.FaultClears := by
  intro u x hh d r
  refine ⟨fun ho => ?ack, fun ho hb => ⟨fun h1 h0 => ?latched, fun h2 h0 => ?quarantine, fun h3 h0 => ?warm⟩⟩
  case ack =>
    rw [immEffect_fltAck hh ho]
    exact ⟨fltAck_range, fltAck_unheld, fltAck_releases⟩
  case latched =>
    intro rs t v
    rw [immEffect_fltClear hh ho, fltClear_latched hb h1 h0]
    refine ⟨fun none_stands => clearLatched_ok rfl none_stands, fun r c hrs stands => ?_⟩
    have busy := clearLatched_busy hrs stands
    rwa [← hrs] at busy
  case quarantine =>
    intro o n found
    have clears := (immEffect_fltClear hh ho).trans (fltClear_quarantine hb h2 h0)
    refine ⟨fun hr => clears.trans (if_neg hr), fun hr hf => ?_, fun q hr hf => ?_⟩
    all_goals rw [clears, if_pos hr]
    · exact clearQuarantine_absent hf
    · exact ⟨clearQuarantine_tested hf, clearQuarantine_failed hf, clearQuarantine_darn hf, clearQuarantine_core hf,
        clearQuarantine_engine hf⟩
  case warm =>
    have clears := (immEffect_fltClear hh ho).trans (fltClear_warmStart hb h3 h0)
    exact ⟨fun hm => clears.trans (if_pos hm), fun hd hp => clears.trans (if_neg (not_or.2 ⟨hd, hp⟩))⟩

end Sys2Proof.Machine
end

section
namespace Sys2Proof.Machine

/-! ### Boot (R503, R504) -/

section
variable {s : State} {ok : Bool} {c us : Nat} {b : BootFacts}

/-- After a failure no report of a stage changes anything. -/
theorem bootStage_failed (h : s.md.fail ≠ 0) : bootStage s ok c us b = s := if_pos (.inr (.inr h))

variable (held : s.md.held = false) (mode : s.md.mode = .boot) (sound : s.md.fail = 0)
include held mode sound

/-- A sound boot takes the report of the stage in which it is. -/
theorem bootStage_awake : ¬(s.md.held ∨ s.md.mode ≠ .boot ∨ s.md.fail ≠ 0) := by simp [held, mode, sound]

theorem bootStage_next (stage : s.md.stage = 1 ∨ s.md.stage = 4) : bootStage s true c us b = bootNext s := by
  unfold bootStage
  rw [if_neg (bootStage_awake held mode sound)]
  rcases stage with h | h <;> rw [h] <;> rfl

theorem bootStage_ranges (stage : s.md.stage = 2) :
    bootStage s true c us b = bootNext (modSec s fun x => { x with rangeA := b.rangeA, rangeB := b.rangeB }) := by
  unfold bootStage
  rw [if_neg (bootStage_awake held mode sound), stage]
  rfl

theorem bootStage_fails {lo : Nat} (stage : (s.md.stage, lo) ∈ [(1, 1), (2, 3), (4, 7)]) :
    bootStage s false c us b = bootFail s (if c = lo + 1 then lo + 1 else lo) := by
  unfold bootStage
  rw [if_neg (bootStage_awake held mode sound)]
  simp only [List.mem_cons, Prod.mk.injEq, List.not_mem_nil, or_false] at stage
  rcases stage with ⟨h, rfl⟩ | ⟨h, rfl⟩ | ⟨h, rfl⟩ <;> rw [h] <;> rfl

theorem bootStage_lastFails (stage : s.md.stage = 6) : bootStage s false c us b = bootFail s 9 := by
  unfold bootStage
  rw [if_neg (bootStage_awake held mode sound), stage]
  rfl

end

/-! ### The recovery image (R506) -/

theorem rcvGo_starts {s : State} {req : Nat} (hr : req = 32) (mode : s.md.mode = .boot) (failed : s.md.fail ≠ 0)
    (stage : s.md.stage = 2 ∨ s.md.stage = 3) : rcvGo s req = { s with md := { s.md with rcvBusy := true } } :=
  if_pos ⟨hr, mode, failed, stage⟩

theorem rcvGo_refused {s : State} {req : Nat} (h : req ≠ 32 ∨ s.md.fail = 0) : rcvGo s req = s :=
  if_neg fun ⟨hr, _, failed, _⟩ => h.elim (· hr) failed

section
variable {s : State} {img : List Byte} (busy : s.md.rcvBusy = true)
include busy

/-- An image that has come: its length is judged before its envelope. -/
theorem rcvDone_judges {u : State} (hu : u = { s with md := { s.md with rcvBusy := false } }) :
    rcvDone s img =
      (let cause := if img.length = reg s 0x10030 then envelopeCheck u 1 img else 1
       if cause = 0 then modMd (runImage u img) fun x => { x with stage := 4, fail := 0, recovery := true }
       else modMd (rejectImage u 1 cause) fun x => { x with fail := 5 }) := by
  subst hu
  exact if_neg (ne_false_of_eq_true busy)

theorem rcvDone_continues {u : State} (hu : u = { s with md := { s.md with rcvBusy := false } }) (len : img.length = reg s 0x10030)
    (good : envelopeCheck u 1 img = 0) :
    rcvDone s img = modMd (runImage u img) fun x => { x with stage := 4, fail := 0, recovery := true } := by
  rw [rcvDone_judges busy hu, if_pos len]
  exact if_pos good

theorem rcvDone_rejects {u : State} (hu : u = { s with md := { s.md with rcvBusy := false } })
    (bad : img.length ≠ reg s 0x10030 ∨ envelopeCheck u 1 img ≠ 0) :
    rcvDone s img =
      modMd (rejectImage u 1 (if img.length = reg s 0x10030 then envelopeCheck u 1 img else 1)) fun x => { x with fail := 5 } := by
  rw [rcvDone_judges busy hu]
  refine if_neg ?_
  split
  case isTrue len => exact bad.resolve_left (not_not.mpr len)
  case isFalse => decide

end

/-- A failure keeps the report's cause, or the first of its stage for a cause that is not one of them. -/
theorem failCause_cases (c lo : Nat) : (if c = lo + 1 then lo + 1 else lo) = lo ∨ (if c = lo + 1 then lo + 1 else lo) = lo + 1 := by
  split <;> simp

/-- Settles O18: each report is one step of boot's stage, and the recovery image is judged by its length and its envelope. -/
theorem bootStages : Obligations.BootStages := by
  intro s a hfind mode
  have held := hfind.2
  refine ⟨fun ok c us b => ?stage, fun req hreach => ?go, fun img busy => ?image⟩
  case stage =>
    have reported {t : State} (h : bootStage a ok c us.toNat b = t) : exec (.bootStageDone ok c us b) s = .next (leave s t) :=
      (event_finds hfind (bootStage · ok c us.toNat b)).trans (by rw [h])
    refine ⟨fun failed => reported (bootStage_failed failed), fun sound hok stage => ?next, fun sound hok stage => ?ranges,
      fun sound hok stage => ?fails⟩
    all_goals subst hok
    case next => exact reported (bootStage_next held mode sound stage)
    case ranges => exact reported ((bootStage_ranges held mode sound stage).trans (by rw [bootNext, modMd, modSec, stage]))
    case fails =>
      have cause := failCause_cases c
      rcases stage with h | h | h | h
      · exact ⟨_, reported (bootStage_fails (lo := 1) held mode sound (by simp [h])), fun _ => cause 1, by simp [h], by simp [h], by simp [h]⟩
      · exact ⟨_, reported (bootStage_fails (lo := 3) held mode sound (by simp [h])), by simp [h], fun _ => cause 3, by simp [h], by simp [h]⟩
      · exact ⟨_, reported (bootStage_fails (lo := 7) held mode sound (by simp [h])), by simp [h], by simp [h], fun _ => cause 7, by simp [h]⟩
      · exact ⟨_, reported (bootStage_lastFails held mode sound h), by simp [h], by simp [h], by simp [h], fun _ => rfl⟩
  case go =>
    have asked {t : State} (h : rcvGo a req = t) : exec (.modRcvGo req) s = .next (leave s t) :=
      (event_findsReg ⟨hfind, hreach⟩ (rcvGo · req)).trans (by rw [h])
    exact ⟨fun hr failed stage => asked (rcvGo_starts hr mode failed stage), fun h => asked (rcvGo_refused h)⟩
  case image =>
    intro b
    have came {t : State} (h : rcvDone a img = t) : exec (.recoveryImageDone img) s = .next (leave s t) :=
      (event_finds hfind (rcvDone · img)).trans (by rw [h])
    exact ⟨fun len good => came (rcvDone_continues busy rfl len good), fun bad => came (rcvDone_rejects busy rfl bad)⟩

end Sys2Proof.Machine
end

section
namespace Sys2Proof.Machine

/-! ### The host watchdog (R511) -/

theorem hostwdWrite_foreign {s : State} {req v : Nat} (hr : req ≠ 32) : hostwdWrite s req v = s := if_pos (.inl hr)

theorem hostwdWrite_stops {s : State} {req v : Nat} (hr : req = 32) (h0 : v % 65536 = 0) :
    hostwdWrite s req v = { setReg s 0x10018 0 with md := { s.md with hostwd := none, expired := false } } := by
  unfold hostwdWrite
  dsimp only
  rw [if_neg (by simp [hr, h0]), h0]
  rfl

theorem hostwdWrite_restarts {s : State} {req v : Nat} (hr : req = 32) (lo : 10 ≤ v % 65536) (hi : v % 65536 ≤ 60000) :
    hostwdWrite s req v =
      { setReg s 0x10018 (v % 65536) with md := { s.md with hostwd := some s.time.elapsed, expired := false } } := by
  have accepted : ¬(req ≠ 32 ∨ (v % 65536 ≠ 0 ∧ (v % 65536 < 10 ∨ 60000 < v % 65536))) := by omega
  have runs : v % 65536 ≠ 0 := by omega
  unfold hostwdWrite
  dsimp only
  rw [if_neg accepted, modMd, if_neg runs]
  rfl

theorem hostwdKick_restarts {s : State} {req : Nat} (hr : req = 32) (runs : s.md.hostwd ≠ none) :
    hostwdKick s req = { s with md := { s.md with hostwd := some s.time.elapsed, expired := false } } :=
  if_neg (not_or.2 ⟨not_not.2 hr, runs⟩)

theorem hostwdKick_foreign {s : State} {req : Nat} (hr : req ≠ 32) : hostwdKick s req = s := if_pos (.inl hr)

section
variable {s : State} {t : Nat} (ht : s.md.hostwd = some t) (first : s.md.expired = false)
  (late : t + bits (reg s 0x10018) 0 16 * msU ≤ s.time.elapsed)
include ht first late

/-- The watchdog's TIMEOUT has passed since its last restart. -/
theorem hostwdExpiry_due :
    hostwdExpiry s =
      let b := { s with md := { s.md with expired := true } }
      if motionMode s.md.mode then hostLost b else b := by
  unfold hostwdExpiry
  rw [ht]
  exact if_pos ⟨late, first⟩

theorem hostwdExpiry_motion (motion : s.md.mode = .run ∨ s.md.mode = .hold ∨ s.md.mode = .service) :
    hostwdExpiry s =
      raise { s with md := { s.md with expired := true } } .modHostLost 0 (bits (reg s 0x10018) 0 16) oMOD := by
  have moves : motionMode s.md.mode = true := by rcases motion with h | h | h <;> simp [motionMode, h]
  exact (hostwdExpiry_due ht first late).trans (if_pos moves)

theorem hostwdExpiry_elsewhere (run : s.md.mode ≠ .run) (hold : s.md.mode ≠ .hold) (service : s.md.mode ≠ .service) :
    hostwdExpiry s = { s with md := { s.md with expired := true } } :=
  (hostwdExpiry_due ht first late).trans (if_neg (by simp [motionMode, run, hold, service]))

end

/-! ### Temperature (R510, R540, R562) -/

/-- Firmware moves the core rail by a free step of at most 10 mV, within its range. -/
theorem vcoreStep_bounded (s : State) :
    ∃ k : Nat, 700 ≤ k ∧ k ≤ 800 ∧
      (700 ≤ s.pins.vcoreSet → s.pins.vcoreSet ≤ 800 → k ≤ s.pins.vcoreSet + 10 ∧ s.pins.vcoreSet ≤ k + 10) ∧
      vcoreStep s = { s with free := s.free + 1, pins := { s.pins with vcoreSet := k } } := by
  refine ⟨_, ?_, ?_, fun lo hi => ?_, rfl⟩
  · exact Nat.le_max_left _ _
  · exact Nat.max_le.2 ⟨by decide, Nat.min_le_left _ _⟩
  · have step := Nat.mod_lt (Config.freeNat s.free) (show 0 < 21 by decide)
    have set : (if s.pins.vcoreSet = 0 then 750 else s.pins.vcoreSet) = s.pins.vcoreSet := if_neg (by omega)
    simp only [set, Nat.max_def, Nat.min_def]
    generalize Config.freeNat s.free % 21 = f at step
    split <;> split <;> omega

/-- The readings of the junction temperature: the state that a reading leaves after firmware's step of the core rail. -/
def tempRead (u : State) (v : Int) (hot : Bool) (n : Nat) : State :=
  { u with pins := { u.pins with tj := v, hot := hot, hotCount := n } }

section
variable {s u : State} {t : Nat} (hu : vcoreStep s = u)
include hu

/-- What a reading reports: the first one above 110 °C, and the second in a row above 120 °C. -/
theorem temperature_eq :
    temperature s t =
      (let v := sx 16 t
       let n := if 120 * 256 < v then u.pins.hotCount + 1 else 0
       let w := tempRead u v (if 110 * 256 < v then true else if v < 105 * 256 then false else u.pins.hot) n
       let w := if 110 * 256 < v ∧ u.pins.hot = false then raise w .modThermal 0 (t % 65536) oMOD else w
       if n = 2 then raise w .fltFatal 0 4 oFLT else w) := by
  subst hu
  rfl

theorem temperature_mild (warm : 105 * 256 ≤ sx 16 t) (mild : sx 16 t ≤ 110 * 256) (cold : u.pins.hotCount = 0) :
    temperature s t = { u with pins := { u.pins with tj := sx 16 t } } := by
  have h120 : ¬(120 * 256 < sx 16 t) := by omega
  rw [temperature_eq hu]
  simp only [Int.not_lt.mpr mild, h120, Int.not_lt.mpr warm, if_false, false_and, tempRead, ← cold]
  exact if_neg (by simp [cold])

theorem temperature_hot (hot : 110 * 256 < sx 16 t) (below : sx 16 t ≤ 120 * 256) (first : u.pins.hot = false) (ht : t < 65536) :
    temperature s t = raise (tempRead u (sx 16 t) true 0) .modThermal 0 t oMOD := by
  rw [temperature_eq hu]
  simp only [hot, Int.not_lt.mpr below, first, if_true, if_false, true_and, Nat.mod_eq_of_lt ht]
  rfl

theorem temperature_fatal (above : 120 * 256 < sx 16 t) (was : u.pins.hot = true) (again : u.pins.hotCount = 1) :
    temperature s t = raise (tempRead u (sx 16 t) true 2) .fltFatal 0 4 oFLT := by
  have hot : 110 * 256 < sx 16 t := by omega
  rw [temperature_eq hu]
  simp only [hot, above, was, again, if_true, true_and, Bool.true_eq_false, if_false]

end

/-! ### Supplies, SYSREF and power (R480, R499, R538, R545) -/

/-- The core rail's reading is kept (R545). -/
def railRead (s : State) (r mv : Nat) : State := { s with pins := { s.pins with vcore := if r = 0 then mv else s.pins.vcore } }

/-- A reading of a rail is judged by its range. -/
theorem supplyReading_eq {s : State} {r : Nat} {more : Bool} {mv lo hi : Nat} (hr : railRange s r = (lo, hi)) :
    supplyReading s r more mv =
      if mv < lo ∨ hi < mv ∨ (mv = hi ∧ more = true) then raise (railRead s r mv) .modSupply 0 r oMOD else railRead s r mv := by
  have read : (if r = 0 then modPins s fun p => { p with vcore := mv } else s) = railRead s r mv := by
    unfold railRead
    split <;> rfl
  unfold supplyReading
  rw [hr]
  dsimp only
  rw [read]

/-- The recommended range of a rail, written out. -/
theorem railRange_eq (s : State) (r : Nat) :
    railRange s r =
      let set := if s.pins.vcoreSet = 0 then 750 else s.pins.vcoreSet
      if r = 0 then (set - 20, set + 20) else if r = 1 then (1710, 1890) else if r = 2 then (810, 890)
        else if r = 3 then (1140, 1260) else (1650, 3630) := by
  unfold railRange
  dsimp only
  split <;> simp_all

theorem sysrefLoss_first {s : State} (h : s.pins.sysref = true) :
    sysrefLoss s = raise { s with pins := { s.pins with sysref := false } } .fltFatal 0 3 oFLT := if_pos h

theorem p0Restored_wakes {s : State} (h : s.md.waking ≠ []) : p0Restored s = { s with md := { s.md with wakeDue := true } } := if_neg h

/-- Settles O19: the watchdog's three commands, then one lemma for each reading. -/
theorem watchdogAndSupplies : Obligations.WatchdogAndSupplies := by
  refine ⟨fun s a hfind => ⟨fun req w hreach => ?write, fun req hreach => ?kick, fun t ht first late => ?expiry⟩,
    fun s a hfind => ⟨fun t => ?temperature, fun r more mv lo hi => ?supply, fun on => ?sysref, fun waking => ?restored, ?wake⟩⟩
  case write =>
    intro t
    have written {u : State} (h : hostwdWrite a req w.toNat = u) : exec (.modHostwdWrite req w) s = .next (leave s u) :=
      (event_findsReg ⟨hfind, hreach⟩ (hostwdWrite · req w.toNat)).trans (by rw [h])
    exact ⟨fun hr => written (hostwdWrite_foreign hr), fun hr h0 => written (hostwdWrite_stops hr h0),
      fun hr lo hi => written (hostwdWrite_restarts hr lo hi)⟩
  case kick =>
    have kicked {u : State} (h : hostwdKick a req = u) : exec (.modHostwdKick req) s = .next (leave s u) :=
      (event_findsReg ⟨hfind, hreach⟩ (hostwdKick · req)).trans (by rw [h])
    exact ⟨fun hr runs => kicked (hostwdKick_restarts hr runs), fun hr => kicked (hostwdKick_foreign hr)⟩
  case expiry =>
    have expires {u : State} (h : hostwdExpiry a = u) : exec .hostWatchdogExpiry s = .next (leave s u) :=
      (event_finds hfind hostwdExpiry).trans (by rw [h])
    exact ⟨fun motion => expires (hostwdExpiry_motion ht first late motion),
      fun run hold service => expires (hostwdExpiry_elsewhere ht first late run hold service)⟩
  case temperature =>
    intro v old gives
    obtain ⟨k, lo, hi, near, hk⟩ := vcoreStep_bounded a
    have read {u : State} (h : temperature a t.toNat = u) : exec (.temperatureReading t) s = .next (leave s u) :=
      (event_finds hfind (temperature · t.toNat)).trans (by rw [h])
    exact ⟨fun mild warm cold => ⟨k, lo, hi, near, read (temperature_mild hk warm mild cold)⟩,
      fun hot below first => ⟨k, lo, hi, near, read (temperature_hot hk hot below first t.isLt)⟩,
      fun above was again => ⟨k, lo, hi, near, read (temperature_fatal hk above was again)⟩⟩
  case supply =>
    intro set range b
    have in_range : railRange a r = (lo, hi) := by
      rw [railRange_eq, range]
      simp only [Fin.ext_iff]
      rfl
    have same_rail : railRead a r mv.toNat = b := by simp only [railRead, b, Fin.ext_iff]; rfl
    have read {u : State} (h : supplyReading a r more mv.toNat = u) : exec (.supplyReading r more mv) s = .next (leave s u) :=
      (event_finds hfind (supplyReading · r more mv.toNat)).trans (by rw [h])
    refine ⟨fun out => read ?_, fun above below => read ?_⟩
    · rw [supplyReading_eq in_range, if_pos out, same_rail]
    · have within : ¬(mv.toNat < lo ∨ hi < mv.toNat ∨ (mv.toNat = hi ∧ more = true)) := by
        rcases below with lt | ⟨eq, whole⟩
        · omega
        · simp [whole, eq ▸ above, eq]
      rw [supplyReading_eq in_range, if_neg within, same_rail]
  case sysref => exact (event_finds hfind sysrefLoss).trans (by rw [sysrefLoss_first on])
  case restored => exact (event_finds hfind p0Restored).trans (by rw [p0Restored_wakes waking])
  case wake => exact event_finds hfind partWake

end Sys2Proof.Machine
end

section
namespace Sys2Proof.Machine

/-! ### The records of the DIN pins -/

/-- A pin's record replaced. -/
def putDin (s : State) (n : Nat) (d : Din) : State := { s with pins := { s.pins with dins := mput s.pins.dins n d } }

theorem modDin_eq (s : State) (n : Nat) (f : Din → Din) : modDin s n f = putDin s n (f (dinAt s n)) := rfl

@[simp] theorem dinAt_putDin (s : State) (n : Nat) (d : Din) : dinAt (putDin s n d) n = d := mgetD_mput_self ..

@[simp] theorem putDin_putDin (s : State) (n : Nat) (d e : Din) : putDin (putDin s n d) n e = putDin s n e := by
  simp [putDin]

@[simp] theorem putDin_time (s : State) (n : Nat) (d : Din) : (putDin s n d).time = s.time := rfl

@[simp] theorem dinCfg_putDin (s : State) (n m : Nat) (d : Din) : dinCfg (putDin s n d) m = dinCfg s m := rfl

/-! ### The stages of a pin (R551) -/

/-- A pin's level after INVERT, its bank powered. -/
theorem dinIn_powered {s : State} {n : Nat} (on : bankOn s (dinBank n) = true) (v : Bool) :
    dinIn s n v = (v != bit (dinCfg s n) 18) := by
  simp [dinIn, on]

theorem dinRawSet_same {s : State} {n : Nat} {raw : Bool} (h : (dinAt s n).raw = raw) (ts : Nat) : dinRawSet s n raw ts = s := if_pos h

/-- A new raw level: without a debounce window it is the filtered level at once, with one the window restarts. -/
theorem dinRawSet_changes {s : State} {n : Nat} {raw : Bool} (h : (dinAt s n).raw ≠ raw) (ts : Nat) :
    dinRawSet s n raw ts =
      let win := bits (dinCfg s n) 8 10
      homeDinChange (putDin s n { dinAt s n with
        raw := raw, rawTs := ts, level := if win = 0 then raw else (dinAt s n).level,
        ends := if win = 0 then none else some (s.time.elapsed + win * 10 * usU) }) n := if_neg h

/-- A level that the glitch filter passes is the pin's level, and may change the raw one. -/
theorem dinChange_passes {s : State} {n : Nat} (held : s.md.held = false) (on : bankOn s (dinBank n) = true) (v : Bool) :
    dinChange s n v =
      dinRawSet (putDin s n { dinAt s n with pin := v }) n (v != bit (dinCfg s n) 18)
        (un 32 (floorDiv (s.time.ptp - bits (dinCfg s n) 0 8 * cycleU s) nsU)) := by
  have passes : ¬(((putDin s n { dinAt s n with pin := v }).md.held || !(bankOn (putDin s n { dinAt s n with pin := v }) (dinBank n))) = true) := by
    have on' : bankOn (putDin s n { dinAt s n with pin := v }) (dinBank n) = true := on
    have held' : (putDin s n { dinAt s n with pin := v }).md.held = false := held
    simp [held', on']
  unfold dinChange
  rw [modDin_eq, if_neg passes, dinIn_powered (s := putDin s n { dinAt s n with pin := v }) on]
  rfl

section
variable {s : State} {n : Nat} {v raw : Bool} {ts : Nat} (held : s.md.held = false) (on : bankOn s (dinBank n) = true)
  (hraw : (v != bit (dinCfg s n) 18) = raw)
  (hts : un 32 (floorDiv (s.time.ptp - bits (dinCfg s n) 0 8 * cycleU s) nsU) = ts)
include held on hraw hts

theorem dinChange_keepsRaw (h : (dinAt s n).raw = raw) : dinChange s n v = putDin s n { dinAt s n with pin := v } := by
  rw [dinChange_passes held on, hraw, hts, dinRawSet_same (by rw [dinAt_putDin]; exact h)]

theorem dinChange_undebounced (h : (dinAt s n).raw ≠ raw) (win : bits (dinCfg s n) 8 10 = 0) :
    dinChange s n v = homeDinChange (putDin s n { dinAt s n with pin := v, raw := raw, rawTs := ts, level := raw, ends := none }) n := by
  rw [dinChange_passes held on, hraw, hts, dinRawSet_changes (by rw [dinAt_putDin]; exact h)]
  simp only [dinCfg_putDin, win, dinAt_putDin, putDin_putDin, if_true]

theorem dinChange_debounced (h : (dinAt s n).raw ≠ raw) (win : bits (dinCfg s n) 8 10 ≠ 0) :
    dinChange s n v = homeDinChange (putDin s n { dinAt s n with
      pin := v, raw := raw, rawTs := ts, ends := some (s.time.elapsed + bits (dinCfg s n) 8 10 * 10 * usU) }) n := by
  rw [dinChange_passes held on, hraw, hts, dinRawSet_changes (by rw [dinAt_putDin]; exact h)]
  simp only [dinCfg_putDin, win, dinAt_putDin, putDin_putDin, putDin_time, if_false]

end

theorem dinExpiry_ends {s : State} {n t : Nat} (h : (dinAt s n).ends = some t) (late : t ≤ s.time.elapsed) :
    dinExpiry s n = putDin s n { dinAt s n with level := (dinAt s n).raw, ends := none } := by
  simp only [dinExpiry, h, if_pos late]
  rfl

theorem dinExpiry_idle {s : State} {n : Nat} (h : (dinAt s n).ends = none) : dinExpiry s n = s := by
  simp only [dinExpiry, h]

/-! ### The configuration of a pin's filters (R551, R564) -/

theorem dinCfgWrite_refused {s : State} {req n w : Nat} (h : req ≠ 32 ∨ 1000 < bits w 8 10) : dinCfgWrite s req n w = s := if_pos h

/-- The bits of MOD_DIN_CFGn that a write stores hold its INVERT. -/
theorem bit_stored_invert (w : Nat) : bit (w % 524288 % 4294967296) 18 = bit w 18 := by
  simp only [bit, Nat.testBit_eq_decide_div_mod_eq]
  congr 2
  omega

/-- A configuration that is taken: its stages restart when their times or their kind change, else the raw level follows INVERT. -/
theorem dinCfgWrite_taken {s b : State} {req n w : Nat} (hr : req = 32) (hw : bits w 8 10 ≤ 1000)
    (hb : setReg s (0x11100 + 4 * n) (w % 524288) = b) :
    dinCfgWrite s req n w =
      if w % 262144 ≠ dinCfg s n % 262144 then dinStart b n else dinRawSet b n (dinIn b n (dinAt b n).pin) (wall32 b) := by
  subst hb
  exact if_neg (not_or.2 ⟨not_not.2 hr, Nat.not_lt.mpr hw⟩)

theorem dinIn_stored {s b : State} {n w : Nat} (hb : setReg s (0x11100 + 4 * n) (w % 524288) = b) (v : Bool) :
    dinIn b n v = (bankOn s (dinBank n) && (v != bit w 18)) := by
  subst hb
  rw [dinIn, dinCfg, reg_setReg_self, bit_stored_invert]
  rfl

theorem dinStart_eq {s : State} {n : Nat} {raw : Bool} (h : dinIn s n (dinAt s n).pin = raw) :
    dinStart s n =
      let c := putDin s n { dinAt s n with raw := raw, rawTs := wall32 s, level := raw, ends := none }
      if (dinAt s n).raw = raw then c else homeDinChange c n := by
  subst h
  rfl

/-- Settles O15: a change, the end of a window and a configuration, each by the raw level that it gives the pin. -/
theorem dinStages : Obligations.DinStages := by
  intro s a n put d win
  refine ⟨fun v hfind held on => ?change, fun hfind => ⟨fun t ht late => ?ends, fun ht => ?idle⟩, fun req w hfind => ⟨fun h => ?refused, ?taken⟩⟩
  case change =>
    intro raw ts
    have changes {u : State} (h : dinChange a n v = u) : exec (.dinChange n v) s = .next (leave s u) :=
      (event_findsOn hfind (dinChange · n v)).trans (by rw [h])
    exact ⟨fun h => changes (dinChange_keepsRaw held on rfl rfl h), fun h h0 => changes (dinChange_undebounced held on rfl rfl h h0),
      fun h h0 => changes (dinChange_debounced held on rfl rfl h h0)⟩
  case ends => exact (event_finds hfind (dinExpiry · n)).trans (by rw [dinExpiry_ends ht late]; rfl)
  case idle => exact (event_finds hfind (dinExpiry · n)).trans (by rw [dinExpiry_idle ht])
  case refused => exact (event_findsReg hfind (dinCfgWrite · req n w.toNat)).trans (by rw [dinCfgWrite_refused h])
  case taken =>
    intro hr hw b raw e c
    have writes {u : State} (h : dinCfgWrite a req n w.toNat = u) : exec (.dinCfgWrite req n w) s = .next (leave s u) :=
      (event_findsReg hfind (dinCfgWrite · req n w.toNat)).trans (by rw [h])
    have level : dinIn b n (dinAt b n).pin = raw := dinIn_stored rfl _
    refine ⟨fun changed => writes ?_, fun kept same => writes ?_⟩
    · exact (dinCfgWrite_taken hr hw rfl).trans ((if_pos changed).trans (dinStart_eq level))
    · exact (dinCfgWrite_taken hr hw rfl).trans ((if_neg (not_not.mpr kept)).trans (by rw [level]; exact dinRawSet_same (s := b) same _))

end Sys2Proof.Machine
end

section
namespace Sys2Proof.Machine

/-! ### The DIN pins when nothing follows them -/

/-- The records of the DIN pins replaced. -/
def withDins (s : State) (ds : Map Din) : State := { s with pins := { s.pins with dins := ds } }

theorem putDin_eq (s : State) (n : Nat) (d : Din) : putDin s n d = withDins s (mput s.pins.dins n d) := rfl

/-- Without profiles no homing sequence sees a pin. -/
theorem homeDinChange_unfollowed {s : State} (h : s.profiles = []) (n : Nat) : homeDinChange s n = s := by
  simp [homeDinChange, h, mkeys]

/-- Without profiles the start of a pin's stages changes its record alone. -/
theorem dinStart_unfollowed {s : State} (h : s.profiles = []) (n : Nat) : ∃ ds, dinStart s n = withDins s ds := by
  rw [dinStart_eq rfl]
  dsimp only
  split
  · exact ⟨_, putDin_eq ..⟩
  · exact ⟨_, (homeDinChange_unfollowed (s := putDin ..) h n).trans (putDin_eq ..)⟩

theorem foldl_dinStart_unfollowed (l : List Nat) :
    ∀ {s : State}, s.profiles = [] → ∃ ds, l.foldl dinStart s = withDins s ds := by
  induction l with
  | nil => exact fun {s} _ => ⟨s.pins.dins, rfl⟩
  | cons n l ih =>
    intro s h
    obtain ⟨ds, hds⟩ := dinStart_unfollowed h n
    obtain ⟨es, hes⟩ := ih (s := withDins s ds) h
    exact ⟨es, by rw [List.foldl_cons, hds, hes]; rfl⟩

/-! ### Cold resets (R507, R508) -/

/-- What every cold reset leaves of a state: boot at stage 1 with nothing but the ledger, the page remap table, the boot flash and
what the fuses hold. -/
def ColdFrom (a t : State) : Prop :=
  t.md.mode = .boot ∧ t.md.stage = 1 ∧ t.objs = [] ∧ t.gens = [] ∧ t.frees = [] ∧ t.regions = [] ∧ t.presses = [] ∧ t.regs = [] ∧
  t.time = {} ∧ t.line = {} ∧ t.host.rings = [] ∧ t.host.busMaster = [] ∧ t.flt = {} ∧ t.mem.dram = [] ∧ t.arms = [] ∧ t.joints = [] ∧
  t.profiles = [] ∧ t.hlt.ledger = a.hlt.ledger ∧ t.mem.remap = a.mem.remap ∧ t.sec.flashA = a.sec.flashA ∧
  t.sec.flashB = a.sec.flashB ∧ t.sec.lifecycle = a.sec.fused ∧ t.sec.sessions = []

theorem coldReset_cold (s : State) (cause : Nat) (off : Bool) : ColdFrom s (coldReset s cause off) :=
  ⟨rfl, rfl, rfl, rfl, rfl, rfl, rfl, rfl, rfl, rfl, rfl, rfl, rfl, rfl, rfl, rfl, rfl, rfl, rfl, rfl, rfl, rfl, rfl⟩

/-- The end of a cold reset takes the device out of it and starts the stages of the DIN pins. -/
theorem releaseReset_unfollowed {s : State} (h : s.profiles = []) :
    ∃ ds, releaseReset s =
      withDins { s with md := { s.md with held := false }, host := { s.host with linkUp := !s.host.perst } } ds :=
  foldl_dinStart_unfollowed (List.range 64) h

/-- A cold reset whose sources have ended, or which RESET_N goes on holding. -/
theorem coldStart_cold (s : State) (cause : Nat) :
    ColdFrom s (coldStart s cause) ∧ (coldStart s cause).md.resetCause = cause ∧ (coldStart s cause).md.off = false ∧
      (coldStart s cause).md.held = s.sec.resetHeld ∧ (coldStart s cause).pins.banks = s.pins.banks := by
  have cold := coldReset_cold s cause false
  cases hheld : s.sec.resetHeld with
  | true =>
    have held : (coldReset s cause false).md.held = true := hheld
    rw [show coldStart s cause = coldReset s cause false from if_pos held]
    exact ⟨cold, rfl, rfl, held, rfl⟩
  | false =>
    have free : ¬(coldReset s cause false).md.held = true := ne_true_of_eq_false hheld
    obtain ⟨ds, hds⟩ := releaseReset_unfollowed (s := coldReset s cause false) rfl
    rw [show coldStart s cause = releaseReset (coldReset s cause false) from if_neg free, hds]
    exact ⟨cold, rfl, rfl, rfl, rfl⟩

theorem powerOn_cold (a : State) (banks levels : Nat) :
    ColdFrom a (powerOn a banks levels) ∧ (powerOn a banks levels).md.resetCause = 1 ∧ (powerOn a banks levels).md.off = false ∧
      (powerOn a banks levels).md.held = a.sec.resetHeld ∧ (powerOn a banks levels).pins.banks = banks :=
  coldStart_cold (modPins a fun p => { p with banks := banks, dins := (List.range 64).map fun n => (n, { pin := bit levels n }) }) 1

theorem resetAccept_cold (a : State) :
    ColdFrom a (resetAccept a) ∧ (resetAccept a).md.resetCause = 2 ∧ (resetAccept a).md.held = true :=
  ⟨coldReset_cold (modSec a fun x => { x with resetHeld := true }) 2 a.md.off, rfl, Bool.or_true _⟩

/-- RESET_N's release ends the reset that it has held. -/
theorem resetRelease_starts {a : State} (held : a.sec.resetHeld = true) (on : a.md.off = false) (h : a.profiles = []) :
    (resetRelease a).md = { a.md with held := false } ∧ (resetRelease a).sec.resetHeld = false ∧ (resetRelease a).time = a.time ∧
      (resetRelease a).objs = a.objs := by
  obtain ⟨ds, hds⟩ := releaseReset_unfollowed
    (s := modSec a fun x => { x with resetHeld := false, tap := if x.tap = 3 then 0 else x.tap }) h
  have starts := (show resetRelease a = _ from if_pos ⟨held, on⟩).trans hds
  rw [starts]
  exact ⟨rfl, rfl, rfl, rfl⟩

theorem brownOut_starts {a : State} (on : a.md.off = false) : brownOut a = coldStart a 4 := if_neg (ne_true_of_eq_false on)

/-- Bank 0 has no DIN pins. -/
theorem bankPower_zero (a : State) (on : Bool) (levels : Nat) :
    bankPower a 0 on levels = modPins a fun p => { p with banks := setBit p.banks 0 on } := by
  have pinless : ((List.range 64).filter fun n => decide (dinBank n = 0)) = [] := by decide
  simp only [bankPower, pinless, List.foldl_nil]

theorem bit_setBit_zero (n : Nat) : bit (setBit n 0 false) 0 = false := by
  have even : (n - n % 2) % 2 = 0 := by omega
  simp [bit, setBit, setBits, bits, even]

/-- The levels of a bank's pins that come with its supply. -/
def pinsShown (s : State) (on : Bool) (levels : Nat) (n : Nat) : State :=
  if on then modDin s n fun d => { d with pin := bit levels n } else s

theorem pinsShown_dins (s : State) (on : Bool) (levels n : Nat) : ∃ ds, pinsShown s on levels n = withDins s ds := by
  cases on with
  | true => exact ⟨_, putDin_eq ..⟩
  | false => exact ⟨s.pins.dins, rfl⟩

/-- In cold reset a bank's supply changes the bank's bit and the levels of its pins. -/
theorem bankPower_held {a : State} (held : a.md.held = true) (b : Nat) (on : Bool) (levels : Nat) :
    ∃ ds, bankPower a b on levels = withDins (modPins a fun p => { p with banks := setBit p.banks b on }) ds := by
  have fold (l : List Nat) : ∀ {s : State}, s.md.held = true → ∃ ds,
      l.foldl (fun s n => let s := pinsShown s on levels n; if s.md.held then s else dinStart s n) s = withDins s ds := by
    induction l with
    | nil => exact fun {s} _ => ⟨s.pins.dins, rfl⟩
    | cons n l ih =>
      intro s hs
      obtain ⟨ds, hds⟩ := pinsShown_dins s on levels n
      obtain ⟨es, hes⟩ := ih (s := withDins s ds) hs
      exact ⟨es, by rw [List.foldl_cons, hds, if_pos (show (withDins s ds).md.held = true from hs), hes]; rfl⟩
  exact fold _ (s := modPins a fun p => { p with banks := setBit p.banks b on }) held

/-- Bank 0's supply lost. -/
theorem bankChange_zero_off (a : State) (levels : Nat) : bankChange a 0 false levels =
    coldReset (modPins a fun p => { p with banks := setBit p.banks 0 false }) a.md.resetCause true := by
  unfold bankChange
  dsimp only
  rw [if_pos ⟨rfl, rfl⟩, bankPower_zero]
  rfl

theorem bankChange_other {a : State} {b : Nat} (hb : b ≠ 0) (on : Bool) (levels : Nat) :
    bankChange a b on levels = bankPower a b on levels := if_neg fun h => hb h.1

theorem modReset_starts {a : State} {req v : Nat} (hr : req = 32) (hv : v = 0x0000C01D) : modReset a req v = coldStart a 8 :=
  if_pos ⟨hr, hv⟩

theorem modReset_other {a : State} {req v : Nat} (h : req ≠ 32 ∨ v ≠ 0x0000C01D) : modReset a req v = a := if_neg (not_and_or.2 h)

theorem pwrOff_dormant {a : State} {req : Nat} (hr : req = 32) (hm : a.md.mode = .dormant) : pwrOff a req = coldReset a 0 true :=
  if_pos ⟨hr, hm⟩

theorem pwrOff_other {a : State} {req : Nat} (h : req ≠ 32 ∨ a.md.mode ≠ .dormant) : pwrOff a req = a := if_neg (not_and_or.2 h)

/-- A command on the reset or the rails finds the device whether it is held or not. -/
theorem event_at {s a : State} (h : atArrival s = a) (f : State → State) : event f s = .next (leave s (f a)) := by
  rw [event, h]

/-- Settles O16: each source by the cold reset that it starts, the others by what they leave alone. -/
theorem coldResets : Obligations.ColdResets := by
  intro s a hs cleared
  have came (f : State → State) {u : State} (h : f a = u) : event f s = .next (leave s u) := (event_at hs f).trans (by rw [h])
  have reached {req : Fin 64} {off : Nat} (held : a.md.held = false) (h : reqReach a req off = true) : FindsReg s a req off :=
    ⟨⟨hs, held⟩, h⟩
  refine ⟨?powerOn, ?accept, ?release, ?brownOut, ?bank0, ?bank, ?modReset, ?pwrOff⟩
  case powerOn =>
    intro b l
    obtain ⟨cold, rest⟩ := powerOn_cold a b.toNat l.toNat
    exact ⟨powerOn a b.toNat l.toNat, came (powerOn · b.toNat l.toNat) rfl, cold, rest⟩
  case accept =>
    obtain ⟨cold, rest⟩ := resetAccept_cold a
    exact ⟨resetAccept a, came resetAccept rfl, cold, rest⟩
  case release =>
    intro held on h
    exact ⟨resetRelease a, came resetRelease rfl, resetRelease_starts held on h⟩
  case brownOut =>
    intro on free
    obtain ⟨cold, cause, -, held, -⟩ := coldStart_cold a 4
    exact ⟨coldStart a 4, came brownOut (brownOut_starts on), cold, cause, held.trans free⟩
  case bank0 =>
    intro l
    exact ⟨_, came (bankChange · 0 false l.toNat) (bankChange_zero_off a l.toNat), rfl, rfl, rfl, rfl, rfl, rfl, bit_setBit_zero _⟩
  case bank =>
    intro b v l held hb
    obtain ⟨ds, hds⟩ := bankPower_held held b.val v l.toNat
    exact ⟨_, came (bankChange · b.val v l.toNat) ((bankChange_other (Fin.val_ne_of_ne hb) ..).trans hds), rfl, rfl, rfl, rfl⟩
  case modReset =>
    intro held req w hreach
    constructor
    · intro hr hw _
      obtain ⟨cold, cause, -⟩ := coldStart_cold a 8
      exact ⟨coldStart a 8, (event_findsReg (reached held hreach) (modReset · req.val w.toNat)).trans (by rw [modReset_starts hr (congrArg BitVec.toNat hw)]), cold, cause⟩
    · intro h
      have other : req.val ≠ 32 ∨ w.toNat ≠ 0x0000C01D := h.imp id fun hw e => hw (BitVec.eq_of_toNat_eq e)
      exact (event_findsReg (reached held hreach) (modReset · req.val w.toNat)).trans (by rw [modReset_other other])
  case pwrOff =>
    intro held req hreach
    constructor
    · intro hr hm
      exact ⟨coldReset a 0 true, (event_findsReg (reached held hreach) (pwrOff · req.val)).trans (by rw [pwrOff_dormant hr hm]), coldReset_cold a 0 true, rfl, rfl⟩
    · intro h
      exact (event_findsReg (reached held hreach) (pwrOff · req.val)).trans (by rw [pwrOff_other h])

end Sys2Proof.Machine
end

section
namespace Sys2Proof.Machine

/-! ### What the ends of presses and debug sessions leave alone (R412, R532) -/

/-- The state but for what reports and the ends of presses, nodes, loop entries and sessions write: of the host's side and the modes
it keeps all but the rings and the messages. -/
def unclosed (s : State) : State :=
  { unraised s with drv := [], sol := {}, swchs := [], gsc := {}, hlt := {}, sec := {}, presses := [], regions := [], objs := [], gens := [],
                    frees := [] }

theorem unclosed_of_unraised {s t : State} (h : unraised s = unraised t) : unclosed s = unclosed t :=
  congrArg (fun u => { u with drv := [], sol := {}, swchs := [], gsc := {}, hlt := {}, sec := {}, presses := [], regions := [],
                              objs := [], gens := [], frees := [] }) h

theorem unclosed_of_unreported {s t : State} (h : unreported s = unreported t) : unclosed s = unclosed t :=
  unclosed_of_unraised (unraised_of_unrecorded (unrecorded_of_unreported h))

theorem unclosed_foldl {α : Type} (g : State → α → State) (h : ∀ s x, unclosed (g s x) = unclosed s) (l : List α) (s : State) :
    unclosed (l.foldl g s) = unclosed s := by
  induction l generalizing s with
  | nil => rfl
  | cons x l ih => rw [List.foldl_cons, ih, h]

section
variable (s : State)

@[simp] theorem unclosed_bump (off : Nat) : unclosed (bump s off) = unclosed s := rfl
@[simp] theorem unclosed_bumpBy (off n : Nat) : unclosed (bumpBy s off n) = unclosed s := rfl
@[simp] theorem unclosed_modFlt (f : FltSt → FltSt) : unclosed (modFlt s f) = unclosed s := rfl
@[simp] theorem unclosed_modGsc (f : GscSt → GscSt) : unclosed (modGsc s f) = unclosed s := rfl
@[simp] theorem unclosed_modNode (n : Nat) (f : Node → Node) : unclosed (modNode s n f) = unclosed s := rfl
@[simp] theorem unclosed_modFlow (n : Nat) (f : Flow → Flow) : unclosed (modFlow s n f) = unclosed s := rfl
@[simp] theorem unclosed_releaseWorker (i : Nat) : unclosed (releaseWorker s i) = unclosed s := rfl
@[simp] theorem unclosed_releaseNodes (slot : Nat) : unclosed (releaseNodes s slot) = unclosed s := rfl
@[simp] theorem unclosed_modHlt (f : HltSt → HltSt) : unclosed (modHlt s f) = unclosed s := rfl
@[simp] theorem unclosed_modInst (c i : Nat) (f : Inst → Inst) : unclosed (modInst s c i f) = unclosed s := rfl
@[simp] theorem unclosed_logAdd (kind reason worn spare wear : Nat) : unclosed (logAdd s kind reason worn spare wear) = unclosed s := rfl
@[simp] theorem unclosed_modDrv (n : Nat) (f : DCore → DCore) : unclosed (modDrv s n f) = unclosed s := rfl
@[simp] theorem unclosed_modSlot (n k : Nat) (f : DSlot → DSlot) : unclosed (modSlot s n k f) = unclosed s := rfl
@[simp] theorem unclosed_noteTick (n : Nat) : unclosed (noteTick s n) = unclosed s := rfl
@[simp] theorem unclosed_resumeLane (q ses : Nat) : unclosed (resumeLane s q ses) = unclosed s := rfl
@[simp] theorem unclosed_swUnshadow (spare : Nat) : unclosed (swUnshadow s spare) = unclosed s := rfl
@[simp] theorem unclosed_drvUnshadow (spare : Nat) : unclosed (drvUnshadow s spare) = unclosed s := rfl
@[simp] theorem unclosed_laneUnshadow (spare : Nat) : unclosed (laneUnshadow s spare) = unclosed s := rfl
@[simp] theorem unclosed_modSec (f : SecSt → SecSt) : unclosed (modSec s f) = unclosed s := rfl
@[simp] theorem unclosed_modPress (p : Nat) (f : Press → Press) : unclosed (modPress s p f) = unclosed s := rfl
@[simp] theorem unclosed_modRegion (r : Nat) (f : Region → Region) : unclosed (modRegion s r f) = unclosed s := rfl
@[simp] theorem unclosed_advanceGen (cls idx : Nat) : unclosed (advanceGen s cls idx) = unclosed s := rfl
@[simp] theorem unclosed_freeObj (cls idx : Nat) : unclosed (freeObj s cls idx) = unclosed s := rfl

@[simp] theorem unclosed_report (r : Report) : unclosed (report s r) = unclosed s := unclosed_of_unraised (unraised_report s r)

@[simp] theorem unclosed_raise (e : Event) (handle detail org : Nat) : unclosed (raise s e handle detail org) = unclosed s :=
  unclosed_report s _

@[simp] theorem unclosed_raiseIn (e : Event) (handle detail org : Nat) (scope : List Nat) :
    unclosed (raiseIn s e handle detail org scope) = unclosed s := unclosed_report s _

@[simp] theorem unclosed_complete (a : Acc) (status handle detail : Nat) : unclosed (complete s a status handle detail) = unclosed s :=
  unclosed_of_unreported (unreported_complete s a status handle detail)

@[simp] theorem unclosed_completeFinal (a : Acc) (status handle detail : Nat) :
    unclosed (completeFinal s a status handle detail) = unclosed s :=
  unclosed_of_unreported (unreported_writeCompletion s a status handle detail 0 1)

/-! #### The ends of presses -/

theorem unclosed_releaseMember (m : Member) : unclosed (releaseMember s m) = unclosed s := by
  unfold releaseMember
  split
  · split
    · exact unclosed_freeObj ..
    · rfl
  · rfl

theorem unclosed_patchEnds (slot : Nat) : unclosed (patchEnds s slot) = unclosed s := by
  refine unclosed_foldl _ (fun s r => ?_) _ s
  dsimp only
  split
  · split <;> rfl
  · rfl

theorem unclosed_pressClose (slot : Nat) (committed : Bool) (reason : Nat) : unclosed (pressClose s slot committed reason) = unclosed s := by
  have patched : unclosed (patchEnds (releaseNodes s slot) slot) = unclosed s := unclosed_patchEnds (releaseNodes s slot) slot
  unfold pressClose cancelTimeouts
  dsimp only
  repeat' split
  all_goals simp only [unclosed_modGsc, unclosed_advanceGen, unclosed_modPress, patched]

theorem unclosed_shadowStop (c spare : Nat) : unclosed (shadowStop s c spare) = unclosed s := by
  unfold shadowStop
  split <;> rfl

theorem unclosed_darnClose (status detail : Nat) : unclosed (darnClose s status detail) = unclosed s := by
  unfold darnClose
  split
  · rfl
  · exact unclosed_foldl _ (fun s a => unclosed_complete s a status 0 detail) _ _

theorem unclosed_darnAborted (reason : Nat) : unclosed (darnAborted s reason) = unclosed s := by
  unfold darnAborted
  dsimp only
  repeat' split
  all_goals simp [unclosed_shadowStop, unclosed_darnClose]

theorem unclosed_warmAborted (handle reason : Nat) : unclosed (warmAborted s handle reason) = unclosed s := by
  unfold warmAborted
  dsimp only
  split
  · rfl
  · rw [unclosed_foldl _ (fun s w => by split <;> simp), unclosed_raiseIn, unclosed_modFlt]

theorem unclosed_pressAbort (slot reason idx : Nat) : unclosed (pressAbort s slot reason idx) = unclosed s := by
  unfold pressAbort
  dsimp only
  split
  · rfl
  · rw [apply_ite unclosed, unclosed_darnAborted, apply_ite unclosed, unclosed_warmAborted, ite_self, ite_self, unclosed_foldl]
    · split <;> simp [apply_ite unclosed, unclosed_pressClose, unclosed_foldl _ unclosed_releaseMember]
    · intro s e
      split <;> simp

theorem unclosed_abortOwned (req : Nat) : unclosed (abortOwned s req) = unclosed s := by
  refine unclosed_foldl _ (fun s p => ?_) _ s
  split
  · exact unclosed_pressAbort ..
  · rfl

/-! #### The ends of loop entries, nodes and sessions -/

theorem unclosed_setScore (c i score row : Nat) : unclosed (setScore s c i score row) = unclosed s := by
  unfold setScore
  dsimp only
  repeat' split
  all_goals simp

theorem unclosed_wearInput (c i row : Nat) : unclosed (wearInput s c i row) = unclosed s := unclosed_setScore ..

theorem unclosed_entryEnd (n k : Nat) : unclosed (entryEnd s n k) = unclosed s := by
  unfold entryEnd raiseLoop
  dsimp only
  split <;> simp

theorem unclosed_deliver (i : Nat) (fires : Nat → Bool) : unclosed (deliver s i fires) = unclosed s := by
  unfold deliver
  dsimp only
  rw [unclosed_modNode, unclosed_foldl _ (fun s e => by split <;> simp), unclosed_foldl _ (fun s e => by simp)]

theorem unclosed_endWaits (i : Nat) (ends : Wait → Option (Nat × Nat)) (step : Wait → Wait) :
    unclosed (endWaits s i ends step) = unclosed s := by
  unfold endWaits
  dsimp only
  rw [unclosed_foldl _ ?_, unclosed_modGsc]
  intro s w
  split
  · split <;> simp
  · rfl

theorem unclosed_nodeFault (i cause : Nat) : unclosed (nodeFault s i cause) = unclosed s := by
  unfold nodeFault
  dsimp only
  repeat' split
  all_goals simp [unclosed_endWaits, unclosed_deliver]

theorem unclosed_drvMemError (n ecc mem : Nat) : unclosed (drvMemError s n ecc mem) = unclosed s := by
  unfold drvMemError
  dsimp only
  repeat' split
  all_goals simp [unclosed_wearInput, unclosed_nodeFault]

end

theorem unclosed_runLoops (fuel : Nat) (s : State) (n : Nat) (past : Bool) (err : Option (Nat × Nat × Nat)) :
    unclosed (runLoops fuel s n past err) = unclosed s := by
  induction fuel generalizing s past err with
  | zero => rfl
  | succ m ih =>
    unfold runLoops
    dsimp only
    repeat' split
    all_goals simp [ih, unclosed_entryEnd, unclosed_drvMemError]

theorem unclosed_resumeCore (s : State) (n ses : Nat) : unclosed (resumeCore s n ses) = unclosed s := by
  unfold resumeCore
  dsimp only
  split <;> simp [unclosed_runLoops]

theorem unclosed_closeSession (s : State) (ses cause : Nat) : unclosed (closeSession s ses cause) = unclosed s := by
  simp [closeSession, unclosed_foldl, apply_ite unclosed, unclosed_resumeCore]

end Sys2Proof.Machine
end

section
namespace Sys2Proof.Machine

/-! ### The host reset and the function resets (R412, R505, R508) -/

/-- The PCIe link's own state: PERST_N and whether the link is up. -/
def linkState (s : State) : Bool × Bool := (s.host.perst, s.host.linkUp)

theorem linkState_of_unclosed {s t : State} (h : unclosed s = unclosed t) : linkState s = linkState t :=
  congrArg (fun u => (u.host.perst, u.host.linkUp)) h

theorem linkState_ringDowns (l : List Nat) (s : State) : linkState (l.foldl ringDown s) = linkState s := by
  induction l generalizing s with
  | nil => rfl
  | cons r l ih =>
    rw [List.foldl_cons, ih]
    unfold ringDown
    dsimp only
    split <;> rfl

/-- A function that goes down leaves the link as it was. -/
theorem linkState_fnDown (s : State) (f : Nat) : linkState (fnDown s f) = linkState s := by
  have ends (u : State) (req : Nat) (g : GscSt → GscSt) :
      linkState (modGsc (problemCreateAbort (drvLoadAbort u req) req) g) = linkState u := rfl
  have down := linkState_ringDowns (fnRings s f) s
  unfold fnDown
  dsimp only
  rw [ends, linkState_of_unclosed (unclosed_abortOwned _ _)]
  generalize (fnRings s f).foldl ringDown s = d at down ⊢
  exact down

theorem linkState_fnDowns (l : List Nat) (s : State) : linkState (l.foldl fnDown s) = linkState s := by
  induction l generalizing s with
  | nil => rfl
  | cons f l ih => rw [List.foldl_cons, ih, linkState_fnDown]

/-- What PERST_N's assertion clears once the functions are down (R508). -/
def perstCleared (s : State) : State :=
  modMd (modHost { s with regs := s.regs.filter fun e => decide (e.1 % 16777216 < 0x30000) || decide (0x40000 ≤ e.1 % 16777216) } fun h =>
    { h with busMaster := [], downRefused := [], numVf := 0, unmasked := [], pba := [], msixTable := [], aer := [],
             rings := h.rings.map fun e => (e.1, { e.2 with dbErr := false }),
             hiLatch := h.hiLatch.filter fun e => decide (e.1 / 16777216 < 32) || decide (48 ≤ e.1 / 16777216),
             loHeld := h.loHeld.filter fun e => decide (e.1 / 16777216 < 32) || decide (48 ≤ e.1 / 16777216) })
    fun x => { x with perstSeen := true }

/-- The state with PERST_N low and the link down. -/
def linkLost (s : State) : State := modHost s fun h => { h with perst := true, linkUp := false, crs := true }

theorem perstAssert_eq {a : State} (h : a.md.held = false) :
    perstAssert a = closeSession (perstCleared ((List.range 16).foldl fnDown (linkLost a))) 1 3 := by
  have free : ¬(linkLost a).md.held = true := ne_true_of_eq_false h
  exact if_neg free

theorem link_of_perstCleared {u d : State} (h : unclosed u = unclosed (perstCleared d)) :
    (u.host.perst, u.host.linkUp) = linkState d ∧ u.host.busMaster = [] ∧ u.host.numVf = 0 ∧ u.host.unmasked = [] ∧
      u.md.perstSeen = true := by
  have host {β : Type} (g : HostSt → β) := congrArg (fun t => g t.host) h
  exact ⟨host fun h => (h.perst, h.linkUp), host (·.busMaster), host (·.numVf), host (·.unmasked), congrArg (fun t => t.md.perstSeen) h⟩

/-- PERST_N's assertion outside a cold reset (R508). -/
theorem perstAssert_resets {a : State} (h : a.md.held = false) :
    (perstAssert a).host.perst = true ∧ (perstAssert a).host.linkUp = false ∧ (perstAssert a).host.busMaster = [] ∧
      (perstAssert a).host.numVf = 0 ∧ (perstAssert a).host.unmasked = [] ∧ (perstAssert a).md.perstSeen = true := by
  obtain ⟨link, rest⟩ := link_of_perstCleared (unclosed_closeSession (perstCleared ((List.range 16).foldl fnDown (linkLost a))) 1 3)
  rw [linkState_fnDowns] at link
  obtain ⟨perst, linkUp⟩ := Prod.mk.inj (link.trans (show linkState (linkLost a) = (true, false) from rfl))
  rw [perstAssert_eq h]
  exact ⟨perst, linkUp, rest⟩

/-- No register of the list's dropped keys is found in it. -/
theorem mget_filter_dropped {α : Type} (m : Map α) (keep : Nat → Bool) {k : Nat} (h : keep k = false) :
    mget (m.filter fun e => keep e.1) k = none := by
  induction m with
  | nil => rfl
  | cons e m ih =>
    obtain ⟨j, v⟩ := e
    by_cases hj : keep j = true
    · have ne : j ≠ k := fun e => by rw [e, h] at hj; exact absurd hj (by decide)
      rw [List.filter_cons_of_pos (by exact hj), mget]
      split
      · rfl
      · exact ih
    · rw [List.filter_cons_of_neg (by exact hj), ih]

/-- The registers of a function's block but for QUOTA, REGIONS and GROUPS, and every register outside it. -/
def flrKeeps (f k : Nat) : Bool :=
  decide (k < fnBlock f) || decide (fnBlock f + 0x40 ≤ k) || [0x20, 0x24, 0x28].contains (k - fnBlock f)

/-- What an FLR of a function leaves, before HST_FLR is raised (R412). -/
def flrCleared (s : State) (f : Nat) : State :=
  modHost { s with regs := s.regs.filter fun e => flrKeeps f (e.1 % 16777216) } fun h =>
    { h with unmasked := h.unmasked.filter (fun k => decide (k / 64 ≠ f)), aer := h.aer.filter (· ≠ f),
             msixTable := h.msixTable.filter fun e => decide (e.1 / 256 ≠ f) }

theorem flr_vf {s : State} {f : Nat} (h : f ≠ 0) : flr s f = raise (flrCleared (fnReset s f 3) f) .hstFlr 0 f (origin 5 f) := if_neg h

theorem flrKeeps_low {f k : Nat} (hf : f < 16) (lo : fnBlock f ≤ k) (hi : k < fnBlock f + 0x20) :
    flrKeeps f (k % 16777216) = false := by
  have small : k % 16777216 = k := Nat.mod_eq_of_lt (by unfold fnBlock at hi; omega)
  have inside : k - fnBlock f < 0x20 := by omega
  simp only [flrKeeps, small, List.contains_cons, List.contains_nil, Bool.or_eq_false_iff, decide_eq_false_iff_not, beq_eq_false_iff_ne]
  exact ⟨⟨by omega, by omega⟩, by omega, by omega, by omega, trivial⟩

theorem reg_flrCleared (s : State) {f k : Nat} (hf : f < 16) (lo : fnBlock f ≤ k) (hi : k < fnBlock f + 0x20) :
    reg (flrCleared s f) k = regReset k := by
  have gone := mget_filter_dropped s.regs (fun j => flrKeeps f (j % 16777216)) (flrKeeps_low hf lo hi)
  have key : regKey k 0 = k := by simp [regKey]
  rw [reg, regAt, mgetD, key]
  exact congrArg (·.getD (regReset k)) gone

theorem busMasterSet_off {a : State} {f : Nat} (h : mhas a.host.busMaster f = false) : busMasterSet a f =
    { a with host := { a.host with busMaster := mput a.host.busMaster f (a.time.frame + 1), numVf := Nat.max a.host.numVf f } } :=
  if_neg (ne_true_of_eq_false h)

/-- Over the link a command finds the device that no cold reset holds. -/
theorem event_onLink {s a : State} (hs : atArrival s = a) (h : hostLink a = true) (f : State → State) :
    event (unlessHeld fun s => onLink f s) s = .next (leave s (f a)) := by
  have held : a.md.held = false := by
    simp only [hostLink, Bool.and_eq_true, Bool.not_eq_true'] at h
    exact h.1.1.1
  rw [event_finds ⟨hs, held⟩, onLink, if_pos h]

/-- Settles O17: the host reset by what the closed session and the functions that go down leave of the link, each function reset by
what it names. -/
theorem hostAndFunctionResets : Obligations.HostAndFunctionResets := by
  intro s a hs
  refine ⟨fun held => ⟨perstAssert a, event_at hs perstAssert, perstAssert_resets held⟩, event_at hs perstRelease, fun hl f => ?_⟩
  have came (g : State → State) {u : State} (h : g a = u) :
      event (unlessHeld fun s => onLink g s) s = .next (leave s u) := (event_onLink hs hl g).trans (by rw [h])
  refine ⟨fun off => came (busMasterSet · f) (busMasterSet_off off),
    fun on => ⟨came (busMasterSet · f) (if_pos on), came (busMasterClear · f) (if_pos on)⟩,
    ⟨_, came vfClear rfl, rfl⟩, fun hf => ?flr⟩
  exact ⟨fnReset a f 3, flrCleared (fnReset a f 3) f, came (flr · f) (flr_vf (Fin.val_ne_of_ne hf)), rfl, rfl, rfl, rfl,
    fun k lo hi => reg_flrCleared _ f.isLt lo hi⟩

end Sys2Proof.Machine
end

section
namespace Sys2Proof.Machine

/-! ### The operations of a debug session (R531, R533, R536, R541) -/

/-- The port of a session finds the device. -/
theorem event_findsDebug {s a : State} {k : Fin 2} (h : FindsReg s a (if k = 0 then 63 else 32) 0x20070) (f : State → State) :
    event (unlessHeld fun s => onDebug k f s) s = .next (leave s (f a)) := by
  have port : (if k = 0 then 63 else 32) = if k.val = 0 then 63 else 32 := by
    rcases k with ⟨_ | _, _⟩ <;> rfl
  rw [port] at h
  exact event_findsReg h f

section
variable {s : State} {ses n q : Nat}

theorem dbgCore_denied (h : coreReach s ses n = false) (f : State → State) : dbgCore s ses n f = sesDenied s ses :=
  if_neg (ne_true_of_eq_false h)

theorem dbgCore_reached (h : coreReach s ses n = true) (f : State → State) : dbgCore s ses n f = f s := if_pos h

theorem drvAt_modDrv_self (s : State) (n : Nat) (f : DCore → DCore) : drvAt (modDrv s n f) n = f (drvAt s n) := mgetD_mput_self ..

/-- A core whose loop entry is not under way resumes with nothing to run. -/
theorem resumeCore_idle (h : (drvAt s n).entered = false) :
    resumeCore s n ses = { s with drv := mput s.drv n { drvAt s n with halted := (drvAt s n).halted.filter (· ≠ ses) } } := by
  unfold resumeCore
  dsimp only
  rw [drvAt_modDrv_self, if_neg fun e => absurd (h.symm.trans e.2) (by decide)]
  rfl

theorem dbgStepCore_running (h : coreReach s ses n = true) (hrun : (drvAt s n).halted = []) : dbgStepCore s ses n = s :=
  (dbgCore_reached h _).trans (if_pos hrun)

theorem dbgStepCore_halted (h : coreReach s ses n = true) (hhalt : (drvAt s n).halted ≠ []) : dbgStepCore s ses n = stepCore s n :=
  (dbgCore_reached h _).trans (if_neg hhalt)

theorem stepCore_entry (h : (drvAt s n).entered = true) :
    stepCore s n = drvRow s n false (drvDecode (codeAt (drvAt s n) (drvAt s n).loop.pc)) := if_pos h

theorem stepCore_graph (h : (drvAt s n).entered = false) :
    stepCore s n = drvRow s n true (drvDecode (codeAt (drvAt s n) (drvAt s n).graph.pc)) := if_neg (ne_true_of_eq_false h)

theorem dbgBreak_fifth (h : coreReach s ses n = true) (hfull : 4 ≤ (s.sec.breaks.filter fun b => decide (b.1 = n)).length) :
    dbgBreak s ses n = sesDenied s ses := (dbgCore_reached h _).trans (if_pos hfull)

theorem dbgBreak_set (h : coreReach s ses n = true) (hfree : (s.sec.breaks.filter fun b => decide (b.1 = n)).length < 4) :
    dbgBreak s ses n = { s with sec := { s.sec with breaks := s.sec.breaks ++ [(n, dbgAddr s ses, ses)] } } :=
  (dbgCore_reached h _).trans (if_neg (Nat.not_le.2 hfree))

theorem dbgHaltLane_reached (h : laneReach s ses q = true) : dbgHaltLane s ses q = haltLane s q ses := if_pos h
theorem dbgHaltLane_denied (h : laneReach s ses q = false) : dbgHaltLane s ses q = sesDenied s ses := if_neg (ne_true_of_eq_false h)
theorem dbgResumeLane_reached (h : laneReach s ses q = true) : dbgResumeLane s ses q = resumeLane s q ses := if_pos h
theorem dbgResumeLane_denied (h : laneReach s ses q = false) : dbgResumeLane s ses q = sesDenied s ses :=
  if_neg (ne_true_of_eq_false h)

/-- No lane of a GUARD gang is in reach (R536). -/
theorem laneReach_guard {l : Nat} (hl : logicalOf s q = some l) (hg : (gangAt s (gangOf s l)).role = 2) : laneReach s ses q = false := by
  simp [laneReach, hl, hg]

/-! #### DBG_MDATA -/

/-- What a read of DBG_MDATA shows: the word, and DBG_MADDR one further. -/
theorem dbgMdata_read_closed (h : sesLevel s ses = 0) : dbgMdata s ses none = dbgAdvance (readBack s (sesReq ses) 0) ses := by
  simp [dbgMdata, h]

theorem dbgMdata_read_shown (h : sesLevel s ses ≠ 0)
    (hin : dbgIn (bits (regAt s 0x20060 (sesReq ses)) 0 3) (bits (regAt s 0x20060 (sesReq ses)) 8 8) (dbgAddr s ses) = true) :
    dbgMdata s ses none = dbgAdvance (readBack
      (if bits (regAt s 0x20060 (sesReq ses)) 0 3 = 5 then eccRead s (linesOf (4 * dbgAddr s ses) 4) else s) (sesReq ses)
      (dbgWord s (bits (regAt s 0x20060 (sesReq ses)) 0 3) (bits (regAt s 0x20060 (sesReq ses)) 8 8) (dbgAddr s ses))) ses := by
  simp [dbgMdata, h, hin]

theorem dbgMdata_write_denied {v : Nat}
    (h : dbgReach s ses (bits (regAt s 0x20060 (sesReq ses)) 0 3) (bits (regAt s 0x20060 (sesReq ses)) 8 8) = false) :
    dbgMdata s ses (some v) = sesDenied s ses := if_neg (ne_true_of_eq_false h)

theorem dbgMdata_write {w : Word}
    (h : dbgReach s ses (bits (regAt s 0x20060 (sesReq ses)) 0 3) (bits (regAt s 0x20060 (sesReq ses)) 8 8) = true)
    (hin : dbgIn (bits (regAt s 0x20060 (sesReq ses)) 0 3) (bits (regAt s 0x20060 (sesReq ses)) 8 8) (dbgAddr s ses) = true) :
    dbgMdata s ses (some w.toNat) = dbgAdvance (dbgPut s (bits (regAt s 0x20060 (sesReq ses)) 0 3)
      (bits (regAt s 0x20060 (sesReq ses)) 8 8) (dbgAddr s ses) w.toNat) ses := by
  have word : w.toNat % 4294967296 = w.toNat := Nat.mod_eq_of_lt w.isLt
  unfold dbgMdata
  dsimp only
  rw [if_pos h, if_pos hin, word]

/-! #### Sessions and the TAP (R530, R532, R534, R535) -/

theorem sessionExpiry_due {k t : Nat} (hends : (mget s.sec.sessions k).bind (fun x => x.ends) = some t) (ht : t ≤ s.time.elapsed) :
    sessionExpiry s k = closeSession s k 4 := by
  simp [sessionExpiry, hends, ht]

theorem sessionExpiry_early {k t : Nat} (hends : (mget s.sec.sessions k).bind (fun x => x.ends) = some t) (ht : s.time.elapsed < t) :
    sessionExpiry s k = s := by
  simp [sessionExpiry, hends, Nat.not_le.2 ht]

theorem sessionExpiry_endless {k : Nat} (hends : (mget s.sec.sessions k).bind (fun x => x.ends) = none) : sessionExpiry s k = s := by
  simp [sessionExpiry, hends]

theorem jtagToken_asks {level : Nat} (htap : s.sec.tap = 2) (hl : level ≠ 0) (hm : s.md.mode ≠ .boot) (rs : Nat) (tok : List Byte) :
    jtagToken s level rs tok = (attemptSession s 0 level (if level = 2 then rs else 0) tok).1 :=
  if_pos ⟨htap, Nat.pos_of_ne_zero hl, hm⟩

theorem jtagToken_ignored {level : Nat} (h : s.sec.tap ≠ 2 ∨ level = 0 ∨ s.md.mode = .boot) (rs : Nat) (tok : List Byte) :
    jtagToken s level rs tok = s := by
  refine if_neg fun ⟨htap, hl, hm⟩ => ?_
  rcases h with h | h | h
  · exact h htap
  · omega
  · exact hm h

/-- A session that halts nothing closes by its record, its breakpoints and the event alone. -/
theorem closeSession_undriven {cause : Nat} (h : mhas s.sec.sessions ses = true) (hdrv : s.drv = []) (hlanes : s.sol.lanes = []) :
    closeSession s ses cause = raise { s with sec := { s.sec with
      sessions := mdel s.sec.sessions ses, breaks := s.sec.breaks.filter fun b => decide (b.2.2 ≠ ses) } } .dbgClosed 0
      (ses + cause * 256) oSEC := by
  unfold closeSession
  dsimp only
  rw [if_pos h, foldl_fixed, foldl_fixed]
  · rfl
  · intro n
    simp [drvAt, modSec, hdrv, mgetD, mget]
  · intro q
    rw [foldl_fixed]
    · simp [laneAt, modSec, hlanes, mgetD, mget]
    · intro n
      simp [drvAt, modSec, hdrv, mgetD, mget]

theorem tapReset_closed (h : mhas s.sec.sessions 0 = false) : tapReset s = { s with sec := { s.sec with tap := 1 } } :=
  if_neg (ne_true_of_eq_false h)

theorem tapReset_first (h : mhas s.sec.sessions 0 = true) (hr : s.sec.tapResets = 0) :
    tapReset s = { s with sec := { s.sec with tap := 1, tapResets := 1 } } := by
  have first : ¬ 1 ≤ s.sec.tapResets := by omega
  exact (if_pos h).trans ((if_neg first).trans (by simp [modSec, hr]))

theorem tapReset_second (h : mhas s.sec.sessions 0 = true) (hr : 1 ≤ s.sec.tapResets) :
    tapReset s = closeSession { s with sec := { s.sec with tap := 1, tapResets := 0 } } 0 2 := (if_pos h).trans (if_pos hr)

theorem scanAllowed_iff (s : State) :
    scanAllowed s = true ↔ s.sec.lifecycle = 0 ∨ s.sec.lifecycle = 3 ∨ s.sec.resetHeld = true := by
  simp [scanAllowed, factoryOnly, or_assoc]

theorem tapLoad_loads {i : Nat} (h : i ≠ 3 ∨ scanAllowed s = true) : tapLoad s i = { s with sec := { s.sec with tap := i } } := by
  have load : ¬(i = 3 ∧ scanAllowed s = false) := by
    rintro ⟨h3, hscan⟩
    rcases h with h | h
    · exact h h3
    · rw [hscan] at h
      exact absurd h (by decide)
  unfold tapLoad
  rw [if_neg load]
  rfl

theorem tapLoad_bypass (h : scanAllowed s = false) : tapLoad s 3 = { s with sec := { s.sec with tap := 0 } } := by
  unfold tapLoad
  rw [if_pos ⟨rfl, h⟩]
  rfl

end

/-! #### The statement -/

/-- Settles O47: the operations of a session by its reach, DBG_MDATA by its level and reach, the sessions' ends and the TAP. -/
theorem debugAccess : Obligations.DebugAccess := by
  refine ⟨fun s a k hfind => ?session, fun s a => ⟨fun hfind => ⟨fun k => ?expiry, fun level rs tok => ?token⟩,
    fun ses cause h hdrv hlanes => closeSession_undriven h hdrv hlanes, fun hon => ?tap⟩⟩
  case session =>
    intro ses denied
    have came (f : State → State) {u : State} (h : f a = u) : event (unlessHeld fun s => onDebug k f s) s = .next (leave s u) :=
      (event_findsDebug hfind f).trans (by rw [h])
    refine ⟨fun n => ?core, fun q => ⟨fun out => ?laneOut, fun within => ?laneIn, fun l hl hg => laneReach_guard hl hg⟩, ?mdata⟩
    case core =>
      intro c put mine
      refine ⟨fun out => ?outside, fun within => ?inside⟩
      case outside =>
        exact ⟨came (dbgHaltCore · k n) (dbgCore_denied out _), came (dbgResumeCore · k n) (dbgCore_denied out _),
          came (dbgStepCore · k n) (dbgCore_denied out _), came (dbgBreak · k n) (dbgCore_denied out _),
          came (dbgUnbreak · k n) (dbgCore_denied out _)⟩
      case inside =>
        exact ⟨came (dbgHaltCore · k n) (dbgCore_reached within _),
          fun idle => came (dbgResumeCore · k n) ((dbgCore_reached within _).trans (resumeCore_idle idle)),
          fun hrun => came (dbgStepCore · k n) (dbgStepCore_running within hrun),
          fun hh he => came (dbgStepCore · k n) ((dbgStepCore_halted within hh).trans (stepCore_entry he)),
          fun hh he => came (dbgStepCore · k n) ((dbgStepCore_halted within hh).trans (stepCore_graph he)),
          fun hfull => came (dbgBreak · k n) (dbgBreak_fifth within hfull),
          fun hfree => came (dbgBreak · k n) (dbgBreak_set within hfree),
          came (dbgUnbreak · k n) (dbgCore_reached within _)⟩
    case laneOut => exact ⟨came (dbgHaltLane · k q) (dbgHaltLane_denied out), came (dbgResumeLane · k q) (dbgResumeLane_denied out)⟩
    case laneIn => exact ⟨came (dbgHaltLane · k q) (dbgHaltLane_reached within), came (dbgResumeLane · k q) (dbgResumeLane_reached within)⟩
    case mdata =>
      exact ⟨fun closed => came (dbgMdata · k none) (dbgMdata_read_closed closed),
        fun hopen hin => came (dbgMdata · k none) (dbgMdata_read_shown hopen hin),
        fun w => ⟨fun out => came (dbgMdata · k (some w.toNat)) (dbgMdata_write_denied out),
          fun within hin => came (dbgMdata · k (some w.toNat)) (dbgMdata_write within hin)⟩, rfl⟩
  case expiry =>
    have came {u : State} (h : sessionExpiry a k = u) : exec (.dbgSessionExpiry k) s = .next (leave s u) :=
      (event_finds hfind (sessionExpiry · k)).trans (by rw [h])
    exact ⟨fun t hends => ⟨fun early => came (sessionExpiry_early hends early), fun due => came (sessionExpiry_due hends due)⟩,
      fun endless => came (sessionExpiry_endless endless)⟩
  case token =>
    have came {u : State} (h : jtagToken a level rs.toNat tok = u) : exec (.jtagDbgaccToken level rs tok) s = .next (leave s u) :=
      (event_finds hfind (jtagToken · level rs.toNat tok)).trans (by rw [h])
    have two : (if level.val = 2 then rs.toNat else 0) = if level = 2 then rs.toNat else 0 := by simp only [Fin.ext_iff, Fin.val_two]
    refine ⟨fun htap hl hm => came ?_, fun h => came (jtagToken_ignored (h.imp_right (Or.imp_left fun e => e ▸ rfl)) ..)⟩
    rw [jtagToken_asks htap (Fin.val_ne_of_ne hl) hm, two]
  case tap =>
    intro b
    have came (f : State → State) {u : State} (h : f a = u) : event (unlessOff f) s = .next (leave s u) :=
      (event_findsOn hon f).trans (by rw [h])
    refine ⟨fun closed => came tapReset (tapReset_closed closed), fun hopen first => came tapReset (tapReset_first hopen first),
      fun hopen second => came tapReset (tapReset_second hopen second), fun i => ⟨fun h => ?loads, fun h3 h0 h9 hr => ?bypass⟩⟩
    case loads =>
      exact came (tapLoad · i) (tapLoad_loads (h.imp Fin.val_ne_of_ne (scanAllowed_iff a).2))
    case bypass =>
      have barred : scanAllowed a = false := Bool.eq_false_iff.2 fun e => by
        rcases (scanAllowed_iff a).1 e with h | h | h
        · exact h0 h
        · exact h9 h
        · exact absurd (hr.symm.trans h) (by decide)
      subst h3
      exact came (tapLoad · 3) (tapLoad_bypass barred)

end Sys2Proof.Machine
end

section
namespace Sys2Proof.Machine

/-! ### The end of a window refutes O40 (R472) -/

/-- A Lint Trap entry whose window has ended and which has counted one report in it. -/
def endedWindow : Lint :=
  { origin := 0, code := 0, cls := 1, count := 1, window := 1, ends := 0,
    last := { wall := 0, code := 0, cls := 1, flags := 0, handle := 0, line := 0, count := 1, detail := 0 } }

/-- The window that follows it. -/
def nextWindow (s : State) : Lint := { endedWindow with window := 0, ends := endedWindow.ends + reg s 0x260008 * usU }

/-- A device out of reset whose clock has stopped. Its Lint Trap lists entry 0 twice, which no run of the device brings about. -/
def twiceListed (free : Nat) : State :=
  { State.reset with
    free := free
    md := { State.reset.md with held := false, off := false, mode := .run }
    flt := { State.reset.flt with lint := [(0, endedWindow), (0, endedWindow)] } }

theorem twiceListed_finds : Finds (twiceListed 0) (twiceListed 1) :=
  ⟨atArrival_stopped ⟨rfl, rfl, rfl, rfl, rfl, rfl, rfl⟩ rfl, rfl⟩

/-- What the windows of the Lint Trap's entries have counted. -/
def windowCounts (s : State) : List Nat := s.flt.lint.map fun e => e.2.window

/-- The model begins another window in both places, the statement in the first alone. -/
theorem windowCounts_twiceListed :
    windowCounts (leave (twiceListed 0) (lintWindowEnd (twiceListed 1) 0)) = [0, 0] ∧
      windowCounts (leave (twiceListed 0) (writeRecord
        { twiceListed 1 with flt := { (twiceListed 1).flt with lint := mput (twiceListed 1).flt.lint 0 (nextWindow (twiceListed 1)) } }
        (lintSummary endedWindow))) =
        [0, 1] := by
  decide +kernel

/-- Refutes O40: the statement ranges over states whose Lint Trap lists an entry twice, and the end of its window then begins another
window in every place of the list, where the statement writes the first alone. -/
theorem not_faultCollectorSteps : ¬ Obligations.FaultCollectorSteps := by
  intro h
  obtain ⟨-, -, windows, -⟩ := h _ _ twiceListed_finds
  obtain ⟨-, listed⟩ := windows 0
  obtain ⟨-, -, ends⟩ := listed endedWindow rfl
  have model : exec (.lintWindowEnd 0) (twiceListed 0) = .next (leave (twiceListed 0) (lintWindowEnd (twiceListed 1) 0)) :=
    event_finds twiceListed_finds (lintWindowEnd · 0)
  have same := congrArg windowCounts (Host.Outcome.next.inj (model.symm.trans (ends (Nat.zero_le _) (by decide))))
  obtain ⟨both, first⟩ := windowCounts_twiceListed
  exact absurd (both.symm.trans (same.trans first)) (by decide)

end Sys2Proof.Machine
end

section
namespace Sys2Proof.Machine

/-! ### The hour of wear, the tests' turn and the ledger (R444, R447, R448, R453, R455, R456) -/

section
variable {s : State}

theorem wearHour_early (h : s.time.elapsed / (3600 * secU) ≤ s.hlt.hour) : wearHour s = s := if_neg (Nat.not_lt.2 h)

theorem wearHour_due (h : s.hlt.hour < s.time.elapsed / (3600 * secU)) : wearHour s =
    (let band := ((s.pins.tj / 256 + 40) / 5).toNat
     { s with hlt := { s.hlt with
       hour := s.hlt.hour + 1, hours := s.hlt.hours + 1, bands := mput s.hlt.bands band (mgetD s.hlt.bands band 0 + 1),
       insts := s.hlt.insts.map fun e => (e.1, { e.2 with wear := decayed e.2.wear }) } }) := if_pos h

/-- The test period that the elapsed time lies in. -/
def testPeriod (s : State) : Nat := s.time.elapsed / (2 ^ bits (reg s 0x250000) 4 4 * secU)

/-- The test of the period is noted. -/
def testNoted (s : State) : State := { s with hlt := { s.hlt with lastTest := some (testPeriod s) } }

theorem backgroundTest_none (h : bit (reg s 0x250000) 1 = false ∨ testPeriod s = 0 ∨ s.hlt.lastTest = some (testPeriod s)) :
    backgroundTest s = s := if_pos h

section
variable (hon : bit (reg s 0x250000) 1 = true) (hperiod : testPeriod s ≠ 0) (hlast : s.hlt.lastTest ≠ some (testPeriod s))
include hon hperiod hlast

theorem testIsDue : ¬(bit (reg s 0x250000) 1 = false ∨ testPeriod s = 0 ∨ s.hlt.lastTest = some (testPeriod s)) := by
  simp [hon, hperiod, hlast]

theorem backgroundTest_untestable (h : findTest 931 (testNoted s) s.hlt.nextTest = none) : backgroundTest s = testNoted s := by
  refine (if_neg (testIsDue hon hperiod hlast)).trans ?_
  split
  case h_1 => rfl
  case h_2 x found => exact absurd (h.symm.trans found) nofun

theorem backgroundTest_starts {x : Nat × Nat} (h : findTest 931 (testNoted s) s.hlt.nextTest = some x) : backgroundTest s =
    testStart { testNoted s with hlt := { (testNoted s).hlt with nextTest := nextInst x } } x.1 x.2 none := by
  refine (if_neg (testIsDue hon hperiod hlast)).trans ?_
  split
  case h_1 found => exact absurd (h.symm.trans found) nofun
  case h_2 y found =>
    obtain rfl : x = y := Option.some.inj (h.symm.trans found)
    rfl

end

variable {c n : Nat} {t : TestRun}

theorem selfTestDone_none (h : testOf s c n false = none) (pass : Bool) : selfTestDone s c n pass = s := by
  simp only [selfTestDone, h]

theorem selfTestDone_pass (h : testOf s c n false = some t) (hacc : t.acc = none) (hblame : t.blame = none) :
    selfTestDone s c n true = testEnd s t := by
  simp only [selfTestDone, h, hacc, hblame, if_true]

theorem selfTestDone_blames {live : Nat} (h : testOf s c n false = some t) (hacc : t.acc = none) (hblame : t.blame = some live) :
    selfTestDone s c n true = wearInput (testEnd s t) c live 4 := by
  simp only [selfTestDone, h, hacc, hblame, if_true]

theorem selfTestDone_fail (h : testOf s c n false = some t) (hacc : t.acc = none) :
    selfTestDone s c n false = wearInput (testFailed (testEnd s t) c n 1) c n 6 := by
  simp only [selfTestDone, h, hacc, Bool.false_eq_true, if_false]

theorem shadowTestDone_none (h : testOf s c n true = none) : shadowTestDone s c n = s := by
  simp only [shadowTestDone, h]

theorem shadowTestDone_short (h : testOf s c n true = some t) (hdiff : t.diff = false) (hmet : t.met < t.need) :
    shadowTestDone s c n = s := by
  simp only [shadowTestDone, h, hdiff, hmet, and_self, if_true]

theorem shadowTestDone_met (h : testOf s c n true = some t) (hacc : t.acc = none) (hdiff : t.diff = false) (hmet : t.need ≤ t.met) :
    shadowTestDone s c n = shadowStop (testEnd s t) c (t.spare.getD 0) := by
  simp only [shadowTestDone, h, hacc, hdiff, Nat.not_lt.2 hmet, and_false, Bool.false_eq_true, if_false]

/-- Results that differed ask for a self-test of the spare. -/
theorem shadowTestDone_differs (h : testOf s c n true = some t) (hacc : t.acc = none) (hdiff : t.diff = true) :
    shadowTestDone s c n = modHlt (testFailed (shadowStop (testEnd s t) c (t.spare.getD 0)) c n 2) fun h =>
      { h with tests := h.tests ++ [{ cls := c, inst := t.spare.getD 0, spare := none, acc := none, blame := some n }] } := by
  simp only [shadowTestDone, h, hacc, hdiff, Bool.true_eq_false, false_and, if_true, if_false]

theorem ledgerDue_early (h : ¬(s.hlt.rewrite = true ∨ s.hlt.wrote + 3600 * secU ≤ s.time.elapsed)) (ok : Bool) : ledgerDue s ok = s :=
  if_neg h

theorem ledgerDue_taken (h : s.hlt.rewrite = true ∨ s.hlt.wrote + 3600 * secU ≤ s.time.elapsed) : ledgerDue s true = ledgerStore s :=
  if_pos h

theorem ledgerDue_failed (h : s.hlt.rewrite = true ∨ s.hlt.wrote + 3600 * secU ≤ s.time.elapsed) : ledgerDue s false = ledgerFail s :=
  if_pos h

end

/-- Settles O41: each command by the cases of its own step. -/
theorem wearAndTests : Obligations.WearAndTests := by
  intro s a hfind
  have came (f : State → State) {u : State} (h : f a = u) : event (unlessHeld f) s = .next (leave s u) :=
    (event_finds hfind f).trans (by rw [h])
  refine ⟨⟨fun early => came wearHour (wearHour_early early), fun due => came wearHour (wearHour_due due)⟩, ?tests, ?results, ?ledger⟩
  case tests =>
    exact ⟨fun none => came backgroundTest (backgroundTest_none none), fun hon hperiod hlast =>
      ⟨fun h => came backgroundTest (backgroundTest_untestable hon hperiod hlast h),
        fun x h => came backgroundTest (backgroundTest_starts hon hperiod hlast h)⟩⟩
  case results =>
    intro c i n
    refine ⟨fun pass h => came (selfTestDone · c n pass) (selfTestDone_none h pass), fun t h hacc => ?self,
      fun h => came (shadowTestDone · c n) (shadowTestDone_none h), fun t h hacc => ?shadow⟩
    case self =>
      exact ⟨fun hblame => came (selfTestDone · c n true) (selfTestDone_pass h hacc hblame),
        fun live hblame => came (selfTestDone · c n true) (selfTestDone_blames h hacc hblame),
        came (selfTestDone · c n false) (selfTestDone_fail h hacc)⟩
    case shadow =>
      exact ⟨fun hdiff hmet => came (shadowTestDone · c n) (shadowTestDone_short h hdiff hmet),
        fun hdiff hmet => came (shadowTestDone · c n) (shadowTestDone_met h hacc hdiff hmet),
        fun hdiff => came (shadowTestDone · c n) (shadowTestDone_differs h hacc hdiff)⟩
  case ledger =>
    intro isDue
    exact ⟨fun early ok => came (ledgerDue · ok) (ledgerDue_early early ok),
      fun due => ⟨⟨ledgerStore a, came (ledgerDue · true) (ledgerDue_taken due), rfl, rfl, rfl, rfl, rfl, rfl, rfl, rfl, rfl⟩,
        came (ledgerDue · false) (ledgerDue_failed due)⟩⟩

end Sys2Proof.Machine
end

section
namespace Sys2Proof.Machine

/-! ### The start of a darn and the retirement of a unit without a spare (R451, R457) -/

section
variable {s : State}

theorem darnStart_none (h : s.hlt.queue = []) : darnStart s = s := by simp only [darnStart, h]

/-- The device is not ready for a darn: slot 1 is taken, a darn is open, or the mode is not one that has settled. -/
abbrev DarnBarred (s : State) : Prop :=
  (pressAt s 1).phase ≠ .free ∨ darnOpen s = true ∨ s.md.mode = .dormant ∨ s.md.mode = .boot ∨ s.time.frame ≤ s.md.changeFrame

theorem darnStart_barred (h : DarnBarred s) : darnStart s = s := by
  unfold darnStart
  split
  · rfl
  · exact if_pos h

section
variable {r : DarnReq} {rest : List DarnReq} (hq : s.hlt.queue = r :: rest) (hfree : ¬ DarnBarred s)
include hq hfree

theorem darnStart_closes (hs : serves s r.cls r.worn = false) : darnStart s = darnClose s stNORES 0 := by
  simp only [darnStart, hq]
  rw [if_neg hfree, if_pos hs]

theorem darnStart_starts {sp : Nat} (hdarn : s.hlt.darn = none) (hs : serves s r.cls r.worn = true)
    (hsp : r.spare = some sp ∧ sp ∈ darnSpares s r.cls ∨ r.spare = none ∧ (darnSpares s r.cls).head? = some sp)
    (htests : ∀ t, t ∈ s.hlt.tests → t.cls ≠ r.cls ∨ t.inst ≠ sp ∧ t.spare ≠ some sp) (hcold : servesNothing s r.cls r.worn = true) :
    darnStart s =
      raise (modPress (modHlt s fun h => { h with darn := some (r, sp, 0, 0, 2), prog := [] }) 1 fun p =>
        { phase := .armed, owner := 25, members := [.darn r.cls r.worn sp], grain := darnGrain r.cls, armFrame := s.time.frame,
          armElapsed := s.time.elapsed, lastCommitted := p.lastCommitted, lastReason := p.lastReason, lastFrame := p.lastFrame })
      .hltDarnStarted 0 (origin (tyOf r.cls) r.worn + origin (tyOf r.cls) sp * 4294967296) (origin (tyOf r.cls) r.worn) := by
  have unmarked : ledgerMark s = s := by simp only [ledgerMark, hdarn]
  have untested : (s.hlt.tests.filter fun t => decide (t.cls = r.cls) && (decide (t.inst = sp) || decide (t.spare = some sp))) = [] := by
    refine List.filter_eq_nil_iff.2 fun t ht => ?_
    rcases htests t ht with h | ⟨hi, hp⟩
    · simp [h]
    · simp [hi, hp]
  have unbarred : (s.hlt.tests.any fun t => decide (t.cls = r.cls) && decide (t.inst = sp) && decide (t.bar = some r.worn)) = false := by
    refine List.any_eq_false.2 fun t ht => ?_
    rcases htests t ht with h | ⟨hi, -⟩
    · simp [h]
    · simp [hi]
  unfold darnStart
  simp only [hq]
  rw [if_neg hfree, if_neg (by rw [hs]; decide), unmarked]
  rcases hsp with ⟨own, hmem⟩ | ⟨first, hhead⟩
  · have listed : ((darnSpares s r.cls).filter fun sp => !(s.hlt.tests.any fun t =>
        decide (t.cls = r.cls) && decide (t.inst = sp) && decide (t.bar = some r.worn))).contains sp = true :=
      List.contains_iff_mem.2 (List.mem_filter.2 ⟨hmem, by rw [unbarred]; rfl⟩)
    simp only [own, listed, if_true, untested, List.foldl_nil, hcold]
    rfl
  · obtain ⟨tail, hall⟩ := List.head?_eq_some_iff.1 hhead
    have listed : ((darnSpares s r.cls).filter fun sp => !(s.hlt.tests.any fun t =>
        decide (t.cls = r.cls) && decide (t.inst = sp) && decide (t.bar = some r.worn))).head? = some sp := by
      rw [hall, List.filter_cons_of_pos (by rw [unbarred]; rfl), List.head?_cons]
    simp only [first, listed, untested, List.foldl_nil, hcold, if_true]
    rfl

end

variable {c i : Nat}

theorem noSpareRetire_none (h : s.hlt.stopping.find? (fun e => e.1 = origin (tyOf c) i) = none) : noSpareRetire s c i = s := by
  simp only [noSpareRetire, h]

theorem noSpareRetire_waits {k limit : Nat} (h : s.hlt.stopping.find? (fun e => e.1 = origin (tyOf c) i) = some (k, limit))
    (hstill : jointsStill s (servedJoints s c i) = false) (hlimit : s.time.elapsed < limit) : noSpareRetire s c i = s := by
  simp only [noSpareRetire, h, hstill, Bool.false_eq_true, false_or, Nat.not_le.2 hlimit, if_false]

theorem noSpareRetire_retires {k limit : Nat} (h : s.hlt.stopping.find? (fun e => e.1 = origin (tyOf c) i) = some (k, limit))
    (hdue : jointsStill s (servedJoints s c i) = true ∨ limit ≤ s.time.elapsed) :
    noSpareRetire s c i = modHlt (retireInst (raiseNoSpare s .hltNoSpareOff c i) c i 3) fun h =>
      { h with stopping := h.stopping.filter fun e => e.1 ≠ origin (tyOf c) i } := by
  simp only [noSpareRetire, h, hdue, if_true]

end

/-- Settles O42: DARN_START by what bars it, whether the worn unit serves and the spare it takes; NO_SPARE_RETIRE by its limit. -/
theorem darnsAndRetirement : Obligations.DarnsAndRetirement := by
  intro s a hfind
  have came {u : State} (h : darnStart a = u) : exec .darnStart s = .next (leave s u) := (event_finds hfind darnStart).trans (by rw [h])
  have unbarred (hfree : (pressAt a 1).phase = .free) (hopen : darnOpen a = false) (hd : a.md.mode ≠ .dormant) (hb : a.md.mode ≠ .boot)
      (hc : a.md.changeFrame < a.time.frame) : ¬ DarnBarred a := by
    rintro (h | h | h | h | h)
    · exact h hfree
    · exact absurd (hopen.symm.trans h) (by decide)
    · exact hd h
    · exact hb h
    · exact absurd h (Nat.not_le.2 hc)
  refine ⟨fun h => ?barred, fun r rest hq hfree hopen hd hb hc hs => ?closed, ?started, fun c i => ?retire⟩
  case barred =>
    rcases h with h | h
    · exact came (darnStart_none h)
    · exact came (darnStart_barred h)
  case closed => exact came (darnStart_closes hq (unbarred hfree hopen hd hb hc) hs)
  case started =>
    intro r rest sp hq hfree hdarn hd hb hc hs hsp htests hcold p
    have hopen : darnOpen a = false := by simp only [darnOpen, hdarn]
    exact came (darnStart_starts hq (unbarred hfree hopen hd hb hc) hdarn hs hsp htests hcold)
  case retire =>
    intro key
    have came {u : State} (h : noSpareRetire a c i.toNat = u) : exec (.noSpareRetire c i) s = .next (leave s u) :=
      (event_finds hfind (noSpareRetire · c i.toNat)).trans (by rw [h])
    exact ⟨fun h => came (noSpareRetire_none h), fun k limit h => ⟨fun hstill hlimit => came (noSpareRetire_waits h hstill hlimit),
      fun hdue => came (noSpareRetire_retires h hdue)⟩⟩

end Sys2Proof.Machine
end

section
namespace Sys2Proof.Machine

/-! ### Bytes of device DRAM written and read back (R478, R486) -/

/-- The cells of a byte range: an address and its byte. -/
def cellsFrom (x : Nat) (bs : List Byte) : List (Nat × Byte) := bs.zipIdx.map fun e => (x + e.2, e.1)

theorem mem_cellsFrom {x : Nat} {bs : List Byte} {c : Nat × Byte} :
    c ∈ cellsFrom x bs ↔ (x ≤ c.1 ∧ c.1 < x + bs.length) ∧ c.2 = bs.getD (c.1 - x) 0 := by
  obtain ⟨y, v⟩ := c
  simp only [cellsFrom, List.mem_map, Prod.exists, List.mem_zipIdx_iff_getElem?, Prod.mk.injEq]
  constructor
  · rintro ⟨b, i, hi, rfl, rfl⟩
    have lt := (List.getElem?_eq_some_iff.1 hi).1
    exact ⟨⟨by omega, by omega⟩, by simp [List.getD_eq_getElem?_getD, hi]⟩
  · rintro ⟨⟨lo, hi⟩, rfl⟩
    have lt : y - x < bs.length := by omega
    exact ⟨bs[y - x], y - x, List.getElem?_eq_getElem lt, by omega, by simp [List.getD_eq_getElem?_getD, lt]⟩

/-- Cells written one after another. -/
def putCells (m : List (Nat × Byte)) (cs : List (Nat × Byte)) : List (Nat × Byte) := cs.foldl (fun d c => memSet d c.1 c.2) m

/-- A range is written cell by cell. -/
theorem memSets_eq_putCells (bs : List Byte) (x k : Nat) :
    ∀ m, memSets m (x + k) bs = putCells m ((bs.zipIdx k).map fun e => (x + e.2, e.1)) := by
  induction bs generalizing k with
  | nil => exact fun _ => rfl
  | cons b bs ih =>
    intro m
    rw [memSets, show x + k + 1 = x + (k + 1) from rfl, ih (k + 1)]
    rfl

/-- A byte after cells have been written: that of its cells, when they agree, else what it was. -/
theorem memByte_putCells {cs : List (Nat × Byte)} {y : Nat} {v : Byte} (agree : ∀ c, c ∈ cs → c.1 = y → c.2 = v) :
    ∀ {m}, memWf m = true → memByte (putCells m cs) y = if ∃ c, c ∈ cs ∧ c.1 = y then v else memByte m y := by
  induction cs with
  | nil => simp [putCells]
  | cons c cs ih =>
    intro m hm
    have tail := ih (fun d hd => agree d (List.mem_cons_of_mem _ hd)) (memSet_wf m c.1 c.2 hm)
    rw [putCells, List.foldl_cons, ← putCells, tail]
    by_cases here : c.1 = y
    · obtain rfl := agree c List.mem_cons_self here
      subst here
      simp [memByte_memSet_self m c.1 c.2 hm]
    · simp [here, memByte_memSet_other m c.1 y c.2 hm (Ne.symm here)]

/-- The cells of a write that do not wait for a copied page. -/
def cellsNow (s : State) (x : Nat) (bs : List Byte) : List (Nat × Byte) :=
  (cellsFrom x bs).filter fun c => !(s.mem.retiring.contains (c.1 / 4096))

theorem mem_cellsNow {s : State} {x : Nat} {bs : List Byte} {c : Nat × Byte} :
    c ∈ cellsNow s x bs ↔ ((x ≤ c.1 ∧ c.1 < x + bs.length) ∧ c.2 = bs.getD (c.1 - x) 0) ∧ c.1 / 4096 ∉ s.mem.retiring := by
  simp [cellsNow, mem_cellsFrom]

theorem memWrite_dram (s : State) (x : Nat) (bs : List Byte) :
    (memWrite s x bs).mem.dram = putCells s.mem.dram (cellsNow s x bs) := by
  unfold memWrite
  dsimp only
  split
  case isTrue none =>
    have all : cellsNow s x bs = cellsFrom x bs := by simp [cellsNow, none]
    rw [all]
    exact memSets_eq_putCells bs x 0 s.mem.dram
  case isFalse => rfl

theorem memByte_memWrite_now {s : State} {x y : Nat} {bs : List Byte} (hs : dramWf s = true) (hy : x ≤ y ∧ y < x + bs.length)
    (hr : y / 4096 ∉ s.mem.retiring) : memByte (memWrite s x bs).mem.dram y = bs.getD (y - x) 0 := by
  have agree (c : Nat × Byte) (hc : c ∈ cellsNow s x bs) (he : c.1 = y) : c.2 = bs.getD (y - x) 0 := he ▸ (mem_cellsNow.1 hc).1.2
  rw [memWrite_dram, memByte_putCells agree hs, if_pos ⟨(y, bs.getD (y - x) 0), mem_cellsNow.2 ⟨⟨hy, rfl⟩, hr⟩, rfl⟩]

theorem memByte_memWrite_not {s : State} {x y : Nat} {bs : List Byte} (hs : dramWf s = true)
    (h : ¬(x ≤ y ∧ y < x + bs.length) ∨ y / 4096 ∈ s.mem.retiring) : memByte (memWrite s x bs).mem.dram y = memByte s.mem.dram y := by
  have elsewhere (c : Nat × Byte) (hc : c ∈ cellsNow s x bs) : c.1 ≠ y := by
    rintro rfl
    obtain ⟨⟨hin, -⟩, hr⟩ := mem_cellsNow.1 hc
    exact h.elim (absurd hin) (absurd · hr)
  rw [memWrite_dram, memByte_putCells (v := 0) (fun c hc he => absurd he (elsewhere c hc)) hs,
    if_neg fun ⟨c, hc, he⟩ => elsewhere c hc he]

theorem mem_waitW_memWrite (s : State) (x : Nat) (bs : List Byte) (c : Nat × Byte) :
    c ∈ (memWrite s x bs).mem.waitW ↔
      c ∈ s.mem.waitW ∨ (x ≤ c.1 ∧ c.1 < x + bs.length) ∧ c.1 / 4096 ∈ s.mem.retiring ∧ c.2 = bs.getD (c.1 - x) 0 := by
  unfold memWrite
  dsimp only
  split
  case isTrue none => simp [none]
  case isFalse =>
    have cells : bs.zipIdx.map (fun e => (x + e.2, e.1)) = cellsFrom x bs := rfl
    simp only [cells, List.mem_append, List.mem_filter, mem_cellsFrom, List.contains_iff_mem]
    tauto

/-- Every byte of a line is among the cells. -/
def writtenWhole (cs : List (Nat × Byte)) (l : Nat) : Bool := (List.range 64).all fun i => cs.any fun c => decide (c.1 = l * 64 + i)

theorem writtenWhole_iff (s : State) (x : Nat) (bs : List Byte) (l : Nat) :
    writtenWhole (cellsNow s x bs) l = true ↔ x ≤ l * 64 ∧ l * 64 + 64 ≤ x + bs.length ∧ l / 64 ∉ s.mem.retiring := by
  have page (i : Nat) (hi : i < 64) : (l * 64 + i) / 4096 = l / 64 := by omega
  simp only [writtenWhole, List.all_eq_true, List.mem_range, List.any_eq_true, decide_eq_true_eq]
  constructor
  · intro all
    obtain ⟨c, hc, first⟩ := all 0 (by decide)
    obtain ⟨d, hd, last⟩ := all 63 (by decide)
    obtain ⟨⟨⟨lo, -⟩, -⟩, hr⟩ := mem_cellsNow.1 hc
    obtain ⟨⟨⟨-, hi⟩, -⟩, -⟩ := mem_cellsNow.1 hd
    rw [first, page 0 (by decide)] at hr
    exact ⟨by omega, by omega, hr⟩
  · rintro ⟨lo, hi, hr⟩ i hlt
    exact ⟨(l * 64 + i, bs.getD (l * 64 + i - x) 0), mem_cellsNow.2 ⟨⟨⟨by dsimp only; omega, by dsimp only; omega⟩, rfl⟩, by rw [page i hlt]; exact hr⟩, rfl⟩

/-- A line written whole, and at once, is no longer poisoned. -/
theorem mem_poisoned_memWrite (s : State) (x : Nat) (bs : List Byte) (l : Nat) :
    l ∈ (memWrite s x bs).mem.poisoned ↔
      l ∈ s.mem.poisoned ∧ ¬(x ≤ l * 64 ∧ l * 64 + 64 ≤ x + bs.length ∧ l / 64 ∉ s.mem.retiring) := by
  unfold memWrite
  dsimp only
  split
  case isTrue none =>
    simp only [none, List.mem_filter, Bool.not_eq_true', Bool.and_eq_false_iff, decide_eq_false_iff_not, List.not_mem_nil, not_false_eq_true,
      and_true, not_and_or]
  case isFalse =>
    have cells : ((bs.zipIdx.map fun e => (x + e.2, e.1)).filter fun c => !(s.mem.retiring.contains (c.1 / 4096))) = cellsNow s x bs := rfl
    simp only [cells, memCells, List.mem_filter, Bool.not_eq_true', ← Bool.not_eq_true, ← writtenWhole_iff, writtenWhole]

theorem memRead_memWrite {s : State} {x : Nat} {bs : List Byte} (hs : dramWf s = true)
    (h : ∀ y, x ≤ y ∧ y < x + bs.length → y / 4096 ∉ s.mem.retiring) : memRead (memWrite s x bs) x bs.length = bs := by
  refine List.ext_getElem (by simp [memRead]) fun i _ hi => ?_
  have hin : x ≤ x + i ∧ x + i < x + bs.length := by omega
  simp only [memRead, List.getElem_map, List.getElem_range, memByte_memWrite_now hs hin (h _ hin), Nat.add_sub_cancel_left]
  simp [List.getD_eq_getElem?_getD, hi]

theorem memWrite_mem (s : State) (x : Nat) (bs : List Byte) :
    memWrite s x bs = { s with mem := { s.mem with
      dram := (memWrite s x bs).mem.dram, poisoned := (memWrite s x bs).mem.poisoned, weak := (memWrite s x bs).mem.weak,
      waitW := (memWrite s x bs).mem.waitW } } := by
  unfold memWrite
  dsimp only
  split <;> rfl

/-! ### The patrol scrub and the retirement of pages (R483 to R486) -/

/-- The scrub has moved on from its position. -/
def scrubMoved (s : State) (pos : Nat) : State :=
  { s with mem := { s.mem with
    scrubPos := pos, scrubAt := s.mem.scrubAt + bits (reg s 0x278004) 7 8 * 3600 * secU / 268435456 } }

section
variable {s : State}

/-- The scrub runs, and its next read is due. -/
abbrev ScrubDue (s : State) : Prop :=
  bit (reg s 0x278004) 0 = true ∧ s.pins.powerState < 2 ∧ s.md.mode ≠ .boot ∧ s.mem.scrubAt ≤ s.time.elapsed

theorem scrubOn_iff (s : State) : (scrubOn s = true ∧ s.mem.scrubAt ≤ s.time.elapsed) ↔ ScrubDue s := by
  simp [scrubOn, ScrubDue, and_assoc]

theorem scrubRead_pauses (h : ¬ ScrubDue s) (e : Nat) : scrubRead s e = s := if_neg fun on => h ((scrubOn_iff s).1 on)

/-- A due read moves the scrub on, meets what it meets, and ends the pass behind the last line. -/
theorem scrubRead_due (h : ScrubDue s) (e : Nat) : scrubRead s e =
    (let wrap := decide (0x400000000 ≤ s.mem.scrubPos + 64)
     let t := scrubMoved s (if wrap then 0 else s.mem.scrubPos + 64)
     let u := if e = 2 ∨ s.mem.poisoned.contains (scrubLine s.mem.scrubPos) = true then uncorrectable t (scrubLine s.mem.scrubPos)
       else if e = 1 ∨ s.mem.weak.contains (scrubLine s.mem.scrubPos) = true then correctable t (scrubLine s.mem.scrubPos) else t
     if wrap then modMem u fun m => { m with corr := [] } else u) := if_pos ((scrubOn_iff s).2 h)

theorem scrubRead_within (h : ScrubDue s) (hpos : s.mem.scrubPos + 64 < 0x400000000) (e : Nat) : scrubRead s e =
    (let t := scrubMoved s (s.mem.scrubPos + 64)
     if e = 2 ∨ s.mem.poisoned.contains (scrubLine s.mem.scrubPos) = true then uncorrectable t (scrubLine s.mem.scrubPos)
     else if e = 1 ∨ s.mem.weak.contains (scrubLine s.mem.scrubPos) = true then correctable t (scrubLine s.mem.scrubPos) else t) := by
  rw [scrubRead_due h, decide_eq_false (Nat.not_le.2 hpos)]
  rfl

section
variable (hp : scrubLine s.mem.scrubPos ∉ s.mem.poisoned)
include hp

theorem notPoisoned {e : Nat} (he : e ≠ 2) : ¬(e = 2 ∨ s.mem.poisoned.contains (scrubLine s.mem.scrubPos) = true) := by simp [he, hp]

theorem scrubRead_clean (h : ScrubDue s) (hpos : s.mem.scrubPos + 64 < 0x400000000) (hw : scrubLine s.mem.scrubPos ∉ s.mem.weak) :
    scrubRead s 0 = scrubMoved s (s.mem.scrubPos + 64) := by
  rw [scrubRead_within h hpos]
  exact (if_neg (notPoisoned hp (by decide))).trans (if_neg (by simp [hw]))

theorem scrubRead_corrected (h : ScrubDue s) (hpos : s.mem.scrubPos + 64 < 0x400000000) :
    scrubRead s 1 = correctable (scrubMoved s (s.mem.scrubPos + 64)) (scrubLine s.mem.scrubPos) := by
  rw [scrubRead_within h hpos]
  exact (if_neg (notPoisoned hp (by decide))).trans (if_pos (.inl rfl))

theorem scrubRead_wraps (h : ScrubDue s) (hpos : 0x400000000 ≤ s.mem.scrubPos + 64) (hw : scrubLine s.mem.scrubPos ∉ s.mem.weak) :
    scrubRead s 0 = modMem (scrubMoved s 0) fun m => { m with corr := [] } := by
  rw [scrubRead_due h, decide_eq_true hpos]
  refine (if_pos rfl).trans (congrArg (modMem · fun m => { m with corr := [] }) ?_)
  exact (if_neg (notPoisoned hp (by decide))).trans (if_neg (by simp [hw]))

end

theorem scrubRead_uncorrected (h : ScrubDue s) (hpos : s.mem.scrubPos + 64 < 0x400000000) :
    scrubRead s 2 = uncorrectable (scrubMoved s (s.mem.scrubPos + 64)) (scrubLine s.mem.scrubPos) := by
  rw [scrubRead_within h hpos]
  exact if_pos (.inl rfl)

theorem retirePage_underWay {p : Nat} (h : p ∈ s.mem.retiring) : retirePage s p = s := if_pos (List.contains_iff_mem.2 h)

theorem retirePage_exhausted {p : Nat} (h : 4096 ≤ sparesUsed s + s.mem.retiring.length) : retirePage s p = s := by
  by_cases hp : p ∈ s.mem.retiring
  · exact retirePage_underWay hp
  · exact (if_neg (by simpa using hp)).trans (if_pos h)

theorem retirePage_starts {p : Nat} (hp : p ∉ s.mem.retiring) (h : sparesUsed s + s.mem.retiring.length < 4096) :
    retirePage s p = { s with mem := { s.mem with retiring := s.mem.retiring ++ [p] } } :=
  (if_neg (by simpa using hp)).trans (if_neg (Nat.not_le.2 h))

end

/-- Lines of zeros. -/
def zeroLines (m : List (Nat × Byte)) (ls : List Nat) : List (Nat × Byte) :=
  ls.foldl (fun m l => memSets m (l * 64) (List.replicate 64 0)) m

theorem zeroLines_wf (ls : List Nat) : ∀ {m}, memWf m = true → memWf (zeroLines m ls) = true := by
  induction ls with
  | nil => exact id
  | cons l ls ih =>
    intro m hm
    rw [zeroLines, List.foldl_cons, ← zeroLines]
    exact ih (memSets_wf _ _ _ hm)

theorem memByte_zeroLine {m : List (Nat × Byte)} (hm : memWf m = true) (l y : Nat) :
    memByte (memSets m (l * 64) (List.replicate 64 0)) y = if y / 64 = l then 0 else memByte m y := by
  have cells : memSets m (l * 64) (List.replicate 64 0) = putCells m (cellsFrom (l * 64) (List.replicate 64 0)) :=
    memSets_eq_putCells _ (l * 64) 0 m
  have zero (c : Nat × Byte) (hc : c ∈ cellsFrom (l * 64) (List.replicate 64 0)) : c.2 = 0 := by
    obtain ⟨hin, he⟩ := mem_cellsFrom.1 hc
    rw [List.length_replicate] at hin
    rw [he, List.getD_eq_getElem?_getD, List.getElem?_replicate, if_pos (by omega), Option.getD_some]
  have here : (∃ c, c ∈ cellsFrom (l * 64) (List.replicate 64 (0 : Byte)) ∧ c.1 = y) ↔ y / 64 = l := by
    constructor
    · rintro ⟨c, hc, rfl⟩
      obtain ⟨hin, -⟩ := mem_cellsFrom.1 hc
      rw [List.length_replicate] at hin
      omega
    · intro h
      exact ⟨(y, (List.replicate 64 (0 : Byte)).getD (y - l * 64) 0), mem_cellsFrom.2 ⟨by rw [List.length_replicate]; dsimp only; omega, rfl⟩, rfl⟩
  rw [cells, memByte_putCells (fun c hc _ => zero c hc) hm]
  simp only [here]

theorem memByte_zeroLines (ls : List Nat) (y : Nat) :
    ∀ {m}, memWf m = true → memByte (zeroLines m ls) y = if y / 64 ∈ ls then 0 else memByte m y := by
  induction ls with
  | nil => simp [zeroLines]
  | cons l ls ih =>
    intro m hm
    rw [zeroLines, List.foldl_cons, ← zeroLines, ih (memSets_wf _ _ _ hm), memByte_zeroLine hm]
    by_cases hl : y / 64 = l <;> simp [hl]

/-- The lines of a page that could not be corrected. -/
def badLines (s : State) (p : Nat) : List Nat := s.mem.poisoned.filter fun l => decide (l / 64 = p)

/-- The page remapped, before the writes that waited: its bad lines are zeros. -/
def pageRemapped (s : State) (p : Nat) : State :=
  modMem s fun m => { m with dram := zeroLines m.dram (badLines s p), retiring := m.retiring.filter (· ≠ p),
                             remap := mput m.remap p (sparesUsed s), corr := mdel m.corr p }

/-- The page remapped and the writes that waited for it done. -/
def pageMoved (s : State) (p : Nat) : State :=
  modMem (pageRemapped s p) fun m =>
    { memCells m (m.waitW.filter fun c => decide (c.1 / 4096 = p)) with waitW := m.waitW.filter fun c => decide (c.1 / 4096 ≠ p) }

/-- What is done to the bytes line by line is done to the bytes alone. -/
theorem foldl_dram (g : List (Nat × Byte) → Nat → List (Nat × Byte)) (ls : List Nat) : ∀ s : State,
    ls.foldl (fun s l => modMem s fun m => { m with dram := g m.dram l }) s = modMem s fun m => { m with dram := ls.foldl g m.dram } := by
  induction ls with
  | nil => exact fun _ => rfl
  | cons l ls ih =>
    intro s
    rw [List.foldl_cons, ih]
    rfl

theorem pageRetired_copying {s : State} {p : Nat} (h : p ∈ s.mem.retiring) : pageRetired s p =
    (let u := raise (pageMoved s p) .memPageRetired 0 (p * 4294967296 + oTRC) oTRC
     if sparesUsed u = 4096 then raise u .memRetireExhausted 0 oTRC oTRC else u) := by
  unfold pageRetired
  rw [if_pos (List.contains_iff_mem.2 h)]
  dsimp only
  rw [foldl_dram fun m l => memSets m (l * 64) (List.replicate 64 0)]
  rfl

theorem pageRetired_other {s : State} {p : Nat} (h : p ∉ s.mem.retiring) : pageRetired s p = s := if_neg (by simpa using h)

theorem pageMoved_wf {s : State} {p : Nat} (h : dramWf s = true) : dramWf (pageMoved s p) = true :=
  memCells_wf _ _ (zeroLines_wf (badLines s p) h)

/-- Without cells nothing is written. -/
theorem memCells_nil (m : MemSt) : memCells m [] = m := by
  have unwritten : ((List.range 64).all fun _ => false) = false := by decide
  simp [memCells, unwritten]

/-- When no write waits for the page, its bad lines are zeros and the rest is as it was. -/
theorem pageMoved_unwaited {s : State} {p : Nat} (h : ∀ c, c ∈ s.mem.waitW → c.1 / 4096 ≠ p) :
    (pageMoved s p).mem.poisoned = s.mem.poisoned ∧ (pageMoved s p).mem.dram = zeroLines s.mem.dram (badLines s p) := by
  have none : ((pageRemapped s p).mem.waitW.filter fun c => decide (c.1 / 4096 = p)) = [] :=
    List.filter_eq_nil_iff.2 fun c hc => by simpa using h c hc
  have cells := memCells_nil (pageRemapped s p).mem
  rw [← none] at cells
  exact ⟨congrArg (·.poisoned) cells, congrArg (·.dram) cells⟩

/-- Settles O43: the scrub's read by what it meets, the retirement of a page by its cells, and the reads that follow a write. -/
theorem memoryUpkeep : Obligations.MemoryUpkeep := by
  refine ⟨fun s a => ⟨fun hfind => ?scrub, fun page hfind => ?page, fun req w hfind => ?retire⟩, fun s x bs hs => ?write⟩
  case scrub =>
    intro on pos line nextAt moved
    have came (e : Fin 3) {u : State} (h : scrubRead a e = u) : exec (.patrolScrubRead e) s = .next (leave s u) :=
      (event_finds hfind (scrubRead · e)).trans (by rw [h])
    exact ⟨fun e off => came e (scrubRead_pauses off e), fun due hpos => ⟨fun hp hw => came 0 (scrubRead_clean hp due hpos hw),
      fun hp => came 1 (scrubRead_corrected hp due hpos), came 2 (scrubRead_uncorrected due hpos)⟩,
      fun due hpos hp hw => came 0 (scrubRead_wraps hp due hpos hw)⟩
  case page =>
    intro p
    have came {u : State} (h : pageRetired a p = u) : exec (.pageRetireDone page) s = .next (leave s u) :=
      (event_finds hfind (pageRetired · p)).trans (by rw [h])
    refine ⟨fun h => came (pageRetired_other h), fun h => ⟨pageMoved a p, came (pageRetired_copying h), rfl, rfl, rfl, pageMoved_wf,
      fun hw => ⟨(pageMoved_unwaited hw).1, fun hwf x => ?_⟩⟩⟩
    have bad : x / 64 ∈ badLines a p ↔ x / 64 ∈ a.mem.poisoned ∧ x / 4096 = p := by
      rw [badLines, List.mem_filter, decide_eq_true_eq, Nat.div_div_eq_div_mul]
    rw [(pageMoved_unwaited hw).2, memByte_zeroLines _ _ hwf]
    simp only [bad]
  case retire =>
    intro p
    have came {u : State} (h : (if p < 0x3E0000 then retirePage a p else a) = u) : exec (.memRetirePage req w) s = .next (leave s u) :=
      (event_findsReg hfind fun s => if w.toNat < 0x3E0000 then retirePage s w.toNat else s).trans (by rw [← h])
    refine ⟨fun h => came ?_, fun hp hr h => came ((if_pos hp).trans (retirePage_starts hr h)),
      fun hp hr h => came ((if_pos hp).trans (retirePage_exhausted h))⟩
    rcases h with h | h
    · exact if_neg (Nat.not_lt.2 h)
    · rw [retirePage_underWay h, ite_self]
  case write =>
    intro t put
    exact ⟨memWrite_wf s x bs hs, fun y hy hr => memByte_memWrite_now hs hy hr, fun y h => memByte_memWrite_not hs h,
      mem_waitW_memWrite s x bs, memRead_memWrite hs, mem_poisoned_memWrite s x bs, memWrite_mem s x bs⟩

end Sys2Proof.Machine
end

section
namespace Sys2Proof.Machine

/-! ### Reports and completions leave the graph's standing alone (R368) -/

@[simp] theorem sendMsix_gsc (s : State) (f v : Nat) : (sendMsix s f v).gsc = s.gsc := by
  unfold sendMsix
  dsimp only
  repeat' split
  all_goals rfl

@[simp] theorem notifyRing_gsc (s : State) (r : Nat) (urgent : Bool) : (notifyRing s r urgent).gsc = s.gsc := by
  unfold notifyRing ringMessage
  dsimp only
  split <;> simp

@[simp] theorem putEvent_gsc (s : State) (e : Nat) (er : EventRec) : (putEvent s e er).gsc = s.gsc := rfl

theorem foldl_gsc {α : Type} (g : State → α → State) (h : ∀ s x, (g s x).gsc = s.gsc) (l : List α) (s : State) :
    (l.foldl g s).gsc = s.gsc := by
  induction l generalizing s with
  | nil => rfl
  | cons x l ih => rw [List.foldl_cons, ih, h]

@[simp] theorem deliverEvent_gsc (fuel : Nat) (s : State) (e : Nat) (er : EventRec) : (deliverEvent fuel s e er).gsc = s.gsc := by
  induction fuel generalizing s e er with
  | zero =>
    unfold deliverEvent
    dsimp only
    repeat' split
    all_goals simp
  | succ k ih =>
    unfold deliverEvent
    dsimp only
    repeat' split
    all_goals simp [foldl_gsc, ih]

theorem foldl_gsc_fst {α β : Type} (g : State × β → α → State × β) (h : ∀ p x, (g p x).1.gsc = p.1.gsc) (l : List α) (p : State × β) :
    (l.foldl g p).1.gsc = p.1.gsc := by
  induction l generalizing p with
  | nil => rfl
  | cons x l ih => rw [List.foldl_cons, ih, h]

@[simp] theorem routeEvent_gsc (s : State) (er : EventRec) : (routeEvent s er).gsc = s.gsc := by
  unfold routeEvent
  dsimp only
  rw [apply_ite State.gsc, bump_gsc, ite_self, foldl_gsc_fst]
  exact fun p e => deliverEvent_gsc 64 p.1 e er

@[simp] theorem traceSample_gsc (s : State) (ch : Nat) (t : Trace) (wall flags a b : Nat) :
    (traceSample s ch t wall flags a b).gsc = s.gsc := by
  unfold traceSample traceQueue
  dsimp only
  repeat' split
  all_goals simp

@[simp] theorem traceEvent_gsc (s : State) (er : EventRec) : (traceEvent s er).gsc = s.gsc := by
  refine foldl_gsc _ (fun s e => ?_) _ s
  dsimp only
  repeat' split
  all_goals simp

@[simp] theorem queueRecord_gsc (s : State) (er : EventRec) : (queueRecord s er).gsc = s.gsc := by
  unfold queueRecord
  dsimp only
  repeat' split
  all_goals simp

@[simp] theorem writeRecord_gsc (s : State) (er : EventRec) : (writeRecord s er).gsc = s.gsc := by simp [writeRecord]

@[simp] theorem report_gsc (s : State) (r : Report) : (report s r).gsc = s.gsc := by
  unfold report
  dsimp only
  repeat' split
  all_goals simp

theorem writeCompletion_gsc (s : State) (a : Acc) (status handle detail flags release : Nat) :
    (writeCompletion s a status handle detail flags release).gsc = s.gsc := by
  unfold writeCompletion putCompletion
  dsimp only
  repeat' split
  all_goals simp

/-! ### Nodes found and changed -/

theorem mget_mmod_other {α : Type} (m : Map α) {k j : Nat} (f : α → α) (h : j ≠ k) : mget (mmod m k f) j = mget m j := by
  induction m with
  | nil => rfl
  | cons e m ih =>
    obtain ⟨i, v⟩ := e
    by_cases hi : i = k
    · subst hi
      have head : mmod ((i, v) :: m) i f = (i, f v) :: mmod m i f := by simp [mmod]
      rw [head, mget, mget, ih, if_neg h.symm, if_neg h.symm]
    · have head : mmod ((i, v) :: m) k f = (i, v) :: mmod m k f := by simp [mmod, hi]
      rw [head, mget, mget, ih]

@[simp] theorem mhas_mmod {α : Type} (m : Map α) (k j : Nat) (f : α → α) : mhas (mmod m k f) j = mhas m j := by
  by_cases h : j = k
  · subst h
    simp [mhas, mget_mmod_self]
  · simp [mhas, mget_mmod_other m f h]

/-- A node that there is reads as it has been changed. -/
theorem nodeAt_modNode_self {s : State} {i : Nat} (h : mhas s.gsc.nodes i = true) (f : Node → Node) :
    nodeAt (modNode s i f) i = f (nodeAt s i) := by
  obtain ⟨n, hn⟩ := Option.isSome_iff_exists.1 h
  have changed : mget (mmod s.gsc.nodes i f) i = some (f n) := by rw [mget_mmod_self, hn]; rfl
  simp [nodeAt, modNode, mgetD, changed, hn]

/-- There is a node at the index. -/
def hasNode (s : State) (i : Nat) : Bool := mhas s.gsc.nodes i

theorem hasNode_modNode (s : State) (n : Nat) (f : Node → Node) (i : Nat) : hasNode (modNode s n f) i = hasNode s i :=
  mhas_mmod s.gsc.nodes n i f

theorem hasNode_report (s : State) (r : Report) (i : Nat) : hasNode (report s r) i = hasNode s i := by simp [hasNode]

theorem hasNode_foldl {α : Type} (g : State → α → State) (i : Nat) (h : ∀ s x, hasNode (g s x) i = hasNode s i) (l : List α) (s : State) :
    hasNode (l.foldl g s) i = hasNode s i := by
  induction l generalizing s with
  | nil => rfl
  | cons x l ih => rw [List.foldl_cons, ih, h]

theorem hasNode_deliver (s : State) (n : Nat) (fires : Nat → Bool) (i : Nat) : hasNode (deliver s n fires) i = hasNode s i := by
  unfold deliver
  dsimp only
  rw [hasNode_modNode, hasNode_foldl _ i ?_, hasNode_foldl _ i fun s e => hasNode_modNode ..]
  intro s e
  split
  · exact (hasNode_report ..).trans (hasNode_modNode ..)
  · rfl

/-- What a node's completion leaves of it: its state and the time of its last run. -/
def nodeStanding (s : State) (i : Nat) : NodeState × Nat := ((nodeAt s i).st, (nodeAt s i).last)

theorem nodeStanding_of_gsc {s t : State} (h : s.gsc = t.gsc) (i : Nat) : nodeStanding s i = nodeStanding t i := by
  simp only [nodeStanding, nodeAt, h]

/-- A completion ends a SUBMIT node's descriptor and leaves every node's standing. -/
theorem nodeStanding_complete (s : State) (a : Acc) (status handle detail i : Nat) :
    nodeStanding (complete s a status handle detail) i = nodeStanding s i := by
  refine Eq.trans ?_ (nodeStanding_of_gsc (writeCompletion_gsc s a status handle detail 0 2) i)
  unfold complete closeAcceptance
  generalize writeCompletion s a status handle detail 0 2 = t
  dsimp only
  rw [apply_ite (nodeStanding · i), nodeStanding_of_gsc (modRing_gsc ..), ite_self]
  split
  case h_1 n _ =>
    by_cases h : i = n
    · subst h
      exact mgetD_mmod_view (fun x => (x.st, x.last)) t.gsc.nodes i (f := fun x => { x with ended := true }) (d := {}) rfl
    · simp only [nodeStanding, nodeAt, mgetD, mget_mmod_other t.gsc.nodes _ h]
  case h_2 => rfl

theorem nodeStanding_foldl {α : Type} (g : State → α → State) (i : Nat) (h : ∀ s x, nodeStanding (g s x) i = nodeStanding s i)
    (l : List α) (s : State) : nodeStanding (l.foldl g s) i = nodeStanding s i := by
  induction l generalizing s with
  | nil => rfl
  | cons x l ih => rw [List.foldl_cons, ih, h]

theorem nodeStanding_endWaits (s : State) (n : Nat) (ends : Wait → Option (Nat × Nat)) (step : Wait → Wait) (i : Nat) :
    nodeStanding (endWaits s n ends step) i = nodeStanding s i := by
  refine (nodeStanding_foldl _ i (fun s w => ?_) s.gsc.waits _).trans rfl
  split
  · split
    · exact nodeStanding_complete ..
    · rfl
  · rfl

/-- A node that completes is IDLE with the time of its run (R368, R380). -/
theorem nodeDone_standing {s : State} {i : Nat} (h : hasNode s i = true) (fires : Nat → Bool) :
    nodeStanding (nodeDone s i fires) i = (.idle, wall32 s) := by
  unfold nodeDone
  dsimp only
  rw [nodeStanding_endWaits]
  generalize hu : bump (releaseWorker (deliver s i fires) i) _ = u
  have has : mhas u.gsc.nodes i = true := by rw [← hu]; exact (hasNode_deliver s i fires i).trans h
  have wall : wall32 u = wall32 s := by
    have kept : unclosed u = unclosed s := by rw [← hu]; simp [unclosed_deliver]
    have same : wall32 (unclosed u) = wall32 (unclosed s) := congrArg wall32 kept
    exact same
  rw [apply_ite (nodeStanding · i), nodeStanding_of_gsc (report_gsc ..), ite_self, nodeStanding, nodeAt_modNode_self has, wall]

end Sys2Proof.Machine
end

section
namespace Sys2Proof.Machine

/-! ### Placement, the ends of operations, submission and timeouts (R365, R368, R371, R379, R381) -/

section
variable {s : State}

theorem placeNode_off (h : placing (judgeNodes s) = false) : placeNode s = judgeNodes s := if_pos h

/-- The placement takes the node's tokens and counts. -/
def placed (s : State) (i w : Nat) : State := bump (takeInputs s i w) 0x230010

theorem nodeAt_bump (s : State) (off i : Nat) : nodeAt (bump s off) i = nodeAt s i := rfl

theorem placed_node {i w : Nat} (h : mhas s.gsc.nodes i = true) :
    (nodeAt (placed s i w) i).st = .prefetched ∧ (nodeAt (placed s i w) i).worker = w := by
  unfold placed takeInputs
  dsimp only
  generalize hd : (nodeAt s i).edges.foldl _ s = d
  have has : mhas (unlist d i).gsc.nodes i = true := by
    rw [← hd]
    exact (hasNode_foldl _ i (fun s e => hasNode_modNode ..) _ s).trans h
  rw [nodeAt_bump, nodeAt_modNode_self has]
  exact ⟨rfl, rfl⟩

section
variable (hp : placing (judgeNodes s) = true)
include hp

theorem placeNode_none (h : placeable (reportNoWorker (judgeNodes s)) = none) : placeNode s = reportNoWorker (judgeNodes s) := by
  unfold placeNode
  simp only [hp, Bool.true_eq_false, if_false, h]

variable {i w : Nat} (h : placeable (reportNoWorker (judgeNodes s)) = some (i, w))
include h

theorem placeNode_join (hw : w = 28) :
    placeNode s = nodeDone (noteStart (placed (reportNoWorker (judgeNodes s)) i w) i) i fun _ => true := by
  unfold placeNode
  simp only [hp, Bool.true_eq_false, if_false, h, hw, if_true]
  rfl

theorem placeNode_worker (hw : w ≠ 28) :
    placeNode s = modWorker (placed (reportNoWorker (judgeNodes s)) i w) w fun x => { x with prefetch := x.prefetch ++ [i] } := by
  unfold placeNode
  simp only [hp, Bool.true_eq_false, if_false, h, hw]
  rfl

end

section
variable {i : Nat} {engine : Bool} {err : Option (Nat × Nat × Nat)}

theorem nodeCompletion_elsewhere (h : (nodeAt s i).st ≠ .inFlight) : nodeCompletion s i engine err = s := if_pos h

theorem nodeCompletion_submit_waits (hop : (nodeAt s i).op = 5) (h : (nodeAt s i).ended = false) : nodeCompletion s i engine err = s := by
  simp [nodeCompletion, hop, h]

variable (hst : (nodeAt s i).st = .inFlight)
include hst

theorem nodeCompletion_draver (hop : (nodeAt s i).op = 1) : nodeCompletion s i engine err = draverDone s i err := by
  simp [nodeCompletion, hst, hop]

theorem nodeCompletion_house (hop : (nodeAt s i).op = 2) : nodeCompletion s i engine err = houseNodeDone s i := by
  simp [nodeCompletion, hst, hop]

theorem nodeCompletion_guard (hop : (nodeAt s i).op = 4) : nodeCompletion s i engine err =
    nodeDone (memStore s (bits (nodeAt s i).args 64 64) (wordsBytes (guardWords s (bits (nodeAt s i).args 0 8)))) i fun _ => true := by
  simp [nodeCompletion, hst, hop]

theorem nodeCompletion_submit (hop : (nodeAt s i).op = 5) (h : (nodeAt s i).ended = true) :
    nodeCompletion s i engine err = nodeDone s i fun _ => true := by
  simp [nodeCompletion, hst, hop, h]

section
variable (hop : (nodeAt s i).op = 3)
include hop

omit hst in
theorem nodeCompletion_quarantined (h : (workerAt s (nodeAt s i).worker).quarantined = true) : nodeCompletion s i engine err = s := by
  simp [nodeCompletion, hop, h]

variable (hq : (workerAt s (nodeAt s i).worker).quarantined = false)
include hq

theorem nodeCompletion_engine : nodeCompletion s i true err = dmaFault s ((nodeAt s i).worker - 18) := by
  simp [nodeCompletion, hst, hop, hq]

theorem nodeCompletion_dma : nodeCompletion s i false err = dmaDone s i := by
  simp [nodeCompletion, hst, hop, hq]

end

end

section
variable {i : Nat} {r : Option (List Byte)} {b : State} (hfree : dmaBlocked s (nodeAt s i) = false)
  (hread : dmaRead s (bits (nodeAt s i).args 0 8) (bits (nodeAt s i).args 64 64) (bits (nodeAt s i).args 32 32) = (r, b))
include hfree hread

theorem dmaDone_copies {bs : List Byte} (h : r = some bs) : dmaDone s i =
    nodeDone (dmaWrite b (bits (nodeAt s i).args 8 8) (bits (nodeAt s i).args 128 64) bs) i fun _ => true := by
  subst h
  simp [dmaDone, hfree, hread]

theorem dmaDone_faults (h : r = none) : dmaDone s i = nodeFault b i 3 := by
  subst h
  simp [dmaDone, hfree, hread]

end

/-! #### The template of a SUBMIT node -/

/-- The template of the node is not submitted now. -/
abbrev NotSubmitted (s : State) (i : Nat) : Prop :=
  let n := nodeAt s i
  let r := ringAt s (hIdx (bits n.args 160 32))
  n.st ≠ .inFlight ∨ n.op ≠ 5 ∨ n.ended = true ∨ n.sent = true ∨ liveHandle s (bits n.args 160 32) = false ∨ r.st ≠ .up ∨
    busMasterOn s r.owner = false

theorem submitTemplate_not {i : Nat} (h : NotSubmitted s i) (data : List Byte) : submitTemplate s i data = s := if_pos h

section
variable {i : Nat} (h : ¬ NotSubmitted s i)
include h

theorem submitTemplate_poisoned (hbad : memPoisoned s (bits (nodeAt s i).args 64 64) 64 = true) (data : List Byte) :
    submitTemplate s i data = nodeFault (eccRead s (linesOf (bits (nodeAt s i).args 64 64) 64)) i 4 := by
  refine (if_neg h).trans ?_
  simp [hbad]

/-- The template of the node as the descriptor that waits in its ring. -/
def templateOf (s : State) (q : Fin 256) (i : Nat) (data : List Byte) : Nat × Nat × Desc :=
  descOf q { raw := BitVec.ofNat 512 (leNat (memRead s (bits (nodeAt s i).args 64 64) 64)), data := data }

/-- The template waits in its ring behind what waits there. -/
def submitted (b : State) (p i : Nat) (x : Nat × Nat × Desc) : State :=
  modRing (modNode b i fun n => { n with sent := true }) p fun r =>
    { r with waiting := r.waiting ++ [{ op := x.1, seq := x.2.1, d := x.2.2, pos := x.2.1, node := some i }] }

theorem submitTemplate_waits {q : Fin 256} (hq : hIdx (bits (nodeAt s i).args 160 32) = q.val)
    (hgood : memPoisoned s (bits (nodeAt s i).args 64 64) 64 = false) (data : List Byte) :
    submitTemplate s i data =
      (let p := hIdx (bits (nodeAt s i).args 160 32)
       let t := submitted (eccRead s (linesOf (bits (nodeAt s i).args 64 64) 64)) p i (templateOf s q i data)
       if acceptsNow t p then acceptFront t p else acceptAll t) := by
  refine (if_neg h).trans ?_
  simp only [hgood, hq, Bool.false_eq_true, if_false, dif_pos q.isLt]
  rfl

end

theorem waitTimeout_due {k t : Nat} {w : Wait} (hok : waitTimeoutOk s = true) (hk : s.gsc.waits[k]? = some w) (hu : w.until_ = some t)
    (ht : t ≤ s.time.elapsed) :
    waitTimeout s k = complete { s with gsc := { s.gsc with waits := s.gsc.waits.eraseIdx k } } w.acc stTIMEOUT 0 0 := by
  have kept : cancelTimeouts s = s := if_pos hok
  simp only [waitTimeout, kept, hk, hu, ht, if_true]
  rfl

theorem waitTimeout_early {k t : Nat} {w : Wait} (hok : waitTimeoutOk s = true) (hk : s.gsc.waits[k]? = some w) (hu : w.until_ = some t)
    (ht : s.time.elapsed < t) : waitTimeout s k = s := by
  have kept : cancelTimeouts s = s := if_pos hok
  simp only [waitTimeout, kept, hk, hu, Nat.not_le.2 ht, if_false]

end

/-- Settles O39: placement by the first placeable node, the end of an operation by its kind, a template by its ring, a wait by its limit. -/
theorem graphSteps : Obligations.GraphSteps := by
  intro s a hfind
  refine ⟨?placement, fun i engine ecc e => ?completion, fun i data => ?template, fun k w t hok hk hu => ?wait⟩
  case placement =>
    intro b
    have came {u : State} (h : placeNode a = u) : exec .nodePlacement s = .next (leave s u) :=
      (event_finds hfind placeNode).trans (by rw [h])
    exact ⟨fun off => came (placeNode_off off), fun hp => ⟨fun h => came (placeNode_none hp h), fun i w h =>
      ⟨fun has => placed_node has, fun hw => came (placeNode_join hp h hw), fun hw => came (placeNode_worker hp h hw)⟩⟩⟩
  case completion =>
    intro n run
    have came {u : State} (h : nodeCompletion a i engine (memErr ecc e.toNat) = u) :
        exec (.nodeCompletion i ⟨engine, ecc, e⟩) s = .next (leave s u) :=
      (event_finds hfind (nodeCompletion · i engine (memErr ecc e.toNat))).trans (by rw [h])
    refine ⟨fun has fires => ?standing, fun h => came (nodeCompletion_elsewhere h), fun hst => ?inFlight⟩
    case standing =>
      have standing := Prod.mk.inj (nodeDone_standing has fires)
      exact standing
    case inFlight =>
      refine ⟨fun hop => came (nodeCompletion_draver hst hop), fun hop => came (nodeCompletion_house hst hop),
        fun hop hq => came (nodeCompletion_quarantined hop hq), fun hop hq he => ?engine, fun hop hq he hfree r b hread => ?dma,
        fun hop => came (nodeCompletion_guard hst hop), fun hop h => came (nodeCompletion_submit hst hop h),
        fun hop h => came (nodeCompletion_submit_waits hop h)⟩
      case engine =>
        subst he
        exact came (nodeCompletion_engine hst hop hq)
      case dma =>
        subst he
        exact ⟨fun bs h => came ((nodeCompletion_dma hst hop hq).trans (dmaDone_copies hfree hread h)),
          fun h => came ((nodeCompletion_dma hst hop hq).trans (dmaDone_faults hfree hread h))⟩
  case template =>
    intro n p r
    have came {u : State} (h : submitTemplate a i data = u) : exec (.submitTemplate i data) s = .next (leave s u) :=
      (event_finds hfind (submitTemplate · i data)).trans (by rw [h])
    refine ⟨fun h => came (submitTemplate_not h data), fun q hq hst hop hended hsent hlive hup hbm => ?_⟩
    have submits : ¬ NotSubmitted a i := by
      rintro (h | h | h | h | h | h | h)
      · exact h hst
      · exact h hop
      · exact absurd (hended.symm.trans h) (by decide)
      · exact absurd (hsent.symm.trans h) (by decide)
      · exact absurd (hlive.symm.trans h) (by decide)
      · exact h hup
      · exact absurd (hbm.symm.trans h) (by decide)
    refine ⟨fun hbad => came (submitTemplate_poisoned submits hbad data), fun hgood => ?_⟩
    have waits := submitTemplate_waits submits hq hgood data
    exact ⟨fun now => came (waits.trans (if_pos now)), fun later => came (waits.trans (if_neg (ne_true_of_eq_false later)))⟩
  case wait =>
    have came {u : State} (h : waitTimeout a k = u) : exec (.gscWaitTimeout k) s = .next (leave s u) :=
      (event_finds hfind (waitTimeout · k)).trans (by rw [h])
    exact ⟨fun due => came (waitTimeout_due hok hk hu due), fun early => came (waitTimeout_early hok hk hu early)⟩

end Sys2Proof.Machine
end

section
namespace Sys2Proof.Machine

/-! ### Doorbells, reads and the states of a pair (R393, R394, R396, R409, R411) -/

/-- A BAR2 access finds the device. -/
theorem event_findsRings {s a : State} (hfind : Finds s a) (hl : hostLink a = true) (hm : a.md.mode ≠ .boot) (f : State → State) :
    event (unlessHeld fun s => onRings f s) s = .next (leave s (f a)) := by
  rw [event_finds hfind, onRings, if_pos (by simp [hl, hm])]

section
variable {s : State} {f p v : Nat}

theorem doorbellOk_iff {size : Nat} :
    doorbellOk s f p v size = true ↔ (ringAt s p).st = .up ∧ (ringAt s p).owner = f ∧ v < size ∧ v < 65536 := by
  simp [doorbellOk]
  tauto

theorem doorbellOk_not {size : Nat} (h : (ringAt s p).st ≠ .up ∨ (ringAt s p).owner ≠ f ∨ 65536 ≤ v ∨ size ≤ v) :
    ¬ doorbellOk s f p v size = true := by
  rintro ok
  obtain ⟨hst, ho, hv, h16⟩ := doorbellOk_iff.1 ok
  rcases h with h | h | h | h
  · exact h hst
  · exact h ho
  · omega
  · omega

theorem fetchDone_due {q : Fin 256} {ds : List RawDesc} (hlen : ds.length ≤ 8)
    (h : (ringAt s q).st = .up ∧ (ringAt s q).fetching = true ∧ busMasterOn s (ringAt s q).owner = true ∧ cqRoom (ringAt s q) = true ∧
      ds.length ≤ sqAvail (ringAt s q)) :
    fetchDone s q ds = acceptAll (modRing (ds.foldl (fun u x => fetched u q (descOf q x).1 (descOf q x).2.1 (descOf q x).2.2) s) q
      fun x => { x with fetching := decide (sqAvail x ≠ 0) }) := by
  obtain ⟨hst, hfetch, hbm, hroom, havail⟩ := h
  exact if_pos ⟨hst, hfetch, hbm, hroom, Nat.le_min.2 ⟨hlen, havail⟩⟩

theorem fetchDone_not {q : Fin 256} {ds : List RawDesc}
    (h : ¬((ringAt s q).st = .up ∧ (ringAt s q).fetching = true ∧ busMasterOn s (ringAt s q).owner = true ∧ cqRoom (ringAt s q) = true ∧
      ds.length ≤ sqAvail (ringAt s q))) : fetchDone s q ds = s :=
  if_neg fun ⟨hst, hfetch, hbm, hroom, hmin⟩ => h ⟨hst, hfetch, hbm, hroom, (Nat.le_min.1 hmin).2⟩

theorem drainDone_not (h : (ringAt s p).st ≠ .draining ∨ (ringAt s p).resv ≠ ownDrain p (ringAt s p)) : drainDone s p = s :=
  if_neg (not_and_or.2 h)

/-- The configuration of an admin pair is in range (R409). -/
abbrev AdminInRange (s : State) (f : Nat) : Prop :=
  let c := reg s (fnBlock f + 0x10)
  4 ≤ bits c 0 4 ∧ bits c 0 4 ≤ 12 ∧ 4 ≤ bits c 4 4 ∧ bits c 4 4 ≤ 14 ∧ bits c 8 6 < (if f = 0 then 64 else 16)

theorem adminEnable_guard :
    (bit (reg s (fnBlock f + 0x14)) 0 || !(decide (4 ≤ bits (reg s (fnBlock f + 0x10)) 0 4 ∧ bits (reg s (fnBlock f + 0x10)) 0 4 ≤ 12) &&
      decide (4 ≤ bits (reg s (fnBlock f + 0x10)) 4 4 ∧ bits (reg s (fnBlock f + 0x10)) 4 4 ≤ 14) &&
      decide (bits (reg s (fnBlock f + 0x10)) 8 6 < (if f = 0 then 64 else 16)))) = true ↔
      (bit (reg s (fnBlock f + 0x14)) 0 = true ∨ ¬ AdminInRange s f) := by
  simp only [Bool.or_eq_true, Bool.not_eq_true', ← Bool.not_eq_true, Bool.and_eq_true, decide_eq_true_eq, and_assoc]

theorem adminEnable_not (h : bit (reg s (fnBlock f + 0x14)) 0 = true ∨ ¬ AdminInRange s f) : adminEnable s f = s :=
  if_pos (adminEnable_guard.2 h)

theorem adminEnable_enables (hoff : bit (reg s (fnBlock f + 0x14)) 0 = false) (hin : AdminInRange s f) : adminEnable s f =
    modRing (modHost (setReg s (fnBlock f + 0x14) 1) fun h => { h with downRefused := h.downRefused.filter (· ≠ f) }) f fun x =>
      { x with upDue := true, owner := f } := by
  refine if_neg fun h => ?_
  rcases adminEnable_guard.1 h with h | h
  · exact absurd (hoff.symm.trans h) (by decide)
  · exact h hin

theorem adminDisable_off (hoff : bit (reg s (fnBlock f + 0x14)) 0 = false) : adminDisable s f = s := if_pos hoff

theorem adminDisable_held (hon : bit (reg s (fnBlock f + 0x14)) 0 = true) (hheld : (pairHolder s f).isSome = true) :
    adminDisable s f = { s with host := { s.host with
      downRefused := if s.host.downRefused.contains f then s.host.downRefused else s.host.downRefused ++ [f] } } :=
  (if_neg (by rw [hon]; decide)).trans (if_pos hheld)

theorem adminDisable_down (hon : bit (reg s (fnBlock f + 0x14)) 0 = true) (hfree : pairHolder s f = none) (hup : (ringAt s f).st = .up) :
    adminDisable s f =
      modRing (modHost (setReg s (fnBlock f + 0x14) 0) fun h => { h with downRefused := h.downRefused.filter (· ≠ f) }) f fun x =>
        { x with downDue := true } :=
  (if_neg (by rw [hon]; decide)).trans ((if_neg (by rw [hfree]; decide)).trans (if_pos hup))

/-! ### Interrupt messages (R407) -/

theorem coalTimer_not (h : (ringAt s p).st = .down ∨ (ringAt s p).pend = 0 ∨ (ringAt s p).coalTimeUs = 0 ∨
    s.time.elapsed < (ringAt s p).pendSince + (ringAt s p).coalTimeUs * usU) : coalTimer s p = s := by
  refine if_neg fun ⟨hst, hpend, hcoal, ht⟩ => ?_
  rcases h with h | h | h | h
  · exact hst h
  · exact hpend h
  · exact hcoal h
  · exact absurd ht (Nat.not_le.2 h)

theorem coalTimer_due (hst : (ringAt s p).st ≠ .down) (hpend : (ringAt s p).pend ≠ 0) (hcoal : (ringAt s p).coalTimeUs ≠ 0)
    (ht : (ringAt s p).pendSince + (ringAt s p).coalTimeUs * usU ≤ s.time.elapsed) : coalTimer s p = ringMessage s p :=
  if_pos ⟨hst, hpend, hcoal, ht⟩

theorem sendMsix_masked (h : s.host.unmasked.contains (64 * f + v) = false) : sendMsix s f v =
    { s with host := { s.host with
      pba := if s.host.pba.contains (64 * f + v) then s.host.pba else s.host.pba ++ [64 * f + v] } } := if_neg (ne_true_of_eq_false h)

section
variable (h : s.host.unmasked.contains (64 * f + v) = true)
include h

theorem sendMsix_first (hm : mget s.host.msix (64 * f + v) = none) :
    sendMsix s f v = { s with host := { s.host with msix := mput s.host.msix (64 * f + v) (1, instant s) } } := by
  refine (if_pos h).trans ?_
  rw [hm]

variable {n i : Nat} (hm : mget s.host.msix (64 * f + v) = some (n, i))
include hm

theorem sendMsix_served (hi : i = instant s) : sendMsix s f v = s := by
  refine (if_pos h).trans ?_
  rw [hm]
  exact if_pos hi

theorem sendMsix_sent (hi : i ≠ instant s) :
    sendMsix s f v = { s with host := { s.host with msix := mput s.host.msix (64 * f + v) (n + 1, instant s) } } := by
  refine (if_pos h).trans ?_
  rw [hm]
  exact if_neg hi

end

/-- The vector unmasked, its pending bit cleared. -/
def unmaskedVector (s : State) (k : Nat) : State :=
  { s with host := { s.host with
    unmasked := if s.host.unmasked.contains k then s.host.unmasked else s.host.unmasked ++ [k], pba := s.host.pba.filter (· ≠ k) } }

theorem vectorUnmask_beyond (hf : f ≠ 0) (hv : 16 ≤ v) : vectorUnmask s f v = s := if_pos (by rw [if_neg hf]; exact hv)

theorem vectorUnmask_within (hv : v < 64) (h : f = 0 ∨ v < 16) : ¬ (if f = 0 then 64 else 16) ≤ v := by
  rcases h with rfl | h
  · exact Nat.not_le.2 hv
  · split <;> omega

/-- The rings whose message waited for a vector have no entries pending. -/
def servedRings (s : State) (rs : List Nat) : State := rs.foldl (fun s r => modRing s r fun x => { x with pend := 0, msgDue := false }) s

theorem vectorUnmask_idle (hv : v < 64) (h : f = 0 ∨ v < 16) (hk : 64 * f + v ∉ s.host.pba) :
    vectorUnmask s f v = unmaskedVector s (64 * f + v) :=
  (if_neg (vectorUnmask_within hv h)).trans (if_neg (by simpa using hk))

theorem vectorUnmask_sends (hv : v < 64) (h : f = 0 ∨ v < 16) (hk : 64 * f + v ∈ s.host.pba) :
    vectorUnmask s f v = sendMsix (servedRings (unmaskedVector s (64 * f + v))
      (mkeys s.host.rings fun _ r => r.msgDue && decide (r.owner = f) && decide (r.vector = v))) f v :=
  (if_neg (vectorUnmask_within hv h)).trans (if_pos (List.contains_iff_mem.2 hk))

theorem servedRings_rings (rs : List Nat) (m : Map Ring) :
    ∀ s : State, { servedRings s rs with host := { (servedRings s rs).host with rings := m } } = { s with host := { s.host with rings := m } } := by
  induction rs with
  | nil => exact fun _ => rfl
  | cons r rs ih => exact fun s => ih _

theorem ringAt_modRing_other {s : State} {r j : Nat} (g : Ring → Ring) (h : j ≠ r) : ringAt (modRing s r g) j = ringAt s j :=
  mgetD_mput_other _ _ _ _ _ h

theorem ringAt_servedRings (rs : List Nat) (r : Nat) :
    ∀ s : State, ringAt (servedRings s rs) r = if r ∈ rs then { ringAt s r with pend := 0, msgDue := false } else ringAt s r := by
  induction rs with
  | nil => exact fun _ => rfl
  | cons j rs ih =>
    intro s
    rw [servedRings, List.foldl_cons, ← servedRings, ih]
    by_cases h : r = j
    · subst h
      simp
    · simp [ringAt_modRing_other _ h, h]

end

/-- Settles O44: doorbells and reads by what they ask of the ring, the admin pair by its registers, messages by the vector's mask. -/
theorem ringSteps : Obligations.RingSteps := by
  refine ⟨fun s a hfind => ⟨fun hl hm => ⟨fun f p w => ?pair, fun f e w => ?event, fun p ds h1 h8 => ?fetch⟩, fun p => ?drain,
    fun f hreach => ?admin⟩, fun s a hfind => ⟨fun r => ?coal, fun f v => ?message, fun hl hm f v => ?unmask⟩⟩
  case pair =>
    intro r v r'
    have came (g : State → State) {u : State} (h : g a = u) : event (unlessHeld fun s => onRings g s) s = .next (leave s u) :=
      (event_findsRings hfind hl hm g).trans (by rw [h])
    exact ⟨fun hst ho hv h16 => came (tailDoorbell · f p v) (if_pos (doorbellOk_iff.2 ⟨hst, ho, hv, h16⟩)),
      fun hst ho hv h16 => came (headDoorbell · f p v) (if_pos (doorbellOk_iff.2 ⟨hst, ho, hv, h16⟩)),
      fun h => came (tailDoorbell · f p v) (if_neg (doorbellOk_not h)),
      fun h => came (headDoorbell · f p v) (if_neg (doorbellOk_not h))⟩
  case event =>
    intro r v r'
    have came {u : State} (h : eventDoorbell a f e v = u) : exec (.eventHeadDoorbell f e w) s = .next (leave s u) :=
      (event_findsRings hfind hl hm (eventDoorbell · f e v)).trans (by rw [h])
    exact ⟨fun hst ho hv h16 => came (if_pos (doorbellOk_iff.2 ⟨hst, ho, hv, h16⟩)), fun h => came (if_neg (doorbellOk_not h))⟩
  case fetch =>
    intro r isDue
    have came {u : State} (h : fetchDone a p ds = u) : exec (.sqFetchDone p ds) s = .next (leave s u) := by
      refine (if_pos (decide_eq_true ⟨h1, h8⟩)).trans ?_
      exact (event_findsRings hfind hl hm (fetchDone · p ds)).trans (by rw [h])
    exact ⟨fun h => came (fetchDone_not h), fun h => came (fetchDone_due h8 h)⟩
  case drain =>
    intro r
    have came (g : State → State) {u : State} (h : g a = u) : event (unlessHeld g) s = .next (leave s u) :=
      (event_finds hfind g).trans (by rw [h])
    exact ⟨fun h => came (fenceRelease · p) (if_pos h), fun h => came (fenceRelease · p) (if_neg h),
      fun h => came (drainDone · p) (drainDone_not h), fun hst hresv => came (drainDone · p) (if_pos ⟨hst, hresv⟩)⟩
  case admin =>
    intro c on inRange
    have came (g : State → State) {u : State} (h : g a = u) :
        event (unlessHeld fun s => onReg (32 + f) (fnBlock f + 0x14) g s) s = .next (leave s u) :=
      (event_findsReg ⟨hfind, hreach⟩ g).trans (by rw [h])
    have range : AdminInRange a f ↔ inRange := by
      have first : (f.val = 0) = (f = 0) := propext Fin.val_eq_zero_iff
      simp only [AdminInRange, first]
      exact Iff.rfl
    refine ⟨fun h => came (adminEnable · f) (adminEnable_not (h.imp_right (mt range.1))),
      fun hoff hin => ⟨_, came (adminEnable · f) (adminEnable_enables hoff (range.2 hin)), ?up⟩,
      fun hoff => came (adminDisable · f) (adminDisable_off hoff), fun hon hheld => came (adminDisable · f) (adminDisable_held hon hheld),
      fun hon hfree hup => ⟨_, came (adminDisable · f) (adminDisable_down hon hfree hup), ?down⟩⟩
    case up => exact ⟨reg_setReg_self a _ 1, ringAt_modRing .., rfl, rfl⟩
    case down => exact ⟨reg_setReg_self a _ 0, ringAt_modRing ..⟩
  case coal =>
    intro x
    have came {u : State} (h : coalTimer a r = u) : exec (.msixCoalTimer r) s = .next (leave s u) :=
      (event_finds hfind (coalTimer · r)).trans (by rw [h])
    exact ⟨fun h => came (coalTimer_not h), fun hst hpend hcoal ht => came (coalTimer_due hst hpend hcoal ht)⟩
  case message =>
    intro k t
    exact ⟨fun h => sendMsix_masked h, fun h => ⟨fun hm => sendMsix_first h hm,
      fun n i hm => ⟨fun hi => sendMsix_served h hm hi, fun hi => sendMsix_sent h hm hi⟩⟩⟩
  case unmask =>
    intro k un b
    have came {u : State} (h : vectorUnmask a f v = u) : exec (.msixVectorUnmask f v) s = .next (leave s u) :=
      (event_findsRings hfind hl hm (vectorUnmask · f v)).trans (by rw [h])
    refine ⟨fun hf hv => came (vectorUnmask_beyond (Fin.val_ne_of_ne hf) hv), fun h => ?_⟩
    have within : f.val = 0 ∨ v.val < 16 := h.imp (congrArg Fin.val) id
    exact ⟨fun hk => came (vectorUnmask_idle v.isLt within hk), fun hk => ⟨_, came (vectorUnmask_sends v.isLt within hk),
      servedRings_rings _ _ _, fun r => ringAt_servedRings _ r _⟩⟩

end Sys2Proof.Machine
end

section
namespace Sys2Proof.Machine

/-! ### Mailboxes (R431, R432, R435, R437, R439) -/

/-- A requester that does not reach the register reads 0. -/
theorem event_unread {s a : State} {req off : Nat} (hfind : Finds s a) (h : reqReach a req off = false) (f : State → State) :
    event (unlessHeld fun s => onRead req off f s) s = .next (leave s (readBack a req 0)) := by
  rw [event_finds hfind, onRead, if_neg (ne_true_of_eq_false h)]

section
variable {s : State} {req n word : Nat}

theorem mbxSend_outside (h : mbxReach req = false) : mbxSend s req n word = s := if_pos (by rw [h]; rfl)

theorem noWait (h : ∀ x, x ∈ s.mbx.waits → x.req ≠ req) : ¬ (s.mbx.waits.any fun w => decide (w.req = req)) = true := by simpa using h

theorem sendAdmitted {b : Mbox} (hword : word ≤ 3) (hadmit : admits b req = true) : ¬(3 < word ∨ admits b req = false) := by
  simp [hword, hadmit]

section
variable (hreach : mbxReach req = true)
include hreach

theorem inWindow : ¬ (!mbxReach req) = true := by rw [hreach]; decide

theorem mbxSend_second (h : ∃ x, x ∈ s.mbx.waits ∧ x.req = req) : mbxSend s req n word = txstat s req 5 n :=
  (if_neg (inWindow hreach)).trans (if_pos (by simpa using h))

section
variable (hfirst : ∀ x, x ∈ s.mbx.waits → x.req ≠ req)
include hfirst

theorem mbxSend_nowhere (hb : mget s.mbx.boxes n = none) : mbxSend s req n word = txstat s req 4 n := by
  refine (if_neg (inWindow hreach)).trans ((if_neg (noWait hfirst)).trans ?_)
  rw [hb]

variable {b : Mbox} (hb : mget s.mbx.boxes n = some b)
include hb

theorem mbxSend_refused (h : 3 < word ∨ admits b req = false) : mbxSend s req n word = txstat s req 4 n := by
  refine (if_neg (inWindow hreach)).trans ((if_neg (noWait hfirst)).trans ?_)
  rw [hb]
  exact if_pos h

variable (hword : word ≤ 3) (hadmit : admits b req = true)
include hword hadmit

theorem mbxSend_taken (hfull : b.full = false) (htaken : b.takenAt ≠ some (instant s)) (hdue : b.deliverDue = none) :
    mbxSend s req n word = modBox (deliverMsg s n req (stagedWords s req) (bit word 1)) n fun y =>
      { y with sentAt := some (instant s, bit word 0) } := by
  refine (if_neg (inWindow hreach)).trans ((if_neg (noWait hfirst)).trans ?_)
  rw [hb]
  refine (if_neg (sendAdmitted hword hadmit)).trans ?_
  rw [if_neg (by rw [hfull]; decide), if_neg htaken, if_neg (by rw [hdue]; decide)]

theorem mbxSend_atTake (hfull : b.full = false) (htaken : b.takenAt = some (instant s)) :
    mbxSend s req n word = sendAtTake s req n (stagedWords s req) (bit word 0) (bit word 1) := by
  refine (if_neg (inWindow hreach)).trans ((if_neg (noWait hfirst)).trans ?_)
  rw [hb]
  refine (if_neg (sendAdmitted hword hadmit)).trans ?_
  rw [if_neg (by rw [hfull]; decide), if_pos htaken]

/-- A send of an earlier cycle, or of a requester before this one, keeps the slot. -/
theorem mbxSend_full (hfull : b.full = true) (hkeeps : ∀ e, b.sentAt = some e → e.1 ≠ instant s ∨ b.from_ ≤ req) :
    mbxSend s req n word = sendFull s req n (stagedWords s req) (bit word 0) (bit word 1) := by
  refine (if_neg (inWindow hreach)).trans ((if_neg (noWait hfirst)).trans ?_)
  rw [hb]
  refine (if_neg (sendAdmitted hword hadmit)).trans ((if_pos hfull).trans ?_)
  split
  case h_1 t w he =>
    refine if_neg fun ⟨ht, hlt⟩ => ?_
    exact (hkeeps _ he).elim (absurd ht) (absurd hlt ∘ Nat.not_lt.2)
  case h_2 => rfl

theorem mbxSend_displaces {wasWait : Bool} (hfull : b.full = true) (hsent : b.sentAt = some (instant s, wasWait)) (hlt : req < b.from_) :
    mbxSend s req n word = displace s req n (stagedWords s req) (bit word 0) (bit word 1) b wasWait := by
  refine (if_neg (inWindow hreach)).trans ((if_neg (noWait hfirst)).trans ?_)
  rw [hb]
  refine (if_neg (sendAdmitted hword hadmit)).trans ((if_pos hfull).trans ?_)
  rw [hsent]
  exact if_pos ⟨rfl, hlt⟩

end

end

theorem sendFull_refused (words : List Nat) (notify : Bool) : sendFull s req n words false notify = txstat s req 3 n := if_neg nofun

theorem sendFull_waits (words : List Nat) (notify : Bool) : sendFull s req n words true notify = waitSend s req n words notify := if_pos rfl

theorem sendAtTake_refused (words : List Nat) (notify : Bool) : sendAtTake s req n words false notify = txstat s req 3 n := rfl

theorem sendAtTake_waits (words : List Nat) (notify : Bool) : sendAtTake s req n words true notify =
    signal (modBox (waitSend s req n words notify) n fun b => { b with deliverDue := some (b.deliverDue.getD (instant s)) })
      req 3 n .mbxEmpty 2 := rfl

theorem mbxCancel_none (h : ∀ x, x ∈ s.mbx.waits → x.req ≠ req) : mbxCancel s req = s := by
  have none : (s.mbx.waits.find? fun w => decide (w.req = req)) = none := List.find?_eq_none.2 fun x hx => by simpa using h x hx
  simp only [mbxCancel, none]

theorem mbxCancel_some {x : Waiting} (h : (s.mbx.waits.find? fun w => decide (w.req = req)) = some x) : mbxCancel s req =
    (let t := if oldestWaiter s x.mbox = some x then modBox s x.mbox fun b => { b with crossed := none } else s
     let u := modMbx t fun m => { m with waits := m.waits.filter fun y => decide (y.req ≠ req) }
     txstat (if waitersOf u x.mbox = [] then modBox u x.mbox fun b => { b with deliverDue := none } else u) req 6 x.mbox) := by
  simp only [mbxCancel, h]

theorem mbxTake_other (h : mbxReach req = false ∨ (boxAt s n).receiver ≠ req) : mbxTake s req n = readBack s req 0 := by
  have idle : ¬(mbxReach req = true ∧ (boxAt s n).receiver = req) := by
    rintro ⟨hreach, hr⟩
    rcases h with h | h
    · exact absurd (hreach.symm.trans h) (by decide)
    · exact h hr
  refine (if_neg fun ⟨hreach, _, hr, _⟩ => idle ⟨hreach, hr⟩).trans ?_
  rw [if_neg idle]

theorem mbxTake_takes (hreach : mbxReach req = true) (hbox : mhas s.mbx.boxes n = true) (hr : (boxAt s n).receiver = req)
    (hfull : (boxAt s n).full = true) (hnotify : (boxAt s n).notify = false) (hw : waitersOf s n = []) : mbxTake s req n =
      modBox (readBack s req ((boxAt s n).words.getD 7 0)) n fun b =>
        { b with full := false, words := b.words.set 7 0, takenAt := some (instant s), deliverDue := none, crossed := none } := by
  have waiters : waitersOf (readBack s req ((boxAt s n).words.getD 7 0)) n = [] := hw
  unfold mbxTake
  dsimp only
  rw [if_pos ⟨hreach, hbox, hr, hfull⟩, waiters, hnotify]
  rfl

theorem mbxNext_not (h : (boxAt s n).deliverDue ≠ some (instant s) ∨ 63 ≤ s.time.cycle ∨ clockRuns s = false) : mbxNext s n = s := by
  refine if_neg fun ⟨hdue, hcycle, hclock⟩ => ?_
  rcases h with h | h | h
  · exact h hdue
  · exact absurd hcycle (Nat.not_lt.2 h)
  · exact absurd (hclock.symm.trans h) (by decide)

theorem mem_of_mget {α : Type} {m : Map α} {k : Nat} {v : α} (h : mget m k = some v) : (k, v) ∈ m := by
  induction m with
  | nil => exact absurd h nofun
  | cons e m ih =>
    obtain ⟨j, w⟩ := e
    unfold mget at h
    split at h
    · exact absurd h nofun
    · split at h
      case isTrue hj => subst hj; obtain rfl := Option.some.inj h; exact List.mem_cons_self
      case isFalse => exact List.mem_cons_of_mem _ (ih h)

/-- A mailbox whose delivery is due is one of those that there are. -/
theorem deliveryStands {i : Nat} (h : (boxAt s n).deliverDue = some i) : (s.mbx.boxes.any fun e => e.2.deliverDue.isSome) = true := by
  cases hb : mget s.mbx.boxes n with
  | none =>
    rw [boxAt, mgetD, hb] at h
    exact absurd h nofun
  | some b =>
    rw [boxAt, mgetD, hb] at h
    exact List.any_eq_true.2 ⟨(n, b), mem_of_mget hb, by rw [show b.deliverDue = some i from h]; rfl⟩

theorem passCycles_zero (s : State) : passCycles s 0 = s := by simp [passCycles]

theorem mbxNext_delivers (hdue : (boxAt s n).deliverDue = some (instant s)) (hcycle : s.time.cycle < 63) (hclock : clockRuns s = true)
    (hone : deliveriesDue (passCycles s 1) = [n]) : mbxNext s n = mbxDeliver (passCycles s 1) n := by
  refine (if_pos ⟨hdue, hcycle, hclock⟩).trans ((if_pos ⟨Nat.one_pos, deliveryStands hdue⟩).trans ?_)
  rw [Nat.sub_self, passCycles_zero, mbxPump, hone]
  rfl

/-- The mailbox as its delivery begins. -/
def deliveryBegun (s : State) (n : Nat) : State := modBox s n fun b => { b with deliverDue := none, sentAt := none }

theorem mbxDeliver_none (h : oldestWaiter (deliveryBegun s n) n = none) : mbxDeliver s n = deliveryBegun s n := by
  unfold mbxDeliver
  dsimp only
  split
  case h_1 w found => exact absurd (h.symm.trans found) nofun
  case h_2 => rfl

theorem mbxDeliver_some {w : Waiting} (h : oldestWaiter (deliveryBegun s n) n = some w) : mbxDeliver s n =
    deliverMsg (modMbx (deliveryBegun s n) fun m => { m with waits := m.waits.filter fun x => decide (x.req ≠ w.req) })
      n w.req w.words w.notify := by
  unfold mbxDeliver
  dsimp only
  split
  case h_1 v found =>
    obtain rfl : w = v := Option.some.inj (h.symm.trans found)
    rfl
  case h_2 found => exact absurd (h.symm.trans found) nofun

variable {m : Nat}

theorem mbxCross_none (h : crossedSince s m n = none) : mbxCross s m n = s := by simp only [mbxCross, h]

theorem mbxCross_not {t : Nat} (h : crossedSince s m n = some t)
    (hnot : s.time.elapsed < t + 4 * usU ∨ (boxAt s m).crossed = some n ∧ (boxAt s n).crossed = some m) : mbxCross s m n = s := by
  unfold mbxCross
  rw [h]
  refine if_neg fun ⟨hdue, hnew⟩ => ?_
  exact hnot.elim (absurd hdue ∘ Nat.not_le.2) hnew

theorem mbxCross_signals {t : Nat} (h : crossedSince s m n = some t) (hdue : t + 4 * usU ≤ s.time.elapsed)
    (hnew : ¬((boxAt s m).crossed = some n ∧ (boxAt s n).crossed = some m)) : mbxCross s m n =
      (let c := bump (modBox (modBox s m fun x => { x with crossed := some n }) n fun x => { x with crossed := some m }) 0x240004
       let d := signal c (boxAt c m).receiver 4 m .mbxCross (handleOf c cMBOX n * 4294967296)
       signal d (boxAt d n).receiver 4 n .mbxCross (handleOf d cMBOX m * 4294967296)) := by
  unfold mbxCross
  rw [h]
  exact if_pos ⟨hdue, hnew⟩

end

end Sys2Proof.Machine
end

section
namespace Sys2Proof.Machine

/-! ### Locks (R436 to R438) -/

theorem mem_dedup {r : Nat} {l : List Nat} : r ∈ dedup l ↔ r ∈ l := by
  have grown (l : List Nat) : ∀ acc : List Nat,
      r ∈ l.foldl (fun acc x => if acc.contains x then acc else acc ++ [x]) acc ↔ r ∈ acc ∨ r ∈ l := by
    induction l with
    | nil => simp
    | cons x l ih =>
      intro acc
      rw [List.foldl_cons, ih, List.mem_cons]
      split
      case isTrue h =>
        have held : x ∈ acc := List.contains_iff_mem.1 h
        constructor
        · exact Or.imp_right Or.inr
        · rintro (h | rfl | h)
          · exact .inl h
          · exact .inl held
          · exact .inr h
      case isFalse => simp [or_assoc]
  exact (grown l []).trans (by simp)

/-- The answers to readers change what they read back and nothing else. -/
theorem answerAll_readBack (rs : List Nat) (v : Nat → Nat) (m : Map Nat) : ∀ s : State,
    { answerAll s rs v with host := { (answerAll s rs v).host with readBack := m } } = { s with host := { s.host with readBack := m } } := by
  induction rs with
  | nil => exact fun _ => rfl
  | cons r rs ih => exact fun s => ih _

theorem answerAll_mbx (rs : List Nat) (v : Nat → Nat) (s : State) : (answerAll s rs v).mbx = s.mbx :=
  congrArg (·.mbx) (answerAll_readBack rs v [] s)

theorem readBack_answerAll (rs : List Nat) (v : Nat → Nat) (r : Nat) : ∀ s : State,
    mgetD (answerAll s rs v).host.readBack r 0 =
      if r ∈ rs then (if mbxReach r then v r else 0) else mgetD s.host.readBack r 0 := by
  induction rs with
  | nil => exact fun _ => rfl
  | cons q rs ih =>
    intro s
    rw [answerAll, List.foldl_cons, ← answerAll, ih]
    by_cases h : r = q
    · subst h
      simp [readBack, modHost]
    · simp [readBack, modHost, mgetD_mput_other _ _ _ _ _ h, h]

section
variable {s : State} {req others n : Nat} (hfreed : freedNow s n = none)
include hfreed

theorem lockRead_held (hturn : turnOf s n = none) (hv : lockAt s n ≠ 0) :
    lockRead s req others n = answerAll s (dedup (req :: maskList others 64)) fun _ => lockAt s n := by
  simp only [lockRead, hfreed, hturn, hv, if_false]

/-- The readers among whom a lock is decided, and the pointer: those of this command, together with those before it in the cycle. -/
abbrev LockTurn (s : State) (n : Nat) (all rs : List Nat) (ptr : Nat) : Prop :=
  (turnOf s n = none ∧ lockAt s n = 0 ∧ rs = (dedup all).filter mbxReach ∧ ptr = mgetD s.mbx.rot n 1) ∨
    ∃ before, turnOf s n = some (before, ptr) ∧ rs = dedup (before ++ (dedup all).filter mbxReach)

variable {rs : List Nat} {ptr : Nat} (h : LockTurn s n (req :: maskList others 64) rs ptr)
include h

theorem lockRead_grants {w : Nat} (hw : grantOf rs ptr = some w) : lockRead s req others n =
    lockGrant (answerAll s (dedup (req :: maskList others 64)) fun _ => 0) n rs ptr w := by
  rcases h with ⟨hturn, hv, rfl, rfl⟩ | ⟨before, hturn, rfl⟩
  · simp only [lockRead, hfreed, hturn, hv, if_true, hw]
  · simp only [lockRead, hfreed, hturn, hw]

theorem lockRead_ungranted (hw : grantOf rs ptr = none) : lockRead s req others n =
    answerAll s (dedup (req :: maskList others 64)) fun _ => 0 := by
  rcases h with ⟨hturn, hv, rfl, rfl⟩ | ⟨before, hturn, rfl⟩
  · simp only [lockRead, hfreed, hturn, hv, if_true, hw]
  · simp only [lockRead, hfreed, hturn, hw]

end

section
variable (s : State) (n : Nat) (rs : List Nat) (ptr w : Nat)

theorem lockGrant_mbx : (lockGrant s n rs ptr w).mbx = { s.mbx with
    locks := mput s.mbx.locks n w, rot := if 1 < rs.length then mput s.mbx.rot n (if w = 47 then 1 else w + 1) else s.mbx.rot,
    turns := (n, instant s, rs, ptr) :: s.mbx.turns.filter fun t => decide (t.1 ≠ n) && decide (t.2.1 = instant s) } :=
  answerAll_mbx rs _ _

theorem lockAt_lockGrant_self : lockAt (lockGrant s n rs ptr w) n = w := by
  rw [lockAt, lockGrant_mbx]
  exact mgetD_mput_self ..

theorem lockAt_lockGrant_other {m : Nat} (h : m ≠ n) : lockAt (lockGrant s n rs ptr w) m = lockAt s m := by
  rw [lockAt, lockGrant_mbx]
  exact mgetD_mput_other _ _ _ _ _ h

theorem readBack_lockGrant {r : Nat} (hr : r ∈ rs) :
    mgetD (lockGrant s n rs ptr w).host.readBack r 0 = if r = w ∨ mbxReach r = false then 0 else w := by
  refine (readBack_answerAll rs _ r _).trans ((if_pos hr).trans ?_)
  cases hreach : mbxReach r <;> by_cases hw : r = w <;> simp [hw]

end

/-- Every requester of the window is among the readers that a grant looks at. -/
theorem grantOf_single {req : Nat} (h : mbxReach req = true) (ptr : Nat) : grantOf [req] ptr = some req := by
  have window : 19 ≤ req ∧ req ≤ 32 := by
    simp only [mbxReach, Bool.or_eq_true, decide_eq_true_eq] at h
    omega
  have turn : ((ptr - 1) + (req + 46 - (ptr - 1) % 47) % 47) % 47 + 1 = req := by omega
  have listed : req ∈ (List.range 47).map fun k => (ptr - 1 + k) % 47 + 1 :=
    List.mem_map.2 ⟨(req + 46 - (ptr - 1) % 47) % 47, List.mem_range.2 (Nat.mod_lt _ (by decide)), turn⟩
  have found : (grantOf [req] ptr).isSome = true := List.find?_isSome.2 ⟨req, listed, by simp⟩
  obtain ⟨w, hw⟩ := Option.isSome_iff_exists.1 found
  have same : [req].contains w = true := List.find?_some hw
  rw [hw, show w = req by simpa using same]

theorem grantOf_nil (ptr : Nat) : grantOf [] ptr = none := List.find?_eq_none.2 fun _ _ => nofun

section
variable {s : State} {req n v : Nat}

theorem lockWrite_outside (h : mbxReach req = false) : lockWrite s req n v = s := if_pos (by rw [h]; rfl)

theorem lockWrite_frees (h : mbxReach req = true) (hv : v = 0) (hheld : lockHeld s n = req) : lockWrite s req n v =
    modMbx (setLock s n 0) fun m =>
      { m with freed := (n, req, instant s) :: m.freed.filter fun f => decide (f.2.2 = instant s) } :=
  (if_neg (by rw [h]; decide)).trans (if_pos ⟨hv, hheld⟩)

theorem lockWrite_counted (h : mbxReach req = true) (hother : v ≠ 0 ∨ lockHeld s n ≠ req) : lockWrite s req n v = bump s 0x248204 :=
  (if_neg (by rw [h]; decide)).trans (if_neg (not_and_or.2 hother))

theorem lockBreak_other (h : req ≠ 32) : lockBreak s req n = s := if_neg h

theorem lockBreak_breaks (h : req = 32) (hfreed : freedNow s n = none) :
    lockBreak s req n = raise (setLock s n 0) .lckBroken 0 (n + lockAt s n * 256) oMBX := by
  have held : lockHeld s n = lockAt s n := by rw [lockHeld, hfreed, Option.getD_none]
  rw [← held]
  exact if_pos h

theorem lockAt_setLock (s : State) (n v : Nat) : lockAt (setLock s n v) n = v := mgetD_mput_self ..

end

end Sys2Proof.Machine
end

section
namespace Sys2Proof.Machine

/-! ### The statement of mailboxes and locks -/

/-- Settles O45: sends, withdrawals, takes, deliveries and crossings of mailboxes; reads, writes and breaks of locks. -/
theorem mailboxesAndLocks : Obligations.MailboxesAndLocks := by
  refine ⟨fun s a => ⟨fun req n hfind hout => event_unread hfind hout (mbxTake · req n), fun req n w hfind => ?send,
    fun req hfind => ?cancel, fun req n hfind => ?take, fun n hfind => ?delivery, fun m n hfind => ?cross⟩, fun s a req n => ?locks⟩
  case send =>
    have came {u : State} (h : mbxSend a req n w.toNat = u) : exec (.mbxSend req n w) s = .next (leave s u) :=
      (event_findsReg hfind (mbxSend · req n w.toNat)).trans (by rw [h])
    refine ⟨fun out => came (mbxSend_outside out), fun within => ⟨fun second => came (mbxSend_second within second), fun first =>
      ⟨fun hb => came (mbxSend_nowhere within first hb), fun b hb =>
        ⟨fun bad => came (mbxSend_refused within first hb bad), fun hw hadmit => ⟨?empty, ?full, ?displaced, ?atTake⟩⟩⟩⟩⟩
    case empty =>
      intro hfull htaken hdue
      exact came (mbxSend_taken within first hb hw hadmit hfull htaken hdue)
    case full =>
      intro hfull hkeeps
      have full := mbxSend_full within first hb hw hadmit hfull hkeeps
      refine ⟨fun hwait => came ?_, fun hwait => came ?_⟩
      · rw [full, hwait, sendFull_refused]
      · rw [full, hwait, sendFull_waits]
        rfl
    case displaced =>
      intro wasWait hfull hsent hlt
      exact came (mbxSend_displaces within first hb hw hadmit hfull hsent hlt)
    case atTake =>
      intro hfull htaken
      have taken := mbxSend_atTake within first hb hw hadmit hfull htaken
      refine ⟨fun hwait => came ?_, fun hwait => came ?_⟩
      · rw [taken, hwait, sendAtTake_refused]
      · rw [taken, hwait, sendAtTake_waits]
        rfl
  case cancel =>
    have came {u : State} (h : (if mbxReach req then mbxCancel a req else a) = u) : exec (.mbxTxcancel req) s = .next (leave s u) :=
      (event_findsReg hfind fun s => if mbxReach req then mbxCancel s req else s).trans (by rw [← h])
    refine ⟨fun h => came ?_, fun within x hx => came ((if_pos within).trans (mbxCancel_some hx))⟩
    rcases h with out | none
    · exact if_neg (ne_true_of_eq_false out)
    · rw [mbxCancel_none none, ite_self]
  case take =>
    intro b seen
    have came {u : State} (h : mbxTake a req n = u) : exec (.mbxRx7Take req n) s = .next (leave s u) :=
      (event_findsRead hfind (mbxTake · req n)).trans (by rw [h])
    exact ⟨fun h => came (mbxTake_other h), fun within hbox hr hfull hnotify hw => came (mbxTake_takes within hbox hr hfull hnotify hw)⟩
  case delivery =>
    intro b c
    have came {u : State} (h : mbxNext a n = u) : exec (.mbxWaitingDelivery n) s = .next (leave s u) :=
      (unitStep_finds hfind (mbxNext · n)).trans (by rw [h])
    exact ⟨fun h => came (mbxNext_not h), fun hdue hcycle hclock hone =>
      ⟨fun h => came ((mbxNext_delivers hdue hcycle hclock hone).trans (mbxDeliver_none h)),
        fun w h => came ((mbxNext_delivers hdue hcycle hclock hone).trans (mbxDeliver_some h))⟩⟩
  case cross =>
    have came {u : State} (h : mbxCross a m n = u) : exec (.mbxCrossExpiry m n) s = .next (leave s u) :=
      (event_finds hfind (mbxCross · m n)).trans (by rw [h])
    exact ⟨fun h => came (mbxCross_none h), fun t h => ⟨fun hnot => came (mbxCross_not h hnot),
      fun hdue hnew => came (mbxCross_signals h hdue hnew)⟩⟩
  case locks =>
    intro v seen
    refine ⟨fun others hfind hout => event_unread hfind hout (lockRead · req others.toNat n), fun hfind hfreed others => ?read,
      fun w hfind => ?write, fun hfind => ?breaks, fun x _ => lockAt_setLock a n x, lockAt_setLock a n 0⟩
    case read =>
      intro all readers reads
      have came {u : State} (h : lockRead a req others.toNat n = u) : exec (.lckRead req others n) s = .next (leave s u) :=
        (event_findsRead hfind (lockRead · req others.toNat n)).trans (by rw [h])
      have alone (h : others = 0) : req.val :: maskList others.toNat 64 = [req.val] := by subst h; rfl
      refine ⟨fun hv hturn => ?held, fun hv hturn within h => ?taken, fun hv hturn out h => ?outside, fun rs ptr w h hw => ?turn⟩
      case held =>
        exact ⟨_, came (lockRead_held hfreed hturn hv), fun r hr => (readBack_answerAll _ _ r a).trans (if_pos (mem_dedup.2 hr)),
          answerAll_readBack _ _ _ a⟩
      case taken =>
        have turn : LockTurn a n (req :: maskList others.toNat 64) [req.val] (mgetD a.mbx.rot n 1) :=
          .inl ⟨hturn, hv, by rw [alone h]; simp [dedup, within], rfl⟩
        refine ⟨_, came (lockRead_grants hfreed turn (grantOf_single within _)), lockAt_lockGrant_self .., ?_, ?_⟩
        · rw [readBack_lockGrant _ _ _ _ _ List.mem_cons_self, if_pos (.inl rfl)]
        · rw [lockGrant_mbx, answerAll_mbx]
          rfl
      case outside =>
        have turn : LockTurn a n (req :: maskList others.toNat 64) [] (mgetD a.mbx.rot n 1) :=
          .inl ⟨hturn, hv, by rw [alone h]; simp [dedup, out], rfl⟩
        refine came ((lockRead_ungranted hfreed turn (grantOf_nil _)).trans ?_)
        rw [alone h]
        exact congrArg (readBack a req) (ite_self 0)
      case turn =>
        have kept := answerAll_mbx (dedup (req :: maskList others.toNat 64)) (fun _ => 0) a
        refine ⟨_, came (lockRead_grants hfreed h hw), lockAt_lockGrant_self .., fun m hm => ?_, ?_, ?_,
          fun r hr => readBack_lockGrant _ _ _ _ _ hr, fun hmany => ?_, fun hone => ?_⟩
        · rw [lockAt_lockGrant_other _ _ _ _ _ hm, lockAt, kept]
          rfl
        · rw [lockGrant_mbx, kept]
        · rw [lockGrant_mbx, kept]
        · rw [lockGrant_mbx, kept]
          dsimp only
          rw [if_pos hmany]
          exact mgetD_mput_self ..
        · rw [lockGrant_mbx, kept]
          exact if_neg (Nat.not_lt.2 hone)
    case write =>
      have came {u : State} (h : lockWrite a req n w.toNat = u) : exec (.lckWrite req n w) s = .next (leave s u) :=
        (event_findsReg hfind (lockWrite · req n w.toNat)).trans (by rw [h])
      exact ⟨fun out => came (lockWrite_outside out), fun within hw hheld => came (lockWrite_frees within (congrArg BitVec.toNat hw) hheld),
        fun within h => came (lockWrite_counted within (h.imp_left fun hw e => hw (BitVec.eq_of_toNat_eq e)))⟩
    case breaks =>
      have came {u : State} (h : lockBreak a req n = u) : exec (.lckBreak req n) s = .next (leave s u) :=
        (event_findsReg hfind (lockBreak · req n)).trans (by rw [h])
      exact ⟨fun h => came (lockBreak_other h), fun h hfreed => came (lockBreak_breaks h hfreed)⟩

end Sys2Proof.Machine
end
